-- ==== Sys2Proof/Word.lean ====
section
/-! DEFINITION. The word types of the model: bytes and the register widths that the spec reads or writes whole. -/

namespace Sys2Proof

/-- One byte of a register, a message, a frame or memory. -/
abbrev Byte := BitVec 8

/-- A 16-bit field. -/
abbrev Half := BitVec 16

/-- A 32-bit register (R360, R385, R390). -/
abbrev Word := BitVec 32

/-- A 64-bit register or coefficient (R386, R120). -/
abbrev Dword := BitVec 64

end Sys2Proof
end

