-- ==== Sys2Proof/Syntax.lean ====
section
/-! DEFINITION. The commands of the block: one constructor of `Instr` per row of spec/opcode_table.json, with the operands the row's rule gives it.
What a measuring or receiving part of the hardware would see (a frame, an error pattern, a temperature) is an operand of the row. -/

namespace Sys2Proof

/-- Who sent a command, and through which mailbox (R362, R368, R374): `id` is the PCIe requester ID, or the session number of an Ethernet session. -/
structure Origin where
  ethernet : Bool := false
  id : Nat := 0
  mailbox : Nat := 0
  deriving DecidableEq, Repr

/-- A haul or twin-link frame as it arrives whole (R262, R263). FRAME_TYPE is the row's; PAYLOAD_LEN is the length of `payload`; `spec` holds header
bytes 24 to 31. -/
structure Frame where
  flags : Byte := 1
  source : BitVec 16 := 0
  claim : BitVec 32 := 0
  tick : BitVec 48 := 0
  pipe : BitVec 16 := 0
  seq : BitVec 32 := 0
  layout : BitVec 16 := 0
  spec : BitVec 64 := 0
  payload : List Byte := []
  crc : BitVec 32 := 0
  deriving DecidableEq, Repr

/-- A mailbox datagram of the management port (R367). TYPE is the row's; LEN is the length of `body`. -/
structure Datagram where
  srcAddr : BitVec 128 := 0
  srcPort : Nat := 0
  mailbox : Nat := 0
  session : Nat := 0
  seq : BitVec 32 := 0
  opcode : BitVec 16 := 0
  tag : BitVec 16 := 0
  flags : Byte := 0
  body : List Byte := []
  crc : BitVec 32 := 0
  deriving DecidableEq, Repr

/-- A crate-bus frame (R479). TYPE is the row's unless `type` names another that the frame carries; LEN is the length of `payload`. -/
structure CrateFrame where
  type : Option Byte := none
  src : Byte := 0
  dest : Byte := 0xFF
  acker : Byte := 0xFF
  seq : Byte := 0
  payload : List Byte := []
  crc : BitVec 16 := 0
  deriving DecidableEq, Repr

/-- How the owner of a lease or mailbox is reset over PCIe (R377). -/
inductive OwnerResetKind where
  | functionLevelReset
  | hotReset
  | linkDown
  | busMasterOff
  deriving DecidableEq, Repr

/-- A lane receiver: an RX haul lane 0 to 135, or a twin-link RX lane 0 to 3. -/
inductive LaneRef where
  | haul (n : Nat)
  | twin (n : Nat)
  deriving DecidableEq, Repr

/-- One error of the hardware inside a tile: the bits of `re` and `im` are flipped in that cell's accumulators. Cells 0 to 4,095 are the main cells
u x 64 + v, 4,096 to 4,159 the checksum column, 4,160 to 4,223 the checksum row (R160).
In a beam strip, cell s x 64 + u is the result of sample s and row u, and cell 16,384 + s the checksum column of sample s (R195). -/
structure TileError where
  cell : Nat
  re : BitVec 30 := 0
  im : BitVec 30 := 0
  deriving DecidableEq, Repr

/-- A tile position of one mash on one die (R155, R156): `tp` is q of R156, `tile` the logical tile it ran on (R158). -/
structure DumpRef where
  pipe : Nat := 0
  die : Nat := 0
  channel : Nat := 0
  mash : Nat := 0
  tp : Nat := 0
  tile : Nat := 0
  deriving DecidableEq, Repr

/-- A beam strip: 256 samples of one beam block in one beam mash (R193). -/
structure StripRef where
  pipe : Nat := 0
  die : Nat := 0
  channel : Nat := 0
  mash : Nat := 0
  block : Nat := 0
  strip : Nat := 0
  tile : Nat := 0
  deriving DecidableEq, Repr

/-- What a receiver sees at a tested comma position (R255, R257): the 144 bits, first sent bit most significant, and the instant of its arrival, in
picoseconds of a time base that all lanes share (R260). -/
structure CommaSeen where
  bits : BitVec 144 := 0
  atPs : Nat := 0
  deriving DecidableEq, Repr

/-- A journal entry of the active (R339): the command as accepted, and the bytes of package memory it refers to. -/
structure JournalEntry where
  seq : Nat := 0
  opcode : Nat := 0
  args : List Byte := []
  /-- The handle that a create took, so that both twins give the pipe the same one. -/
  handle : Nat := 0
  mem : List Byte := []
  deriving DecidableEq, Repr

/-- A staged command as the state copy carries it (R340 LOCK, R376). -/
structure Staged where
  opcode : Nat := 0
  args : List Byte := []
  /-- The handle that a PIPE_CREATE took, and the bytes of package memory that a T command refers to. -/
  handle : Nat := 0
  mem : List Byte := []
  deriving DecidableEq, Repr

/-- A cellar log entry (R442). -/
structure LogEntry where
  seq : Nat := 0
  time : Nat := 0
  code : Nat := 0
  flags : Nat := 0
  die : Nat := 0
  eventSeq : BitVec 32 := 0
  detail : List Byte := []
  bootCount : Nat := 0
  /-- The 64 bytes of its slot, where they are not the entry's own: a bad slot, or bytes that a core's request wrote (R398, R444). -/
  raw : Option (List Byte) := none
  deriving DecidableEq, Repr

/-- Sparge progress of one open scope on one die (R340): the next record index to be sent. -/
structure Progress where
  pipe : Nat := 0
  die : Nat := 0
  tickScope : Bool := false
  tick : Nat := 0
  next : Nat := 0
  deriving DecidableEq, Repr

/-- A gain word of one input and channel (R131, R340). -/
structure GainItem where
  pipe : Nat := 0
  input : Nat := 0
  channel : Nat := 0
  word : BitVec 32 := 0
  deriving DecidableEq, Repr

/-- A whole state copy (R340). `bytes` is its size on the link. -/
structure StateCopy where
  tick : Nat := 0
  claim : Nat := 0
  journalSeq : Nat := 0
  journalCrc : BitVec 64 := 0
  versions : List (Nat × Nat × Nat) := []
  digest : BitVec 64 := 0
  dpllState : Nat := 0
  /-- The entry selected, and the input code that it holds. -/
  selected : Option Nat := none
  selectedCode : Nat := 0
  steerPpt : Int := 0
  boundarySec : Nat := 0
  boundaryNs : Nat := 0
  progress : List Progress := []
  /-- Lanes and the requesters that hold each copy (R274). -/
  spareCopies : List (Nat × List (BitVec 16 × BitVec 32)) := []
  lockOwner : Option (Bool × Nat) := none
  /-- Source address of an Ethernet holder (R378). -/
  lockAddress : BitVec 128 := 0
  leaseLeftMs : Nat := 0
  staged : List Staged := []
  logTail : List LogEntry := []
  gains : List GainItem := []
  bytes : Nat := 0
  deriving DecidableEq, Repr

/-- The common part of a PTP message (R307): `discarded` marks unicast negotiation, management, alternate timescale and security TLV messages. -/
structure PtpHeader where
  domain : Nat := 0
  sourceId : BitVec 64 := 0
  sourcePort : Nat := 1
  seq : BitVec 16 := 0
  correctionNs : Int := 0
  /-- TRANSPORT it came by: 0 Ethernet, 1 UDP/IPv4, 2 UDP/IPv6 (R307, R322). -/
  transport : Nat := 0
  /-- In a response: requestingPortIdentity. -/
  requestingId : BitVec 64 := 0
  requestingPort : Nat := 1
  discarded : Bool := false
  deriving DecidableEq, Repr

/-- A PTP Announce (R291, R307, R309, R313). -/
structure PtpAnnounce where
  header : PtpHeader := {}
  priority1 : Nat := 128
  clockClass : Nat := 248
  accuracy : Nat := 0xFE
  variance : Nat := 0xFFFF
  priority2 : Nat := 128
  grandmaster : BitVec 64 := 0
  stepsRemoved : Nat := 0
  utcOffset : Int := 0
  utcOffsetValid : Bool := false
  leap59 : Bool := false
  leap61 : Bool := false
  ptpTimescale : Bool := true
  timeSource : Nat := 0xA0
  deriving DecidableEq, Repr

/-- A time stamp: nanoseconds since the PTP epoch, and FRAC in units of 2^(-16) ns (R300). -/
structure Stamp where
  ns : Int := 0
  frac : Nat := 0
  deriving DecidableEq, Repr

/-- What a kiln pass measures of one element (R426, R433): for each slicer or level, the offset of every copy; the temperature in 1/16 degree; and for a
tile or a TDC the verdict of its test. -/
structure KilnReading where
  offsets : List (List Int) := []
  temp : Int := 400
  passed : Bool := true
  deriving DecidableEq, Repr

/-- An element of KILN_RUN and KILN_STATUS (R458): kind 1 RX lane, 2 TX lane, 3 twin-link lane, 4 spare tile, 5 TDC. -/
structure KilnElement where
  kind : Nat := 1
  die : Nat := 0
  index : Nat := 0
  deriving DecidableEq, Repr

/-- The taps at which the read strobe delay and the write data delay of a byte lane pass, bit k for tap k (R401). -/
structure LaneSweep where
  read : BitVec 128 := 0
  write : BitVec 128 := 0
  deriving DecidableEq, Repr

/-- What HBM training finds on one die (R401): the last sweep of each byte lane, and lanes remapped. Where no sweep is listed: a lane that is still short after
repair, with its widest run, and the worst lane. -/
structure TrainReading where
  lanes : List LaneSweep := []
  shortLane : Option (Nat × Nat) := none
  repairs : Nat := 0
  worstLane : Nat := 0
  worstTaps : Nat := 128
  deriving DecidableEq, Repr

/-- Masters of the package matrix (R413), in code order. -/
inductive Master where
  | laneReceive | tileWriteback | stagingLoader | spargeReader | beamPartial | dma | zwiter | pcie
  deriving DecidableEq, Repr

/-- What a word of a die's SRAM holds (R411, R412); the spec gives the partitions no layout within. Log 159 [DESIGN CHOICE]. -/
inductive SramHolds where
  /-- Nothing in use. -/
  | unused
  /-- Column slots: data that the position in work on a logical tile reads (R67). -/
  | column (tile : Nat)
  /-- Replay row buffer: the row tile at a place of the buffer (R164). -/
  | rowTile (index : Nat)
  /-- Turn write buffer: samples of one input and channel (R407). -/
  | samples (pipe tick input channel first count : Nat)
  /-- Contributor bitmaps: bits of these cells of a contributor's beam mash (R198). -/
  | bits (pipe position die slot channel mash : Nat) (cells : List Nat)
  /-- Miss planes: counts of a tile position (R232). -/
  | plane (pipe bank channel tp : Nat)
  /-- Sparge egress buffer: the next datagram of a scope (R412). -/
  | datagram (pipe : Nat) (tickScope : Bool)
  deriving DecidableEq, Repr

/-- What a read meets in SRAM (R412): no error, one bit corrected, or an uncorrectable word and what it holds. -/
inductive SramSeen where
  | clean | corrected
  | uncorrectable (holds : SramHolds)
  deriving DecidableEq, Repr

/-- The operations of the tun adder (R408). -/
inductive TunOp where
  | add32 (parts : List Int)
  | add64 (parts : List Int)
  | writeFresh (word : List Byte)
  | satWrite (deep : Bool)
  deriving DecidableEq, Repr

/-- An operation of the tun adder, with the pipe and bank whose area the word may lie in (R408). -/
structure AdderOp where
  pipe : Nat := 0
  bank : Nat := 0
  op : TunOp := .writeFresh []
  deriving DecidableEq, Repr

/-- A request of a master (R409, R413, R417): a read of `len` bytes, or a write of `data`. `responseSpace`: a read has space for its response. `sram`: what a
read of SRAM meets. `op`: a write that is an operation of the tun adder. -/
structure MatrixRequest where
  master : Master := .pcie
  die : Nat := 0
  write : Bool := false
  addr : Nat := 0
  len : Nat := 0
  data : List Byte := []
  responseSpace : Bool := true
  sram : SramSeen := .clean
  op : Option AdderOp := none
  deriving DecidableEq, Repr

/-- What a request meets in the stack (R405): no error, one symbol corrected, or an uncorrectable word; `sram`: what it meets where it reads SRAM (R412). -/
inductive EccSeen where
  | clean | corrected | uncorrectable
  | sram (seen : SramSeen)
  deriving DecidableEq, Repr

/-- What START_UP reads from lands, fuses and sensors (R475, R478, R491, R451, R448). `signatureOk` is the Ed25519 verdict on each bank, whose public
keys the spec does not give. -/
structure StartReading where
  twinSel : Bool := false
  nodeId : Nat := 0
  smbAddr : Nat := 0
  keys : BitVec 4 := 15
  signatureOk : Bool × Bool := (true, true)
  holdupMv : Nat := 12000
  /-- Slots of the cellar log whose medium does not hold what is written to it (R443, R444). -/
  badMedia : List Nat := []
  deriving DecidableEq, Repr

/-- The commands of the Supirus block. -/
inductive Instr where
  -- mailbox commands (R393): the lead core runs the command that `o` sent with these argument bytes
  | nop (o : Origin) (args : List Byte)
  | configLock (o : Origin) (args : List Byte)
  | configCommit (o : Origin) (args : List Byte)
  | configAbort (o : Origin) (args : List Byte)
  | lockStatus (o : Origin) (args : List Byte)
  | positionSet (o : Origin) (args : List Byte)
  | tickConfig (o : Origin) (args : List Byte)
  | mgmtNet (o : Origin) (args : List Byte)
  | pipeCreate (o : Origin) (args : List Byte)
  | pipeModify (o : Origin) (args : List Byte)
  | pipeDestroy (o : Origin) (args : List Byte)
  | pipeList (o : Origin) (args : List Byte)
  | ingestInputs (o : Origin) (args : List Byte)
  | offsetFreeze (o : Origin) (args : List Byte)
  | ingestStats (o : Origin) (args : List Byte)
  | turnDestSet (o : Origin) (args : List Byte)
  | delayLoad (o : Origin) (args : List Byte)
  | gainLoad (o : Origin) (args : List Byte)
  | gainRead (o : Origin) (args : List Byte)
  | windowLoad (o : Origin) (args : List Byte)
  | corrStats (o : Origin) (args : List Byte)
  | tileMap (o : Origin) (args : List Byte)
  | beamInputs (o : Origin) (args : List Byte)
  | beamContrib (o : Origin) (args : List Byte)
  | weightLoad (o : Origin) (args : List Byte)
  | beamStats (o : Origin) (args : List Byte)
  | sinkDest (o : Origin) (args : List Byte)
  | sinkStats (o : Origin) (args : List Byte)
  | laneConfig (o : Origin) (args : List Byte)
  | sparePeer (o : Origin) (args : List Byte)
  | laneSpare (o : Origin) (args : List Byte)
  | laneControlIn (o : Origin) (args : List Byte)
  | laneStatus (o : Origin) (args : List Byte)
  | laneTest (o : Origin) (args : List Byte)
  | laneEye (o : Origin) (args : List Byte)
  | refConfig (o : Origin) (args : List Byte)
  | refInputConfig (o : Origin) (args : List Byte)
  | clockSteer (o : Origin) (args : List Byte)
  | timeSet (o : Origin) (args : List Byte)
  | logTimeSet (o : Origin) (args : List Byte)
  | ptpConfig (o : Origin) (args : List Byte)
  | pulseConfig (o : Origin) (args : List Byte)
  | clockStatus (o : Origin) (args : List Byte)
  | refTimeAccept (o : Origin) (args : List Byte)
  | twinConfig (o : Origin) (args : List Byte)
  | twinSwitch (o : Origin) (args : List Byte)
  | twinDetach (o : Origin) (args : List Byte)
  | twinStatus (o : Origin) (args : List Byte)
  | matrixPriority (o : Origin) (args : List Byte)
  | matrixSlices (o : Origin) (args : List Byte)
  | hbmStatus (o : Origin) (args : List Byte)
  | hbmHammerConfig (o : Origin) (args : List Byte)
  | sramMap (o : Origin) (args : List Byte)
  | kilnRun (o : Origin) (args : List Byte)
  | kilnStatus (o : Origin) (args : List Byte)
  /-- `r` is what the unit's test measures (R439), `fault` new fault evidence before the restore takes effect (R438). -/
  | unitRestore (o : Origin) (args : List Byte) (r : KilnReading) (fault : Bool)
  | policySet (o : Origin) (args : List Byte)
  | healthStatus (o : Origin) (args : List Byte)
  | logRead (o : Origin) (args : List Byte)
  /-- `host` is what a host source address supplies (R452, R387). -/
  | fwStage (o : Origin) (args : List Byte) (host : List Byte)
  | fwStatus (o : Origin) (args : List Byte)
  | fwActivate (o : Origin) (args : List Byte)
  | ownerSeal (o : Origin) (args : List Byte)
  | holdupStatus (o : Origin) (args : List Byte)
  | powerState (o : Origin) (args : List Byte)
  | vcoreOverride (o : Origin) (args : List Byte)
  | crateConfig (o : Origin) (args : List Byte)
  | crateStatus (o : Origin) (args : List Byte)
  | sensorRead (o : Origin) (args : List Byte)
  | packageReset (o : Origin) (args : List Byte)
  -- registers, queues, DMA, SMBus (R359 to R392)
  | mailboxClaim (who m : Nat)
  | mailboxRelease (who m : Nat)
  | ring (who m : Nat)
  | eqConsWrite (v : Word)
  | cqConsWrite (c : Nat) (v : Word)
  | eqDroppedRead
  | intCauseClear (v : Word)
  | intMaskWrite (v : Word)
  | dmaStart (h : Nat) (ctrl : Word)
  | dmaAbort (h : Nat) (ctrl : Word)
  /-- `host` is what host memory supplies on a read; `masterOff` says that bus mastering is disabled when the channel needs it; `ecc` is what its
  package reads meet. -/
  | dmaTransferDone (h : Nat) (host : List Byte) (masterOff : Bool) (ecc : EccSeen)
  | calLoad (v : Word)
  | calLoadDone
  | calSecLoRead
  | registerWrite (who : Nat) (off : Nat) (v : Word)
  | bar2Access (who : Nat) (write : Bool) (off len : Nat) (data : List Byte) (ecc : EccSeen)
  | smbusSetPointer (v : Half)
  | smbusBlockRead
  | smbusBlockWrite (v : Word)
  -- management port (R367 to R369)
  | mgmtOpen (d : Datagram)
  | mgmtRequest (d : Datagram)
  | mgmtKeepalive (d : Datagram)
  | mgmtClose (d : Datagram)
  | sessionTimeout (session : Nat)
  | ownerReset (kind : OwnerResetKind)
  | leaseExpiry
  | heldCompletionPush
  | eqIrqDelayExpiry
  | aliveIncrement
  -- the data path
  | tickBoundary (n : Nat)
  | workWindowEnd (n : Nat)
  | tileDump (d : DumpRef) (errs : List TileError)
  | replayDump (d : DumpRef) (errs : List TileError)
  | stripDone (d : StripRef) (errs : List TileError)
  | beamMashFinish (pipe die channel tick mash : Nat)
  | spargeDatagramSend (pipe die : Nat) (tickScope : Bool)
  | scopeEndRecord (pipe : Nat) (tickScope : Bool)
  | tunRepairTimeout (transaction : Nat)
  -- haul frames
  | grist (lane : Nat) (f : Frame)
  | turn (lane : Nat) (f : Frame)
  | beampart (lane : Nat) (f : Frame)
  | hello (lane : Nat) (f : Frame)
  | spareRequest (lane : Nat) (f : Frame)
  | spareDuplicating (lane : Nat) (f : Frame)
  | spareSwitched (lane : Nat) (f : Frame)
  | spareRelease (lane : Nat) (f : Frame)
  | spareStopped (lane : Nat) (f : Frame)
  | spareRefused (lane : Nat) (f : Frame)
  -- twin link
  | heartbeat (lane : LaneRef) (f : Frame)
  /-- Its frames in order of arrival, each with its lane; `c` is what they describe, whose layout in bytes the spec does not give; `rxNs` the data-path time stamp
  of the receipt of the first, which left at the active's boundary (R304). -/
  | stateCopy (frames : List (LaneRef × Frame)) (c : StateCopy) (rxNs : Nat)
  /-- The frames of one entry in order of arrival, each with its lane: the first, and those after it (R329). -/
  | journal (first : LaneRef × Frame) (rest : List (LaneRef × Frame))
  | journalAck (lane : LaneRef) (f : Frame)
  | journalAckTimeout (seq : Nat)
  | repairReq (lane : LaneRef) (f : Frame)
  | repairReply (lane : LaneRef) (f : Frame)
  /-- `rxNs` is the data-path time stamp of the receipt (R349). -/
  | attach (lane : LaneRef) (f : Frame) (rxNs : Nat)
  | attachWaitExpiry
  | switch (lane : LaneRef) (f : Frame)
  | switchAck (lane : LaneRef) (f : Frame)
  | switchOutputDrive
  | heartbeatWindow (n w : Nat)
  | heartbeatWatchdog
  -- lane receivers and transmitters
  | commaPeriod (lane : LaneRef) (seen : CommaSeen)
  /-- `field` and `complement`: the two H-bit fields as the lane carries them (R252), of a period whose first 32 blocks do not come as codewords; of one whose
  blocks came, the decoded bits are compared and the operands are not looked at. Log 141 [DESIGN CHOICE]. -/
  | firstBoundaryCheck (lane : LaneRef) (field complement : Half)
  /-- The codeword as received, its 10-bit symbols in the order sent, commas removed: the message's, then the parity's (R254); on a lane in test mode as many bits of
  the line (R276). -/
  | codewordDecode (lane : LaneRef) (message parity : List (BitVec 10))
  | spareCopyStart (die : Nat)
  | spareCopyStop (die : Nat)
  | spareConfirmed (die : Nat)
  | laneSpareSwitch (die : Nat)
  | laneRestoreSwitch (die : Nat)
  | spareTimeout (die : Nat)
  | helloTimer (lane : Nat)
  -- ingest
  | gristHoldExpiry (pipe input : Nat)
  | spallBlockEnd (pipe input : Nat)
  | offsetBlockEnd (pipe input : Nat)
  | alcPeriodEnd (pipe : Nat)
  -- clocks
  | refDisqualify (input test : Nat)
  | refQualify (input : Nat)
  | wtrExpiry
  | dpllLock
  | historyValid
  | timeBadClear (input : Nat)
  /-- `sec`, `ns`: data-path time measured at the edge. -/
  | ppsInEdge (offsetNs : Int)
  | timeSetPpsTimeout
  | ptpAnnounce (a : PtpAnnounce)
  | ptpSync (h : PtpHeader) (twoStep : Bool) (origin rx : Stamp)
  | ptpFollowUp (h : PtpHeader) (origin : Stamp)
  | ptpDelayReq (h : PtpHeader) (rx : Stamp)
  | ptpDelayResp (h : PtpHeader) (receipt : Stamp)
  | ptpPdelayReq (h : PtpHeader) (rx tx : Stamp)
  | ptpPdelayResp (h : PtpHeader) (followUp twoStep : Bool) (stamp rx : Stamp)
  | ptpAnnounceTimeout (sync : Bool)
  /-- `what`: 0 Announce, 1 Sync, 2 a delay request. `tx` is the time stamp of the sending. -/
  | ptpTxInterval (what : Nat) (tx : Stamp)
  | datapathSecond
  | tickStart (n : Nat)
  | calendarSecond
  | vbatMeasure (mv : Nat)
  | vddAuxLoss
  | calOscStopDetect
  -- memory and matrix
  | hbmRefresh (die : Nat) (eyeOffset : Int)
  | hbmActivate (die bank row : Nat)
  | refreshWindowEnd (die : Nat)
  | scrubRead (die addr : Nat) (ecc : EccSeen)
  | hbmRequest (die : Nat) (r : MatrixRequest) (realTime : Bool) (fill : Nat) (ecc : EccSeen)
  | tunAdderOp (pipe die bank addr : Nat) (op : TunOp) (ecc : EccSeen)
  | matrixRequest (r : MatrixRequest)
  | neighbourRefreshSecond
  -- health and start-up
  | kilnDue (e : KilnElement)
  | kilnPassDone (e : KilnElement) (r : KilnReading)
  | thermalReading (die : Nat) (temp : Int)
  | thermalTrip
  | logDeferRetry (holdupMv : Nat)
  | holdupRetry (holdupMv : Nat)
  | startUp (r : StartReading)
  | hbmTrainingDone (r : List TrainReading)
  | startupKilnDone (r : List (KilnElement × KilnReading))
  | laneBringupDone
  | clockLockTimeout
  | ready
  | resetAssert
  | supplyMonitorTrip (rails : BitVec 10)
  | wakeNEdge
  | powerTransitionDone
  | avsFloorUpdate (floorsMv : List Nat)
  | avsRequestStep
  -- crate bus
  | crateHeartbeatPeriod
  | crateTxOpportunity
  | ack (f : CrateFrame)
  | crateHeartbeat (f : CrateFrame)
  | announce (f : CrateFrame)
  | boot (f : CrateFrame)
  | sleepPropose (f : CrateFrame)
  | sleepVote (f : CrateFrame)
  | sleepCommit (f : CrateFrame)
  | sleepAbort (f : CrateFrame)
  | wake (f : CrateFrame)
  | crateAckTimeout
  | crateRetryWait
  | crateAloneAnnounce
  | nodeHeardExpiry (node : Nat)
  | activatingTimeout (node : Nat)
  | sleepVoteTimeout
  | sleepOutcomeTimeout
  -- the last rows of the table
  | vddAuxReturn
  | calendarDomainPowerOn
  /-- `tick`: TICK_OUT falls; otherwise PPS_OUT falls. -/
  | pulseWidthEnd (tick : Bool)
  | arpRequest (target : BitVec 32)
  | neighbourSolicitation (target : BitVec 128)
  | eyeScanDone (lane : Nat) (mismatches : Nat)
  /-- `compared`: the programmed bytes read back equal. -/
  | norOperationDone (compared : Bool)
  deriving DecidableEq, Repr

end Sys2Proof
end

