-- ==== Sys2Proof/Decode.lean ====
section
/-! DEFINITION. The decoder over the table's bits. spec/opcode_table.json gives no bits to any row of this block: a command is a register access, a
datagram, a frame, a timer or a pin event, with operands that no one word spells. -/

namespace Sys2Proof

/-- The command that a word of `nbits` bits spells: none, since no row of the table gives bits. Log 21 [DESIGN CHOICE]. Log 49 [DESIGN CHOICE]. -/
def decodeTableWord (_nbits _w : Nat) : Option Instr := none

end Sys2Proof
end

