-- ==== Sys2Proof/Config.lean ====
section
/-! DEFINITION. What one implementation fixes and the spec leaves open: free values. None has a body, so no proof sees a value of it. -/

namespace Sys2Proof.Config

/-- A fresh value of nobody's choosing: the n-th value the machine needed that the spec does not fix. `State.free` counts the uses (log 1 [DESIGN CHOICE]). -/
opaque freeValue : Nat → BitVec 64

/-- What a package-memory read returns inside an allocated area whose byte layout the spec does not give (turn area, delay buffer, partial area,
weight tables, detected banks: R170 gives the tun layout only), for the n-th such read, byte by byte (log 2 [DESIGN CHOICE]). -/
opaque areaByte : Nat → Nat → BitVec 8

/-- Byte offset, inside an area whose layout the spec does not give, of the item with this key: area kind, then what identifies it (log 2 [DESIGN CHOICE]). -/
opaque itemByte : List Nat → Nat

/-- The PTP port's clockIdentity (R307, R325): its value is not in the spec (log 31 [DESIGN CHOICE]). -/
opaque clockIdentity : BitVec 64

/-- clockAccuracy and offsetScaledLogVariance that the port announces of its own clock (R307, log 31 [DESIGN CHOICE]). -/
opaque clockQuality : Nat × Nat

/-- Byte of a state copy on the twin link: the spec lists the items of a copy and not their layout (log 17 [DESIGN CHOICE]). -/
opaque copyByte : Nat → Nat → BitVec 8

/-- Byte of a log slot whose medium does not hold what is written, by the LOG_SEQ written to it or the address written, and the byte of it (R444, log 135 [DEDUCED]). -/
opaque badSlotByte : Nat → Nat → BitVec 8

/-- Credits beyond the first that a target holds for a class of R75: a class has one at least, and R417 gives no number (log 9 [DESIGN CHOICE]). -/
opaque creditsOf : Nat → Nat → Nat

end Sys2Proof.Config
end

