-- ==== Sys2Proof/Machine/StateClock.lean ====
section
/-! DEFINITION. State of clocks, references and time (chapter 9). Field defaults are the values at reset. -/

namespace Sys2Proof.Machine

/-- Level of a driven output (R310, R311). -/
inductive PinLevel where
  | low | high | highZ
  deriving DecidableEq, Repr

/-- States of the DPLL (R294), in the code order of R324. -/
inductive DpllState where
  | freerun | acquire | locked | holdover
  deriving DecidableEq, Repr

/-- One reference input, codes 1 to 6 (R290, R318). -/
structure RefInput where
  /-- QUAL_S in force (R291, R318). Spec default 10. -/
  qualS : Nat := 10
  /-- FREQ_HZ (R318). -/
  freqHz : Nat := 0
  /-- BW_MILLIHZ in force (R290, R318). Spec default: R290's for the input. -/
  bwMilliHz : Nat := 10000
  /-- QUAL_PPM in force (R291, R318). Spec default 10 for a frequency input; a time input has none. -/
  qualPpm : Nat := 10
  /-- DELAY_PS (R318). -/
  delayPs : Int := 0
  /-- Qualified (R291). Spec reset: not qualified. -/
  qualified : Bool := false
  /-- Qualified without a break for WTR_S is measured from here; the wait-to-restore runs (R292). -/
  wtrRunning : Bool := false
  /-- Seconds left of its wait (R292). -/
  wtrLeftS : Nat := 0
  /-- TIME_BAD (R302). -/
  timeBad : Bool := false
  /-- The offset last measured, local time less the input's, picoseconds (R303). -/
  offsetPs : Int := 0
  /-- REF_TIME_ACCEPT took the present offset: the next measurement is accepted without limit (R303). -/
  accepted : Bool := false
  deriving DecidableEq, Repr

/-- Default bandwidth of an input in millihertz (R290). -/
def defaultBandwidth (code : Nat) : Nat := [10000, 10000, 50, 10, 200000, 200000].getD (code - 1) 0

/-- An input as it is at reset (R290, R318). -/
def RefInput.atReset (code : Nat) : RefInput := { bwMilliHz := defaultBandwidth code, qualPpm := if code = 3 ∨ code = 4 then 0 else 10 }

/-- The DPLL and its selection (R292 to R298, R317, R324). -/
structure Dpll where
  state : DpllState := .freerun
  /-- SELECTED entry (R324). -/
  selected : Option Nat := none
  revertive : Bool := false
  /-- HAUL_REC_LANE (R317). -/
  haulRecLane : Nat := 0
  /-- WTR_S in force (R292, R317). Spec default 60. -/
  wtrS : Nat := 60
  /-- WTR_LEFT_S: the least that is left of the waits that run, or 0 (R324). -/
  wtrLeftS : Nat := 0
  /-- XO_FREQ_HZ (R289, R317). -/
  xoFreqHz : Nat := 0
  /-- Priority table, entries 0 to 5; 0 is empty (R292). -/
  entries : List Nat := List.replicate 6 0
  /-- SLOPE_PPB in force (R295). Spec default 100. -/
  slopePpb : Nat := 100
  /-- JUMP_THRESH_NS in force (R302). Spec default 100. -/
  jumpThreshNs : Nat := 100
  /-- HOLD_ALLOW_PPB in force (R302). Spec default 1. -/
  holdAllowPpb : Nat := 1
  /-- HOLD_AVG_S in force (R297). Spec default 100. -/
  holdAvgS : Nat := 100
  /-- Reference inputs, codes 1 to 6 at index 0 to 5 (R290). -/
  inputs : List RefInput := [1, 2, 3, 4, 5, 6].map RefInput.atReset
  /-- History is valid (R294). -/
  historyValid : Bool := false
  /-- STEER_PPT (R298). -/
  steerPpt : Int := 0
  /-- Wide steering lasts (R298). -/
  wide : Bool := false
  /-- Holdover frequency against nominal, ppt (R297). -/
  holdoverPpt : Int := 0
  /-- PHASE_ERR_PS (R324). -/
  phaseErrPs : Int := 0
  /-- HOLDOVER_S (R324). -/
  holdoverS : Nat := 0
  /-- Seconds since data-path time last followed an accepted time-input measurement (R302). -/
  sinceAcceptedS : Nat := 0
  /-- The selected time input has had a measurement accepted since it was selected (R302). -/
  acceptedSinceSelect : Bool := false
  /-- Offset still to be pulled in at a bounded rate, picoseconds (R295, R302). -/
  pullInPs : Int := 0
  /-- The rate from which the loop starts in ACQUIRE, ppt, while the output is still there or on its way back within the pull range (R298). -/
  startPpt : Option Int := none
  /-- SWITCHES, RC 32 (R324). -/
  switches : Nat := 0
  /-- JUMPS_REFUSED, RC 32 (R324). -/
  jumpsRefused : Nat := 0
  deriving DecidableEq, Repr

/-- Data-path time (R300, R301). -/
structure DataTime where
  /-- Time is valid. Spec reset: invalid. -/
  valid : Bool := false
  /-- SEC, 48 bits (R300). -/
  sec : Nat := 0
  /-- NS, 0 to 999,999,999 (R300). -/
  ns : Nat := 0
  deriving DecidableEq, Repr

/-- Log time (R305). -/
structure LogClock where
  /-- Log time has taken the calendar's count since reset (R305). -/
  started : Bool := false
  /-- SEC, 48 bits. -/
  sec : Nat := 0
  /-- NS. -/
  ns : Nat := 0
  /-- FRAC, units of 2^(-32) ns. -/
  frac : Nat := 0
  /-- INC_NS. Spec reset 4. -/
  incNs : Nat := 4
  /-- INC_FRAC. Spec reset: the increment is 4 ns. -/
  incFrac : Nat := 0
  deriving DecidableEq, Repr

/-- The state of the PTP port (R307). -/
inductive PtpRole where
  | disabled | listening | slave | master | passive
  deriving DecidableEq, Repr

/-- A foreign master: its last Announce, and when its last two came, newest first, in nanoseconds (R307). -/
structure ForeignMaster where
  announce : PtpAnnounce
  times : List Nat := []
  deriving DecidableEq, Repr

/-- The PTP port (R307 to R309, R322). -/
structure Ptp where
  /-- PTP_MODE: 0 off, 1 slave-only, 2 master-capable (R322). -/
  mode : Nat := 0
  oneStep : Bool := false
  peerDelay : Bool := false
  /-- TRANSPORT (R322). -/
  transport : Nat := 0
  domain : Nat := 0
  /-- Priorities, intervals and time-out: at reset the defaults of the profiles that R307 names (log 32 [PRESUMED]). -/
  priority1 : Nat := 128
  priority2 : Nat := 128
  logAnnounce : Int := 1
  logSync : Int := 0
  logDelay : Int := 0
  announceTimeout : Nat := 3
  txLatencyPs : Nat := 0
  rxLatencyPs : Nat := 0
  asymmetryPs : Int := 0
  role : PtpRole := .disabled
  /-- The chosen master's data (R307, R313). -/
  best : Option PtpAnnounce := none
  /-- The masters heard on the port, last heard first (R307). -/
  foreign : List ForeignMaster := []
  /-- A leap has taken place since the chosen master's last Announce, which then tells the offset of before it (R313, R314). -/
  leapPassed : Bool := false
  /-- Sequence numbers of the port's own Announce, Sync and delay request. -/
  seqAnnounce : Half := 0
  seqSync : Half := 0
  seqDelay : Half := 0
  /-- A two-step Sync that waits for its Follow_Up: sequence and receipt, picoseconds. -/
  syncWait : Option (Half × Int) := none
  /-- t1 and t2 of the last Sync, t3 of the last delay request, picoseconds (R307). -/
  t1 : Int := 0
  t2 : Int := 0
  t3 : Int := 0
  /-- A two-step Pdelay_Resp that waits for its follow-up: t4 and t2, picoseconds. -/
  pdelayWait : Option (Int × Int) := none
  /-- Mean path delay, picoseconds. -/
  meanDelayPs : Int := 0
  deriving DecidableEq, Repr

/-- PULSE_CONFIG settings (R323). -/
structure PulseCfg where
  ppsWidthUs : Nat := 100
  tickWidthUs : Nat := 10
  tickOffsetNs : Int := 0
  refOutDiv : Nat := 0
  ppsEn : Bool := false
  tickEn : Bool := false
  deriving DecidableEq, Repr

/-- Pulse and clock outputs (R310, R311). -/
structure Pulses where
  cfg : PulseCfg := {}
  /-- Takes effect at the next whole data-path second (R323). -/
  next : Option PulseCfg := none
  /-- PPS_OUT and TICK_OUT: high impedance in reset (R469). -/
  ppsOut : PinLevel := .highZ
  tickOut : PinLevel := .highZ
  /-- REF_OUT: divider in force; the last restart was at a whole second (R310). -/
  refOutDiv : Nat := 0
  /-- The package drives PPS_OUT and TICK_OUT (R311, R347). -/
  driven : Bool := false
  deriving DecidableEq, Repr

/-- The calendar domain (R312 to R315). -/
structure Calendar where
  /-- TAI seconds, 48 bits (R312). Spec reset 0. -/
  count : Nat := 0
  /-- The count was loaded or synchronised, so the UTC calendar shows (R315 YEAR). -/
  set : Bool := false
  /-- CAL_SEC_HI, CAL_DATE and CAL_TIME as latched by a read of CAL_SEC_LO (R315). Spec reset 0. -/
  latchHi : Word := 0
  latchDate : Word := 0
  latchTime : Word := 0
  /-- SET_HI:SET_LO (R315). Spec reset 0. -/
  setLo : Word := 0
  setHi : Half := 0
  /-- UTC_OFFSET, UTC_NEXT (R315). Spec reset 0. -/
  utcOffset : Half := 0
  utcNext : Half := 0
  /-- CAL_LEAP (R314, R315). Spec reset 0. -/
  leapLo : Word := 0
  leapHi : Half := 0
  /-- LOAD reads 1 until done (R315). Spec reset 0. -/
  load : Bool := false
  /-- SYNC_EN (R315). Spec reset 0. -/
  syncEn : Bool := false
  /-- LEAP_ARM (R315). Spec reset 0. -/
  leapArm : Bool := false
  /-- CAL_TRIM (R312, R315). Spec reset 0. -/
  trim : Byte := 0
  /-- OSC_STOP, W1C (R315). Spec reset 1. -/
  oscStop : Bool := true
  /-- VBAT_LOW (R315). Spec reset 0. -/
  vbatLow : Bool := false
  /-- ON_VBAT, W1C (R315). Spec reset 0. -/
  onVbat : Bool := false
  /-- SYNCED (R315). Spec reset 0. -/
  synced : Bool := false
  /-- LEAP_DONE, W1C (R315). Spec reset 0. -/
  leapDone : Bool := false
  /-- VBAT_LEVEL (R315). Spec reset 0. -/
  vbatLevel : Nat := 0
  /-- The domain runs from VBAT now (R312). -/
  fromVbat : Bool := false
  /-- BACKUP, 256 bytes: the fallback ring (R312, R315, R445). Spec reset: undefined. -/
  backup : List Byte := List.replicate 256 0
  deriving DecidableEq, Repr

/-- Clocks and time of the package. -/
structure Clocks where
  dpll : Dpll := {}
  time : DataTime := {}
  log : LogClock := {}
  ptp : Ptp := {}
  pulses : Pulses := {}
  /-- Choices of TDC taps that wait for the next data-path second boundary: the element and its chosen taps (R431). -/
  tdcNext : List (KilnElement × List Nat) := []
  /-- The last data-path second that was run (the model's own). -/
  lastSecond : Option Nat := none
  deriving DecidableEq, Repr

end Sys2Proof.Machine
end

