-- ==== Sys2Proof/Machine/StateControl.lean ====
section
/-! DEFINITION. State of the control interface: identity, mailboxes, lease and staging, queues, interrupts, DMA, SMBus and the management port
(chapter 11). Field defaults are the values at reset. -/

namespace Sys2Proof.Machine

/-- The variants of R1. -/
inductive Variant where
  | s2 | s4 | s8
  deriving DecidableEq, Repr

/-- The status codes of R394. -/
inductive Status where
  | ok | badOpcode | badLength | badArgument | staleHandle | noBudget | badTick | tooLate | refusedState | noLock | lockHeld | noResource
  | notActive | internal
  deriving DecidableEq, Repr

/-- The identity page (R360) and the lands it reads. -/
structure Ident where
  /-- VARIANT, DIE_COUNT (R1, R360). -/
  variant : Variant := .s8
  /-- FW_VERSION (R360). -/
  fwVersion : Word := 0
  /-- FW_BANK: NOR bank booted (R360). -/
  fwBank : Bool := false
  /-- FELL_BACK (R360, R451). -/
  fellBack : Bool := false
  /-- BOOT_COUNT, 16 bits (R360, R371). -/
  bootCount : Nat := 0
  /-- HAUL_WINDOW: [3:0] lowest, [7:4] highest (R360, R264). -/
  haulWindow : Byte := 0x11
  /-- TWIN_WINDOW: [3:0] lowest, [7:4] highest (R360, R450). -/
  twinWindow : Byte := 0x11
  /-- SERIAL_HI:SERIAL_LO (R360). -/
  serial : Dword := 0
  /-- TWIN_BIT, read from TWIN_SEL (R360, R491). -/
  twinBit : Bool := false
  /-- NODE_ID[4:0] (R478). -/
  nodeId : Nat := 0
  /-- SMB_ADDR[2:0] (R491). -/
  smbAddr : Nat := 0
  /-- SCRATCH (R360). Spec reset 0. -/
  scratch : Word := 0
  deriving DecidableEq, Repr

/-- One mailbox (R362). -/
structure Mailbox where
  /-- OWNED (R362). Spec reset 0. -/
  owned : Bool := false
  /-- OWNER_ID, 16 bits (R362). Spec reset 0. -/
  ownerId : Nat := 0
  /-- ETHERNET: the owner is an Ethernet session (R362). Spec reset 0. -/
  ethernet : Bool := false
  /-- MESSAGE, 1,024 bytes (R362). Spec reset: undefined. -/
  message : List Byte := List.replicate 1024 0
  /-- OPCODE (R362). Spec reset 0. -/
  opcode : Half := 0
  /-- TAG (R362). Spec reset 0. -/
  tag : Half := 0
  /-- ARG_LEN, 11 bits (R362). Spec reset 0. -/
  argLen : BitVec 11 := 0
  /-- CQ_SEL (R362). Spec reset 0. -/
  cqSel : BitVec 2 := 0
  /-- BUSY (R362, R364). Spec reset 0. -/
  busy : Bool := false
  /-- DONE (R362, R364). Spec reset 0. -/
  done : Bool := false
  /-- STATUS code of the last completion (R362). Spec reset 0. -/
  status : Nat := 0
  /-- REPLY_LEN (R362). Spec reset 0. -/
  replyLen : Nat := 0
  /-- DETAIL (R362, R366). Spec reset 0. -/
  detail : Word := 0
  /-- Ownership ends when the command in progress completes (R363). -/
  ending : Bool := false
  /-- Rung and not yet with the lead core, as before start-up step 3 completes (R477): the command's sender. -/
  waiting : Option Origin := none
  deriving DecidableEq, Repr

/-- What a command in progress waits for. -/
inductive WaitFor where
  /-- LANE_EYE: the offset sampler (R286). -/
  | eye (lane symbolsLog2 : Nat)
  /-- LANE_SPARE with ACTION 2, until SPARE_RELEASE of the lane is sent (R282). -/
  | spareRelease (lane : Nat)
  /-- TIME_SET with AT_PPS: the edge (R320). -/
  | pps (sec : Nat)
  /-- FW_STAGE BEGIN or WRITE: the NOR operations (R452, R448). -/
  | nor
  /-- POWER_STATE DORMANT with SCOPE crate: the sleep agreement (R486). -/
  | sleep
  /-- A journalled command: JOURNAL_ACK of this entry (R339). -/
  | journal (seq : Nat)
  /-- TWIN_SWITCH: SWITCH_ACK (R350). -/
  | switchAck
  deriving DecidableEq, Repr

/-- A command in progress (R364 BUSY): its origin, opcode, arguments, what it waits for, and the answer it will give. -/
structure Running where
  origin : Origin := {}
  opcode : Nat := 0
  args : List Byte := []
  waits : WaitFor := .nor
  status : Status := .ok
  detail : Nat := 0
  reply : List Byte := []
  deriving DecidableEq, Repr

/-- A completion entry (R365). -/
structure Completion where
  mailbox : Nat := 0
  status : Nat := 0
  tag : Half := 0
  opcode : Half := 0
  replyLen : Nat := 0
  detail : Word := 0
  seq : Word := 0
  deriving DecidableEq, Repr

/-- An event entry (R383). -/
structure EventEntry where
  code : Nat := 0
  flags : Nat := 0
  die : Nat := 0
  seq : Word := 0
  time : Nat := 0
  detail : List Byte := []
  deriving DecidableEq, Repr

/-- A completion queue of 16 entries (R380, R385). -/
structure CompletionQueue where
  /-- CQ_ENTRIES (R385). Spec reset: undefined. -/
  slots : List Completion := List.replicate 16 {}
  /-- CQ_PROD, counts modulo 32 (R380). Spec reset 0. -/
  prod : Nat := 0
  /-- CQ_CONS, counts modulo 32 (R380). Spec reset 0. -/
  cons : Nat := 0
  deriving DecidableEq, Repr

/-- The mailboxes and what hangs on them. -/
structure Mail where
  /-- The 16 mailboxes (R359, R362). -/
  boxes : List Mailbox := List.replicate 16 {}
  /-- Commands in progress that wait for something (R364). -/
  running : List Running := []
  /-- Completions held because their queue is full, oldest first, with their queue (R384). -/
  held : List (Nat × Completion) := []
  /-- Completion queues 0 to 3 (R385). -/
  queues : List CompletionQueue := List.replicate 4 {}
  /-- COMPLETION_SEQ of the next completion (R365). Spec reset 0. -/
  nextSeq : Word := 0
  deriving DecidableEq, Repr

/-- The configuration lease and the staging (R374 to R378). -/
structure Lease where
  /-- Holder: Ethernet or not, and OWNER_ID (R360, R375). Spec reset: none. -/
  owner : Option (Bool × Nat) := none
  /-- Source address of an Ethernet holder (R378). -/
  address : BitVec 128 := 0
  /-- LEASE_LEFT_MS (R360). Spec reset 0. -/
  leftMs : Nat := 0
  /-- The full length of the lease, to which it is renewed (R375). -/
  fullMs : Nat := 0
  /-- The staging, oldest first (R376). -/
  staged : List Staged := []
  /-- The holder came with a state copy and must present itself again (R378). -/
  inherited : Bool := false
  deriving DecidableEq, Repr

/-- The event queue (R380 to R385). -/
structure EventQueue where
  /-- EQ_ENTRIES: 1,024 entries (R385). Spec reset: undefined. -/
  slots : List EventEntry := List.replicate 1024 {}
  /-- EQ_PROD, counts modulo 2,048 (R380). Spec reset 0. -/
  prod : Nat := 0
  /-- EQ_CONS, counts modulo 2,048 (R380). Spec reset 0. -/
  cons : Nat := 0
  /-- EQ_LOST, saturates at 0xFFFF_FFFF (R382). Spec reset 0. -/
  lost : Nat := 0
  /-- EQ_DROPPED, RC (R382, R385). Spec reset 0. -/
  dropped : Nat := 0
  /-- IRQ_THRESH (R385). Spec reset 1. -/
  irqThresh : Nat := 1
  /-- MIN_SEVERITY (R385). Spec reset 0. -/
  minSeverity : Nat := 0
  /-- IRQ_DELAY_US (R385). Spec reset 0. -/
  irqDelayUs : Nat := 0
  /-- The queue has stayed non-empty for IRQ_DELAY_US (R391). -/
  delayed : Bool := false
  /-- EVENT_SEQ of the next event (R383). Spec reset 0. -/
  nextSeq : Word := 0
  deriving DecidableEq, Repr

/-- The interrupt page (R390). -/
structure Interrupts where
  /-- INT_CAUSE (R390). Spec reset 0. -/
  cause : Half := 0
  /-- INT_MASK (R390). Spec reset 0xFFFF. -/
  mask : Half := 0xFFFF
  /-- INT_MAP0 to INT_MAP3, one byte per cause (R390). Spec reset: cause i on vector i. -/
  maps : List Word := [0x03020100, 0x07060504, 0x0B0A0908, 0x0F0E0D0C]
  /-- MSI-X table, 128 words: of each entry, Message Address, Message Upper Address, Message Data and Vector Control (R390). The spec gives the layout of the PCI Express
  Base Specification and no reset value; that specification resets Vector Control with its mask bit set (log 137 [PRESUMED]). -/
  table : List Word := (List.replicate 32 [0, 0, 0, 1]).flatten
  /-- Pending-bit array (R390). -/
  pending : Word := 0
  deriving DecidableEq, Repr

/-- One DMA channel (R386). -/
structure DmaChannel where
  /-- SRC_HI:SRC_LO (R386). Spec reset 0. -/
  src : Dword := 0
  /-- DST_HI:DST_LO (R386). Spec reset 0. -/
  dst : Dword := 0
  /-- COUNT (R386). Spec reset 0. -/
  count : Word := 0
  /-- FILL_HI:FILL_LO (R386). Spec reset 0. -/
  fill : Dword := 0
  /-- Bits [5:0] of 0x20: MODE, SRC_FIXED, DST_FIXED, BARRIER, IRQ_EN (R386). Spec reset 0. -/
  mode : BitVec 6 := 0
  /-- BUSY (R386). Spec reset 0. -/
  busy : Bool := false
  /-- DONE, W1C (R386). Spec reset 0. -/
  done : Bool := false
  /-- ERROR, W1C (R386). Spec reset 0. -/
  error : Bool := false
  /-- MISMATCH, W1C (R386). Spec reset 0. -/
  mismatch : Bool := false
  /-- START_IGNORED, W1C (R386). Spec reset 0. -/
  startIgnored : Bool := false
  /-- ERR_CODE (R386). Spec reset 0. -/
  errCode : Nat := 0
  /-- MISMATCH_OFFSET (R386). Spec reset 0. -/
  mismatchOffset : Word := 0
  /-- Writes to package memory issued without BARRIER and not yet in memory: address and bytes, oldest first (R388). Log 164 [DESIGN CHOICE]. Spec reset none. -/
  late : List (Nat × List Byte) := []
  /-- The transfer's accesses wait behind a real-time port in panic: the host's bytes, the bus master's enable and what they meet (R407). Spec reset none. -/
  waits : Option (List Byte × Bool × EccSeen) := none
  deriving DecidableEq, Repr

/-- An Ethernet mailbox session (R368). -/
structure Session where
  number : Nat := 0
  mailbox : Nat := 0
  address : BitVec 128 := 0
  port : Nat := 0
  events : Bool := false
  lastSeq : Word := 0
  /-- Milliseconds since a datagram of the session arrived (R368). -/
  quietMs : Nat := 0
  /-- The last REQUEST still runs (R368). -/
  busy : Bool := false
  /-- The cached REPLY datagram, sent again on a repeated SEQ (R368). -/
  cached : Option (List Byte) := none
  deriving DecidableEq, Repr

/-- The management port (R367 to R369). Network settings are kept in the configuration area of the NOR store (R399). -/
structure MgmtPort where
  /-- ADDR4 (R369). -/
  addr4 : Word := 0
  /-- PREFIX4 (R369). -/
  prefix4 : Nat := 0
  /-- PREFIX6 (R369). -/
  prefix6 : Nat := 0
  /-- MB_UDP_PORT in force (R369). -/
  udpPort : Nat := 47120
  /-- GATEWAY4 (R369). -/
  gateway4 : Word := 0
  /-- ADDR6 (R369). -/
  addr6 : BitVec 128 := 0
  /-- GATEWAY6 (R369). -/
  gateway6 : BitVec 128 := 0
  /-- ALLOW (R369). -/
  allow : BitVec 128 := 0
  /-- ALLOW_LEN (R369). -/
  allowLen : Nat := 0
  /-- SYSLOG_PORT in force (R369). -/
  syslogPort : Nat := 514
  /-- SYSLOG_ADDR (R369). -/
  syslogAddr : BitVec 128 := 0
  /-- Open sessions, at most 8 (R368). -/
  sessions : List Session := []
  /-- The last session number given out (R368). -/
  lastSession : Nat := 0
  deriving DecidableEq, Repr

/-- The register bits that no other group holds (R360, R361, R392). -/
structure HostRegs where
  /-- GLOBAL_ERR, W1C, bits [4:0] (R360). Spec reset 0. -/
  globalErr : BitVec 5 := 0
  /-- DEFAULT_ADDR (R360). Spec reset 0. -/
  defaultAddr : BitVec 40 := 0
  /-- ALIVE (R360). Spec reset 0. -/
  alive : Word := 0
  /-- WIN_SEL (R361). Spec reset 0. -/
  winSel : BitVec 4 := 0
  /-- The SMBus pointer (R392). -/
  smbusPointer : Half := 0
  deriving DecidableEq, Repr

end Sys2Proof.Machine
end

