-- ==== Sys2Proof/Machine/StateLanes.lean ====
section
/-! DEFINITION. State of haul lanes and twin-link lanes (chapter 8). Field defaults are the values at reset. -/

namespace Sys2Proof.Machine

/-- Lane roles of R34, R35, R280. -/
inductive LaneRole where
  | off | grist | haul | ethernet
  deriving DecidableEq, Repr

/-- The receiver's states of R256; CANDIDATE holds its count of passes. -/
inductive LockState where
  | search
  | candidate (passes : Nat)
  | locked
  deriving DecidableEq, Repr

/-- Test modes of R276, R285. -/
inductive TestMode where
  | service | prbs13 | prbs31
  deriving DecidableEq, Repr

/-- Lane configuration as LANE_CONFIG sets it (R280): the role takes effect at the next tick boundary (R37). -/
structure LaneCfg where
  role : LaneRole := .off
  spareAuto : Bool := false
  /-- SPARE_CW_THRESH as written; 0 is the default of 9 (R280). -/
  threshold : Nat := 0
  deriving DecidableEq, Repr

/-- The spare peer entry of a die (R281). -/
structure SparePeerCfg where
  peer : Half := 0
  peerSpare : Nat := 0
  returnLane : Nat := 0xFF
  deriving DecidableEq, Repr

/-- One RX lane receiver (R256 to R261, R264 to R266, R284, R285). -/
structure RxLane where
  /-- Role in force (R34, R37). Spec reset OFF. -/
  role : LaneRole := .off
  lock : LockState := .search
  /-- LANE of the last comma (R284). -/
  remoteLane : Nat := 0
  /-- PHASE of the last comma (R255). -/
  phase : Nat := 0
  /-- Consecutive missing commas (R257). -/
  missRun : Nat := 0
  /-- Delivery has begun since lock (R257). -/
  delivering : Bool := false
  /-- Arrival of the last present comma, in picoseconds of any time base common to the lanes (R260). -/
  arrivalPs : Nat := 0
  /-- SKEW_PS (R284). -/
  skewPs : Int := 0
  /-- The lane's delay through deskew, 0 to 128 ns, in picoseconds (R260). -/
  deskewPs : Nat := 0
  /-- LANE_SKEW raised since lock (R261). -/
  skewRaised : Bool := false
  /-- REMOTE_VERSION: lowest, highest (R268, R284). -/
  versionLo : Nat := 0
  versionHi : Nat := 0
  /-- HAUL_VERSION_MISMATCH raised since lock (R264). -/
  versionRaised : Bool := false
  /-- SOURCE, CLAIM and SEQ of the last frame that passed checks 1 to 6 (R266). -/
  last : Option (Half × Word × Word) := none
  /-- Block number within the period of the next block (R252), the scrambler (R253) and the two H-bit fields gathered. -/
  block : Nat := 0
  scrambler : BitVec 31 := 0
  boundaryField : Half := 0
  complementField : Half := 0
  /-- H bits gathered of the two fields since the last comparison (R252, R259). -/
  fieldBlocks : Nat := 0
  /-- The receiver's walk: bytes left of the frame in hand, header bytes gathered, and waiting for the next FIRST_BOUNDARY after a framing
  error (R258, R259). -/
  walkLeft : Nat := 0
  walkHeader : List Byte := []
  walkHeld : Bool := true
  /-- Bytes to pass before FIRST_BOUNDARY, from which the walk goes on (R257, R259). -/
  walkSkip : Nat := 0
  /-- The frame in hand overlaps a codeword that the FEC could not correct (R259). -/
  walkBad : Bool := false
  /-- Frames that the walk has taken whole and whose receipt has not yet come as a row, oldest first: true for one to be discarded (R259, log 141 [DESIGN CHOICE]). -/
  frames : List Bool := []
  /-- Bytes of the present period that the walk has not yet taken, before FIRST_BOUNDARY is compared, each with whether its codeword was beyond the FEC;
  and whether the comparison is done (R259). -/
  walkBuf : List (Byte × Bool) := []
  walkChecked : Bool := false
  /-- FIRST_BOUNDARY of the last two periods compared since lock, newest first, to confirm a spare (R272). -/
  boundaries : List Nat := []
  /-- A codeword at or above the threshold, or uncorrectable, in this tick and in the last (R270). -/
  badNow : Bool := false
  badLast : Bool := false
  /-- Carried by its spare (R284 STATE 5). -/
  carried : Bool := false
  /-- In a kiln pass, or failed (R428, R429). -/
  inPass : Bool := false
  failed : Bool := false
  /-- A kiln pass took the lane out of lock, and its next lock is not reported (R431). -/
  quiet : Bool := false
  /-- Lane test (R276, R285). -/
  test : TestMode := .service
  /-- The checker's register, the bits it has taken or seen agree while it searches, and its lock (R276, log 142 [DESIGN CHOICE]). -/
  checker : BitVec 31 := 0
  checkerRun : Nat := 0
  checkerLocked : Bool := false
  bits : Nat := 0
  bitErrors : Nat := 0
  symbolErrors : Nat := 0
  /-- FRAMES_OK, RC 64 (R284). -/
  framesOk : Nat := 0
  /-- FEC_CORRECTED, RC 64 (R284). -/
  fecCorrected : Nat := 0
  /-- FEC_UNCORRECTED, RC 32 (R284). -/
  fecUncorrected : Nat := 0
  /-- CRC_ERRORS, RC 32 (R264, R284). -/
  crcErrors : Nat := 0
  /-- VERSION_DROPS, RC 32 (R264, R284). -/
  versionDrops : Nat := 0
  /-- ROLE_MISMATCH, RC 32 (R34, R264, R284). -/
  roleMismatch : Nat := 0
  /-- HEADER_MALFORMED, RC 32 (R264, R268, R284). -/
  headerMalformed : Nat := 0
  /-- CLAIM_STALE, RC 32 (R265, R284). -/
  claimStale : Nat := 0
  /-- SEQ_GAPS, RC 32 (R266, R284). -/
  seqGaps : Nat := 0
  /-- FRAMING_SLIPS, RC 32 (R258, R284). -/
  framingSlips : Nat := 0
  /-- COMMA_MISSED, RC 32 (R257, R284). -/
  commaMissed : Nat := 0
  /-- COMMA_BAD, RC 32 (R257, R284). -/
  commaBad : Nat := 0
  /-- LOCK_LOSSES, RC 32 (R257, R284). -/
  lockLosses : Nat := 0
  deriving DecidableEq, Repr

/-- The line stream of a transmitter below its frames (R251 to R258). -/
structure LineTx where
  /-- Frames that wait with their types, oldest first, and the bytes left of the one on the line (R258). -/
  queue : List (Nat × Frame) := []
  sending : List Byte := []
  /-- Bytes of the block being filled (R251 step 1), and the part of a byte by which the twin link's rate exceeds whole bytes, in 33rds (R279). -/
  part : List Byte := []
  fraction : Nat := 0
  /-- Number of the next block within the period (R252), and PHASE of the period (R254). -/
  block : Nat := 0
  phase : Nat := 0
  /-- FIRST_BOUNDARY of the period (R252). -/
  boundary : Half := 0
  scrambler : BitVec 31 := 0
  /-- Scrambled blocks of the codeword in hand (R251 step 4). -/
  blocks : List (BitVec 257) := []
  /-- The comma that falls into the codeword in hand: blocks before it, and its PHASE (R251 step 5). -/
  comma : Option (Nat × Nat) := none
  deriving DecidableEq, Repr

/-- Error injection in progress (R277): bits before the next flip, flips left in the run (0 for none), and the spacing of RATE (0 for a run). -/
structure Injection where
  skip : Nat := 0
  left : Nat := 0
  every : Nat := 0
  deriving DecidableEq, Repr

/-- One TX lane transmitter (R35, R251, R266, R276, R277). -/
structure TxLane where
  /-- Role in force (R35, R37). Spec reset OFF. -/
  role : LaneRole := .off
  failed : Bool := false
  inPass : Bool := false
  /-- SEQ of the next frame (R266). -/
  seq : Word := 0
  test : TestMode := .service
  /-- Injection: 0 none, 1 SINGLE, 2 BURST, 3 RATE, with BURST_LEN and RATE_LOG2 (R277, R285). -/
  inject : Nat := 0
  burstLen : Nat := 0
  rateLog2 : Nat := 0
  injection : Injection := {}
  /-- Register of the pattern generator, and its progress in blocks of the period and bytes of a block (R276). -/
  generator : BitVec 31 := 0
  testBlock : Nat := 0
  testBytes : Nat := 0
  /-- The line stream (R251). -/
  line : LineTx := {}
  deriving DecidableEq, Repr

/-- Steps of the receiver's sparing of a lane (R272, R273). -/
inductive SpareStep where
  | idle
  /-- SPARE_REQUEST sent; `answered` once SPARE_DUPLICATING has arrived. -/
  | requested (answered : Bool)
  | confirmed
  /-- The boundary has passed: the switch follows at the next comma. -/
  | switching
  | carrying
  /-- The lane is to return at the next tick boundary and comma. -/
  | returning
  /-- SPARE_RELEASE sent. -/
  | released
  deriving DecidableEq, Repr

/-- Sparing at the receiver, per die (R272). -/
structure SpareRx where
  step : SpareStep := .idle
  lane : Nat := 0
  txLane : Nat := 0
  txSpare : Nat := 0
  transaction : Word := 0
  /-- REASON: 1 errors, 2 kiln pass, 3 command (R268). -/
  reason : Nat := 0
  /-- A release was asked for (R273, R282). -/
  releaseAsked : Bool := false
  /-- The boundary at or after which the lane switches (R272). -/
  atTick : Nat := 0
  /-- The lane lost lock while its spare carried it (R273, R274). -/
  lost : Bool := false
  /-- Requests sent while the spare was in use, not yet answered: lane, TX_LANE, TRANSACTION (R270, R274). -/
  extra : List (Nat × Nat × Word) := []
  deriving DecidableEq, Repr

/-- Sparing at the sender, per die (R272 to R274). -/
structure SpareTx where
  /-- The TX lane being copied, if any. -/
  lane : Option Nat := none
  /-- The copy runs (from the comma boundary). -/
  copying : Bool := false
  /-- The spare's line stream has begun, at a comma (R272 step 2). -/
  lineOn : Bool := false
  /-- The copy is to stop at the next comma boundary. -/
  stopping : Bool := false
  /-- Requesters that hold the copy: SOURCE and TRANSACTION (R274). -/
  holders : List (Half × Word) := []
  /-- Requests to be answered with SPARE_DUPLICATING: SOURCE, TRANSACTION, RX lane, RX spare, arrival lane (255 out of band). -/
  toAnswer : List (Half × Word × Nat × Nat × Nat) := []
  /-- Releases to be answered with SPARE_STOPPED when the copy stops (R273, R274). -/
  toStop : List (Half × Word × Nat × Nat × Nat) := []
  /-- SPARE_SWITCHED has arrived: the copy is confirmed (R274). -/
  confirmed : Bool := false
  /-- SPARE_SWITCHED has arrived: the kiln window of the TX lane is open (R430). -/
  window : Bool := false
  /-- The pass of this copy was taken (R430). -/
  passed : Bool := false
  deriving DecidableEq, Repr

/-- Every lane of the package. -/
structure Lanes where
  /-- RX lanes 0 to 135 (R3). -/
  rx : List RxLane := List.replicate 136 {}
  /-- TX lanes 0 to 135 (R3). -/
  tx : List TxLane := List.replicate 136 {}
  /-- Twin-link RX lanes 0 to 3 (R279). -/
  twinRx : List RxLane := List.replicate 4 {}
  /-- Twin-link TX lanes 0 to 3 (R279). -/
  twinTx : List TxLane := List.replicate 4 {}
  /-- The claim table: 1,024 entries of 32 bits (R265). Cleared at reset and by TICK_CONFIG. -/
  claims : List Nat := List.replicate 1024 0
  spareRx : List SpareRx := List.replicate 8 {}
  spareTx : List SpareTx := List.replicate 8 {}
  /-- TRANSACTION of the next request (R267). -/
  nextTransaction : Word := 0
  deriving DecidableEq, Repr

end Sys2Proof.Machine
end

