-- ==== Sys2Proof/Machine/StatePipes.lean ====
section
/-! DEFINITION. State of the data path: pipe configuration and everything a pipe holds (chapters 1 to 7). Field defaults are the values at reset or
at the creation of the pipe. -/

namespace Sys2Proof.Machine

/-- TICK_CONFIG in force (R52). -/
structure TickCfg where
  epochSec : Nat := 0
  epochNs : Nat := 0
  /-- TICK_NUM / TICK_DEN: the tick length in seconds (R52). -/
  num : Nat := 1
  den : Nat := 1
  /-- Q, nanoseconds (R52, R53). -/
  closeNs : Nat := 0
  /-- G, nanoseconds (R52, R54). -/
  guardNs : Nat := 0
  deriving DecidableEq, Repr

/-- The INGEST block (R113, R144). -/
structure IngestCfg where
  format : Nat := 1
  spallWindow : Nat := 1
  spallRank : Nat := 0
  spallMode : Nat := 0
  spallThresh : Nat := 0
  spallMult : Nat := 0
  spallFloor : Nat := 0
  offsetLog2 : Nat := 0
  offsetClipMax : Nat := 0
  hbStages : Nat := 0
  realPair : Bool := false
  spallClearsTaint : Bool := false
  delayEnable : Bool := false
  inputCount : Nat := 1
  rateNum : Nat := 1
  rateDen : Nat := 1
  gristHoldNs : Nat := 1000
  delayMax : Nat := 0
  chanLog2 : Nat := 0
  windowSel : Nat := 0
  reqMode : Nat := 1
  fringeEnable : Bool := false
  fracDelayEnable : Bool := false
  spectrumInvert : Bool := false
  alcEnable : Bool := false
  loRatio : Int := 0
  alcTarget : Nat := 0
  alcPeriod : Nat := 1
  chFirst : Nat := 0
  chCount : Nat := 1
  sysChannelBase : Nat := 0
  channelsPerFrame : Nat := 1
  samplesPerFrame : Nat := 1
  gainInit : Word := 0
  tLog2 : Nat := 10
  m : Nat := 1
  deriving DecidableEq, Repr

/-- A block job: column group a, row group b (R28, R183). -/
structure Job where
  col : Nat := 0
  row : Nat := 0
  deriving DecidableEq, Repr

/-- The CORR block (R183). -/
structure CorrCfg where
  sampleMode : Nat := 1
  deepTun : Bool := false
  protect : Bool := false
  pinTiles : Bool := false
  tLog2 : Nat := 10
  splitD : Nat := 1
  m : Nat := 1
  k : Nat := 1
  sink : Nat := 0
  chFirst : Nat := 0
  chCount : Nat := 1
  dieCh : List Nat := []
  groupSize : List Nat := []
  jobs : List Job := []
  deriving DecidableEq, Repr

/-- The BEAM block (R215). -/
structure BeamCfg where
  sampleMode : Nat := 1
  partialPipe : Bool := false
  voltage : Bool := false
  detected : Bool := false
  tLog2 : Nat := 10
  source : Nat := 0
  m : Nat := 1
  k : Nat := 1
  sink : Nat := 0
  chFirst : Nat := 0
  chCount : Nat := 1
  dieCh : List Nat := []
  splitD : Nat := 1
  voltMode : Nat := 0
  voltShift : Nat := 0
  detShift : Nat := 0
  detLog2 : Nat := 0
  detPost : Nat := 0
  beams : Nat := 1
  inputCount : Nat := 1
  sourceHandle : Nat := 0
  ownerPosition : Nat := 0
  ownerPipe : Nat := 0
  frameSamplesLog2 : Nat := 0
  frameBeamsLog2 : Nat := 0
  laneCount : Nat := 0
  laneFirst : Nat := 0
  contribCount : Nat := 0
  deriving DecidableEq, Repr

/-- The SINK block (R243). -/
structure SinkCfg where
  ipVersion : Nat := 4
  vlanEn : Bool := false
  missPlanes : Bool := false
  rowsLog2 : Nat := 0
  trafficClass : Nat := 0
  vlanTci : Half := 0
  hopLimit : Nat := 1
  srcMacA : List Byte := []
  srcMacB : List Byte := []
  udpSrcPort : Nat := 1
  srcIp : List Byte := []
  flowLabel : Nat := 0
  voltSamplesLog2 : Nat := 0
  voltBeamsLog2 : Nat := 0
  detRunsLog2 : Nat := 0
  detBeamsLog2 : Nat := 0
  deriving DecidableEq, Repr

/-- The kind block of a pipe (R370, R373). -/
inductive PipeCfg where
  | none
  | ingest (c : IngestCfg)
  | corr (c : CorrCfg)
  | beam (c : BeamCfg)
  | sink (c : SinkCfg)
  deriving DecidableEq, Repr

/-- The states of a table entry (R372). -/
inductive PipeState where
  | free | staged | pending | running | draining
  deriving DecidableEq, Repr

/-- An entry of INGEST_INPUTS (R114). -/
structure InputEntry where
  input : Nat := 0
  die : Nat := 0
  lane : Nat := 0
  offsetInit : Int := 0
  deriving DecidableEq, Repr

/-- An entry of TURN_DEST_SET (R145). -/
structure TurnDest where
  first : Nat := 0
  count : Nat := 0
  position : Nat := 0
  pipe : Nat := 0
  laneFirst : Nat := 0
  laneCount : Nat := 0
  deriving DecidableEq, Repr

/-- An entry of BEAM_INPUTS (R217). -/
structure BeamInput where
  index : Nat := 0
  input : Nat := 0
  deriving DecidableEq, Repr

/-- An entry of BEAM_CONTRIB (R218). -/
structure Contributor where
  position : Nat := 0
  die : Nat := 0
  inputs : Nat := 0
  deriving DecidableEq, Repr

/-- An entry of SINK_DEST (R244). -/
structure SinkDest where
  port : Nat := 0
  pace : Nat := 0
  dstMac : List Byte := []
  udpPort : Nat := 1
  dstIp : List Byte := []
  deriving DecidableEq, Repr

/-- Kinds of HBM area, in the order of R400. -/
inductive AreaKind where
  | turn | tun0 | tun1 | partialArea | weights | detected | delay
  deriving DecidableEq, Repr

/-- An area of a pipe in a stack: first granule and length in 2 MiB granules (R400). -/
structure Area where
  die : Nat := 0
  kind : AreaKind := .turn
  first : Nat := 0
  granules : Nat := 0
  deriving DecidableEq, Repr

/-- A change of a pipe that waits for its tick (R57, R58, R373). -/
structure PipeChange where
  tick : Nat := 0
  cfg : PipeCfg := .none
  inputs : List InputEntry := []
  beamInputs : List BeamInput := []
  contribs : List Contributor := []
  /-- Areas whose size the change alters, as placed at its commit; a kind that ends has no granules (R400). -/
  areas : List Area := []
  /-- The change that the latest PIPE_MODIFY of the pipe made: a list that follows it belongs to it (R114). -/
  latest : Bool := false
  deriving DecidableEq, Repr

/-- One entry of the pipe table (R370 to R372) with its configuration. -/
structure PipeEntry where
  state : PipeState := .free
  /-- GENERATION, 1 to 4,095 (R370, R371). Spec reset: (BOOT_COUNT mod 4,095) + 1. -/
  gen : Nat := 1
  cfg : PipeCfg := .none
  /-- START_TICK (R51); after a change of K, the boundary at which the change took effect (log 25 [DEDUCED]). -/
  startTick : Nat := 0
  /-- START_TICK itself, once a change of K has taken its place: the pipe has worked since then (R57, log 25 [DEDUCED]). -/
  began : Option Nat := none
  /-- Bank of the first integration counted from there, so that banks alternate over a change of K (R170, log 25 [DEDUCED]). -/
  bankOff : Nat := 0
  /-- The tick a destroy names (R373). -/
  endTick : Nat := 0
  /-- Changes committed and not yet in effect (R57). -/
  changes : List PipeChange := []
  inputs : List InputEntry := []
  /-- Turn destination table in force and those that wait for their tick (R145). -/
  dests : List TurnDest := []
  nextDests : List (Nat × List TurnDest) := []
  beamInputs : List BeamInput := []
  contribs : List Contributor := []
  sinkDests : List SinkDest := []
  areas : List Area := []
  deriving DecidableEq, Repr

/-- A raw or working sample with its index and taint (R78, R94, R102). -/
structure Sample where
  index : Int := 0
  re : Int := 0
  im : Int := 0
  tainted : Bool := false
  /-- Format 0x5: the channel values of the sample that have arrived, by channel (R82). -/
  chans : List (Nat × Int × Int) := []
  deriving DecidableEq, Repr

/-- A delay polynomial of one tick (R120, R123). -/
structure DelayPoly where
  tick : Nat := 0
  c0 : Int := 0
  c1 : Int := 0
  c2 : Int := 0
  c3 : Int := 0
  deriving DecidableEq, Repr

/-- An output of the requantiser with its marks (R134, R135, R139). -/
structure OutSample where
  index : Nat := 0
  /-- Values of the channels sent, CH_FIRST first. -/
  values : List (Int × Int) := []
  tainted : Bool := false
  unsettled : Bool := false
  missing : Bool := false
  deriving DecidableEq, Repr

/-- Level control and clip count of one channel of an input (R131 to R134). -/
structure GainState where
  word : Word := 0
  /-- Words that take effect at a later tick, in order of tick; the flag marks a loaded word (R132, R133). -/
  next : List (Nat × Word × Bool) := []
  /-- Ticks of the loads, the start among them, whose earlier periods give no result (R133). -/
  loads : List Nat := []
  power : Nat := 0
  n : Nat := 0
  /-- REQ_CLIP, RC 32 (R134, R148). -/
  clip : Nat := 0
  deriving DecidableEq, Repr

/-- What one run of a chain, from its start to a gap, leaves for the outputs whose delayed span lies in it (R109, R122). -/
structure ChainRun where
  /-- Grist index at which the filter state started empty (R106). -/
  start : Nat := 0
  /-- The first missing grist sample that ended the run (R109). -/
  gap : Option Nat := none
  work : List Sample := []
  taints : List Nat := []
  deriving DecidableEq, Repr

/-- What a committed change gives an input from its tick on (R86, R114). -/
structure SlotMove where
  tick : Nat := 0
  die : Nat := 0
  slot : Nat := 0
  offsetInit : Int := 0
  deriving DecidableEq, Repr

/-- The slot of one input in the ingest engine (R86, R87): filter history, estimates, counters, marks. -/
structure Chain where
  pipe : Nat := 0
  input : Nat := 0
  die : Nat := 0
  /-- SLOT (R86). -/
  slot : Nat := 0
  /-- The configuration under which the chain runs (R108). -/
  cfg : IngestCfg := {}
  /-- Earlier configurations that outputs still to be formed come under, each with the tick before which it held; newest first (R57, R144). -/
  prior : List (Nat × IngestCfg) := []
  /-- Slots, dies and OFFSET_INIT of committed changes that are still to come (R86, R114). -/
  moves : List SlotMove := []
  /-- START_TICK of the pipe, before which outputs are formed and not sent (R107). -/
  startTick : Nat := 0
  /-- The first grist index that the pipe takes (R107). -/
  start : Nat := 0
  /-- OFFSET_INIT of the input (R97, R114). -/
  offsetInit : Int := 0
  /-- The chain of a configuration that was changed, which completes the outputs before this index (R108). -/
  finish : Option Nat := none
  /-- Grist that arrived and is not yet processed (R83, R85). -/
  buffer : List Sample := []
  /-- GRIST frames of ticks whose configuration resets the chain, until it does (R108). -/
  ahead : List Frame := []
  /-- The grist sample index processed next (R85). -/
  next : Nat := 0
  /-- Grist index at which the filter state last started empty (R106). -/
  emptyFrom : Nat := 0
  /-- The chain has stopped at a gap (R109). -/
  stopped : Bool := false
  /-- The first missing sample of the gap at which it stopped (R109). -/
  gapAt : Option Nat := none
  /-- Runs before the present one that delayed outputs still reach, newest first (R109, R122). -/
  past : List ChainRun := []
  /-- First missing grist index of the present gap (R110), counted in `gapScale` samples per tick: a gap may outlast a change of S. -/
  gapStart : Option Nat := none
  gapScale : Nat := 1
  /-- INPUT_SILENT raised for this gap (R110). -/
  silent : Bool := false
  /-- The next channel sample, working sample or pair to be formed. -/
  nextOut : Nat := 0
  /-- Grist indices that taint outputs: clipped samples that were not cleared, and centres of limited half-band outputs (R103). -/
  taints : List Nat := []
  /-- Raw history of the spall window, newest first (R90). -/
  raw : List Sample := []
  /-- Half-band stage inputs, stage 0 first, newest first (R98, R99). -/
  stages : List (List Sample) := List.replicate 6 []
  /-- Working samples after the half-band stages, newest first: the delay buffer and the channeliser's span (R121, R124). -/
  work : List Sample := []
  /-- THETA in force, per component (R91, R92). -/
  thetaRe : Nat := 0
  thetaIm : Nat := 0
  /-- A whole spall block has been seen since the start or restart (R92). -/
  spallKnown : Bool := false
  /-- Latest adaptive estimate, per component (R92, R93). -/
  adaptRe : Nat := 0
  adaptIm : Nat := 0
  /-- Sums of |x - v| over the running block (R92). -/
  spallRe : Nat := 0
  spallIm : Nat := 0
  /-- Number of samples summed in the running spall block (R92). -/
  spallSeen : Nat := 0
  /-- MU in force, per component (R94). -/
  muRe : Int := 0
  muIm : Int := 0
  /-- A whole offset block has been summed since the start, the restart or the change of m (R97). -/
  offsetKnown : Bool := false
  /-- Sums of the running offset block, its samples and over-range samples (R94, R96). -/
  sumRe : Int := 0
  sumIm : Int := 0
  sumSeen : Nat := 0
  sumClipped : Nat := 0
  /-- The estimate is frozen (R115). -/
  frozen : Bool := false
  /-- OFFSET_FREEZE that waits for its tick: tick, action, value (R115). -/
  freezeNext : List (Nat × Nat × Int) := []
  /-- Delay polynomials, newest load first (R120, R123). -/
  polys : List DelayPoly := []
  /-- Delay clamps (R120) and ticks without a load (R123). -/
  delayClamp : Nat := 0
  delayStale : Nat := 0
  /-- Gain words and level control of the channels sent (R131, R132). -/
  gains : List GainState := []
  /-- Requantised samples not yet framed, oldest first (R141). -/
  outs : List OutSample := []
  /-- CLIP_COUNT, RC 64 (R116). -/
  clipCount : Nat := 0
  /-- SPALL_HITS, RC 64 (R116). -/
  spallHits : Nat := 0
  /-- GRIST_MISSING, RC 64 (R116). -/
  missing : Nat := 0
  /-- GRIST_LATE, RC 64 (R116). -/
  late : Nat := 0
  /-- OFFSET_HELD, RC 32 (R116). -/
  offsetHeld : Nat := 0
  /-- HB_SAT, RC 32 (R116). -/
  hbSat : Nat := 0
  /-- ALC_LIMIT of R132. -/
  alcLimit : Nat := 0
  deriving DecidableEq, Repr

/-- A sample of the turn buffer (R139, R140, R142). -/
structure TurnSample where
  pipe : Nat := 0
  /-- TICK of the sample; it stands in half TICK mod 2, from which it goes when that half takes another tick (R56). -/
  tick : Nat := 0
  input : Nat := 0
  channel : Nat := 0
  /-- Channel-sample index within the tick. -/
  index : Nat := 0
  re : Int := 0
  im : Int := 0
  tainted : Bool := false
  unsettled : Bool := false
  missing : Bool := false
  deriving DecidableEq, Repr

/-- Marks of one input and channel counted in a tun bank or beam integration (R231). -/
structure InputCount where
  pipe : Nat := 0
  bank : Nat := 0
  channel : Nat := 0
  input : Nat := 0
  tainted : Nat := 0
  unsettled : Nat := 0
  missing : Nat := 0
  deriving DecidableEq, Repr

/-- Per tile position, bank and die: the fresh bit and the flags of R171, R182; `dumps` counts what reached it; `full` says it was written to
full scale (R63). -/
structure TilePos where
  pipe : Nat := 0
  die : Nat := 0
  bank : Nat := 0
  channel : Nat := 0
  tp : Nat := 0
  fresh : Bool := true
  /-- Words that WRITE_FRESH has written since the fresh bit was set (R171, R408). Log 176 [DEDUCED]. -/
  written : List Nat := []
  replayed : Bool := false
  saturated : Bool := false
  corrupt : Bool := false
  full : Bool := false
  /-- Components (index 2 x cell, or 2 x cell + 1 for the imaginary part) that hold a bound (R172). -/
  satMarks : List Nat := []
  /-- Words of the tile position in the poison table (R178). -/
  poison : List Nat := []
  /-- Words that no repair could mend: they are delivered as stored (R179, R181). -/
  lost : List Nat := []
  /-- The miss plane, when one was taken (R232). -/
  plane : Option (List Nat) := none
  /-- A count of the plane saturated, or no plane could be taken (R232). -/
  planeInexact : Bool := false
  deriving DecidableEq, Repr

/-- A dump held for its overflow replay (R166): the wrapped components. -/
structure HeldDump where
  ref : DumpRef := {}
  values : List (Int × Int) := []
  deriving DecidableEq, Repr

/-- A queued replay (R62): `fault` for a checksum-fault replay, else an overflow replay. `strip` for a beam strip (R195). -/
structure Replay where
  fault : Bool := true
  ref : DumpRef := {}
  strip : Option StripRef := none
  deriving DecidableEq, Repr

/-- What the scheduler deals to a tile: a tile position for one mash (R158), or a beam strip (R193). The references name no tile. -/
inductive WorkItem where
  | dump (d : DumpRef)
  | strip (d : StripRef)
  deriving DecidableEq, Repr

/-- A logical tile in work: its item and, for a replay, the queue entry it came from (R158, R164). -/
structure TileWork where
  tile : Nat := 0
  item : WorkItem := .dump {}
  replay : Option Replay := none
  deriving DecidableEq, Repr

/-- A group of inputs, for one mash of one channel of a pipe, as staging holds it (R67). -/
structure StagedGroup where
  pipe : Nat := 0
  channel : Nat := 0
  mash : Nat := 0
  group : Nat := 0
  deriving DecidableEq, Repr

/-- The two column slots (R67): the one of the running job's columns, and the other, through which rows stream and columns are prefetched. -/
structure Slots where
  col : Option StagedGroup := none
  row : Option StagedGroup := none
  deriving DecidableEq, Repr

/-- A row tile: 64 inputs of a group, for one mash (R164). -/
structure RowTile where
  group : StagedGroup := {}
  row : Nat := 0
  deriving DecidableEq, Repr

/-- The work of a die: its tiles, what the present window owes and what runs (R54, R62, R158 to R164). -/
structure DieWork where
  /-- Logical tile to physical tile (R159). Spec reset: tile l on l. -/
  tileMap : List (Option Nat) := (List.range 128).map some
  /-- State of the 136 physical tiles: 0 active, 1 spare, 2 retired, 3 under test (R187). Spec reset: 128 active, 8 spare. -/
  tiles : List Nat := List.replicate 128 0 ++ List.replicate 8 1
  /-- Physical tiles found faulty in the present window (R162). -/
  faulty : List Nat := []
  /-- Replay reserve left in the present window, tile-cycles (R62, R163). -/
  reserve : Int := 0
  /-- RESERVE_LEFT base: reserve at the end of the last window, in tile-cycles (R186). -/
  reserveLast : Int := 0
  /-- Replays queued, in order of R62. -/
  replays : List Replay := []
  /-- Work of the present window not yet dealt, in the order of R158 and R193. -/
  todo : List WorkItem := []
  /-- Logical tiles in work (R158). -/
  busy : List TileWork := []
  /-- The staging SRAM's column slots (R67). -/
  slots : Slots := {}
  /-- Row tiles in the replay row buffer (R164, R411). -/
  rowTiles : List RowTile := []
  /-- Dumps of the present window that reached the tun (R64). -/
  done : List DumpRef := []
  /-- REPLAY_RESERVE_EXHAUSTED raised in the present window (R188). -/
  exhausted : Bool := false
  /-- Tile positions written under R63 or R64 in the present window. -/
  exhaustedCount : Nat := 0
  /-- BEAM_STRIP_LOST raised in the present window (R221). -/
  stripLost : Bool := false
  /-- TILE_FAULTS, RC 32 (R186). -/
  tileFaults : Nat := 0
  /-- GRIST_MALFORMED and GRIST_UNKNOWN of the die, RC 32 (R83, R116). -/
  gristMalformed : Nat := 0
  gristUnknown : Nat := 0
  /-- TURN_MALFORMED, TURN_UNKNOWN, TURN_DUPLICATE, TURN_LATE, TURN_EARLY (R56, R142). -/
  turnMalformed : Nat := 0
  turnUnknown : Nat := 0
  turnDuplicate : Nat := 0
  turnLate : Nat := 0
  turnEarly : Nat := 0
  deriving DecidableEq, Repr

/-- Counters of a CORR pipe on a die (R186). -/
structure CorrCount where
  pipe : Nat := 0
  die : Nat := 0
  ovfReplays : Nat := 0
  faultReplays : Nat := 0
  reserveShort : Nat := 0
  tunSatPos : Nat := 0
  tunPoisoned : Nat := 0
  tunRepaired : Nat := 0
  tunCorrupt : Nat := 0
  replayRefetch : Nat := 0
  deriving DecidableEq, Repr

/-- A tun repair that waits for its reply (R179): the word, by transaction. -/
structure Repair where
  transaction : Word := 0
  pipe : Nat := 0
  die : Nat := 0
  bank : Nat := 0
  channel : Nat := 0
  tp : Nat := 0
  word : Nat := 0
  /-- A word of a time-split partial, read for the merge into the bank of this owning die (R176, R179). -/
  owner : Option Nat := none
  deriving DecidableEq, Repr

/-- One weight: set index `index` of beam `beam` in channel `channel` (counted from SYS_CH_FIRST) (R199, R201). -/
structure Weight where
  pipe : Nat := 0
  channel : Nat := 0
  beam : Nat := 0
  index : Nat := 0
  startRe : Int := 0
  startIm : Int := 0
  re : Int := 0
  im : Int := 0
  deriving DecidableEq, Repr

/-- A WEIGHT_LOAD that waits for its tick (R200). -/
structure WeightLoad where
  tick : Nat := 0
  version : Nat := 0
  rampTicks : Nat := 1
  targets : List Weight := []
  deriving DecidableEq, Repr

/-- A grid cell of a slot that an add has reached (R197, R203): a cell that is not listed is fresh. Values run sample by sample, beams ascending. -/
structure BeamCell where
  pipe : Nat := 0
  die : Nat := 0
  slot : Nat := 0
  channel : Nat := 0
  mash : Nat := 0
  cell : Nat := 0
  values : List (Int × Int) := []
  /-- Components (2 x value, or 2 x value + 1 for the imaginary part) that hold a bound (R197, R172). -/
  marks : List Nat := []
  deriving DecidableEq, Repr

/-- A contributor's progress on one beam mash (R203, R204, R208): the grid cells received and its count frame. The own strips of a die use position 1,024
and list strips, block x 2^16 + strip, those not replayed in `lost`. -/
structure ContribMash where
  pipe : Nat := 0
  position : Nat := 0
  die : Nat := 0
  slot : Nat := 0
  channel : Nat := 0
  mash : Nat := 0
  cells : List Nat := []
  lost : List Nat := []
  /-- Cells whose bit stood in an unreadable word of the bitmaps (R412). -/
  spoilt : List Nat := []
  counted : Bool := false
  tainted : Nat := 0
  unsettled : Nat := 0
  missing : Nat := 0
  version : Nat := 0
  deriving DecidableEq, Repr

/-- A finished beam mash (R211 to R213). -/
structure BeamMash where
  pipe : Nat := 0
  die : Nat := 0
  tick : Nat := 0
  channel : Nat := 0
  mash : Nat := 0
  tainted : Nat := 0
  unsettled : Nat := 0
  missing : Nat := 0
  contribMissing : Nat := 0
  cellsMissing : Nat := 0
  version : Nat := 0
  weightMixed : Bool := false
  saturated : Bool := false
  /-- VOLT_CLIP and DET_CLIP per beam. -/
  voltClip : List Nat := []
  detClip : List Nat := []
  /-- Voltage samples, sample-major (R211). -/
  volts : List (Int × Int) := []
  /-- Detected values, run-major (R212). -/
  dets : List Nat := []
  deriving DecidableEq, Repr

/-- What a BEAM pipe holds beside its weights and sums. -/
structure BeamWork where
  pipe : Nat := 0
  /-- VERSION and the tick from which it is in force, newest first; 0 before the first (R201). -/
  versions : List (Nat × Nat) := []
  /-- Tick and length of the running ramp (R201). -/
  rampTick : Nat := 0
  rampTicks : Nat := 0
  /-- At most one load tick is pending (R200). -/
  pending : Option WeightLoad := none
  /-- First ticks of the integrations for which WEIGHT_MIXED was raised, newest first (R210). -/
  mixedIn : List Nat := []
  /-- Contributors incomplete at the last finished mash (R209). -/
  missingRun : List (Nat × Nat) := []
  /-- WEIGHT_RAMP_DONE was raised for the running ramp (R221). -/
  rampDone : Bool := true
  deriving DecidableEq, Repr

/-- Counters of a BEAM pipe on a die (R220). -/
structure BeamCount where
  pipe : Nat := 0
  die : Nat := 0
  rx : Nat := 0
  tx : Nat := 0
  malformed : Nat := 0
  unknown : Nat := 0
  duplicate : Nat := 0
  late : Nat := 0
  early : Nat := 0
  contribMissing : Nat := 0
  stripFaults : Nat := 0
  stripsLost : Nat := 0
  voltClip : Nat := 0
  detClip : Nat := 0
  weightMixed : Nat := 0
  deriving DecidableEq, Repr

/-- A record that a reader has begun: its port, its FLAGS, and of each datagram still to go the detail and the data (R224, R229). -/
structure OpenRecord where
  port : SinkDest := {}
  flags : Nat := 0
  parts : List (List Byte × List Byte) := []
  deriving DecidableEq, Repr

/-- A die's reader of an open scope (R222, R223): its next record (index in the scope), fragment, and records sent whole or lost. -/
structure Reader where
  die : Nat := 0
  next : Nat := 0
  fragment : Nat := 0
  /-- The record begun, read whole at its first datagram. -/
  record : Option OpenRecord := none
  /-- The next datagram could not be read from the sparge egress buffer (R412). -/
  spoiled : Bool := false
  /-- The record's MISS_PLANE is next (R223). -/
  plane : Bool := false
  done : Bool := false
  deriving DecidableEq, Repr

/-- An open sparge scope (R222 to R226). -/
structure Scope where
  pipe : Nat := 0
  handle : Nat := 0
  sink : Nat := 0
  tickScope : Bool := false
  tick : Nat := 0
  bank : Nat := 0
  /-- The configuration under which the data was formed, and its areas. -/
  cfg : PipeCfg := .none
  areas : List Area := []
  beams : List BeamMash := []
  /-- RECORDS, END included (R227). -/
  records : Nat := 0
  /-- Records sent whole (R235). -/
  sent : Nat := 0
  readers : List Reader := []
  /-- Entries of the destination table whose ports were up at the start of the scope and have not gone down since (R224, R240). -/
  ports : List SinkDest := []
  /-- The SINK block at the start of the scope (R243). -/
  sinkCfg : SinkCfg := {}
  /-- Records from this index per die are sent again with RESENT (R241). -/
  resent : Bool := false
  /-- Data-path time in microseconds at the start (LAST_SPARGE_US, R245). -/
  startUs : Nat := 0
  /-- A record of the scope was dropped. -/
  lossy : Bool := false
  /-- MISS_PLANE records given up (R225). -/
  planesLost : Nat := 0
  /-- The die that finished the mashes of a SOURCE 2 BEAM pipe and reads them (R192, R222). -/
  finisher : Nat := 0
  /-- The scope started after every copy of a boundary below this one (R340, R344). -/
  opened : Nat := 0
  /-- On a STANDBY: the shadow sparge of the scope has ended. It is kept until a copy shows that the active has finished it (R241, R344). -/
  ended : Bool := false
  deriving DecidableEq, Repr

/-- Counters of a SINK (R245). -/
structure SinkCount where
  pipe : Nat := 0
  datagrams : Nat := 0
  bytes : Nat := 0
  dropped : Nat := 0
  overruns : Nat := 0
  resent : Nat := 0
  planes : Nat := 0
  inexact : Nat := 0
  lastUs : Nat := 0
  deriving DecidableEq, Repr

/-- Everything the data path holds. -/
structure DataPath where
  /-- Ingest slots (R86). -/
  chains : List Chain := []
  /-- Window taps of slots A and B: pipe, slot, index, tap (R126, R149). -/
  windows : List (Nat × Nat × Nat × Int) := []
  /-- Taps written since a configuration last selected their slot: pipe, slot, index (R149). -/
  windowWritten : List (Nat × Nat × Nat) := []
  /-- Delay table VERSION of each INGEST pipe (R146). -/
  delayVersions : List (Nat × Nat) := []
  /-- INGEST pipes whose run of stale ticks was raised (R123). -/
  staleRuns : List Nat := []
  /-- Lane rotation of each destination: pipe, destination, frames dealt (R141). -/
  rotations : List (Nat × Nat × Nat) := []
  /-- The turn buffer (R56, R142). -/
  turn : List TurnSample := []
  counts : List InputCount := []
  tiles : List TilePos := []
  /-- The replay holding area (R166). -/
  held : List HeldDump := []
  /-- Per die 0 to 7. -/
  dies : List DieWork := List.replicate 8 {}
  corr : List CorrCount := []
  /-- TUN_SATURATED raised in this integration, by pipe and bank (R172). -/
  satRaised : List (Nat × Nat) := []
  repairs : List Repair := []
  nextTransaction : Word := 0
  /-- Digest of a tick (R175): tick and sum. -/
  digests : List (Nat × BitVec 64) := []
  /-- The last tick boundary run (R53, R59). -/
  boundary : Option Nat := none
  weights : List Weight := []
  cells : List BeamCell := []
  contribs : List ContribMash := []
  finished : List BeamMash := []
  detBank : List BeamMash := []
  beams : List BeamWork := []
  beamCounts : List BeamCount := []
  scopes : List Scope := []
  sinks : List SinkCount := []
  /-- Records dropped, per CORR or BEAM pipe, that the pipe's next datagram carries (R225). -/
  carry : List (Nat × Nat) := []
  /-- Ethernet ports that are down (R240). -/
  portsDown : List Nat := []
  /-- Ports that came back and rejoin at the next scope (R240). -/
  portsReturned : List Nat := []
  /-- Positions heard: position, last boundary at which a frame was accepted since, silent boundaries, POSITION_LOST raised (R352). -/
  heard : List (Nat × Nat × Nat × Bool) := []
  deriving DecidableEq, Repr

end Sys2Proof.Machine
end

