-- ==== Sys2Proof/Machine/StateTwin.lean ====
section
/-! DEFINITION. State of the twin pair (chapter 10). Field defaults are the values at reset. -/

namespace Sys2Proof.Machine

/-- Roles of R326, in the code order of R333. -/
inductive TwinRole where
  | alone | active | standby
  deriving DecidableEq, Repr

/-- Modes of R354. -/
inductive TwinMode where
  | untwinned | hot | warm
  deriving DecidableEq, Repr

/-- What the package knows of its attached partner (R349, R356). -/
structure Partner where
  role : TwinRole := .standby
  variant : Nat := 8
  versionLo : Nat := 1
  versionHi : Nat := 1
  /-- Standby-ready, as its heartbeat says (R333 READY). -/
  ready : Bool := false
  hot : Bool := false
  /-- DIVERGED, as its heartbeat says (R333). -/
  diverged : Bool := false
  /-- WINDOW of its last heartbeat (R333): one more of the same window is no scheduled one (R343). -/
  window : Option Nat := none
  deriving DecidableEq, Repr

/-- What one heartbeat window showed of the partner: a HEARTBEAT with ROLE ACTIVE, any HEARTBEAT, and the same of backup heartbeats (R335). -/
structure HbWindow where
  active : Bool := false
  any : Bool := false
  backupActive : Bool := false
  backupAny : Bool := false
  deriving DecidableEq, Repr

/-- The twin subsystem (R326 to R357). -/
structure Twin where
  /-- MODE in force (R354). -/
  mode : TwinMode := .untwinned
  /-- A change of MODE that takes effect at the next tick boundary (R354). -/
  nextMode : Option TwinMode := none
  /-- ATTACH_WAIT_MS in force (R354). Spec default 2,000. -/
  attachWaitMs : Nat := 2000
  /-- ROLE (R326). Spec reset 0, ALONE (R360). -/
  role : TwinRole := .alone
  /-- The package's claim (R338). -/
  claim : Nat := 0
  /-- The highest claim learned for the own position by heartbeat, copy or announcement (R338). -/
  claimKnown : Nat := 0
  partner : Option Partner := none
  /-- ATTACH was sent (R349). -/
  attachSent : Bool := false
  /-- Data-path time stamp of the ATTACH sent, nanoseconds, and its TRANSACTION, by which its reply is known; 0 when none is outstanding (R329, R349). -/
  attachSentNs : Nat := 0
  attachTransaction : Nat := 0
  /-- Incompatible partner: the link stays up unused (R349). -/
  incompatible : Bool := false
  /-- Twin-link delay, picoseconds (R304, R349). -/
  delayPs : Int := 0
  /-- TWIN_OFFSET_PS (R304). -/
  offsetPs : Int := 0
  /-- TWIN_TIME_SKEW raised for the present excursion (R304). -/
  skewRaised : Bool := false
  /-- NOT_READY bits of R328 that are held, not computed: copies of the last two boundaries whole and on time. -/
  copyOk : Bool × Bool := (false, false)
  /-- A copy of the last boundary was due, since a partner was attached there; and the last tick whose copy counted in COPIES_LATE (R342). -/
  copyDue : Bool := false
  lateTick : Option Nat := none
  /-- Every CORR and BEAM pipe has passed an integration boundary since shadowing began (R328 [6]). -/
  shadowed : Bool := false
  /-- Boundary at which shadowing began (R328, R349, R354). -/
  shadowFrom : Nat := 0
  /-- The standby was ready at its last evaluation (TWIN_READY, TWIN_NOT_READY). -/
  wasReady : Bool := false
  /-- Highest journal entry sent (active) or applied (standby) (R339). -/
  journalSeq : Nat := 0
  /-- CRC-64 over every entry since attachment (R340). -/
  journalCrc : BitVec 64 := 0
  /-- The journalled commands that make up the present configuration, oldest first: what the active sends to a partner that attaches (R349 step 5). -/
  history : List JournalEntry := []
  /-- The journal is in sync (R339). -/
  inSync : Bool := false
  /-- JOURNAL_CRC has differed since the configuration last came whole: the journal stays out of sync (R343). -/
  crcBad : Bool := false
  /-- The journalled configuration is being sent or awaited (R349 step 5): entries expected. -/
  reloading : Bool := false
  /-- TWIN_DIVERGED (R343). -/
  diverged : Bool := false
  /-- Last mismatched tick (R343). -/
  mismatchTick : Nat := 0
  /-- The copy held for a takeover (R342). -/
  copy : Option StateCopy := none
  /-- LAST_DIGEST_TICK (R356). -/
  lastDigestTick : Nat := 0
  /-- FAULT and its cause 1 to 5 (R336). -/
  fault : Option Nat := none
  /-- The standby has declared its active failed, with the cause and the first tick boundary at which it takes over (R335), and whether it was standby-ready
when it did (R345). -/
  declared : Option (Nat × Nat) := none
  declaredReady : Bool := false
  /-- What the present heartbeat window has shown of the partner (R335). -/
  seen : HbWindow := {}
  /-- The windows before it since the partner attached or the count started again, newest first. -/
  windows : List HbWindow := []
  /-- The watchdog or a monitor has silenced the outputs (R337, R469). -/
  silenced : Bool := false
  /-- TWIN_SWITCH agreed for this boundary (R350). -/
  switchAt : Option Nat := none
  /-- The new active waits for the old active's boundary plus 0.5 us to drive PPS_OUT and TICK_OUT (R347). -/
  driveDue : Bool := false
  /-- TWIN_DETACH accepted: acts at the next boundary (R351). -/
  detachDue : Bool := false
  /-- First tick that a new active accumulates after a warm takeover (R345). -/
  accumulateFrom : Nat := 0
  /-- The new active waits until its ANNOUNCE has been sent whole (R344 step 1): cause, boundary and readiness. -/
  takeoverWait : Option (Nat × Nat × Bool) := none
  /-- A claim was taken and its ANNOUNCE has not left yet: no haul frame leaves before it (R338, R484). -/
  announceDue : Bool := false
  /-- TWIN_DETACH has acted on this standby: it reads ALONE and sends nothing (R351, log 35 [DEDUCED]). -/
  detached : Bool := false
  /-- Where in the rotation of gain words the next copy begins (R340, R341). -/
  gainNext : Nat := 0
  /-- The latest gain words copied from the active (R340, R345). -/
  gainWords : List GainItem := []
  /-- CLAIM_EXHAUSTED raised: the package takes no claim, and one that was starting sends nothing (R338). -/
  exhausted : Bool := false
  /-- Cellar log entries since the last copy (R340 LOG_TAIL). -/
  logTail : List LogEntry := []
  /-- DIGEST_MISMATCHES, RC 32 (R356). -/
  digestMismatches : Nat := 0
  /-- COPIES_LATE, RC 32 (R342, R356). -/
  copiesLate : Nat := 0
  /-- HB_MISSED, RC 32 (R356). -/
  hbMissed : Nat := 0
  /-- TAKEOVERS, RC 32 (R356). -/
  takeovers : Nat := 0
  /-- REPAIRS_SERVED, RC 32 (R356). -/
  repairsServed : Nat := 0
  /-- REPAIRS_REFUSED, RC 32 (R356). -/
  repairsRefused : Nat := 0
  /-- LAST_COPY_BYTES (R356). -/
  lastCopyBytes : Nat := 0
  /-- Rotation over the LOCKED lanes (R331). -/
  rotation : Nat := 0
  /-- Frames that wait for a lane, in the priority order of R331. -/
  waiting : List Frame := []
  deriving DecidableEq, Repr

end Sys2Proof.Machine
end

