-- ==== Sys2Proof/Machine/StateHealth.lean ====
section
/-! DEFINITION. State of health, calibration, logging, firmware, power and the crate bus (chapters 13 and 14). Field defaults are the values at
reset. -/

namespace Sys2Proof.Machine

/-- Kiln record of one element (R426, R433, R459). Kinds as in KILN_STATUS; kind 4 is physical tile INDEX. -/
structure KilnRecord where
  element : KilnElement := {}
  /-- Five offsets for each copy of each slicer or level (R433): level, copy, point. -/
  sets : List (List (List Int)) := []
  /-- CHOSEN element of each slicer or level (R459). -/
  chosen : List Nat := []
  /-- TEMP_AT_PASS (R459). -/
  temp : Int := 0
  /-- Log second of the last pass, as the present log time counts it (AGE_S, R459): a step of log time moves it along. -/
  passSec : Int := 0
  /-- LAST_TEST: 0 none, 1 passed, 2 failed (R459). -/
  lastTest : Nat := 0
  /-- Due for an in-service pass, and in one (R429). -/
  due : Bool := false
  inPass : Bool := false
  /-- The peer refused or did not answer the spare for this pass: the lane stays due and does not ask again by itself (R429). -/
  refused : Bool := false
  /-- PASSES and FAILS, RC 32 (R459). -/
  passes : Nat := 0
  fails : Nat := 0
  deriving DecidableEq, Repr

/-- The unit record (R437, R440): kind, die, index and state (0 in service, 1 failed, 2 retired). A unit not listed is in service. -/
structure UnitRecord where
  kind : Nat := 1
  die : Nat := 0
  index : Nat := 0
  state : Nat := 0
  deriving DecidableEq, Repr

/-- The policy of POLICY_SET (R461). -/
structure Policy where
  /-- GUARD_WITHDRAW_C in force. Spec default 100. -/
  withdrawC : Nat := 100
  /-- GUARD_TAKEOVER_C in force. Spec default 103. -/
  takeoverC : Nat := 103
  /-- KILN_DELTA_C in force. Spec default 5. -/
  kilnDeltaC : Nat := 5
  /-- KILN_PERIOD_S in force. Spec default 3,600. -/
  kilnPeriodS : Nat := 3600
  /-- HOLDUP_C_UF in force. Spec default 2,200. -/
  holdupUf : Nat := 2200
  /-- HOLDUP_VMIN_MV in force. Spec default 3,000. -/
  vminMv : Nat := 3000
  /-- HOLDUP_RESERVE_MJ in force. Spec default 20. -/
  reserveMj : Nat := 20
  deriving DecidableEq, Repr

/-- Thermal guard of a die (R435). -/
structure Guard where
  /-- Hottest junction, 1/16 degree (R462). -/
  temp : Int := 0
  /-- GUARD_LEVEL (R462). -/
  level : Nat := 0
  /-- The reserve is withdrawn (R435). -/
  withdrawn : Bool := false
  /-- Below GUARD_WITHDRAW_C - 3 since before the last boundary (R435). -/
  cool : Bool := false
  deriving DecidableEq, Repr

/-- The cellar log (R442 to R447). -/
structure CellarLog where
  /-- Written slots: slot number and entry (R442). -/
  slots : List (Nat × LogEntry) := []
  /-- The next LOG_SEQ (R442). -/
  nextSeq : Nat := 0
  /-- LOG_STATE 2: dead (R444). -/
  dead : Bool := false
  /-- Consecutive bad slots (R444). -/
  badRun : Nat := 0
  /-- LOG_BAD_SLOTS, RC 32 (R444, R462). -/
  badSlots : Nat := 0
  /-- LOG_STATE 1: bad slots seen. -/
  badSeen : Bool := false
  /-- Slots whose medium does not hold what is written (R443, R444). -/
  badMedia : List Nat := []
  /-- Log writes deferred by the hold-up check, oldest first (R447). -/
  deferred : List LogEntry := []
  deriving DecidableEq, Repr

/-- A deferred NOR operation (R449): 1 page program, 2 sector erase. -/
structure NorOp where
  erase : Bool := false
  addr : Nat := 0
  data : List Byte := []
  /-- The last operation of an FW_STAGE: of a command here, or of one relayed by the journal. -/
  ends : Option Bool := none
  /-- The range of the image that it completes: offset and length (R452). -/
  range : Nat × Nat := (0, 0)
  deriving DecidableEq, Repr

/-- Firmware banks, staging and the owner seal (R450 to R456, R464). -/
structure Firmware where
  /-- BANK_STATE of banks 0 and 1 (R464). -/
  bankStates : List Nat := [0, 0]
  /-- The boot pointer, kept in the configuration area (R451, R453). -/
  bootPointer : Nat := 0
  /-- RECOVERY (R451, R464). -/
  recovery : Bool := false
  /-- ACTIVATED, awaiting reset (R464). -/
  activated : Bool := false
  /-- REJECT_REASON (R464). -/
  rejectReason : Nat := 0
  /-- LAST_RESULT status code (R464). -/
  lastResult : Nat := 0
  /-- Byte ranges written since BEGIN: offset and length (R452). -/
  written : List (Nat × Nat) := []
  /-- Sectors erased since BEGIN (R452). -/
  erased : List Nat := []
  /-- BYTES_WRITTEN (R464). -/
  bytesWritten : Nat := 0
  /-- The staged bank (R452). -/
  staged : Option Nat := none
  /-- SHA-512 of the seal code, kept in the configuration area; none when no seal is set (R456). -/
  ownerSeal : Option (BitVec 512) := none
  /-- SEAL_FAILS (R456, R464). -/
  sealFails : Nat := 0
  /-- FW_ACTIVATE with RESET or PACKAGE_RESET is due: at once, or at the next boundary (R453, R503). -/
  resetDue : Bool := false
  /-- NOR operations in progress and waiting, the first has started (R448, R452). -/
  ops : List NorOp := []
  /-- The first of `ops` has started. -/
  opStarted : Bool := false
  deriving DecidableEq, Repr

/-- What the configuration area of the NOR store holds: the settings kept across resets (R399, R456, R461, R500). Log 41 [DEDUCED]. Log 64 [DEDUCED]. -/
structure NorConfig where
  /-- POSITION and POSITION_VALID (R379). -/
  position : Nat := 0
  positionValid : Bool := false
  /-- Lane settings (R280, R281). -/
  rxCfg : List LaneCfg := List.replicate 136 {}
  txCfg : List LaneCfg := List.replicate 136 {}
  peers : List SparePeerCfg := List.replicate 8 {}
  /-- MGMT_NET (R369). -/
  mgmt : MgmtPort := {}
  /-- Reference settings (R317, R318). -/
  dpll : Dpll := {}
  /-- TWIN_CONFIG (R354). -/
  mode : TwinMode := .untwinned
  attachWaitMs : Nat := 2000
  /-- The journalled commands that set what is kept here (R339). -/
  history : List JournalEntry := []
  /-- POLICY_SET (R461). -/
  policy : Policy := {}
  /-- The boot pointer and the seal (R451, R456). -/
  bootPointer : Nat := 0
  ownerSeal : Option (BitVec 512) := none
  /-- CRATE_CONFIG (R500). -/
  aloneSleepOk : Bool := false
  wakeCrate : Bool := false
  deriving DecidableEq, Repr

/-- Health of the package. -/
structure Health where
  kiln : List KilnRecord := []
  units : List UnitRecord := []
  /-- Evidence that the record follows at the next boundary: kind, die, index, new state (R437). -/
  evidence : List UnitRecord := []
  policy : Policy := {}
  guards : List Guard := List.replicate 8 {}
  /-- The alarm latch (R441). -/
  alarm : Bool := false
  log : CellarLog := {}
  fw : Firmware := {}
  /-- V_MV: the last HOLDUP_SENSE reading (R448, R465). -/
  holdupMv : Nat := 0
  /-- A deferral episode lasts (R449). -/
  episode : Bool := false
  /-- EPISODES, RC 32 (R465). -/
  episodes : Nat := 0
  /-- POLICY_OVERRIDES, RC 32 (R462). -/
  overrides : Nat := 0
  /-- Overrides in force: loop code, the setting it meets, and absent since the last boundary (R436). -/
  overriding : List (Nat × Nat × Bool) := []
  /-- The NOR copies of the kiln sets and of the unit record (R433, R437), and a write of them that the hold-up check deferred (R449). -/
  norKiln : List KilnRecord := []
  norUnits : List UnitRecord := []
  norDue : Bool := false
  /-- The configuration area of the NOR store (R399), and a write of it that the hold-up check deferred (R449). -/
  norConfig : NorConfig := {}
  configDue : Bool := false
  /-- RECONCILES, RC 32 (R462). -/
  reconciles : Nat := 0
  /-- UNIT_RESTORE of a tile that takes effect at the next boundary: die, physical tile (R439). -/
  restoreTiles : List (Nat × Nat) := []
  deriving DecidableEq, Repr

/-- Power states of R471. -/
inductive PowerMode where
  | run | idle | dormant | off
  deriving DecidableEq, Repr

/-- Power, start-up and core voltage (R467 to R477, R492). -/
structure Power where
  mode : PowerMode := .run
  /-- A transition in progress: target and cause (R472, R504). -/
  target : Option (PowerMode × Nat) := none
  /-- State held before DORMANT (R474). -/
  before : PowerMode := .run
  /-- Exit at once when the entry to DORMANT completes (R487). -/
  exitAfter : Option (PowerMode × Nat) := none
  /-- The package is in reset (R468, R469). -/
  inReset : Bool := true
  /-- START_STAGE: last start-up step completed (R360, R475). Spec reset 0. -/
  stage : Nat := 0
  /-- READY (R360). Spec reset 0. -/
  ready : Bool := false
  /-- The reset was made by FW_ACTIVATE or PACKAGE_RESET (R485). -/
  activation : Bool := false
  /-- PWR_FAULT, one bit per rail in the order of R467 (R469, R502). -/
  pwrFault : BitVec 10 := 0
  /-- THERMTRIP latched (R492, R502). -/
  thermTrip : Bool := false
  /-- Tiles gated (R471, R492). -/
  gated : Bool := false
  /-- OVERRIDE_MV (R499). -/
  overrideMv : Nat := 0
  /-- FLOOR_MV (R470). -/
  floorMv : Nat := 650
  /-- REQUEST_MV: the AVSBus request (R470). Spec start 0.75 V. -/
  requestMv : Nat := 750
  deriving DecidableEq, Repr

/-- A crate frame queued for sending (R479, R481). -/
structure CrateTx where
  type : Nat := 0
  dest : Nat := 0xFF
  payload : List Byte := []
  /-- SEQ once it has been sent: a retry repeats it. -/
  seq : Option Byte := none
  deriving DecidableEq, Repr

/-- The proposer's and the voter's side of the sleep agreement (R486 to R488). -/
structure Sleep where
  /-- PROPOSAL of the agreement this node proposed, and the votes still missing. -/
  proposal : Option Nat := none
  waiting : List Nat := []
  /-- Per-proposer count (R483). -/
  count : Nat := 0
  /-- PROPOSAL this node voted on, its vote, and its proposer. -/
  voted : Option (Nat × Bool × Nat) := none
  /-- A wake request is held (R486, R487). -/
  wakeHeld : Bool := false
  /-- The commit has been sent: the proposer enters last. -/
  committed : Bool := false
  deriving DecidableEq, Repr

/-- The crate bus node (R478 to R488, R501). -/
structure Crate where
  /-- Crate state ALONE (R482, R501). -/
  alone : Bool := false
  /-- Nodes heard in the last 2 s (R481). -/
  heard : List Nat := []
  /-- Nodes held as activating (R485). -/
  activating : List Nat := []
  /-- Frames waiting for an acknowledgement, in order; the head is in progress (R482). -/
  queue : List CrateTx := []
  /-- Frames that need no acknowledgement, oldest first (R481). -/
  plain : List CrateTx := []
  /-- Attempts failed for the head (R482). -/
  attempts : Nat := 0
  /-- The head has been sent and its ACK is awaited: ACKER and SEQ. -/
  awaiting : Option (Nat × Byte) := none
  /-- The head waits 125 ms to 1 s before its next attempt (R482). -/
  retryWait : Bool := false
  /-- SEQ of the next frame (R479). -/
  nextSeq : Byte := 0
  /-- SEQ last seen of each type of frame from each node, by node + 32 x type: a frame that is sent again comes before any other of its type (R481). -/
  lastSeq : List (Nat × Byte) := []
  /-- The latest state block from each node: node, SOURCE (position and twin bit), ROLE and CLAIM (R274, R483). -/
  blocks : List (Nat × Nat × Nat × Nat) := []
  /-- ALONE_SLEEP_OK and WAKE_CRATE, kept in the configuration area (R500). -/
  aloneSleepOk : Bool := false
  wakeCrate : Bool := false
  sleep : Sleep := {}
  /-- FRAMES_TX, RC 32 (R501). -/
  framesTx : Nat := 0
  /-- FRAMES_RX, RC 32 (R501). -/
  framesRx : Nat := 0
  /-- CRC_ERRORS, RC 32 (R480, R501). -/
  crcErrors : Nat := 0
  /-- RETRIES, RC 32 (R482, R501). -/
  retries : Nat := 0
  /-- ALONE_ENTRIES, RC 32 (R501). -/
  aloneEntries : Nat := 0
  /-- SLEEP_ABORTS, RC 32 (R501). -/
  sleepAborts : Nat := 0
  deriving DecidableEq, Repr

end Sys2Proof.Machine
end

