-- ==== Sys2Proof/Machine/StateMemory.lean ====
section
/-! DEFINITION. State of package memory and the package matrix (chapter 12). Field defaults are the values at reset. -/

namespace Sys2Proof.Machine

/-- An entry of a bank's activate table (R404). -/
structure ActEntry where
  row : Nat := 0
  count : Nat := 0
  deriving DecidableEq, Repr

/-- A request that a row brought to a controller and that waits for its turn there, with its arrival and what it meets in the stack (R407, R409, R414). -/
structure NamedRequest where
  req : MatrixRequest × Nat := ({}, 0)
  ecc : EccSeen := .clean
  realTime : Bool := false
  deriving DecidableEq, Repr

/-- One HBM stack and its controller (R401 to R407, R423), with the SRAM counters of the die (R412). -/
structure HbmStack where
  /-- TRAIN_STATE: 0 trained, 1 after repair, 2 withheld (R401, R423). -/
  trainState : Nat := 0
  /-- WORST_LANE (R423). -/
  worstLane : Nat := 0
  /-- WORST_EYE_TAPS (R423). -/
  worstTaps : Nat := 0
  /-- REPAIRS (R423). -/
  repairs : Nat := 0
  /-- Read strobe delay of each of the 256 byte lanes, in taps (R401, R402). -/
  taps : List Nat := List.replicate 256 0
  /-- Write data delay of each byte lane, in taps (R401). -/
  writeTaps : List Nat := List.replicate 256 0
  /-- The byte lane that the next refresh re-centres (R402). -/
  nextLane : Nat := 0
  /-- HAMMER_THRESH in force (R404, R422). Spec default 2,048. -/
  thresh : Nat := 2048
  /-- HAMMER_RADIUS in force (R404, R422). -/
  radius : Nat := 1
  /-- Threshold and radius from the next refresh-window boundary (R422). -/
  nextHammer : Option (Nat × Nat) := none
  /-- Activate tables, by bank (R404). -/
  tables : List (Nat × List ActEntry) := []
  /-- Rows refreshed as neighbours: bank and row, newest last (R404). -/
  neighbours : List (Nat × Nat) := []
  /-- Neighbour refreshes since the last report (R425). -/
  nbrSecond : Nat := 0
  /-- The stack is in self-refresh (R403). -/
  selfRefresh : Bool := false
  /-- Bytes in the turn write buffer (R407). -/
  turnBuffer : Nat := 0
  /-- The real-time port is in panic (R407). -/
  panic : Bool := false
  /-- Data-path time at which the present panic began, nanoseconds (R423 PANIC_LONGEST_NS). -/
  panicSinceNs : Nat := 0
  /-- Panic episodes of the present tick, which HBM_PANIC carries (R407). -/
  tickPanics : Nat := 0
  /-- Requests that rows named and that wait for earlier or more urgent ones (R76, R407, R409, R414), oldest first. -/
  behind : List NamedRequest := []
  /-- Words that hold an uncorrectable error (R405, R406). -/
  badWords : List Nat := []
  /-- Next word of the scrubber (R406). -/
  scrubNext : Nat := 0
  /-- REFRESHES, RC 64 (R423). -/
  refreshes : Nat := 0
  /-- PANICS, RC 32 (R423). -/
  panics : Nat := 0
  /-- PANIC_LONGEST_NS, RC 32 (R423). -/
  panicLongestNs : Nat := 0
  /-- NBR_REFRESHES, RC 32 (R404, R423). -/
  nbrRefreshes : Nat := 0
  /-- ECC_CORRECTED, RC 32 (R405, R423). -/
  eccCorrected : Nat := 0
  /-- ECC_UNCORRECTABLE, RC 32 (R405, R423). -/
  eccUncorrectable : Nat := 0
  /-- RT_DROPS, RC 32 (R407, R423). -/
  rtDrops : Nat := 0
  /-- SCRUB_PASSES, RC 32 (R406, R423). -/
  scrubPasses : Nat := 0
  /-- SCRUB_UNCORRECTABLE, RC 32 (R406, R423). -/
  scrubUncorrectable : Nat := 0
  /-- SRAM_CORRECTED, RC 32 (R412, R423). -/
  sramCorrected : Nat := 0
  /-- SRAM_UNCORRECTABLE, RC 32 (R412, R423). -/
  sramUncorrectable : Nat := 0
  deriving DecidableEq, Repr

/-- A priority set by MATRIX_PRIORITY (R414, R420); a pair not listed holds its class's reset priority. -/
structure PairPriority where
  die : Nat := 0
  master : Nat := 0
  target : Nat := 0
  priority : Nat := 0
  deriving DecidableEq, Repr

/-- A link's register slices (R415, R421); a link not listed holds 2. -/
structure LinkSlices where
  src : Nat := 0
  dst : Nat := 0
  slices : Nat := 2
  deriving DecidableEq, Repr

/-- Accesses to the default target since they were last reported (R418). -/
structure DefaultHits where
  master : Nat := 0
  die : Nat := 0
  count : Nat := 0
  /-- Log second of the last MATRIX_DEFAULT_TARGET of this master and die. -/
  lastSec : Option Nat := none
  deriving DecidableEq, Repr

/-- Memory and matrix. -/
structure Fabric where
  /-- HBM, SRAM and NOR bytes in canonical form (R396, R399). -/
  mem : List Host.Cell := []
  /-- Stacks of dies 0 to 7. -/
  hbm : List HbmStack := List.replicate 8 {}
  priorities : List PairPriority := []
  slices : List LinkSlices := []
  /-- Requests held back by the matrix, oldest first, with the data-path time of their arrival (R414, R417). -/
  held : List (MatrixRequest × Nat) := []
  /-- Requests forwarded and not yet answered, in order of arrival at their controllers, with the data-path time of it: they hold a credit (R409, R417). -/
  inFlight : List (MatrixRequest × Nat) := []
  /-- The master last served at each target, for the round robin among equal priorities (R414). -/
  lastMaster : List (Nat × Nat) := []
  hits : List DefaultHits := []
  deriving DecidableEq, Repr

end Sys2Proof.Machine
end

