-- ==== Sys2Proof/Machine/State.lean ====
section
/-! DEFINITION. The state of the block, what leaves it, its stops, and the state after reset. -/

namespace Sys2Proof.Machine

/-- How a PTP message leaves (R307): its EtherType, and over UDP the destination port; the multicast address it goes to. -/
structure PtpRoute where
  etherType : Nat := 0x88F7
  udpPort : Option Nat := none
  dest : Nat := 0x011B19000000
  deriving DecidableEq, Repr

/-- What leaves the package, or what a read returns. The list `State.out` of these is the model's own observation log; no rule reads it. -/
inductive OutItem where
  /-- A BAR0 or calendar read returns this value (R359, R385, R315). -/
  | readValue (off : Nat) (v : Word)
  /-- A PCIe access through BAR2 returns data, or all ones (R361, R410 poisoned). -/
  | pcieData (data : List Byte) (poisoned : Bool)
  /-- The error response to a write that was not performed, to a master of a die (R405). -/
  | writeError (master die addr : Nat)
  /-- An SMBus answer of the target at its 7-bit address: NACK, or data (R392). -/
  | smbus (address : Nat) (ack : Bool) (data : Option Word)
  /-- An MSI-X message (R391). -/
  | msix (vector : Nat)
  /-- A haul frame of a type taken into the stream of a TX lane (R262). -/
  | haul (lane type : Nat) (f : Frame)
  /-- PAM4 levels of one codeword, with the comma that falls into it, or of a test pattern, on a TX lane (R247, R251, R276). -/
  | line (lane : Nat) (levels : List Int)
  /-- NRZ bits of one codeword on a twin-link TX lane (R279). -/
  | twinLine (lane : Nat) (bits : List Bool)
  /-- A TWINSTATE frame on a twin-link lane (R329). -/
  | twin (lane : Nat) (f : Frame)
  /-- What the state copy that leaves as STATE_COPY frames describes: its layout in bytes is not the spec's (R340, log 17 [DESIGN CHOICE]). -/
  | copy (c : StateCopy)
  /-- A crate-bus frame, with the levels of its half bits on the bus (R479, R483). -/
  | crate (type : Nat) (f : CrateFrame) (line : List Bool)
  /-- A sparge datagram in its Ethernet frame, from destination address to FCS (R236). -/
  | ethernet (port : Nat) (bytes : List Byte)
  /-- A management datagram (R367). -/
  | mgmt (address : BitVec 128) (port : Nat) (bytes : List Byte)
  /-- A syslog message to the collector (R369, R383). -/
  | syslog (address : BitVec 128) (port severity : Nat) (e : LogEntry)
  /-- A PTP message: 0 Announce, 1 Sync, 2 Follow_Up, 3 Delay_Req, 4 Delay_Resp, 5 Pdelay_Req, 6 Pdelay_Resp, 7 Pdelay_Resp_Follow_Up (R307);
  a response copies correctionField and the sender from the header of the request it answers. -/
  | ptp (kind : Nat) (seq : Half) (announce : Option PtpAnnounce) (stampPs : Int) (reply : Option PtpHeader) (route : PtpRoute)
  /-- A DMA write to host memory (R387). -/
  | hostWrite (addr : Nat) (bytes : List Byte)
  /-- An AVSBus voltage write (R470). -/
  | avs (mv : Nat)
  /-- ARP and neighbour discovery answers (R369). -/
  | arpReply (addr : Word)
  | neighbourAdvert (addr : BitVec 128)
  /-- WAKE broadcast, THERMTRIP_N driven low: pins that only pulse outward (R492). -/
  | thermTripLow
  deriving DecidableEq, Repr

/-- The staged configuration of a package (R372, R376): everything that S commands set. The running configuration is one of these; the candidate is
another, with the staging applied. -/
structure PackageCfg where
  /-- POSITION, 10 bits (R379, R360). Spec reset 0. -/
  position : Nat := 0
  /-- POSITION_VALID (R360). Spec reset 0. -/
  positionValid : Bool := false
  /-- TICK_CONFIG in force (R52). -/
  tick : Option TickCfg := none
  /-- The pipe table of 512 entries (R370). -/
  pipes : List PipeEntry := List.replicate 512 {}
  /-- Lane configuration of RX and TX lanes 0 to 135 (R280). -/
  rxCfg : List LaneCfg := List.replicate 136 {}
  txCfg : List LaneCfg := List.replicate 136 {}
  /-- Spare peer entry of each die (R281). -/
  peers : List SparePeerCfg := List.replicate 8 {}
  /-- TICK_CONFIG was staged or accepted: claim table and own claim are cleared (R265, R338). Set in a candidate only. -/
  clearClaims : Bool := false
  deriving DecidableEq, Repr

/-- The state of the block. -/
structure State where
  /-- Commands that wait, first in, first out (the model's own). -/
  pending : List Instr := []
  ident : Ident := {}
  mail : Mail := {}
  lease : Lease := {}
  cfg : PackageCfg := {}
  events : EventQueue := {}
  intr : Interrupts := {}
  dma : List DmaChannel := List.replicate 8 {}
  regs : HostRegs := {}
  mgmt : MgmtPort := {}
  data : DataPath := {}
  lanes : Lanes := {}
  clocks : Clocks := {}
  cal : Calendar := {}
  twin : Twin := {}
  fabric : Fabric := {}
  health : Health := {}
  power : Power := {}
  crate : Crate := {}
  /-- Free values used so far: the next one is `Config.freeValue free` (the model's own). -/
  free : Nat := 0
  /-- What left the package, newest first (the model's own observation log). -/
  out : List OutItem := []
  deriving DecidableEq, Repr

/-- The reasons a step can stop with a fault. The block has none: every command is answered by the spec's own status, flag or counter. -/
inductive Fault where
  /-- Raised by no command of this model; kept because the interface asks for a type. Safe: nothing stops here. -/
  | none
  deriving DecidableEq, Repr

/-- The reasons a step can be refused. -/
inductive Refusal where
  /-- Raised by Dispatch's arm of a row that has no meaning yet. Safe: nothing can be proved of such a row. -/
  | notModelled (mnemonic : String)
  deriving DecidableEq, Repr

/-- The package right after reset: every field at the default given with it, which is the spec's reset value where the spec states one and the value
that log 3 [DESIGN CHOICE] names where it does not. -/
def State.reset : State := {}

end Sys2Proof.Machine
end

