-- ==== Sys2Proof/Machine/Ops.lean ====
section
/-! DEFINITION. Named operations that every meaning is written over: bytes and fields, checksums, counters, rounding, lists by key, package memory,
time, and what leaves the package. -/

namespace Sys2Proof.Machine

/-! ### Bytes and fields (R8) -/

/-- The little-endian unsigned field of `n` bytes at offset `off` (R8); bytes past the end read zero. -/
def field (l : List Byte) (off n : Nat) : Nat :=
  ((l.drop off).take n).foldr (fun b acc => b.toNat + 256 * acc) 0

/-- The big-endian unsigned field of `n` bytes at offset `off`. -/
def fieldBE (l : List Byte) (off n : Nat) : Nat :=
  ((l.drop off).take n).foldl (fun acc b => 256 * acc + b.toNat) 0

/-- Two's-complement reading of `w` bits. -/
def toSigned (w v : Nat) : Int := if v < 2 ^ (w - 1) then (v : Int) else (v : Int) - 2 ^ w

/-- The low `w` bits of an integer. -/
def toBits (w : Nat) (v : Int) : Nat := (v % (2 ^ w : Int)).toNat

/-- The signed field of `n` bytes at offset `off`. -/
def fieldS (l : List Byte) (off n : Nat) : Int := toSigned (8 * n) (field l off n)

/-- Bits `lo` to `lo + w - 1` of `v`. -/
def bits (v lo w : Nat) : Nat := v / 2 ^ lo % 2 ^ w

/-- `v` in `n` little-endian bytes (R8). -/
def leBytes : Nat → Nat → List Byte
  | 0, _ => []
  | n + 1, v => BitVec.ofNat 8 v :: leBytes n (v / 256)

/-- `v` in `n` big-endian bytes. -/
def beBytes (n v : Nat) : List Byte := (leBytes n v).reverse

/-- A signed value in `n` little-endian bytes. -/
def leInt (n : Nat) (v : Int) : List Byte := leBytes n (toBits (8 * n) v)

/-- A flag as a number. -/
def nat01 (b : Bool) : Nat := if b then 1 else 0

/-- `l` cut or filled with zero bytes to `n` bytes. -/
def padTo (n : Nat) (l : List Byte) : List Byte := (l ++ List.replicate (n - l.length) 0).take n

/-- `l` with `d` written over it from `off`. -/
def overwrite (l : List Byte) (off : Nat) (d : List Byte) : List Byte :=
  l.take off ++ d ++ l.drop (off + d.length)

/-! ### Numbers -/

/-- An RC counter of `w` bits after adding `b`: it saturates at all ones (R13). -/
def rcAdd (w a b : Nat) : Nat := min (a + b) (2 ^ w - 1)

/-- `n / d` rounded half to even, for `0 < d`. -/
def rndDiv (n : Int) (d : Nat) : Int :=
  let q := n / (d : Int)
  let r := n % (d : Int)
  if 2 * r < d then q else if 2 * r > d then q + 1 else if q % 2 = 0 then q else q + 1

/-- `n / 2^k` rounded half to even. -/
def rndShift (n : Int) (k : Nat) : Int := rndDiv n (2 ^ k)

/-- `v` held to `[lo, hi]`. -/
def clampInt (lo hi v : Int) : Int := if v < lo then lo else if hi < v then hi else v

/-- Saturation to `w` signed bits. -/
def satInt (w : Nat) (v : Int) : Int := clampInt (-(2 ^ (w - 1))) (2 ^ (w - 1) - 1) v

/-- `v` wrapped to `w` signed bits. -/
def wrapInt (w : Nat) (v : Int) : Int := toSigned w (toBits w v)

/-- The least `n` with `a ≤ n * b`. -/
def ceilDiv (a b : Nat) : Nat := (a + b - 1) / b

/-! ### Checksums -/

/-- One bit step of a reflected CRC. -/
def crcStep (poly c : Nat) : Nat := if c % 2 = 1 then (c / 2) ^^^ poly else c / 2

/-- One byte of a reflected CRC. -/
def crcByte (poly c : Nat) (b : Byte) : Nat :=
  let c0 := c ^^^ b.toNat
  crcStep poly (crcStep poly (crcStep poly (crcStep poly (crcStep poly (crcStep poly (crcStep poly (crcStep poly c0)))))))

/-- CRC-32C: polynomial 0x1EDC_6F41 reflected, initial value and final XOR all ones (R263). -/
def crc32c (l : List Byte) : BitVec 32 :=
  BitVec.ofNat 32 ((l.foldl (crcByte 0x82F63B78) 0xFFFFFFFF) ^^^ 0xFFFFFFFF)

/-- CRC-32 of the Ethernet FCS: polynomial 0x04C1_1DB7 reflected, initial value and final XOR all ones (R236, log 140 [PRESUMED]). -/
def crc32 (l : List Byte) : BitVec 32 :=
  BitVec.ofNat 32 ((l.foldl (crcByte 0xEDB88320) 0xFFFFFFFF) ^^^ 0xFFFFFFFF)

/-- CRC-64 of R174 continued: `c` is the CRC of the bytes before (0 for none): polynomial 0x42F0_E1EB_A9EA_3693 reflected, initial value and final
XOR all ones. -/
def crc64From (c : BitVec 64) (l : List Byte) : BitVec 64 :=
  BitVec.ofNat 64 ((l.foldl (crcByte 0xC96C5795D7870F42) (c.toNat ^^^ 0xFFFFFFFFFFFFFFFF)) ^^^ 0xFFFFFFFFFFFFFFFF)

/-! ### Lists by key -/

/-- Replaces the first element that `p` holds of by `f` of it, or appends `f d`. -/
def upsert {α : Type} (p : α → Bool) (d : α) (f : α → α) : List α → List α
  | [] => [f d]
  | a :: l => if p a then f a :: l else a :: upsert p d f l

/-- Applies `f` to every element that `p` holds of. -/
def updateAll {α : Type} (p : α → Bool) (f : α → α) (l : List α) : List α :=
  l.map fun a => if p a then f a else a

/-- Insertion in rising order of `key`, after equal keys. -/
def insertBy {α : Type} (key : α → Nat) (x : α) : List α → List α
  | [] => [x]
  | a :: l => if key x < key a then x :: a :: l else a :: insertBy key x l

/-- A stable sort in rising order of `key`. -/
def sortBy {α : Type} (key : α → Nat) (l : List α) : List α := l.foldl (fun acc x => insertBy key x acc) []

/-- Keeps the first of equal elements. -/
def dedup {α : Type} [DecidableEq α] (l : List α) : List α :=
  l.foldl (fun acc x => if x ∈ acc then acc else acc ++ [x]) []

/-- The value under a key of a pair list, or `d`. -/
def lookupD (l : List (Nat × Nat)) (k d : Nat) : Nat := ((l.find? (·.1 == k)).map (·.2)).getD d

/-- Sets the value under a key of a pair list. -/
def assign {β : Type} (l : List (Nat × β)) (k : Nat) (v : β) : List (Nat × β) :=
  upsert (·.1 == k) (k, v) (fun _ => (k, v)) l

/-! ### Package memory (R396, R399): bytes in canonical form -/

/-- First package address of the NOR store (R396). -/
def norBase : Nat := 0xC100000000

/-- Size of the NOR store (R396). -/
def norSize : Nat := 0x10000000

/-- What an unlisted address reads as: an erased NOR byte reads 0xFF (R399), any other byte zero (log 4 [DESIGN CHOICE]). -/
def Memory.background (a : Nat) : Byte := if norBase ≤ a ∧ a < norBase + norSize then 0xFF else 0

/-- Canonical form: addresses strictly rising, and no entry equal to what an unlisted address reads as. -/
def Memory.wf : List Host.Cell → Bool
  | [] => true
  | [c] => c.2 != Memory.background c.1
  | c :: d :: m => c.2 != Memory.background c.1 && decide (c.1 < d.1) && Memory.wf (d :: m)

/-- One byte. Log 4 [DESIGN CHOICE]. -/
def Memory.get (m : List Host.Cell) (a : Nat) : Byte :=
  ((m.find? (·.1 == a)).map (·.2)).getD (Memory.background a)

/-- `n` bytes from `a`. -/
def Memory.read (m : List Host.Cell) (a n : Nat) : List Byte :=
  let part := (m.dropWhile (fun c => decide (c.1 < a))).takeWhile (fun c => decide (c.1 < a + n))
  (List.range n).map fun i => Memory.get part (a + i)

/-- The cells of bytes placed from `a`, those that differ from the background. -/
def Memory.cells : Nat → List Byte → List Host.Cell
  | _, [] => []
  | a, b :: l => if b = Memory.background a then Memory.cells (a + 1) l else (a, b) :: Memory.cells (a + 1) l

/-- Writes bytes from `a`, keeping the canonical form. Log 4 [DESIGN CHOICE]. -/
def Memory.write (m : List Host.Cell) (a : Nat) (d : List Byte) : List Host.Cell :=
  m.filter (fun c => decide (c.1 < a)) ++ Memory.cells a d ++ m.filter (fun c => decide (a + d.length ≤ c.1))

/-- Returns `n` bytes from `a` to what an unlisted address reads as: an erase of the NOR store (R448). Log 4 [DESIGN CHOICE]. -/
def Memory.clear (m : List Host.Cell) (a n : Nat) : List Host.Cell :=
  m.filter (fun c => decide (c.1 < a)) ++ m.filter (fun c => decide (a + n ≤ c.1))

/-- Memory of the package. -/
def State.setMem (s : State) (m : List Host.Cell) : State := { s with fabric := { s.fabric with mem := m } }

/-- Writes package memory. -/
def State.memWrite (s : State) (a : Nat) (d : List Byte) : State := s.setMem (Memory.write s.fabric.mem a d)

/-- Reads package memory. -/
def State.memRead (s : State) (a n : Nat) : List Byte := Memory.read s.fabric.mem a n

/-! ### The package -/

/-- Dies of the variant (R1). -/
def Variant.dies : Variant → Nat
  | .s2 => 2
  | .s4 => 4
  | .s8 => 8

/-- DIE_COUNT (R360). -/
def State.dies (s : State) : Nat := s.ident.variant.dies

/-- A lane that the variant has (R3): lanes 16d to 16d + 15 and spare 128 + d of each die d. -/
def State.hasLane (s : State) (lane : Nat) : Bool :=
  if lane < 128 then decide (lane / 16 < s.dies) else decide (lane < 128 + s.dies)

/-- The die that owns a lane (R3). -/
def dieOfLane (lane : Nat) : Nat := if lane < 128 then lane / 16 else lane - 128

/-- Appends to the observation log. Log 7 [DESIGN CHOICE]. -/
def State.emit (s : State) (o : OutItem) : State := { s with out := o :: s.out }

/-- A value that the spec leaves open, and the state that has used it (log 1 [DESIGN CHOICE]). -/
def State.fresh (s : State) : Nat × State := ((Config.freeValue s.free).toNat, { s with free := s.free + 1 })

/-- The package is twin B: its land says so, and it is twinned; an untwinned one is as twin A (R18, R234). Log 144 [DEDUCED]. -/
def State.twinB (s : State) : Bool := s.ident.twinBit && s.twin.mode != .untwinned

/-- SOURCE of frames and datagrams: position, and [10] the twin bit (R18, R262). Log 144 [DEDUCED]. -/
def State.source (s : State) : BitVec 16 :=
  BitVec.ofNat 16 (s.cfg.position % 1024 + 1024 * nat01 s.twinB)

/-- Nanoseconds in a second. -/
def nsPerSec : Nat := 1000000000

/-- Data-path time in nanoseconds (R300). -/
def State.timeNs (s : State) : Nat := s.clocks.time.sec * nsPerSec + s.clocks.time.ns

/-- Sets data-path time, in nanoseconds (R300). -/
def State.setTimeNs (s : State) (t : Nat) : State :=
  { s with clocks := { s.clocks with time := { s.clocks.time with sec := t / nsPerSec % 2 ^ 48, ns := t % nsPerSec } } }

/-- Log time as event entries carry it: SEC x 10^9 + NS (R383). -/
def State.logTimeNs (s : State) : Nat := s.clocks.log.sec * nsPerSec + s.clocks.log.ns

/-- Start of tick `n`: the first whole nanosecond since the PTP epoch at which its exact, rational instant has been reached (R50, R52, R53). -/
def TickCfg.startNs (c : TickCfg) (n : Nat) : Nat :=
  c.epochSec * nsPerSec + c.epochNs + ceilDiv (n * c.num * nsPerSec) c.den

/-- Tick boundary `n`: the start of tick n plus Q (R53). -/
def TickCfg.boundaryNs (c : TickCfg) (n : Nat) : Nat := c.startNs n + c.closeNs

/-- Heartbeat window `w` of tick `n` begins at tick boundary n plus w x tick / 8 (R332). -/
def TickCfg.windowNs (c : TickCfg) (n w : Nat) : Nat :=
  c.epochSec * nsPerSec + c.epochNs + c.closeNs + ceilDiv ((8 * n + w) * c.num * nsPerSec) (8 * c.den)

/-- The instant at which tick `n` starts has passed: data-path time is at or after it, judged exactly (R52). -/
def TickCfg.started (c : TickCfg) (timeNs n : Nat) : Bool :=
  decide ((c.epochSec * nsPerSec + c.epochNs) * c.den + n * c.num * nsPerSec ≤ timeNs * c.den)

/-- The tick running at a data-path time, if the epoch has passed (R52). -/
def TickCfg.tickAt (c : TickCfg) (timeNs : Nat) : Option Nat :=
  let e := c.epochSec * nsPerSec + c.epochNs
  if timeNs < e then none else some ((timeNs - e) * c.den / (c.num * nsPerSec))

/-- The tick running now. -/
def State.tickNow (s : State) : Option Nat := s.cfg.tick.bind fun c => c.tickAt s.timeNs

/-- The first tick boundary that is still to come (R53): after those that have come, and after the present cycle. -/
def State.nextBoundary (s : State) : Nat :=
  let n := s.tickNow.getD 0
  let byTime := match s.cfg.tick with
    | some c => if s.timeNs < c.boundaryNs n then n else n + 1
    | none => n + 1
  max byTime ((s.data.boundary.map (· + 1)).getD 0)

end Sys2Proof.Machine
end

