-- ==== Sys2Proof/Machine/Operands.lean ====
section
/-! DEFINITION. Operand forms of the commands: tests on argument fields with the status and DETAIL they give (R9, R366, R507), and pipe handles
(R370, R371). -/

namespace Sys2Proof.Machine

/-- The statuses that refuse a command: those of R394 but OK. -/
inductive Reason where
  | badOpcode | badLength | badArgument | staleHandle | noBudget | badTick | tooLate | refusedState | noLock | lockHeld | noResource | notActive | internal
  deriving DecidableEq, Repr

/-- The status of R394 that a refusal gives. -/
def Reason.status : Reason → Status
  | .badOpcode => .badOpcode
  | .badLength => .badLength
  | .badArgument => .badArgument
  | .staleHandle => .staleHandle
  | .noBudget => .noBudget
  | .badTick => .badTick
  | .tooLate => .tooLate
  | .refusedState => .refusedState
  | .noLock => .noLock
  | .lockHeld => .lockHeld
  | .noResource => .noResource
  | .notActive => .notActive
  | .internal => .internal

/-- A test that refuses a command: whether it fails, the status and the DETAIL it gives. Of a list in the order of R507 the first that fails answers. -/
abbrev Checks := List (Bool × Reason × Nat)

/-- The answer of the first test that fails. -/
def firstFail (l : Checks) : Option (Reason × Nat) := (l.find? (·.1)).map (·.2)

/-- BAD_ARGUMENT at a byte offset when the test is wrong (R366). Log 13 [DESIGN CHOICE]. -/
def bad (off : Nat) (wrong : Bool) : Bool × Reason × Nat := (wrong, .badArgument, off)

/-- Reserved bytes that must be zero, each reported at its own offset (R9). -/
def reserved (args : List Byte) (off n : Nat) : Checks :=
  (List.range n).map fun i => bad (off + i) (field args (off + i) 1 != 0)

/-- Reserved bits [7:lo] of one byte (R9). -/
def reservedHigh (args : List Byte) (off lo : Nat) : Bool × Reason × Nat := bad off (field args off 1 / 2 ^ lo != 0)

/-- A field whose value must lie in a range. -/
def inRange (args : List Byte) (off n lo hi : Nat) : Bool × Reason × Nat :=
  bad off (decide (field args off n < lo) || decide (hi < field args off n))

/-- A field that is 0 for its default, or lies in a range. -/
def zeroOrRange (args : List Byte) (off n lo hi : Nat) : Bool × Reason × Nat :=
  bad off (field args off n != 0 && (decide (field args off n < lo) || decide (hi < field args off n)))

/-- A field with 0 read as its default. -/
def orDefault (v d : Nat) : Nat := if v = 0 then d else v

/-- REFUSED_STATE when the test holds. -/
def refusedIf (b : Bool) : Bool × Reason × Nat := (b, .refusedState, 0)

/-- The length test of a command of fixed length: DETAIL 0 when wrong (R366). -/
def fixedLen (n : Nat) (args : List Byte) : Option Nat := if args.length = n then none else some 0

/-- KIND of a handle: 1 INGEST, 2 CORR, 3 BEAM, 4 SINK; 0 for an entry with no pipe (R370). -/
def PipeCfg.kind : PipeCfg → Nat
  | .none => 0
  | .ingest _ => 1
  | .corr _ => 2
  | .beam _ => 3
  | .sink _ => 4

/-- A handle: KIND [31:28], GENERATION [27:16], INDEX [15:0] (R370). -/
def makeHandle (kind gen index : Nat) : Nat := kind * 2 ^ 28 + gen * 2 ^ 16 + index

/-- The handle of table entry `i`. -/
def PackageCfg.handle (c : PackageCfg) (i : Nat) : Nat :=
  let e := c.pipes.getD i {}
  makeHandle e.cfg.kind e.gen i

/-- The handle that a pipe's data carries: a destroy raises the generation at once, and what a DRAINING pipe still sends and reports is the old pipe's
(R371, R372). -/
def PackageCfg.dataHandle (c : PackageCfg) (i : Nat) : Nat :=
  let e := c.pipes.getD i {}
  makeHandle e.cfg.kind (if e.state == .draining then (if e.gen = 1 then 4095 else e.gen - 1) else e.gen) i

/-- The handle names no entry, an entry of another generation, or one that is not in use (R371, R372). Log 106 [DEDUCED]. -/
def PackageCfg.stale (c : PackageCfg) (h : Nat) : Bool :=
  match c.pipes[bits h 0 16]? with
  | none => true
  | some e => e.gen != bits h 16 12 || e.state == .free || e.state == .draining

/-- The table entry of a handle. -/
def PackageCfg.entry (c : PackageCfg) (h : Nat) : PipeEntry := c.pipes.getD (bits h 0 16) {}

/-- The kind of a handle is none that suits, or not that of its entry (R371). Log 106 [DEDUCED]. -/
def PackageCfg.wrongKind (c : PackageCfg) (h : Nat) (kinds : List Nat) : Bool :=
  !kinds.contains (bits h 28 4) || (c.entry h).cfg.kind != bits h 28 4

/-- The tests of a handle at `off` that must be of one of these kinds: STALE_HANDLE first, then BAD_ARGUMENT for its kind (R371, R507). Log 106 [DEDUCED]. -/
def PackageCfg.handleChecks (c : PackageCfg) (h off : Nat) (kinds : List Nat) : Checks :=
  [(c.stale h, .staleHandle, 0), bad off (c.wrongKind h kinds)]

/-- INPUT_COUNT and other fields of an INGEST entry; a default when it is none. -/
def PipeCfg.ingestCfg : PipeCfg → IngestCfg
  | .ingest c => c
  | _ => {}

/-- The CORR block. -/
def PipeCfg.corrCfg : PipeCfg → CorrCfg
  | .corr c => c
  | _ => {}

/-- The BEAM block. -/
def PipeCfg.beamCfg : PipeCfg → BeamCfg
  | .beam c => c
  | _ => {}

/-- The SINK block. -/
def PipeCfg.sinkCfg : PipeCfg → SinkCfg
  | .sink c => c
  | _ => {}

/-- A pipe exists while its entry is not FREE (R372). -/
def PipeEntry.exists? (e : PipeEntry) : Bool := e.state != .free

/-- Indices of the pipes that exist, of the kinds given. -/
def PackageCfg.indices (c : PackageCfg) (kinds : List Nat) : List Nat :=
  (List.range c.pipes.length).filter fun i =>
    let e := c.pipes.getD i {}
    e.exists? && kinds.contains e.cfg.kind

/-- Any INGEST, CORR or BEAM pipe exists (R301). -/
def PackageCfg.dataPipes (c : PackageCfg) : Bool := !(c.indices [1, 2, 3]).isEmpty

end Sys2Proof.Machine
end

