-- ==== Sys2Proof/Machine/Blocks.lean ====
section
/-! DEFINITION. The argument blocks of PIPE_CREATE and PIPE_MODIFY: reading them, and the tests of the arguments alone (R113, R144, R183, R215, R243,
R373, R508). Offsets in a test are those of the arguments as written: 8 plus the offset of the chapter's table (R366). Where a rule refuses a combination
of fields and names none, the DETAIL is that of the field marked in log 13 [DESIGN CHOICE]. -/

namespace Sys2Proof.Machine

/-! ### INGEST -/

/-- Bits of a field that a block holds at `off` (offset in the kind block). -/
def blk (args : List Byte) (off n : Nat) : Nat := field args (8 + off) n

/-- The tick that a create or modify names: TICK_HI of the common part and the low word at `off` of the kind block (R373). -/
def blkTick (args : List Byte) (off : Nat) : Nat := field args 2 2 * 2 ^ 32 + blk args off 4

/-- The INGEST block (R113, R144). -/
def parseIngest (args : List Byte) : IngestCfg :=
  let f13 := blk args 13 1
  let f43 := blk args 43 1
  { format := blk args 0 1, spallWindow := blk args 1 1, spallRank := blk args 2 1, spallMode := blk args 3 1, spallThresh := blk args 4 2
    spallMult := blk args 6 2, spallFloor := blk args 8 2, offsetLog2 := blk args 10 1, offsetClipMax := blk args 11 1, hbStages := blk args 12 1
    realPair := f13.testBit 0, spallClearsTaint := f13.testBit 1, delayEnable := f13.testBit 2, inputCount := blk args 14 2
    rateNum := blk args 16 8, rateDen := blk args 24 4, gristHoldNs := blk args 28 4, delayMax := blk args 32 4
    chanLog2 := blk args 40 1, windowSel := blk args 41 1, reqMode := blk args 42 1, fringeEnable := f43.testBit 0, fracDelayEnable := f43.testBit 1
    spectrumInvert := f43.testBit 2, alcEnable := f43.testBit 3, loRatio := toSigned 64 (blk args 44 8), alcTarget := blk args 52 2
    alcPeriod := blk args 54 2, chFirst := blk args 56 2, chCount := blk args 58 2, sysChannelBase := blk args 60 2
    channelsPerFrame := blk args 62 2, samplesPerFrame := blk args 64 2, gainInit := BitVec.ofNat 32 (blk args 68 4), tLog2 := blk args 72 1
    m := blk args 74 2 }

/-- Complex grist formats (R78). -/
def IngestCfg.complex (c : IngestCfg) : Bool := c.format == 3 || c.format == 5

/-- Size N of the channeliser; 1 when bypassed or for one external channel (R125, R508). -/
def IngestCfg.n (c : IngestCfg) : Nat := 2 ^ c.chanLog2

/-- Channels that exist: N/2 for real input, N for complex input, 1 when bypassed (R125, R144, R508). -/
def IngestCfg.channels (c : IngestCfg) : Nat := if c.chanLog2 = 0 then 1 else if c.complex then c.n else c.n / 2

/-- Grist samples per channel sample: N x 2^h, 2 x 2^h for pairs, 2^h bypassed, 1 for format 0x5 (R81). -/
def IngestCfg.gristPerOut (c : IngestCfg) : Nat :=
  if c.format = 5 then 1 else if c.realPair then 2 * 2 ^ c.hbStages else c.n * 2 ^ c.hbStages

/-- T of the pipe. -/
def IngestCfg.t (c : IngestCfg) : Nat := 2 ^ c.tLog2

/-- S: grist samples per tick (R81). -/
def IngestCfg.samplesPerTick (c : IngestCfg) : Nat := c.m * c.t * c.gristPerOut

/-- Bytes per TURN value: 1 for 4+4, 2 for 8+8 (R134). -/
def modeBytes (mode : Nat) : Nat := if mode = 2 then 2 else 1

/-- Bytes of the mark area for S samples (R139). -/
def markBytes (s : Nat) : Nat := 4 * ceilDiv (ceilDiv s 2) 4

/-- PAYLOAD_LEN of a TURN frame (R139). -/
def turnPayload (s ch bytes : Nat) : Nat := 4 + markBytes s + s * ch * bytes

/-- Greatest spall threshold of a format (R113). -/
def spallMax (format : Nat) : Nat := if format = 4 then 15 else if format = 1 ∨ format = 3 then 255 else 4095

/-- Tests of an INGEST block on its own (R79, R84, R111, R113, R144, R508). Log 13 [DESIGN CHOICE]. -/
def ingestChecks (args : List Byte) : Checks :=
  let c := parseIngest args
  let ext := c.format == 5
  let spall := c.spallWindow != 1
  let outside (v lo hi : Nat) : Bool := decide (v < lo) || decide (hi < v)
  [ bad 8 (outside c.format 1 5),
    bad 9 (!([1, 3, 5, 7].contains c.spallWindow) || (ext && spall)),
    bad 10 (spall && decide (c.spallWindow < c.spallRank)),
    bad 11 (spall && decide (1 < c.spallMode)),
    bad 12 (spall && outside c.spallThresh 1 (spallMax c.format)),
    bad 14 (spall && outside c.spallMult 1 4095),
    bad 16 (spall && outside c.spallFloor 1 (spallMax c.format)),
    bad 18 ((c.offsetLog2 != 0 && (ext || outside c.offsetLog2 10 20))),
    bad 20 (decide (6 < c.hbStages) || (ext && c.hbStages != 0)),
    bad 21 (blk args 13 1 / 8 != 0 || (ext && c.delayEnable) || (c.realPair && !([1, 2, 4].contains c.format))),
    bad 22 (outside c.inputCount 1 4096),
    bad 24 (c.rateNum == 0),
    bad 32 (c.rateDen == 0),
    bad 36 (outside c.gristHoldNs 1000 10000000),
    bad 40 (!c.delayEnable && c.delayMax != 0),
    bad 48 ((c.chanLog2 != 0 && outside c.chanLog2 6 13) || (c.realPair && c.chanLog2 != 0) || (!c.realPair && !c.complex && c.chanLog2 == 0)),
    bad 49 (decide (2 < c.windowSel) || (ext && c.windowSel != 0)),
    bad 50 (outside c.reqMode 1 2 || (ext && c.reqMode != 1)),
    bad 51 (blk args 43 1 / 16 != 0 || (ext && blk args 43 1 != 0) || (c.fracDelayEnable && c.chanLog2 == 0) ||
      (c.realPair && c.fringeEnable)),
    bad 62 (!ext && c.alcPeriod == 0),
    bad 64 (decide (c.channels ≤ c.chFirst)),
    bad 66 (outside c.chCount 1 c.channels || decide (c.channels < c.chFirst + c.chCount)),
    bad 68 (decide (65536 < c.sysChannelBase + c.chCount)),
    bad 70 (outside c.channelsPerFrame 1 4096),
    bad 72 (outside c.samplesPerFrame 1 4096 || c.t % (max c.samplesPerFrame 1) != 0 ||
      decide (8192 < turnPayload c.samplesPerFrame c.channelsPerFrame (modeBytes c.reqMode))),
    bad 74 (blk args 66 1 != 0), bad 75 (blk args 67 1 != 0),
    bad 78 (!ext && decide (128 ≤ blk args 70 1)), bad 79 (!ext && blk args 71 1 != 0),
    bad 80 (outside c.tLog2 10 16),
    bad 81 (blk args 73 1 != 0),
    bad 82 (outside c.m 1 1024 || decide (2 ^ 32 < c.samplesPerTick)) ]

/-! ### CORR -/

/-- The eight 2-byte counts DIE_CH_COUNT, or any run of 2-byte fields. -/
def halves (args : List Byte) (off n : Nat) : List Nat := (List.range n).map fun i => field args (off + 2 * i) 2

/-- The CORR block (R183). -/
def parseCorr (args : List Byte) : CorrCfg :=
  let f := blk args 1 1
  { sampleMode := blk args 0 1, deepTun := f.testBit 0, protect := f.testBit 1, pinTiles := f.testBit 2, tLog2 := blk args 2 1
    splitD := blk args 3 1, m := blk args 4 2, k := blk args 6 2, sink := blk args 12 4, chFirst := blk args 16 2, chCount := blk args 18 2
    dieCh := halves args 28 8, groupSize := halves args 44 16
    jobs := (List.range (blk args 68 2)).map fun i => let v := blk args (72 + 2 * i) 2; { col := v % 16, row := v / 16 % 16 } }

/-- Tests of DIE_CH_COUNT: none on an absent die, only the first die of a set, and the sum (R183, R184). -/
def dieCountChecks (dies splitD count off : Nat) (counts : List Nat) : Checks :=
  (List.range 8).map (fun d => bad (off + 2 * d) (counts.getD d 0 != 0 && (decide (dies ≤ d) || d % max splitD 1 != 0)))
    ++ [bad off (counts.sum != count)]

/-- The order of R67 as a key: column group, then row group. -/
def Job.key (j : Job) : Nat := j.col * 16 + j.row

/-- Tests of a CORR block on its own (R183, R184). Log 13 [DESIGN CHOICE]. -/
def corrChecks (dies : Nat) (args : List Byte) : Checks :=
  let c := parseCorr args
  let outside (v lo hi : Nat) : Bool := decide (v < lo) || decide (hi < v)
  [ bad 8 (outside c.sampleMode 1 2),
    bad 9 (blk args 1 1 / 8 != 0),
    bad 10 (outside c.tLog2 10 16),
    bad 11 (!([1, 2, 4, 8].contains c.splitD) || decide (dies < c.splitD)),
    bad 12 (outside c.m 1 1024 || c.m % max c.splitD 1 != 0),
    bad 14 (c.k == 0),
    bad 26 (c.chCount == 0 || decide (65536 < c.chFirst + c.chCount)) ]
  ++ dieCountChecks dies c.splitD c.chCount 28 c.dieCh
  ++ (List.range 16).map (fun g => bad (44 + 2 * g) (decide (4096 < c.groupSize.getD g 0)))
  ++ [bad 76 (outside (blk args 68 2) 1 136), bad 78 (blk args 70 1 != 0), bad 79 (blk args 71 1 != 0)]
  ++ (List.range c.jobs.length).map (fun i =>
      let j := c.jobs.getD i {}
      let prev := if i = 0 then none else c.jobs[i - 1]?
      bad (80 + 2 * i) (decide (j.row < j.col) || c.groupSize.getD j.col 0 == 0 || c.groupSize.getD j.row 0 == 0 ||
        (match prev with
         | none => false
         | some p => decide (j.key ≤ p.key))))
  ++ (List.range c.jobs.length).map (fun i => bad (81 + 2 * i) (field args (81 + 2 * i) 1 != 0))

/-! ### BEAM -/

/-- The BEAM block (R215). -/
def parseBeam (args : List Byte) : BeamCfg :=
  let f := blk args 1 1
  let g := blk args 56 1
  { sampleMode := blk args 0 1, partialPipe := f.testBit 0, voltage := f.testBit 1, detected := f.testBit 2, tLog2 := blk args 2 1
    source := blk args 3 1, m := blk args 4 2, k := blk args 6 2, sink := blk args 12 4, chFirst := blk args 16 2, chCount := blk args 18 2
    dieCh := halves args 28 8, splitD := blk args 36 1, voltMode := blk args 37 1, voltShift := blk args 38 1, detShift := blk args 39 1
    detLog2 := blk args 40 1, detPost := blk args 41 1, beams := blk args 42 2, inputCount := blk args 44 4, sourceHandle := blk args 48 4
    ownerPosition := blk args 52 2, ownerPipe := blk args 54 2, frameSamplesLog2 := g % 16, frameBeamsLog2 := g / 16 % 8
    laneCount := blk args 57 1, laneFirst := blk args 58 1, contribCount := blk args 60 2 }

/-- Tests of a BEAM block on its own (R215, R216); `lane` says which TX lanes the variant has. Log 13 [DESIGN CHOICE]. -/
def beamChecks (dies : Nat) (lane : Nat → Bool) (args : List Byte) : Checks :=
  let c := parseBeam args
  let outside (v lo hi : Nat) : Bool := decide (v < lo) || decide (hi < v)
  [ bad 8 (outside c.sampleMode 1 2),
    bad 9 (blk args 1 1 / 8 != 0 || (c.partialPipe && (c.voltage || c.detected)) || (!c.partialPipe && !c.voltage && !c.detected)),
    bad 10 (outside c.tLog2 10 16),
    bad 11 (decide (2 < c.source)),
    bad 12 (outside c.m 1 1024 || c.m % max c.splitD 1 != 0),
    bad 14 (c.k == 0),
    bad 20 (c.partialPipe && c.sink != 0),
    bad 26 (c.chCount == 0 || decide (65536 < c.chFirst + c.chCount)) ]
  ++ (if c.source = 2 then [] else dieCountChecks dies c.splitD c.chCount 28 c.dieCh)
  ++ [ bad 44 (!([1, 2, 4, 8].contains c.splitD) || decide (dies < c.splitD) || (c.source == 2 && c.splitD != 1)),
    bad 45 (if c.voltage then outside c.voltMode 1 2 else c.voltMode != 0),
    bad 46 (decide (31 < c.voltShift)),
    bad 47 (decide (31 < c.detShift)),
    bad 48 (decide (c.tLog2 < c.detLog2)),
    bad 49 (decide (47 < c.detPost)),
    bad 50 (outside c.beams 1 4096),
    bad 52 (outside c.inputCount 1 65536),
    bad 56 (c.source == 0 && c.sourceHandle != 0),
    bad 60 (c.partialPipe && decide (1023 < c.ownerPosition)),
    bad 62 (c.partialPipe && decide (511 < c.ownerPipe)),
    bad 64 (decide (8 < c.frameSamplesLog2) || decide (6 < c.frameBeamsLog2) || decide (128 ≤ blk args 56 1) ||
      decide (10 < c.frameSamplesLog2 + c.frameBeamsLog2)),
    bad 65 (c.partialPipe && outside c.laneCount 1 16),
    bad 66 (c.partialPipe && (decide (128 < c.laneFirst + c.laneCount) || !((List.range c.laneCount).all fun i => lane (c.laneFirst + i)))),
    bad 67 (blk args 59 1 != 0),
    bad 68 (decide (1024 < c.contribCount) || (c.partialPipe && c.contribCount != 0)),
    bad 70 (blk args 62 1 != 0), bad 71 (blk args 63 1 != 0) ]

/-! ### SINK -/

/-- The SINK block (R243). -/
def parseSink (args : List Byte) : SinkCfg :=
  let f := blk args 1 1
  let vg := blk args 44 1
  let dg := blk args 45 1
  { ipVersion := blk args 0 1, vlanEn := f.testBit 0, missPlanes := f.testBit 1, rowsLog2 := blk args 2 1, trafficClass := blk args 3 1
    vlanTci := BitVec.ofNat 16 (blk args 4 2), hopLimit := blk args 6 1, srcMacA := (args.drop 16).take 6, srcMacB := (args.drop 22).take 6
    udpSrcPort := blk args 20 2, srcIp := (args.drop 32).take 16, flowLabel := blk args 40 4
    voltSamplesLog2 := vg % 16, voltBeamsLog2 := vg / 16 % 8, detRunsLog2 := dg % 16, detBeamsLog2 := dg / 16 % 8 }

/-- Tests of a SINK block on its own (R243). Log 13 [DESIGN CHOICE]. Log 101 [DEDUCED]. -/
def sinkChecks (args : List Byte) : Checks :=
  let c := parseSink args
  let outside (v lo hi : Nat) : Bool := decide (v < lo) || decide (hi < v)
  [ bad 2 (field args 2 2 != 0),
    bad 8 (c.ipVersion != 4 && c.ipVersion != 6),
    bad 9 (blk args 1 1 / 4 != 0),
    bad 10 (decide (4 < c.rowsLog2)),
    bad 12 (!c.vlanEn && c.vlanTci != 0),
    bad 14 (outside c.hopLimit 1 255),
    bad 15 (blk args 7 1 != 0),
    bad 28 (c.udpSrcPort == 0),
    bad 30 (blk args 22 1 != 0), bad 31 (blk args 23 1 != 0),
    bad 32 (c.ipVersion == 4 && blk args 28 12 != 0),
    bad 50 (decide (16 ≤ blk args 42 1)), bad 51 (blk args 43 1 != 0),
    bad 52 (decide (12 < c.voltSamplesLog2) || decide (6 < c.voltBeamsLog2) || decide (128 ≤ blk args 44 1)),
    bad 53 (decide (11 < c.detRunsLog2) || decide (6 < c.detBeamsLog2) || decide (128 ≤ blk args 45 1)),
    bad 54 (blk args 46 1 != 0), bad 55 (blk args 47 1 != 0) ]

/-- The kind block of a create or modify (R373). -/
def parseBlock (args : List Byte) : PipeCfg :=
  match field args 0 1 with
  | 1 => .ingest (parseIngest args)
  | 2 => .corr (parseCorr args)
  | 3 => .beam (parseBeam args)
  | 4 => .sink (parseSink args)
  | _ => .none

/-- START_TICK, or the tick that a change names (R373); zero for a SINK. -/
def blockTick (args : List Byte) : Nat :=
  match field args 0 1 with
  | 1 => blkTick args 36
  | 2 => blkTick args 8
  | 3 => blkTick args 8
  | _ => 0

/-- The length test of PIPE_CREATE and PIPE_MODIFY: DETAIL is KIND, or JOB_COUNT when only the job list is wrong (R366). -/
def pipeLen (args : List Byte) : Option Nat :=
  let fixed (n : Nat) : Option Nat := if args.length = n then none else some 0
  match field args 0 1 with
  | 1 => fixed 84
  | 2 => if args.length < 80 then some 0 else if args.length = 80 + 2 * blk args 68 2 then none else some 76
  | 3 => fixed 72
  | 4 => fixed 56
  | _ => if args.length < 8 then some 0 else none

/-- Tests of a kind block on its own. -/
def blockChecks (dies : Nat) (lane : Nat → Bool) (args : List Byte) : Checks :=
  match field args 0 1 with
  | 1 => ingestChecks args
  | 2 => corrChecks dies args
  | 3 => beamChecks dies lane args
  | 4 => sinkChecks args
  | _ => [bad 0 true]

end Sys2Proof.Machine
end

