-- ==== Sys2Proof/Machine/Candidate.lean ====
section
/-! DEFINITION. The candidate configuration: the running configuration with the staging applied in staging order (R372 to R376). -/

namespace Sys2Proof.Machine

/-- Entries of 8 bytes from byte 8 of INGEST_INPUTS (R114). -/
def parseInputs (args : List Byte) : List InputEntry :=
  (List.range (field args 4 2)).map fun i =>
    let o := 8 + 8 * i
    { input := field args o 2, die := field args (o + 2) 1, lane := field args (o + 3) 1, offsetInit := fieldS args (o + 4) 4 }

/-- Entries of TURN_DEST_SET (R145). -/
def parseDests (args : List Byte) : List TurnDest :=
  (List.range (field args 4 2)).map fun i =>
    let o := 16 + 12 * i
    { first := field args o 2, count := field args (o + 2) 2, position := field args (o + 4) 2, pipe := field args (o + 6) 2
      laneFirst := field args (o + 8) 1, laneCount := field args (o + 9) 1 }

/-- Entries of BEAM_INPUTS (R217). -/
def parseBeamInputs (args : List Byte) : List BeamInput :=
  (List.range (field args 4 2)).map fun i => let o := 8 + 8 * i; { index := field args o 4, input := field args (o + 4) 2 }

/-- Entries of BEAM_CONTRIB (R218). -/
def parseContribs (args : List Byte) : List Contributor :=
  (List.range (field args 4 2)).map fun i =>
    let o := 8 + 8 * i
    { position := field args o 2, die := field args (o + 2) 1, inputs := field args (o + 4) 4 }

/-- Entries of SINK_DEST (R244). -/
def parseSinkDests (args : List Byte) : List SinkDest :=
  (List.range (field args 4 2)).map fun i =>
    let o := 8 + 32 * i
    { port := field args o 1, pace := field args (o + 2) 2, dstMac := (args.drop (o + 4)).take 6, udpPort := field args (o + 10) 2
      dstIp := (args.drop (o + 12)).take 16 }

/-- TICK_CONFIG's arguments (R52). -/
def parseTick (args : List Byte) : TickCfg :=
  { epochSec := field args 0 8, epochNs := field args 8 4, den := field args 12 4, num := field args 16 8, closeNs := field args 24 4
    guardNs := field args 28 4 }

/-- Role codes of LANE_CONFIG (R280). -/
def laneRole : Nat → LaneRole
  | 1 => .grist
  | 2 => .haul
  | 3 => .ethernet
  | _ => .off

/-- An entry already assigned takes the new DIE, LANE and OFFSET_INIT; a new one is appended (R114). -/
def mergeInputs (old new : List InputEntry) : List InputEntry :=
  new.foldl (fun acc e => upsert (·.input == e.input) e (fun _ => e) acc) old

/-- BEAM_INPUTS likewise, by set index (R217). -/
def mergeBeamInputs (old new : List BeamInput) : List BeamInput :=
  new.foldl (fun acc e => upsert (·.index == e.index) e (fun _ => e) acc) old

/-- Generation after a destroy or a discarded create: it wraps from 4,095 to 1 (R371). -/
def nextGen (g : Nat) : Nat := if g = 4095 then 1 else g + 1

/-- K of a pipe's block; 1 for INGEST. -/
def PipeCfg.k : PipeCfg → Nat
  | .corr c => c.k
  | .beam c => c.k
  | _ => 1

/-- T of a pipe as a power of two. -/
def PipeCfg.tLog2 : PipeCfg → Nat
  | .corr c => c.tLog2
  | .beam c => c.tLog2
  | .ingest c => c.tLog2
  | _ => 0

/-- M of a pipe. -/
def PipeCfg.m : PipeCfg → Nat
  | .corr c => c.m
  | .beam c => c.m
  | .ingest c => c.m
  | _ => 1

/-- D of a pipe (R31). -/
def PipeCfg.splitD : PipeCfg → Nat
  | .corr c => c.splitD
  | .beam c => c.splitD
  | _ => 1

/-- The tick at which a change of a pipe takes effect: the tick it names, or for CORR and BEAM the first integration boundary at or after it (R58). -/
def PipeEntry.effectTick (e : PipeEntry) (t : Nat) : Nat :=
  match e.cfg.kind with
  | 2 => if t ≤ e.startTick then e.startTick else e.startTick + ceilDiv (t - e.startTick) (max e.cfg.k 1) * max e.cfg.k 1
  | 3 => if t ≤ e.startTick then e.startTick else e.startTick + ceilDiv (t - e.startTick) (max e.cfg.k 1) * max e.cfg.k 1
  | _ => t

/-- Areas after those of `new` have replaced the ones of the same die and kind (R400). -/
def mergeAreas (old new : List Area) : List Area :=
  (old.filter fun a => !new.any fun b => b.die == a.die && b.kind == a.kind) ++ new.filter fun b => b.granules != 0

/-- Applies a change whole. -/
def PipeEntry.applyChange (e : PipeEntry) (c : PipeChange) : PipeEntry :=
  { e with cfg := c.cfg, inputs := c.inputs, beamInputs := c.beamInputs, contribs := c.contribs, areas := mergeAreas e.areas c.areas }

/-- Integrations since START_TICK at tick `t` (R51). Log 25 [DEDUCED]. -/
def PipeEntry.integration (e : PipeEntry) (t : Nat) : Nat := (t - e.startTick) / max e.cfg.k 1

/-- The bank that the integration of tick `t` accumulates into (R170). Log 25 [DEDUCED]. -/
def PipeEntry.bankAt (e : PipeEntry) (t : Nat) : Nat := (e.integration t + e.bankOff) % 2

/-- START_TICK with which the pipe was created (R51). -/
def PipeEntry.firstTick (e : PipeEntry) : Nat := e.began.getD e.startTick

/-- A change takes effect at tick `t`: a change of K counts integrations afresh from there, in the bank after the present one (log 25 [DEDUCED]). -/
def PipeEntry.applyAt (e : PipeEntry) (c : PipeChange) (t : Nat) : PipeEntry :=
  if c.cfg.k = e.cfg.k then e.applyChange c else { e.applyChange c with startTick := t, began := some e.firstTick, bankOff := e.bankAt t }

/-- The part of a CORR change that takes effect at its tick: PROTECT (R185). -/
def PipeEntry.applyEarly (e : PipeEntry) (c : PipeChange) : PipeEntry :=
  match e.cfg, c.cfg with
  | .corr a, .corr b => { e with cfg := .corr { a with protect := b.protect } }
  | _, _ => e

/-- The turn destination table in force at tick `t` (R57, R145). -/
def PipeEntry.destsAt (e : PipeEntry) (t : Nat) : List TurnDest :=
  ((e.nextDests.filter fun x => decide (x.1 ≤ t)).getLast?.map (·.2)).getD e.dests

/-- The entry as it stands at tick `t`: the changes and destination tables due by then applied, the others kept (R57, R58, R145, R185). -/
def PipeEntry.atTick (e : PipeEntry) (t : Nat) : PipeEntry :=
  let (e1, kept) := e.changes.foldl (fun (acc : PipeEntry × List PipeChange) c =>
    let due := acc.1.effectTick c.tick
    if due ≤ t then (acc.1.applyAt c due, acc.2) else (if c.tick ≤ t then acc.1.applyEarly c else acc.1, acc.2 ++ [c])) (e, [])
  { e1 with changes := kept, dests := e.destsAt t, nextDests := e.nextDests.filter fun x => decide (t < x.1) }

/-- A change that names tick `t` starts from the lists that stand before it; those for later ticks stay behind it, one for the same tick before it
(R57, R114, R373). -/
def PipeEntry.addChange (e : PipeEntry) (t : Nat) (b : PipeCfg) : PipeEntry :=
  let old := e.changes.map fun g => { g with latest := false }
  let before := (old.filter fun g => decide (g.tick ≤ t)).foldl (fun (e : PipeEntry) g => e.applyChange g) e
  let new : PipeChange := { tick := t, cfg := b, inputs := before.inputs, beamInputs := before.beamInputs, contribs := before.contribs, latest := true }
  { e with changes := insertBy (·.tick) new old }

/-- Applies `f` to the latest change and those that follow it (R114). -/
def fromLatest (f : PipeChange → PipeChange) : List PipeChange → List PipeChange
  | [] => []
  | g :: l => if g.latest then (g :: l).map f else g :: fromLatest f l

/-- The lanes' configuration of one direction with entry `n` replaced. -/
def setLane (l : List LaneCfg) (n : Nat) (c : LaneCfg) : List LaneCfg := l.set n c

/-- Changes the entry of a handle. -/
def PackageCfg.modEntry (c : PackageCfg) (h : Nat) (f : PipeEntry → PipeEntry) : PackageCfg :=
  { c with pipes := c.pipes.modify (bits h 0 16) f }

/-- One staged command applied to a configuration (R376). PIPE_CREATE takes the entry that the staging chose, in state STAGED. -/
def PackageCfg.apply (c : PackageCfg) (x : Staged) : PackageCfg :=
  let a := x.args
  let h := field a 0 4
  match x.opcode with
  | 0x0020 => { c with position := field a 0 2 % 1024, positionValid := true }
  | 0x0021 => { c with tick := some (parseTick a), clearClaims := true }
  | 0x0100 => c.modEntry x.handle fun e =>
      { ({} : PipeEntry) with state := .staged, gen := bits x.handle 16 12, cfg := parseBlock a, startTick := blockTick a, areas := e.areas }
  | 0x0101 => c.modEntry (field a 4 4) fun e =>
      let t := blockTick a
      if e.cfg.kind = 4 then { e with cfg := parseBlock a }
      else if (e.state == .staged || e.state == .pending) && decide (t ≤ e.startTick) then { e with cfg := parseBlock a }
      else e.addChange t (parseBlock a)
  | 0x0102 => c.modEntry h fun e =>
      if e.cfg.kind = 4 || e.state == .staged then { gen := nextGen e.gen, areas := e.areas }
      else { e with state := .draining, gen := nextGen e.gen, endTick := field a 8 8 }
  | 0x0200 => c.modEntry h fun e =>
      let f (l : List InputEntry) : List InputEntry := mergeInputs l (parseInputs a)
      if e.state == .running then { e with changes := fromLatest (fun g => { g with inputs := f g.inputs }) e.changes }
      else { e with inputs := f e.inputs, changes := e.changes.map fun g => { g with inputs := f g.inputs } }
  | 0x0210 => c.modEntry h fun e => { e with nextDests := insertBy (·.1) (field a 8 8, parseDests a) (e.nextDests.filter (·.1 != field a 8 8)) }
  | 0x0310 => c.modEntry h fun e =>
      let f (l : List BeamInput) : List BeamInput := mergeBeamInputs l (parseBeamInputs a)
      if e.state == .running then { e with changes := fromLatest (fun g => { g with beamInputs := f g.beamInputs }) e.changes }
      else { e with beamInputs := f e.beamInputs, changes := e.changes.map fun g => { g with beamInputs := f g.beamInputs } }
  | 0x0311 => c.modEntry h fun e =>
      if e.state == .running then { e with changes := fromLatest (fun g => { g with contribs := g.contribs ++ parseContribs a }) e.changes }
      else { e with contribs := e.contribs ++ parseContribs a, changes := e.changes.map fun g => { g with contribs := g.contribs ++ parseContribs a } }
  | 0x0320 => c.modEntry h fun e => { e with sinkDests := parseSinkDests a }
  | 0x0400 =>
      let l : LaneCfg := { role := laneRole (field a 2 1), spareAuto := (field a 3 1).testBit 0, threshold := field a 4 1 }
      if field a 1 1 = 0 then { c with rxCfg := setLane c.rxCfg (field a 0 1) l } else { c with txCfg := setLane c.txCfg (field a 0 1) l }
  | 0x0401 =>
      let peer : SparePeerCfg := { peer := BitVec.ofNat 16 (field a 2 2), peerSpare := field a 4 1, returnLane := field a 5 1 }
      { c with peers := c.peers.set (field a 0 1) peer }
  | _ => c

/-- The running configuration with everything staged applied (R374 class S). Log 14 [DEDUCED]. -/
def State.candidate (s : State) : PackageCfg := s.lease.staged.foldl PackageCfg.apply s.cfg

/-- The configuration that a command from `holder` or another sees: staged pipes exist for the lease holder only (R372). -/
def State.viewFor (s : State) (holder : Bool) : PackageCfg := if holder then s.candidate else s.cfg

/-- A commit's effect on the table: staged pipes are PENDING, a staged SINK runs at once (R372, log 14 [DEDUCED]). -/
def PipeEntry.commit (e : PipeEntry) : PipeEntry :=
  if e.state == .staged then { e with state := if e.cfg.kind = 4 then .running else .pending } else e

end Sys2Proof.Machine
end

