-- ==== Sys2Proof/Machine/Flags.lean ====
section
/-! DEFINITION. Status and error flags: interrupt causes, their conditions and messages (R390, R391), GLOBAL_ERR (R360) and DEFAULT_ADDR (R359, R418). -/

namespace Sys2Proof.Machine

/-- EQ_DEPTH: (PROD - CONS) mod 2N (R380). -/
def EventQueue.depth (q : EventQueue) : Nat := (q.prod + 2048 - q.cons) % 2048

/-- CQ_DEPTH (R380). -/
def CompletionQueue.depth (q : CompletionQueue) : Nat := (q.prod + 32 - q.cons) % 32

/-- The lasting condition of a cause (R391). Log 122 [DEDUCED]. -/
def State.condition (s : State) (cause : Nat) : Bool :=
  if cause = 0 then
    decide (s.events.irqThresh ≤ s.events.depth) || (s.events.irqDelayUs != 0 && s.events.delayed && s.events.depth != 0)
  else if cause ≤ 4 then ((s.mail.queues[cause - 1]?).map (fun q => q.depth != 0)).getD false
  else if cause ≤ 12 then ((s.dma[cause - 5]?).map (fun c => (c.done || c.error) && c.mode.getLsbD 5)).getD false
  else if cause = 13 then s.regs.globalErr != 0
  else false

/-- The vector of a cause: five bits of its byte of INT_MAP0 to INT_MAP3 (R390). -/
def Interrupts.vector (i : Interrupts) (cause : Nat) : Nat :=
  (i.maps.getD (cause / 4) 0).toNat / 2 ^ (8 * (cause % 4)) % 32

/-- Vector Control bit 0 of an MSI-X table entry masks it (R390). Log 137 [PRESUMED]. -/
def Interrupts.vectorMasked (i : Interrupts) (v : Nat) : Bool := (i.table.getD (4 * v + 3) 0).getLsbD 0

/-- Sends one message for a cause, or leaves its pending bit set while its vector is masked (R391, R390). Log 93 [DEDUCED]. -/
def State.sendMessage (s : State) (cause : Nat) : State :=
  let v := s.intr.vector cause
  if s.intr.vectorMasked v then { s with intr := { s.intr with pending := s.intr.pending ||| BitVec.ofNat 32 (2 ^ v) } }
  else s.emit (.msix v)

/-- A cause sets: an unmasked cause that was clear sends one message; a set cause sends nothing more (R391). -/
def State.setCause (s : State) (cause : Nat) : State :=
  if s.intr.cause.getLsbD cause then s
  else
    let s1 := { s with intr := { s.intr with cause := s.intr.cause ||| BitVec.ofNat 16 (2 ^ cause) } }
    if s.intr.mask.getLsbD cause then s1 else s1.sendMessage cause

/-- Sets the causes of a list whose condition holds. Log 122 [DEDUCED]. -/
def State.setHolding (s : State) (causes : List Nat) : State :=
  causes.foldl (fun s c => if s.condition c then s.setCause c else s) s

/-- Sets a bit of GLOBAL_ERR, and cause 13 (R360, R391). -/
def State.setGlobalErr (s : State) (bit : Nat) : State :=
  let s1 := { s with regs := { s.regs with globalErr := s.regs.globalErr ||| BitVec.ofNat 5 (2 ^ bit) } }
  s1.setCause 13

/-- A PCIe access that reached no target: DEFAULT_TARGET and DEFAULT_ADDR (R359, R418). -/
def State.setDefaultTarget (s : State) (addr : Nat) : State :=
  State.setGlobalErr { s with regs := { s.regs with defaultAddr := BitVec.ofNat 40 addr } } 0

end Sys2Proof.Machine
end

