-- ==== Sys2Proof/Machine/Events.lean ====
section
/-! DEFINITION. Events: the cellar log and its fallback ring (R442 to R447), the hold-up check (R448, R449), the event queue (R382, R383), syslog, EVENT
datagrams and the alarm latch (R441). -/

namespace Sys2Proof.Machine

/-- Severity of an event code: 0 info, 1 notice, 2 warning, 3 alarm (R395). -/
def severityOf (code : Nat) : Nat :=
  if code ∈ [0x0203, 0x0207, 0x0408, 0x0505, 0x0506, 0x0507, 0x0509, 0x050A, 0x050B, 0x050C, 0x0602, 0x0703, 0x0707, 0x070A, 0x0802] then 3
  else if code ∈ [0x0213, 0x0307, 0x0401, 0x040B, 0x040E, 0x0603, 0x0701] then 0
  else if code ∈ [0x0201, 0x0202, 0x0206, 0x0223, 0x0304, 0x0305, 0x0403, 0x0404, 0x0407, 0x040A, 0x0501, 0x0503, 0x0601, 0x0704, 0x0705, 0x0706,
      0x0709, 0x070B, 0x0801, 0x0804, 0x0805] then 1
  else 2

/-- Operations that the hold-up check guards (R448). -/
inductive HoldOp where
  | log | page | erase
  deriving DecidableEq, Repr

/-- 1.5 x E_op in picojoules (R448). -/
def HoldOp.need : HoldOp → Nat
  | .log => 7500000
  | .page => 600000000
  | .erase => 90000000000

/-- The requirement of the check in picojoules: 1.5 x E_op + HOLDUP_RESERVE (R448). -/
def State.holdNeed (s : State) (op : HoldOp) : Nat := op.need + s.health.policy.reserveMj * 1000000000

/-- Twice the energy above HOLDUP_VMIN in picojoules: C in microfarads times volts squared in millivolts squared (R448). -/
def State.holdEnergy2 (s : State) : Int :=
  (s.health.policy.holdupUf : Int) * ((s.health.holdupMv : Int) ^ 2 - (s.health.policy.vminMv : Int) ^ 2)

/-- The hold-up check (R448). -/
def State.holdOk (s : State) (op : HoldOp) : Bool := decide (2 * (s.holdNeed op : Int) ≤ s.holdEnergy2)

/-- Bytes 0 to 59 of an entry of the log (R442). -/
def logBody (e : LogEntry) : List Byte :=
  leBytes 8 e.seq ++ leBytes 8 e.time ++ leBytes 2 e.code ++ leBytes 1 e.flags ++ leBytes 1 e.die ++ leBytes 4 e.eventSeq.toNat
    ++ padTo 32 e.detail ++ leBytes 2 e.bootCount ++ leBytes 2 0

/-- An entry of the log, 64 bytes (R442). -/
def logBytes (e : LogEntry) : List Byte := logBody e ++ leBytes 4 (crc32c (logBody e)).toNat

/-- The 64 bytes that the slot of an entry holds (R442). -/
def slotBytes (e : LogEntry) : List Byte := e.raw.getD (logBytes e)

/-- The LOG_SEQ that the slot of an entry holds. -/
def slotSeq (e : LogEntry) : Nat := match e.raw with
  | some b => field b 0 8
  | none => e.seq

/-- The CRC of the slot of an entry matches: it does where the slot holds the entry's own bytes (R442). -/
def slotCrc (e : LogEntry) : Bool := match e.raw with
  | some b => field b 60 4 == (crc32c (b.take 60)).toNat
  | none => true

/-- A slot is valid: its CRC matches, its LOG_SEQ is congruent to its number and below the next LOG_SEQ (R442). -/
def CellarLog.valid (l : CellarLog) (x : Nat × LogEntry) : Bool :=
  slotCrc x.2 && slotSeq x.2 % 262144 == x.1 && decide (slotSeq x.2 < l.nextSeq)

/-- Entry k of the fallback ring is valid: its CRC matches (R445). -/
def ringValid (b : List Byte) (k : Nat) : Bool :=
  let e := (b.drop (64 * k)).take 64
  field e 60 4 == (crc32c (e.take 60)).toNat

/-- LOG_SEQ of entry k of the fallback ring. -/
def ringSeq (b : List Byte) (k : Nat) : Nat := field b (64 * k) 8

/-- The entry that a new one overwrites: the first whose CRC fails, else the one with the lowest LOG_SEQ (R445). -/
def ringVictim (b : List Byte) : Nat :=
  match (List.range 4).find? (fun k => !ringValid b k) with
  | some k => k
  | none => (List.range 4).foldl (fun best k => if ringSeq b k < ringSeq b best then k else best) 0

/-- Writes an entry to the fallback ring in backup SRAM (R445). -/
def State.ringPut (s : State) (e : LogEntry) : State :=
  { s with cal := { s.cal with backup := overwrite s.cal.backup (64 * ringVictim s.cal.backup) (logBytes e) } }

/-- A slot of the log written (R442). -/
def CellarLog.put (l : CellarLog) (e : LogEntry) : CellarLog := { l with slots := assign l.slots (e.seq % 262144) e }

/-- One event entry of 32 bytes as the EVENT datagram carries it (R383). -/
def EventEntry.encode (e : EventEntry) : List Byte :=
  leBytes 2 e.code ++ leBytes 1 e.flags ++ leBytes 1 e.die ++ leBytes 4 e.seq.toNat ++ leBytes 8 e.time ++ padTo 16 e.detail

/-- The entries of an event: one, or two when its detail exceeds 16 bytes, the second with CONT (R383). -/
def eventEntries (e : LogEntry) : List EventEntry :=
  let first : EventEntry := { code := e.code, flags := e.flags % 4, die := e.die, seq := e.eventSeq, time := e.time, detail := padTo 16 e.detail }
  if e.detail.length ≤ 16 then [first] else [first, { first with flags := e.flags % 4 + 4, detail := padTo 16 (e.detail.drop 16) }]

/-- Free slots of the event queue. -/
def EventQueue.room (q : EventQueue) : Nat := 1024 - q.depth

/-- Pushes entries into consecutive slots (R380). -/
def EventQueue.push (q : EventQueue) (es : List EventEntry) : EventQueue :=
  es.foldl (fun q e => { q with slots := q.slots.set (q.prod % 1024) e, prod := (q.prod + 1) % 2048 }) q

/-- An event that finds no slot: it adds one for each of its entries to EQ_LOST and EQ_DROPPED (R382, R383). -/
def EventQueue.drop (q : EventQueue) (n : Nat) : EventQueue :=
  { q with lost := rcAdd 32 q.lost n, dropped := rcAdd 32 q.dropped n }

/-- A mailbox datagram with its CRC (R367). -/
def datagram (type mailbox session seq opcode tag status flags detail : Nat) (body : List Byte) : List Byte :=
  let d := leBytes 1 type ++ leBytes 1 mailbox ++ leBytes 2 session ++ leBytes 4 seq ++ leBytes 2 opcode ++ leBytes 2 tag ++ leBytes 2 body.length
    ++ leBytes 1 status ++ leBytes 1 flags ++ leBytes 4 detail ++ leBytes 4 0 ++ body
  d ++ leBytes 4 (crc32c d).toNat

/-- EVENT datagrams to every session with EVENTS (R368). Log 91 [DEDUCED]. -/
def State.sendEventDatagrams (s : State) (es : List EventEntry) : State :=
  (s.mgmt.sessions.filter (·.events)).foldl (fun s x =>
    es.foldl (fun s e => s.emit (.mgmt x.address x.port (datagram 7 x.mailbox x.number e.seq.toNat 0 0 0 0 0 e.encode))) s) s

/-- An event goes to syslog, when a collector is set (R383, R369). -/
def State.sendSyslog (s : State) (e : LogEntry) : State :=
  if s.mgmt.syslogAddr = 0 then s else s.emit (.syslog s.mgmt.syslogAddr s.mgmt.syslogPort ([6, 5, 4, 2].getD (e.flags % 4) 4) e)

/-- A new log entry with the next LOG_SEQ; the event takes the next EVENT_SEQ (R383, R442). Log 11 [DEDUCED]. -/
def State.newEntry (s : State) (code die : Nat) (detail : List Byte) : LogEntry × State :=
  ({ seq := s.health.log.nextSeq, time := s.logTimeNs, code := code, flags := severityOf code, die := die, eventSeq := s.events.nextSeq,
     detail := detail, bootCount := s.ident.bootCount },
   { s with
     health := { s.health with log := { s.health.log with nextSeq := s.health.log.nextSeq + 1 } }
     events := { s.events with nextSeq := s.events.nextSeq + 1 } })

/-- The latch and the causes that an event sets (R391, R441). -/
def State.latch (s : State) (code : Nat) : State :=
  let s1 := if severityOf code = 3 then { s with health := { s.health with alarm := true } } else s
  let s2 := if severityOf code = 3 then s1.setCause 15 else s1
  if code = 0x0002 then s2.setCause 14 else s2

/-- Keeps an entry for LOG_TAIL of the next state copy, while a partner is attached (R340). -/
def State.tail (s : State) (e : LogEntry) : State :=
  if s.twin.partner.isSome then { s with twin := { s.twin with logTail := s.twin.logTail ++ [e] } } else s

/-- The ring entry that an entry of the log was recovered from: its LOG_TIME, CODE and DETAIL (R446). -/
def ringSource (b : List Byte) (e : LogEntry) (k : Nat) : Bool :=
  ringValid b k && field b (64 * k + 8) 8 == e.time && field b (64 * k + 16) 2 == e.code && (b.drop (64 * k + 24)).take 32 == padTo 32 e.detail

/-- The ring after an entry of the log is written: the entry that it was recovered from gets a CRC of zero (R446). Log 135 [DEDUCED]. -/
def ringClear (b : List Byte) (e : LogEntry) : List Byte :=
  if e.flags / 4 % 2 = 1 then ((List.range 4).filter (ringSource b e)).foldl (fun b k => overwrite b (64 * k + 60) (leBytes 4 0)) b else b

/-- An entry written to its slot, its slot's medium holding it; an entry recovered from the ring is invalidated there (R443, R446). -/
def State.logPut (s : State) (e : LogEntry) : State :=
  State.tail { s with
    health := { s.health with log := { s.health.log.put e with badRun := 0 } }
    cal := { s.cal with backup := ringClear s.cal.backup e } } e

/-- An entry whose slot is bad goes to the ring; the slot holds bytes that nobody chose (R444). Log 135 [DEDUCED]. -/
def State.badPut (s : State) (e : LogEntry) : State :=
  let l := s.health.log
  State.ringPut { s with health := { s.health with log :=
    { l.put { e with raw := some ((List.range 64).map (Config.badSlotByte e.seq)) } with
      badRun := l.badRun + 1, badSeen := true, badSlots := rcAdd 32 l.badSlots 1 } } } e

/-- Delivery of an entry to the event queue when it is at or above MIN_SEVERITY, without an OVERFLOW_MARK, and to syslog (R382, R383). Log 91 [DEDUCED]. -/
def State.deliverPlain (s : State) (e : LogEntry) (always : Bool) : State :=
  let s1 := s.latch e.code
  let s2 :=
    if always || decide (s1.events.minSeverity ≤ e.flags % 4) then
      let es := eventEntries e
      let q := s1.events
      let s3 := { s1 with events := if es.length ≤ q.room then q.push es else q.drop es.length }
      (s3.sendEventDatagrams es).setHolding [0]
    else s1
  s2.sendSyslog e

/-- The slot of an entry that is about to be written is bad (R444). Log 135 [DEDUCED]. -/
def State.meetsBad (s : State) (e : LogEntry) : Bool :=
  !s.health.log.dead && s.holdOk .log && s.health.log.badMedia.contains (e.seq % 262144)

/-- The write of an entry, before what it may have reported: to its slot, to the ring while the log is dead or the slot is bad, or to the queue of deferred
entries (R443, R444, R447). Log 135 [DEDUCED]. -/
def State.logPlain (s : State) (e : LogEntry) : State :=
  if s.health.log.dead then s.ringPut e
  else if s.holdOk .log then if s.meetsBad e then s.badPut e else s.logPut e
  else if s.health.log.deferred.length < 1024 then
    { s with health := { s.health with log := { s.health.log with deferred := s.health.log.deferred ++ [e] } } }
  else s.ringPut { e with flags := e.flags + 8 }

/-- LOG_MEDIA_FAIL: it takes the next LOG_SEQ, goes to the ring and is then delivered by `push` (R444). -/
def State.mediaFail (push : State → LogEntry → State) (s : State) (seq : Nat) (dead : Bool) : State :=
  let (e, s1) := s.newEntry 0x0707 0xFF (leBytes 8 seq ++ leBytes 1 (nat01 dead))
  push (s1.ringPut e) e

/-- What a bad slot reports: LOG_MEDIA_FAIL, and after 64 in a row the log is dead and LOG_MEDIA_FAIL says so (R444). -/
def State.badSlot (push : State → LogEntry → State) (s : State) (e : LogEntry) : State :=
  let s1 := s.mediaFail push e.seq false
  if 64 ≤ s.health.log.badRun ∧ s1.health.log.dead = false then
    State.mediaFail push { s1 with health := { s1.health with log := { s1.health.log with dead := true } } } e.seq true
  else s1

/-- OVERFLOW_MARK: logged and pushed, and EQ_LOST is zero (R382). Where its slot is bad, it is pushed before that is reported. Log 135 [DEDUCED]. -/
def State.overflowMark (s : State) (m : LogEntry) : State :=
  let s1 := (s.logPlain m).deliverPlain m true
  let s2 : State := { s1 with events := { s1.events with lost := 0 } }
  if s.meetsBad m then s2.badSlot (fun s x => s.deliverPlain x false) m else s2

/-- Delivery with the OVERFLOW_MARK that precedes the first push after a loss (R382). The mark takes the EVENT_SEQ after that of the event (log 11 [DEDUCED]). -/
def State.deliver (s : State) (e : LogEntry) : State :=
  if s.events.lost != 0 && decide (s.events.minSeverity ≤ e.flags % 4) && s.events.room != 0 then
    let (m, s1) := s.newEntry 0x0001 0xFF (leBytes 4 s.events.lost)
    (s1.overflowMark m).deliverPlain e false
  else s.deliverPlain e false

/-- An entry written, with what a bad slot then reports (R443, R444). -/
def State.logStore (s : State) (e : LogEntry) : State :=
  if s.meetsBad e then (s.logPlain e).badSlot State.deliver e else s.logPlain e

/-- HOLDUP_DEFER at the first deferral of an episode: the operation code 0 log, 1 page program, 2 erase, E and the requirement in microjoules (R449, R466). Log 92 [DESIGN CHOICE]. -/
def State.deferEpisode (s : State) (op : HoldOp) : State :=
  if s.health.episode then s
  else
    let s0 := { s with health := { s.health with episode := true, episodes := rcAdd 32 s.health.episodes 1 } }
    let code : Nat := match op with
      | .log => 0
      | .page => 1
      | .erase => 2
    let (e, s1) := s0.newEntry 0x0708 0xFF (leBytes 1 code ++ leInt 4 (s0.holdEnergy2 / 2000000) ++ leInt 4 ((s0.holdNeed op / 1000000 : Nat) : Int))
    (s1.logStore e).deliver e

/-- An operation passed the check: the episode ends (R449). -/
def State.endEpisode (s : State) : State := { s with health := { s.health with episode := false } }

/-- The log write of an entry (R443, R444, R447, R448). -/
def State.logWrite (s : State) (e : LogEntry) : State :=
  if s.health.log.dead then s.ringPut e
  else if !s.holdOk .log then (s.logPlain e).deferEpisode .log
  else s.endEpisode.logStore e

/-- An event is raised: written to the log, then delivered (R443). -/
def State.raiseOne (s : State) (code die : Nat) (detail : List Byte) : State :=
  let (e, s1) := s.newEntry code die detail
  let s2 := (s1.logWrite e).deliver e
  if code = 0x0703 then { s2 with health := { s2.health with alarm := true } } else s2

/-- The unit state that the record holds (R437, R440): a unit that is not listed is in service. -/
def State.unitState (s : State) (kind die index : Nat) : Nat :=
  ((s.health.units.find? fun u => u.kind == kind && u.die == die && u.index == index).map (·.state)).getD 0

/-- A unit is out of service: its record says so, or evidence that the record has still to follow (R437). -/
def State.outOfService (s : State) (kind die index : Nat) : Bool :=
  (s.health.evidence ++ s.health.units).any fun u => u.kind == kind && u.die == die && u.index == index && u.state != 0

/-- Evidence against the log where it has died since `s0`; the record follows at the next boundary, or at the next retry of deferred entries while no
TICK_CONFIG is in force (R437, R444). Log 62 [DEDUCED]. -/
def State.noteDeath (s s0 : State) : State :=
  if s.health.log.dead && !s0.health.log.dead then
    { s with health := { s.health with evidence := s.health.evidence ++ [{ kind := 5, die := 0xFF, index := 0, state := 1 }] } }
  else s

/-- The NOR copies of the kiln sets and the unit record are written when the hold-up check passes, and otherwise wait for its retry (R434, R437, R449). Log 63 [DESIGN CHOICE]. -/
def State.storeNor (s : State) : State :=
  if s.holdOk .page then
    let s1 := s.endEpisode
    { s1 with health := { s1.health with norKiln := s1.health.kiln, norUnits := s1.health.units, norDue := false } }
  else (State.deferEpisode { s with health := { s.health with norDue := true } } .page).noteDeath s

/-- The record of one unit follows the data path: STATE_RECONCILED when it changes (R437). -/
def State.record (s : State) (u : UnitRecord) : State :=
  let old := s.unitState u.kind u.die u.index
  if old = u.state then s
  else
    let h := s.health
    let units := upsert (fun x => x.kind == u.kind && x.die == u.die && x.index == u.index) u (fun _ => u) h.units
    State.raiseOne { s with health := { h with units := units, reconciles := rcAdd 32 h.reconciles 1 } } 0x0704 u.die
      (leBytes 1 u.kind ++ leBytes 1 u.die ++ leBytes 1 u.index ++ leBytes 1 old ++ leBytes 1 u.state)

/-- The unit record follows the evidence gathered since it last did (R437). Log 62 [DEDUCED]. -/
def State.reconcile (s : State) : State :=
  if s.health.evidence.isEmpty then s
  else (s.health.evidence.foldl State.record { s with health := { s.health with evidence := [] } }).storeNor

/-- Evidence that takes a unit out of service: its record follows at the next tick boundary, or at once while no TICK_CONFIG is in force (R437). Log 62 [DEDUCED]. -/
def State.evident (s : State) (kind die index new : Nat) : State :=
  let s1 := { s with health := { s.health with evidence := s.health.evidence ++ [{ kind := kind, die := die, index := index, state := new }] } }
  if s.cfg.tick.isNone then s1.reconcile else s1

/-- An event is raised. The end of the cellar log is evidence against it, which the record follows (R437, R444). -/
def State.raise (s : State) (code die : Nat) (detail : List Byte) : State :=
  let s1 := s.raiseOne code die detail
  if s1.health.log.dead && !s.health.log.dead then s1.evident 5 0xFF 0 1 else s1

/-- POLICY_OVERRIDDEN: loop code, die, tick (R436). Loop codes count the rows of R436's table from 0 (log 12 [DEDUCED]). -/
def State.policyOverridden (s : State) (loop die tick : Nat) : State :=
  State.raise { s with health := { s.health with overrides := rcAdd 32 s.health.overrides 1 } } 0x0706 die
    (leBytes 1 loop ++ leBytes 1 die ++ leBytes 6 tick)

/-- An override of a loop and setting begins: reported, unless it was in force within the last whole tick (R436). Log 12 [DEDUCED]. -/
def State.override (s : State) (loop key die tick : Nat) : State :=
  let l := s.health.overriding
  if l.any (fun x => x.1 == loop && x.2.1 == key) then
    { s with health := { s.health with overriding := l.map fun x => if x.1 = loop ∧ x.2.1 = key then (loop, key, false) else x } }
  else State.policyOverridden { s with health := { s.health with overriding := l ++ [(loop, key, false)] } } loop die tick

end Sys2Proof.Machine
end

