-- ==== Sys2Proof/Machine/Address.lean ====
section
/-! DEFINITION. Package addresses: what populates them (R396, R397), the areas of pipes in the stacks (R400), words with an uncorrectable error (R405,
R410), and what a read returns. -/

namespace Sys2Proof.Machine

/-- The base package address of an area (R400). -/
def PipeEntry.areaBase (e : PipeEntry) (die : Nat) (kind : AreaKind) : Option Nat :=
  (e.areas.find? fun a => a.die == die && a.kind == kind).map fun a => die * 2 ^ 36 + a.first * 2 ^ 21

/-- The word holds an uncorrectable error; `a` is its package address (R405). -/
def State.badWord (s : State) (a : Nat) : Bool := ((s.fabric.hbm[a / 2 ^ 36]?).map fun h => h.badWords.contains a).getD false

/-- A write of whole 32-byte words makes them good (R405). -/
def State.healWords (s : State) (a n : Nat) : State :=
  { s with fabric := { s.fabric with hbm := s.fabric.hbm.modify (a / 2 ^ 36) fun h =>
      { h with badWords := h.badWords.filter fun w => !decide (a ≤ w ∧ w < a + n) } } }

/-- A kind of area as a number, for `Config.itemByte`. -/
def AreaKind.code : AreaKind → Nat
  | .turn => 0
  | .tun0 => 2
  | .tun1 => 3
  | .partialArea => 4
  | .weights => 5
  | .detected => 6
  | .delay => 7

/-- The address of an item of an area whose layout the spec does not give (log 2 [DESIGN CHOICE]). -/
def PipeEntry.itemAddr (e : PipeEntry) (die : Nat) (kind : AreaKind) (key : List Nat) : Option Nat :=
  (e.areaBase die kind).map fun b => b + Config.itemByte (kind.code :: key)

/-- The word that holds an item has an uncorrectable error (R410). Log 2 [DESIGN CHOICE]. -/
def State.itemBad (s : State) (e : PipeEntry) (die : Nat) (kind : AreaKind) (key : List Nat) : Bool :=
  match e.itemAddr die kind key with
  | some a => s.badWord (a / 32 * 32)
  | none => false

/-- A stack holds a word with an uncorrectable error. -/
def State.anyBad (s : State) : Bool := s.fabric.hbm.any fun h => !h.badWords.isEmpty

/-- How many words of a stack are uncorrectable among those that hold the items of an area with these keys. Log 2 [DESIGN CHOICE]. -/
def State.badItems (s : State) (e : PipeEntry) (die : Nat) (kind : AreaKind) (keys : List (List Nat)) : Nat :=
  if !s.anyBad then 0
  else (dedup ((keys.filterMap fun k => (e.itemAddr die kind k).map (· / 32 * 32)).filter s.badWord)).length

/-- A reader of the data path met `n` words of a stack with an uncorrectable error: each read counts (R405, R410). -/
def State.meetBad (s : State) (die n : Nat) : State :=
  if n = 0 then s
  else { s with fabric := { s.fabric with hbm := s.fabric.hbm.modify die fun h => { h with eccUncorrectable := rcAdd 32 h.eccUncorrectable n } } }

/-- The data path writes items of an area whole, which makes their words good (R405). Log 2 [DESIGN CHOICE]. -/
def State.healItems (s : State) (e : PipeEntry) (die : Nat) (kind : AreaKind) (keys : List (List Nat)) : State :=
  if !s.anyBad then s
  else
    let ws := keys.filterMap fun k => (e.itemAddr die kind k).map (· / 32 * 32)
    { s with fabric := { s.fabric with hbm := s.fabric.hbm.modify die fun h => { h with badWords := h.badWords.filter fun w => !ws.contains w } } }

/-- First address of the SRAM windows (R396). -/
def sramBase : Nat := 0x8000000000

/-- First address of the cellar log (R396). -/
def logBase : Nat := 0xC000000000

/-- First address of the BAR0 image (R396). -/
def regBase : Nat := 0xF000000000

/-- An address of a stack that the variant has (R396, R397). -/
def State.inHbm (s : State) (a : Nat) : Bool := decide (a < s.dies * 2 ^ 36)

/-- An address of populated SRAM (R396, R397). -/
def State.inSram (s : State) (a : Nat) : Bool :=
  decide (sramBase ≤ a ∧ a < sramBase + s.dies * 2 ^ 28) && decide ((a - sramBase) % 2 ^ 28 < 0xA000000)

/-- An address of the Zwiter partition (R411), which only the cores may use (R398). -/
def State.inZwiter (s : State) (a : Nat) : Bool := s.inSram a && decide (0x9800000 ≤ (a - sramBase) % 2 ^ 28)

/-- An address of the cellar log (R396). -/
def inLog (a : Nat) : Bool := decide (logBase ≤ a ∧ a < logBase + 2 ^ 24)

/-- An address of the NOR store (R396). -/
def inNor (a : Nat) : Bool := decide (norBase ≤ a ∧ a < norBase + norSize)

/-- An address of the BAR0 image (R396). -/
def inRegs (a : Nat) : Bool := decide (regBase ≤ a ∧ a < regBase + 2 ^ 20)

/-- An address of the private registers (R396). Log 123 [DESIGN CHOICE]. -/
def inPrivate (a : Nat) : Bool := decide (regBase + 2 ^ 28 ≤ a ∧ a < regBase + 2 ^ 29)

/-- A populated address of memory: a stack, SRAM, the log or the NOR store (R396, R397). -/
def State.inMemory (s : State) (a : Nat) : Bool := s.inHbm a || s.inSram a || inLog a || inNor a

/-- Every address of a range satisfies a test that only changes between regions: its first and last address do, in one region of 64 GiB. -/
def rangeIn (p : Nat → Bool) (a n : Nat) : Bool := n == 0 || (p a && p (a + n - 1))

/-- First address of the part of the NOR store that is reserved for wear replacement and reads as 0xFF (R399). -/
def norReserve : Nat := norBase + 0xC000000

/-- The kiln sets and the configuration in the NOR store (R399): what they hold is `Health.norKiln`, `Health.norUnits` and `Health.norConfig`, and no rule says
in which bytes. Log 63 [DESIGN CHOICE]. -/
def norOpaque (a : Nat) : Bool := decide (norBase + 0x8000000 ≤ a ∧ a < norReserve)

/-- What covers an address without a layout in the spec: the area of a pipe other than a tun bank (R170 gives the tun's), or the kiln sets and the configuration
in the NOR store. Log 2 [DESIGN CHOICE]. Log 63 [DESIGN CHOICE]. -/
def State.opaqueArea (s : State) (a : Nat) : Bool :=
  norOpaque a || s.cfg.pipes.any fun e => (e.areas ++ e.changes.flatMap (·.areas)).any fun x =>
    x.kind != .tun0 && x.kind != .tun1 && decide (x.die * 2 ^ 36 + x.first * 2 ^ 21 ≤ a ∧ a < x.die * 2 ^ 36 + (x.first + x.granules) * 2 ^ 21)

/-- Byte `a` of the cellar log: that of its slot's entry (R442); a slot never written reads as log 4 [DESIGN CHOICE] says. -/
def State.logByte (s : State) (a : Nat) : Byte :=
  match s.health.log.slots.find? (·.1 == (a - logBase) / 64) with
  | some (_, e) => (slotBytes e).getD ((a - logBase) % 64) 0
  | none => 0

/-- Byte `a` of the log written by a core's own request; a medium that is bad holds a byte that nobody chose (R398, R444). -/
def State.pokeLog (s : State) (a : Nat) (b : Byte) : State :=
  let l := s.health.log
  let k := (a - logBase) / 64
  let e := ((l.slots.find? (·.1 == k)).map (·.2)).getD { raw := some (List.replicate 64 0) }
  let v := if l.badMedia.contains k then Config.badSlotByte a 0 else b
  { s with health := { s.health with log := { l with slots := assign l.slots k { e with raw := some ((slotBytes e).set ((a - logBase) % 64) v) } } } }

/-- Bytes written to the log from `a` (R398). -/
def State.pokeLogs (s : State) (a : Nat) (d : List Byte) : State := (d.zipIdx).foldl (fun s (b, i) => s.pokeLog (a + i) b) s

/-- A read of populated memory: the stored bytes, the log's entries, and in an area without a layout values that nobody chose (log 2 [DESIGN CHOICE]). -/
def State.pkgRead (s : State) (a n : Nat) : List Byte × State :=
  let raw := s.memRead a n
  let fuzzy := (List.range n).any fun i => s.opaqueArea (a + i)
  ((raw.zipIdx).map fun (b, i) =>
      if s.opaqueArea (a + i) then Config.areaByte s.free i else if inLog (a + i) then s.logByte (a + i) else b,
   if fuzzy then { s with free := s.free + 1 } else s)

/-- A value within `±lim` that nobody chose, the `i`-th of the present draw. -/
def State.anyWithin (s : State) (lim : Nat) (i : Nat) : Int :=
  ((Config.freeValue (s.free + i)).toNat % (2 * lim + 1) : Nat) - (lim : Int)

/-- The greatest component that the turn samples of a pipe hold at a tick: 7 in 4-bit mode, 127 in 8-bit mode (R134, R150, R153). -/
def PackageCfg.turnLimit (c : PackageCfg) (pipe tick : Nat) : Nat :=
  match ((c.pipes.getD pipe {}).atTick tick).cfg with
  | .corr p => if p.sampleMode = 2 then 127 else 7
  | .beam p => if p.sampleMode = 2 then 127 else 7
  | _ => 7

/-- A write of package memory by a master. What it does to items of an area without a layout is the value that `Config.itemByte` places there: an item in
the range takes a value that nobody chose (R389, log 2 [DESIGN CHOICE]). The reserved part of the NOR store stays as it reads (R399). -/
def State.pkgWrite (s : State) (a : Nat) (d : List Byte) : State :=
  let hit (x : Option Nat) : Bool := match x with
    | some p => decide (a ≤ p ∧ p < a + d.length)
    | none => false
  let on (die : Nat) (pipe : Nat) (kind : AreaKind) (key : List Nat) : Bool := hit ((s.cfg.pipes.getD pipe {}).itemAddr die kind key)
  let turn := (s.data.turn.zipIdx).map fun (x, i) =>
    if (List.range s.dies).any fun die => on die x.pipe .turn [x.tick % 2, x.input, x.channel, x.index] then
        let lim := s.cfg.turnLimit x.pipe x.tick
        { x with re := s.anyWithin lim (2 * i), im := s.anyWithin lim (2 * i + 1) }
    else x
  let weights := (s.data.weights.zipIdx).map fun (x, i) =>
    if (List.range s.dies).any fun die => on die x.pipe .weights [x.channel, x.beam, x.index] then
      { x with startRe := s.anyWithin 127 (4 * i), startIm := s.anyWithin 127 (4 * i + 1), re := s.anyWithin 127 (4 * i + 2)
               im := s.anyWithin 127 (4 * i + 3) }
    else x
  let cells := (s.data.cells.zipIdx).map fun (x, i) =>
    { x with values := (x.values.zipIdx).map fun (v, k) =>
        if on x.die x.pipe .partialArea [x.channel, x.slot, x.mash, x.cell, k] then
          (s.anyWithin (2 ^ 31 - 1) (i + 2 * k), s.anyWithin (2 ^ 31 - 1) (i + 2 * k + 1))
        else v }
  let s1 := if (List.range d.length).any fun i => s.opaqueArea (a + i) then
      { s with free := s.free + 4 * (s.data.turn.length + s.data.weights.length + s.data.cells.length + d.length + 1)
               data := { s.data with turn := turn, weights := weights, cells := cells } }
    else s
  (s1.memWrite a (if norBase ≤ a ∧ a < norBase + norSize then d.take (norReserve - a) else d)).healWords ((a + 31) / 32 * 32) ((a + d.length) / 32 * 32 - (a + 31) / 32 * 32)

end Sys2Proof.Machine
end

