-- ==== Sys2Proof/Machine/Fec.lean ====
section
/-! DEFINITION. Line coding of haul and twin-link lanes: the Reed-Solomon codes (R254, R279), PAM4 (R247) and the test patterns (R276). The spec names
IEEE 802.3 for the codes' and patterns' polynomials: log 140 [PRESUMED]. -/

namespace Sys2Proof.Machine

/-! ### Bits on the line -/

/-- The `n` low bits of `v`, least significant first. -/
def bitsLsb : Nat → Nat → List Bool
  | 0, _ => []
  | n + 1, v => (v % 2 == 1) :: bitsLsb n (v / 2)

/-- The `n` low bits of `v`, most significant first. -/
def bitsMsb (n v : Nat) : List Bool := (bitsLsb n v).reverse

/-- The number that bits spell, least significant first. -/
def natLsb (l : List Bool) : Nat := l.foldr (fun b acc => nat01 b + 2 * acc) 0

/-- The number that bits spell, most significant first. -/
def natMsb (l : List Bool) : Nat := l.foldl (fun acc b => 2 * acc + nat01 b) 0

/-- The first `count` runs of `n` elements of a list. -/
def chunks {α : Type} (n : Nat) : Nat → List α → List (List α)
  | 0, _ => []
  | count + 1, l => l.take n :: chunks n count (l.drop n)

/-- Gray mapping of a bit pair, the first sent bit first, to a PAM4 level (R247). -/
def pam4Level : Bool → Bool → Int
  | false, false => -3
  | false, true => -1
  | true, true => 1
  | true, false => 3

/-- The bit pair of a PAM4 level (R247). -/
def pam4Bits (level : Int) : Bool × Bool :=
  if level = -3 then (false, false) else if level = -1 then (false, true) else if level = 1 then (true, true) else (true, false)

/-- Step 6 of R251: the PAM4 levels of a bit stream (R247). -/
def pam4Of : List Bool → List Int
  | a :: b :: l => pam4Level a b :: pam4Of l
  | _ => []

/-- The bits of received PAM4 levels (R247). -/
def bitsOfPam4 (l : List Int) : List Bool := l.flatMap fun v => [(pam4Bits v).1, (pam4Bits v).2]

/-! ### The field of 1,024 elements, generated by x^10 + x^3 + 1 (log 140 [PRESUMED]) -/

/-- Product in the field: `b` has `n` bits still to take. Log 140 [PRESUMED]. -/
def gfMulBits : Nat → Nat → Nat → Nat
  | 0, _, _ => 0
  | n + 1, a, b =>
    let r := gfMulBits n (if 512 ≤ a then (2 * a) ^^^ 0x409 else 2 * a) (b / 2)
    if b % 2 = 1 then a ^^^ r else r

/-- Product in the field. -/
def gfMul (a b : Nat) : Nat := gfMulBits 10 a b

/-- Power in the field, the exponent below 2^n. -/
def gfPowBits : Nat → Nat → Nat → Nat
  | 0, _, _ => 1
  | n + 1, a, k =>
    let r := gfPowBits n (gfMul a a) (k / 2)
    if k % 2 = 1 then gfMul a r else r

/-- The primitive element to a power. -/
def gfAlpha (k : Nat) : Nat := gfPowBits 10 2 (k % 1023)

/-- Inverse of an element that is not zero. -/
def gfInv (a : Nat) : Nat := gfPowBits 10 a 1022

/-- A polynomial, lowest power first, at a point. -/
def gfEval (p : List Nat) (x : Nat) : Nat := p.foldr (fun c acc => c ^^^ gfMul x acc) 0

/-- Sum of two polynomials. -/
def gfAdd : List Nat → List Nat → List Nat
  | [], q => q
  | p, [] => p
  | a :: p, b :: q => (a ^^^ b) :: gfAdd p q

/-- Product of two polynomials. -/
def gfPolyMul (p q : List Nat) : List Nat := p.foldr (fun a acc => gfAdd (q.map (gfMul a)) (0 :: acc)) []

/-- A Reed-Solomon code over 10-bit symbols: symbols of a codeword, and parity symbols (R254, R279). -/
structure RsCode where
  n : Nat
  parity : Nat
  deriving DecidableEq, Repr

/-- RS(544,514) of IEEE 802.3 Clause 119 (R254). Log 140 [PRESUMED]. -/
def haulCode : RsCode := { n := 544, parity := 30 }

/-- RS(528,514) of IEEE 802.3 Clause 91 (R279). Log 140 [PRESUMED]. -/
def twinCode : RsCode := { n := 528, parity := 14 }

/-- Symbols that the code corrects: 15 on a haul lane, 7 on the twin link. -/
def RsCode.corrects (c : RsCode) : Nat := c.parity / 2

/-- The generator polynomial, lowest power first: the product of x - a^i for i from 0. Log 140 [PRESUMED]. -/
def RsCode.generator (c : RsCode) : List Nat := (List.range c.parity).foldl (fun g i => gfPolyMul g [gfAlpha i, 1]) [1]

/-- Parity symbols of a message, the first sent first: the remainder of the message times x^parity by the generator. -/
def RsCode.parityOf (c : RsCode) (msg : List Nat) : List Nat :=
  let taps := (c.generator.take c.parity).reverse
  msg.foldl (fun reg m =>
    let fb := m ^^^ reg.headD 0
    List.zipWith (· ^^^ ·) (reg.drop 1 ++ [0]) (taps.map (gfMul fb))) (List.replicate c.parity 0)

/-- The codeword of a message: its symbols, then the parity. -/
def RsCode.encode (c : RsCode) (msg : List Nat) : List Nat := msg ++ c.parityOf msg

/-- Syndromes of received symbols, the first sent first. -/
def RsCode.syndromes (c : RsCode) (r : List Nat) : List Nat :=
  (List.range c.parity).map fun i => let a := gfAlpha i; r.foldl (fun acc v => v ^^^ gfMul a acc) 0

/-- The registers of the Berlekamp-Massey search for the error locator. -/
structure Locator where
  c : List Nat := [1]
  b : List Nat := [1]
  len : Nat := 0
  gap : Nat := 1
  last : Nat := 1
  deriving DecidableEq, Repr

/-- One step: `seen` holds the syndromes up to this one, newest first. -/
def Locator.step (x : Locator) (seen : List Nat) : Locator :=
  let d := (List.zipWith gfMul x.c seen).foldl (· ^^^ ·) 0
  let k := seen.length
  if d = 0 then { x with gap := x.gap + 1 }
  else
    let next := gfAdd x.c (List.replicate x.gap 0 ++ x.b.map (gfMul (gfMul d (gfInv x.last))))
    if 2 * x.len < k then { c := next, b := x.c, len := k - x.len, gap := 1, last := d }
    else { x with c := next, gap := x.gap + 1 }

/-- The error locator polynomial of syndromes. -/
def locate (syn : List Nat) : Locator := (syn.foldl (fun (x, seen) v => (Locator.step x (v :: seen), v :: seen)) (({} : Locator), ([] : List Nat))).1

/-- The formal derivative of a polynomial. -/
def gfDerive (p : List Nat) : List Nat := (p.drop 1).zipIdx.map fun (v, i) => if i % 2 = 0 then v else 0

/-- Corrects received symbols: the number of wrong ones and the codeword, or nothing when they are more than the code corrects. -/
def RsCode.decode (c : RsCode) (r : List Nat) : Option (Nat × List Nat) :=
  let syn := c.syndromes r
  if syn.all (· == 0) then some (0, r)
  else
    let x := locate syn
    let omega := (gfPolyMul syn x.c).take c.parity
    let deriv := gfDerive x.c
    let fixed := r.zipIdx.map fun (v, i) =>
      let inv := gfAlpha (1023 - (c.n - 1 - i))
      if gfEval x.c inv = 0 then (true, v ^^^ gfMul (gfAlpha (c.n - 1 - i)) (gfMul (gfEval omega inv) (gfInv (gfEval deriv inv)))) else (false, v)
    let wrong := (fixed.filter (·.1)).length
    if wrong = x.len ∧ wrong ≤ c.corrects then some (wrong, fixed.map (·.2)) else none

/-- The message symbols of 20 blocks: ten bits each in the order sent, the first the least significant (R254, log 140 [PRESUMED]). -/
def symbolsOf (blocks : List (BitVec 257)) : List Nat :=
  (chunks 10 514 (blocks.flatMap fun b => bitsMsb 257 b.toNat)).map natLsb

/-- The blocks of message symbols. -/
def blocksOf (symbols : List Nat) : List (BitVec 257) :=
  (chunks 257 20 (symbols.flatMap (bitsLsb 10))).map fun l => BitVec.ofNat 257 (natMsb l)

/-- The coded bits of a codeword in the order sent. -/
def codedBits (symbols : List Nat) : List Bool := symbols.flatMap (bitsLsb 10)

/-! ### Test patterns (R276) -/

/-- Bits of a pattern generator's register. -/
def TestMode.width : TestMode → Nat
  | .service => 0
  | .prbs13 => 13
  | .prbs31 => 31

/-- The next bit of the generator whose register holds the bits before it, newest least significant: 1 + x + x^2 + x^12 + x^13, and 1 + x^28 + x^31 (log 140 [PRESUMED]). -/
def TestMode.next (p : TestMode) (g : BitVec 31) : Bool :=
  match p with
  | .service => false
  | .prbs13 => g.getLsbD 12 ^^ g.getLsbD 11 ^^ g.getLsbD 1 ^^ g.getLsbD 0
  | .prbs31 => g.getLsbD 30 ^^ g.getLsbD 27

/-- A bit shifted into a register, newest least significant. -/
def shiftIn (g : BitVec 31) (b : Bool) : BitVec 31 := (g <<< 1) ||| (if b then 1 else 0)

/-- What a generator's bit is on the line, and back: PRBS31 is sent inverted (log 140 [PRESUMED]). -/
def TestMode.line (p : TestMode) (b : Bool) : Bool :=
  match p with
  | .prbs31 => !b
  | _ => b

/-- The next `n` line bits of a pattern, and the generator after them. -/
def TestMode.generate (p : TestMode) : Nat → BitVec 31 → List Bool × BitVec 31
  | 0, g => ([], g)
  | n + 1, g =>
    let b := p.next g
    let (l, g1) := p.generate n (shiftIn g b)
    (p.line b :: l, g1)

end Sys2Proof.Machine
end

