-- ==== Sys2Proof/Machine/Frames.lean ====
section
/-! DEFINITION. Haul frames: the header and trailer (R262, R263), checks 1 to 6 of a receiver (R264 to R266), and sending (R35, R40, R266). -/

namespace Sys2Proof.Machine

/-- The bytes of a frame before its trailer (R262). -/
def frameBytes (type : Nat) (f : Frame) : List Byte :=
  leBytes 1 type ++ [f.flags] ++ leBytes 2 f.source.toNat ++ leBytes 4 f.claim.toNat ++ leBytes 6 f.tick.toNat ++ leBytes 2 f.pipe.toNat
    ++ leBytes 4 f.seq.toNat ++ leBytes 2 f.payload.length ++ leBytes 2 f.layout.toNat ++ leBytes 8 f.spec.toNat ++ f.payload

/-- The trailer matches (R263). -/
def frameCrcOk (type : Nat) (f : Frame) : Bool := crc32c (frameBytes type f) == f.crc

/-- A frame with its trailer computed (R263). -/
def sealFrame (type : Nat) (f : Frame) : Frame := { f with crc := crc32c (frameBytes type f) }

/-- RX lane n. -/
def State.rx (s : State) (n : Nat) : RxLane := s.lanes.rx.getD n {}

/-- TX lane n. -/
def State.tx (s : State) (n : Nat) : TxLane := s.lanes.tx.getD n {}

/-- Changes RX lane n. -/
def State.modRx (s : State) (n : Nat) (f : RxLane → RxLane) : State :=
  { s with lanes := { s.lanes with rx := s.lanes.rx.modify n f } }

/-- Changes TX lane n. -/
def State.modTx (s : State) (n : Nat) (f : TxLane → TxLane) : State :=
  { s with lanes := { s.lanes with tx := s.lanes.tx.modify n f } }

/-- Changes twin-link RX lane n. -/
def State.modTwinRx (s : State) (n : Nat) (f : RxLane → RxLane) : State :=
  { s with lanes := { s.lanes with twinRx := s.lanes.twinRx.modify n f } }

/-- Twin-link RX lane n. -/
def State.twinRx (s : State) (n : Nat) : RxLane := s.lanes.twinRx.getD n {}

/-- A lane receiver. -/
def State.receiver (s : State) : LaneRef → RxLane
  | .haul n => s.rx n
  | .twin n => s.twinRx n

/-- Changes a lane receiver. -/
def State.modReceiver (s : State) (l : LaneRef) (f : RxLane → RxLane) : State :=
  match l with
  | .haul n => s.modRx n f
  | .twin n => s.modTwinRx n f

/-- The die in an event of a lane: the package for the twin link. -/
def laneDie : LaneRef → Nat
  | .haul n => dieOfLane n
  | .twin _ => 0xFF

/-- The lane number in an event. -/
def laneNumber : LaneRef → Nat
  | .haul n => n
  | .twin n => n

/-- Sparing at the receiver of die d. -/
def State.spareRx (s : State) (d : Nat) : SpareRx := s.lanes.spareRx.getD d {}

/-- The spare of die d carries a lane (R272). -/
def SpareRx.carries (x : SpareRx) : Bool := x.step == .carrying || x.step == .returning

/-- The role of an RX lane: a spare has none of its own, and takes that of the lane it stands in for (R36). -/
def State.rxRole (s : State) (lane : Nat) : LaneRole :=
  if lane < 128 then (s.rx lane).role
  else if (s.spareRx (lane - 128)).carries then (s.rx (s.spareRx (lane - 128)).lane).role
  else .off

/-- Sparing at the sender of die e. -/
def State.spareTx (s : State) (e : Nat) : SpareTx := s.lanes.spareTx.getD e {}

/-- The TX lane that a spare copies (R272 step 2). -/
def State.copied (s : State) (lane : Nat) : Option Nat :=
  let x := s.spareTx (lane - 128)
  if 128 ≤ lane ∧ x.copying then x.lane else none

/-- The role of a TX lane: a spare takes that of the lane it copies (R36). -/
def State.txRole (s : State) (lane : Nat) : LaneRole :=
  if lane < 128 then (s.tx lane).role else ((s.copied lane).map fun l => (s.tx l).role).getD .off

/-- A receiver delivers frames: LOCKED (R256), past the FIRST_BOUNDARY that delivery begins at (R257), and not waiting for the next one after a framing error
(R258). -/
def RxLane.delivers (x : RxLane) : Bool := x.lock == .locked && x.delivering && !x.walkHeld

/-- The role under which a lane delivers: its own, that of the lane a spare stands in for, and OFF while it delivers nothing, while its spare carries it, while
it is out for a kiln pass or a test, or failed (R34, R36, R256 to R258, R276, R428). -/
def State.deliverRole (s : State) (lane : Nat) : LaneRole :=
  let x := s.rx lane
  if !x.delivers || x.failed || x.inPass || x.carried || x.test != .service then .off else s.rxRole lane

/-- A lane delivers frames: a haul lane under a role, a twin-link lane while it is in service (check 1 of R264, R330). -/
def State.laneDelivers (s : State) : LaneRef → Bool
  | .haul n => s.deliverRole n != .off
  | .twin n => (s.twinRx n).delivers && !(s.twinRx n).inPass && !(s.twinRx n).failed

/-- Frame types of R262 that a role takes (R34, R264). -/
def roleTakes (role : LaneRole) (type : Nat) : Bool :=
  match role with
  | .grist => type == 1 || type == 4
  | .haul => type == 2 || type == 3 || type == 4
  | _ => false

/-- A lane takes a frame type: TWINSTATE on the twin link only, and nothing else there (check 4 of R264). -/
def State.laneTakes (s : State) (l : LaneRef) (type : Nat) : Bool :=
  match l with
  | .haul n => roleTakes (s.deliverRole n) type
  | .twin _ => type == 5

/-- HAUL_VERSION lies in a window ([3:0] lowest, [7:4] highest). -/
def inWindow (w : Byte) (v : Nat) : Bool := decide (w.toNat % 16 ≤ v ∧ v ≤ w.toNat / 16)

/-- Reserved header bits are zero: FLAGS [7:4], SOURCE [15:11] (R262), for BEAMPART LAYOUT [7] and [15:11] (R202), for TWINSTATE LAYOUT
[15:8] (R329), and for CONTROL LAYOUT [15:8], DEST [15:12] and bytes 26 to 27 (R267). -/
def headerClean (type : Nat) (f : Frame) : Bool :=
  decide (f.flags.toNat < 16) && decide (f.source.toNat < 2048) &&
    (type != 3 || (!f.layout.getLsbD 7 && decide (f.layout.toNat < 2048))) &&
    (type != 5 || decide (f.layout.toNat < 256)) &&
    (type != 4 || (decide (f.layout.toNat < 256) && decide (f.spec.toNat % 65536 < 4096) && decide (f.spec.toNat / 65536 % 65536 = 0)))

/-- The claim table's entry of a position (R265). -/
def State.claimOf (s : State) (pos : Nat) : Nat := s.lanes.claims.getD pos 0

/-- Enters a claim into the table: it never falls (R265). -/
def State.enterClaim (s : State) (pos claim : Nat) : State :=
  { s with lanes := { s.lanes with claims := s.lanes.claims.modify pos fun c => max c claim } }

/-- Notes that a frame of a position was accepted in the running tick, for POSITION_LOST (R352). Log 111 [DEDUCED]. -/
def State.hear (s : State) (pos : Nat) : State :=
  let t := s.tickNow.getD 0
  { s with data := { s.data with heard := upsert (·.1 == pos) (pos, t, 0, false) (fun _ => (pos, t, 0, false)) s.data.heard } }

/-- SEQ_GAPS after a frame that passed checks 1 to 6, and the frame as the previous one of the lane (R266). -/
def RxLane.noteSeq (x : RxLane) (f : Frame) : RxLane :=
  let gap := match x.last with
    | some (src, cl, sq) => src == f.source && cl == f.claim && f.seq != sq + 1
    | none => false
  { x with last := some (f.source, f.claim, f.seq), seqGaps := rcAdd 32 x.seqGaps (nat01 gap) }

/-- The receipt of a frame takes it from those that the walk found whole (log 141 [DESIGN CHOICE]). -/
def State.popFrame (s : State) (l : LaneRef) : State :=
  if (s.receiver l).frames.isEmpty then s else s.modReceiver l fun x => { x with frames := x.frames.drop 1 }

/-- A frame whose HAUL_VERSION lies outside the window: dropped and counted, and reported once per lane per lock (check 3 of R264, R287). -/
def State.versionDrop (s : State) (l : LaneRef) (version : Nat) : State :=
  let raised := (s.receiver l).versionRaised
  let s1 := s.modReceiver l fun x => { x with versionDrops := rcAdd 32 x.versionDrops 1, versionRaised := true }
  if raised then s1 else s1.raise 0x0303 (laneDie l) (leBytes 1 (laneNumber l) ++ leBytes 1 version)

/-- Checks 1 to 6 of R264 on a lane, each failure counted; true when the frame goes on to its type checks. A frame that overlaps a codeword beyond the FEC
is discarded before them (R259). Log 141 [DESIGN CHOICE]. -/
def State.receiveOn (s0 : State) (l : LaneRef) (type : Nat) (f : Frame) : Bool × State :=
  let pos := f.source.toNat % 1024
  let s := s0.popFrame l
  if !s0.laneDelivers l then (false, s)
  else if (s0.receiver l).frames.headD false then (false, s)
  else if !frameCrcOk type f then (false, s.modReceiver l fun x => { x with crcErrors := rcAdd 32 x.crcErrors 1 })
  else if !inWindow s.ident.haulWindow (f.flags.toNat % 16) then (false, s.versionDrop l (f.flags.toNat % 16))
  else if !s0.laneTakes l type then (false, s.modReceiver l fun x => { x with roleMismatch := rcAdd 32 x.roleMismatch 1 })
  else if !headerClean type f then (false, s.modReceiver l fun x => { x with headerMalformed := rcAdd 32 x.headerMalformed 1 })
  else if f.claim.toNat < s.claimOf pos then (false, s.modReceiver l fun x => { x with claimStale := rcAdd 32 x.claimStale 1 })
  else (true, (s.enterClaim pos f.claim.toNat).modReceiver l fun x => x.noteSeq f)

/-- The checks on a haul lane; the sender of a frame that passes them was heard (R264, R352). -/
def State.receive (s : State) (lane type : Nat) (f : Frame) : Bool × State :=
  let r := s.receiveOn (.haul lane) type f
  (r.1, if r.1 then r.2.hear (f.source.toNat % 1024) else r.2)

/-- A frame that passed every check of R264 (FRAMES_OK, R284). -/
def State.frameOk (s : State) (lane : Nat) : State := s.modRx lane fun x => { x with framesOk := rcAdd 64 x.framesOk 1 }

/-- The transmitters of the package may send: its role was taken at start-up, its lanes are powered, it is not silenced, no STANDBY, its claim announced,
not detached (R40, R337, R338, R351, R469, R471, R476). -/
def State.transmits (s : State) : Bool :=
  !s.power.inReset && decide (7 ≤ s.power.stage) && (s.power.mode == .run || s.power.mode == .idle) && !s.twin.silenced && s.twin.role != .standby && !s.twin.announceDue && !s.twin.detached && !s.twin.exhausted

/-- Ingest, turn writer, tiles and beam engine run: they do in an ACTIVE or ALONE package and in a hot standby (R327). -/
def State.works (s : State) : Bool := !s.twin.detached && (s.twin.role != .standby || s.twin.mode == .hot)

/-- The transmitter of a TX lane is in service: neither in test mode, nor in a kiln pass, nor failed (R276, R428, R430). -/
def TxLane.serves (x : TxLane) : Bool := x.test == .service && !x.inPass && !x.failed

/-- The spare that copies a TX lane, when it does (R272 step 2). -/
def State.copySpare (s : State) (lane : Nat) : Option Nat :=
  let e := 128 + lane / 16
  if lane < 128 ∧ s.copied e = some lane ∧ (s.tx e).serves then some e else none

/-- The transmitters that carry a TX lane's stream: its own while in service, and the spare that copies it (R272, R273). -/
def State.txCarriers (s : State) (lane : Nat) : List Nat :=
  (if (s.tx lane).serves then [lane] else []) ++ (s.copySpare lane).toList

/-- A TX lane's stream is sent: role HAUL, on its own transmitter or its spare's (R35, R272, R276, R428). -/
def State.txSends (s : State) (lane : Nat) : Bool :=
  s.transmits && (s.tx lane).role == .haul && !(s.txCarriers lane).isEmpty

/-- The claim that frames carry (R338). -/
def State.ownClaim (s : State) : BitVec 32 := BitVec.ofNat 32 s.twin.claim

/-- Sends a frame on a TX lane with this package's version, source, claim and the lane's SEQ: it joins the lane's line stream, and a spare that copies the lane
carries it too, SEQ and all; a lane that does not send drops it (R145, R258, R262, R266, R272). -/
def State.sendHaul (s : State) (lane type : Nat) (f : Frame) : State :=
  if s.txSends lane then
    let g := sealFrame type { f with flags := 1, source := s.source, claim := s.ownClaim, seq := (s.tx lane).seq }
    (s.txCarriers lane).foldl (fun s k => s.emit (.haul k type g))
      (s.modTx lane fun x => { x with seq := x.seq + 1, line := { x.line with queue := x.line.queue ++ [(type, g)] } })
  else s

end Sys2Proof.Machine
end

