-- ==== Sys2Proof/Machine/Receiver.lean ====
section
/-! DEFINITION. The lane receiver: comma search, lock and loss (R255 to R257), deskew (R260, R261), codewords (R252 to R254) and the frame walk (R258,
R259). -/

namespace Sys2Proof.Machine

/-- PATTERN (R255). -/
def commaPattern : BitVec 128 := 0xF3A05C9E0B6D71E42C8FD519A6473E0B

/-- CRC-8 with polynomial 0x07 over one byte, continued (R255). -/
def crc8Byte (c : Nat) (b : Nat) : Nat :=
  (List.range 8).foldl (fun c _ => if 128 ≤ c then (2 * c) % 256 ^^^ 0x07 else 2 * c) (c ^^^ b)

/-- CHECK of a comma (R255). -/
def commaCheck (lane phase : Nat) : Nat := crc8Byte (crc8Byte 0 lane) phase

/-- The comma that a transmitter of `lane` sends with PHASE `phase`, first sent bit most significant (R255). -/
def commaBits (lane phase : Nat) : BitVec 144 := BitVec.ofNat 144 (commaPattern.toNat * 65536 + lane * 256 + commaCheck lane phase)

/-- The three fields of what was received. -/
def CommaSeen.pattern (c : CommaSeen) : BitVec 128 := BitVec.ofNat 128 (c.bits.toNat / 65536)

/-- LANE as received. -/
def CommaSeen.lane (c : CommaSeen) : Nat := c.bits.toNat / 256 % 256

/-- CHECK as received. -/
def CommaSeen.check (c : CommaSeen) : Nat := c.bits.toNat % 256

/-- Bits of PATTERN that differ. -/
def CommaSeen.wrong (c : CommaSeen) : Nat :=
  let d := (CommaSeen.pattern c ^^^ commaPattern)
  ((List.range 128).filter d.getLsbD).length

/-- The PHASE with which CHECK matches LANE, if any (R256). -/
def CommaSeen.phase? (c : CommaSeen) : Option Nat := (List.range 5).find? fun k => commaCheck (CommaSeen.lane c) k == CommaSeen.check c

/-- What the scrambler is loaded with at block 0 of a period of a lane (R253). -/
def scramblerLoad (lane : Nat) : BitVec 31 := BitVec.ofNat 31 (0x7FFFFF00 ||| lane)

/-- A receiver that starts a new period: block 0, scrambler loaded with 0x7FFF_FF00 OR LANE (R253). -/
def RxLane.period (x : RxLane) : RxLane :=
  { x with block := 0, scrambler := scramblerLoad x.remoteLane, boundaryField := 0, complementField := 0, fieldBlocks := 0 }

/-- A receiver that drops to SEARCH; frames not yet whole are discarded (R257). -/
def RxLane.unlock (x : RxLane) : RxLane :=
  { x with lock := .search, missRun := 0, delivering := false, walkLeft := 0, walkHeader := [], walkHeld := true, walkSkip := 0, walkBad := false,
           walkBuf := [], walkChecked := false, boundaries := [] }

/-- First block of the codeword that follows a comma with this PHASE, within the period that the comma begins (R254). -/
def firstBlock (phase : Nat) : Nat := [0, 16, 12, 8, 4].getD phase 0

/-- The number of the first block of the codeword that is in hand at a comma with this PHASE: it may have begun in the period before (R254). -/
def blockAtComma (phase : Nat) : Nat := if firstBlock phase = 0 then 16384 else 16384 - (20 - firstBlock phase)

/-- A receiver that locks at a comma of this PHASE: deliveries, LANE_SKEW and HAUL_VERSION_MISMATCH start afresh (R256, R261, R264). -/
def RxLane.enter (x : RxLane) (phase : Nat) : RxLane :=
  { x.unlock with lock := .locked, phase := phase, block := blockAtComma phase, fieldBlocks := 0, skewRaised := false, versionRaised := false }

/-- Twin RX lanes that are LOCKED, bit k for lane k (R356 LINK_LANES). -/
def State.linkLanes (s : State) : Nat :=
  (List.range 4).foldl (fun acc k => acc + (if (s.lanes.twinRx.getD k {}).lock = .locked then 2 ^ k else 0)) 0

/-- The tick running, as events carry it. -/
def State.eventTick (s : State) : Nat := s.tickNow.getD 0

/-- TWIN_LINK_DEGRADED while one to three lanes are LOCKED, or TWIN_LINK_LOST, when the LOCKED lanes of the twin link have changed from `before` (R331). Log 110
[DEDUCED]. Log 110 [DEDUCED]. -/
def State.linkReport (before : Nat) (s : State) : State :=
  if s.linkLanes = before ∨ s.linkLanes = 15 then s
  else if s.linkLanes = 0 then s.raise 0x0509 0xFF (leBytes 6 s.eventTick)
  else s.raise 0x0508 0xFF (leBytes 1 s.linkLanes)

/-- Sparing at the receiver of die d changes. -/
def State.modSpareRx (s : State) (d : Nat) (f : SpareRx → SpareRx) : State :=
  { s with lanes := { s.lanes with spareRx := s.lanes.spareRx.modify d f } }

/-- LOCK_LOSSES, and the report of the loss: LANE_LOCK_LOST for a lane in role GRIST or HAUL, R331 for a twin-link lane (R257). A lane that its spare
carries is noted as lost (R274). Log 62 [DEDUCED]. -/
def State.loseLock (s : State) (l : LaneRef) : State :=
  let reported : Bool := match l with
    | .haul n => (if n < 128 then (s.rx n).role != .off else (s.spareRx (n - 128)).carries && (s.rx (s.spareRx (n - 128)).lane).role != .off)
    | .twin _ => false
  let s1 := s.modReceiver l fun x => { x.unlock with lockLosses := rcAdd 32 x.lockLosses 1 }
  match l with
  | .twin _ => s1.linkReport s.linkLanes
  | .haul n =>
    let s2 := if n < 128 ∧ (s1.rx n).carried then s1.modSpareRx (dieOfLane n) fun x => { x with lost := true } else s1
    if reported then (s2.raise 0x0301 (dieOfLane n) (leBytes 1 n ++ leBytes 6 s.eventTick)).evident 2 (dieOfLane n) n 1 else s2

/-! ### Deskew (R260, R261) -/

/-- The lane that a spare RX lane stands in for, or is being proven for (R260, R272). -/
def State.stoodFor (s : State) (n : Nat) : Option Nat :=
  let x := s.spareRx (n - 128)
  if n < 128 ∨ x.step = .idle ∨ x.step = .released then none else some x.lane

/-- The lanes of a receiver's deskew group: RX lanes 8j to 8j + 7, or the four twin-link lanes (R260). -/
def deskewGroup : LaneRef → List LaneRef
  | .haul n => (List.range 8).map fun k => .haul (8 * (n / 8) + k)
  | .twin _ => (List.range 4).map .twin

/-- The lane whose comma is the reference of a receiver: the lowest-numbered locked lane of its group, and for a spare the lane it stands in for (R260). -/
def State.reference (s : State) (l : LaneRef) : Option LaneRef :=
  let isLocked (m : LaneRef) : Bool := (s.receiver m).lock == .locked
  match l with
  | .haul n => if n < 128 then (deskewGroup l).find? isLocked else ((s.stoodFor n).map .haul).filter isLocked
  | .twin _ => (deskewGroup l).find? isLocked

/-- The comma period in picoseconds: 20.97152 µs on a haul lane (R248), 4,325,376 bits at 53.125 Gb/s on the twin link (R279). -/
def commaPeriodPs : LaneRef → Nat
  | .haul _ => 20971520
  | .twin _ => 81418842

/-- The offset of one arrival from another, a whole number of periods apart left out: from -P/2 to below P/2. -/
def skewBetween (period a ref : Nat) : Int := ((a : Int) - ref + (period / 2 : Nat)) % period - (period / 2 : Nat)

/-- The offset of a receiver's comma from its reference: 0 on the reference lane, and on a lane with none (R260, R284). -/
def State.skewOf (s : State) (l : LaneRef) : Int :=
  match s.reference l with
  | some r => skewBetween (commaPeriodPs l) (s.receiver l).arrivalPs (s.receiver r).arrivalPs
  | none => 0

/-- The skew of a receiver noted (R284), its delay through deskew set, so that its data is released at the reference plus 64 ns (R260), and LANE_SKEW raised
once per lock when it lies outside ±64 ns: such a lane is not delayed (R261). -/
def State.noteSkew (s : State) (l : LaneRef) : State :=
  let skew := s.skewOf l
  let out := decide (64000 < skew.natAbs)
  let raised := (s.receiver l).skewRaised
  let s1 := s.modReceiver l fun x => { x with skewPs := skew, deskewPs := if out then 0 else (64000 - skew).toNat, skewRaised := x.skewRaised || out }
  if out && !raised then s1.raise 0x0302 (laneDie l) (leBytes 1 (laneNumber l) ++ leInt 4 skew) else s1

/-- The receivers whose skew a comma of lane `l` bears on: its group, and the spares that stand in for a lane of it. -/
def State.skewedBy (s : State) (l : LaneRef) : List LaneRef :=
  let group : List LaneRef := match l with
    | .haul n => if n < 128 then deskewGroup l else [l]
    | .twin _ => deskewGroup l
  let spares := ((List.range 8).filter fun d => match s.stoodFor (128 + d) with
    | some n => group.contains (.haul n)
    | none => false).map fun d => LaneRef.haul (128 + d)
  (group ++ spares).filter fun m => (s.receiver m).lock == .locked

/-- A present comma of a locked lane arrives: the skews it bears on are measured anew (R260, R261). -/
def State.arrive (s : State) (l : LaneRef) (atPs : Nat) : State :=
  let s1 := s.modReceiver l fun x => { x with arrivalPs := atPs }
  (s1.skewedBy l).foldl State.noteSkew s1

/-- A present comma of a locked lane: a changed LANE or a CHECK that does not match counts in COMMA_BAD; LANE and the run of PHASE are kept (R257). -/
def RxLane.present (x : RxLane) (c : CommaSeen) : RxLane :=
  let next := (x.phase + 1) % 5
  let wrong := CommaSeen.lane c != x.remoteLane || CommaSeen.check c != commaCheck x.remoteLane next
  { x with phase := next, missRun := 0, commaBad := rcAdd 32 x.commaBad (nat01 wrong) }

/-- A missing comma of a locked lane (R257). -/
def RxLane.missed (x : RxLane) : RxLane :=
  { x with phase := (x.phase + 1) % 5, missRun := x.missRun + 1, commaMissed := rcAdd 32 x.commaMissed 1 }

/-- One tested comma position of a receiver (R256, R257, R261). A lane that a kiln pass took out of lock locks anew without a report (R431). -/
def State.comma (s : State) (l : LaneRef) (c : CommaSeen) : State :=
  let x := s.receiver l
  let exactly := CommaSeen.pattern c == commaPattern
  match x.lock with
  | .search =>
    match (if exactly then CommaSeen.phase? c else none) with
    | some k => s.modReceiver l fun x => { x with lock := .candidate 0, remoteLane := CommaSeen.lane c, phase := k }
    | none => s
  | .candidate n =>
    let next := (x.phase + 1) % 5
    if exactly && CommaSeen.lane c == x.remoteLane && CommaSeen.check c == commaCheck x.remoteLane next then
      if n = 2 then
        let s1 := (s.modReceiver l fun y => { y.enter next with quiet := false }).arrive l c.atPs
        if x.quiet then s1 else s1.linkReport s.linkLanes
      else s.modReceiver l fun x => { x with lock := .candidate (n + 1), phase := next }
    else s.modReceiver l RxLane.unlock
  | .locked =>
    if CommaSeen.wrong c ≤ 8 then (s.modReceiver l fun x => x.present c).arrive l c.atPs
    else
      let s1 := s.modReceiver l RxLane.missed
      if 4 ≤ x.missRun + 1 then s1.loseLock l else s1

/-! ### The frame walk (R258, R259) -/

/-- A framing error: counted, and no frame is taken until the next period's FIRST_BOUNDARY (R258). -/
def RxLane.slip (x : RxLane) : RxLane :=
  { x with framingSlips := rcAdd 32 x.framingSlips 1, walkLeft := 0, walkHeader := [], walkHeld := true, walkBad := false }

/-- The frame in hand is whole: it is discarded when it overlaps a codeword beyond the FEC (R259). Log 141 [DESIGN CHOICE]. -/
def RxLane.frameWhole (x : RxLane) : RxLane := { x with walkLeft := 0, walkBad := false, frames := x.frames ++ [x.walkBad] }

/-- One byte of the stream as the walk takes it, and whether its codeword was beyond the FEC (R258, R259). -/
def RxLane.walkByte (x : RxLane) (p : Byte × Bool) : RxLane :=
  let bad := x.walkBad || p.2
  if x.walkHeld then x
  else if x.walkSkip ≠ 0 then { x with walkSkip := x.walkSkip - 1 }
  else if x.walkLeft ≠ 0 then
    if x.walkLeft = 1 then RxLane.frameWhole { x with walkBad := bad } else { x with walkLeft := x.walkLeft - 1, walkBad := bad }
  else if x.walkHeader.isEmpty then
    if p.1 = 0 then x else if p.1.toNat ≤ 5 then { x with walkHeader := [p.1], walkBad := p.2 } else x.slip
  else
    let h := x.walkHeader ++ [p.1]
    if h.length < 22 then { x with walkHeader := h, walkBad := bad }
    else if 8192 < field h 20 2 then x.slip
    else { x with walkHeader := [], walkLeft := 14 + field h 20 2, walkBad := bad }

/-- The walk over bytes. -/
def RxLane.walk (x : RxLane) (l : List (Byte × Bool)) : RxLane := l.foldl RxLane.walkByte x

/-- The bytes of the period received so far that wait for the comparison are walked. -/
def RxLane.walkOn (x : RxLane) : RxLane := { (x.walk x.walkBuf) with walkBuf := [] }

/-- The boundary that the walk reaches first in the period, in bytes from its start, as the frame in hand gives it; nothing while its PAYLOAD_LEN is not
known or is a framing error (R259). -/
def RxLane.nextBoundary (x : RxLane) : Option Nat :=
  if x.walkSkip ≠ 0 then some x.walkSkip
  else if x.walkHeader.isEmpty then some x.walkLeft
  else
    let need := 22 - x.walkHeader.length
    let h := x.walkHeader ++ (x.walkBuf.take need).map (·.1)
    if h.length < 22 ∨ 8192 < field h 20 2 then none else some (need + 14 + field h 20 2)

/-- Bytes that the period holds: those received wait in `walkBuf` until FIRST_BOUNDARY is compared, and are walked after that. -/
def RxLane.takeBytes (x : RxLane) (l : List (Byte × Bool)) : RxLane :=
  if x.walkChecked then x.walk l else { x with walkBuf := x.walkBuf ++ l }

/-- The walk goes on from FIRST_BOUNDARY: the frame in hand, which spans the disputed bytes, is discarded (R259). -/
def RxLane.continueFrom (x : RxLane) (boundary : Nat) : RxLane :=
  RxLane.walkOn { x with walkHeld := false, walkSkip := boundary, walkLeft := 0, walkHeader := [], walkBad := false }

/-- The comparison at block 16 (R259), and the begin of delivery at the FIRST_BOUNDARY of a period whose fields are complements (R257). -/
def RxLane.compare (x : RxLane) (boundary complement : Half) : RxLane :=
  let fb := boundary.toNat
  let y := { x with walkChecked := true, fieldBlocks := 0 }
  if boundary ≠ ~~~complement then y.walkOn
  else
    let z := { y with boundaries := (fb :: x.boundaries).take 2, delivering := true }
    if x.walkHeld then z.continueFrom fb
    else if x.nextBoundary = none ∨ x.nextBoundary = some fb then z.walkOn
    else RxLane.continueFrom { z with framingSlips := rcAdd 32 z.framingSlips 1 } fb

/-- The comparison of the fields that the period's blocks gave; where not all have come since the last comparison, of those that the lane carries. A walk that
got no block of the period has no bytes to dispute and stands at FIRST_BOUNDARY. Log 141 [DESIGN CHOICE]. -/
def RxLane.compareAt (x : RxLane) (boundary complement : Half) : RxLane :=
  if x.fieldBlocks = 32 then x.compare x.boundaryField x.complementField
  else if x.fieldBlocks = 0 ∧ boundary = ~~~complement then RxLane.compare { x with walkHeld := true } boundary complement
  else x.compare boundary complement

/-! ### Codewords (R251 to R254) -/

/-- One bit of the scrambler's generator x^31 + x^28 + 1: the output bit and the next state (R253). -/
def scrambleBit (g : BitVec 31) : Bool × BitVec 31 :=
  let b := g.getLsbD 30 ^^ g.getLsbD 27
  (b, (g <<< 1) ||| (if b then 1 else 0))

/-- Descrambles `n` bits of a block, first sent bit most significant. -/
def descramble : Nat → BitVec 31 → Nat → Nat → Nat × BitVec 31
  | 0, g, acc, _ => (acc, g)
  | n + 1, g, acc, v =>
    let (b, g1) := scrambleBit g
    descramble n g1 (2 * acc + ((v / 2 ^ n % 2) ^^^ nat01 b)) v

/-- Reverses the bits of a byte: each byte is sent least significant bit first (R251). -/
def reverseByte (v : Nat) : Nat := (List.range 8).foldl (fun acc i => acc + (v / 2 ^ i % 2) * 2 ^ (7 - i)) 0

/-- A new period begins for the walk: bytes that were never compared are walked, and the comparison is due again. -/
def RxLane.newPeriod (x : RxLane) : RxLane := { (if x.walkChecked then x else x.walkOn).period with walkChecked := false }

/-- One block: its H bit joins FIRST_BOUNDARY or its complement, its bytes go to the walk; `beyond`: its codeword was beyond the FEC (R251, R252, R259). -/
def RxLane.takeBlock (beyond : Bool) (x : RxLane) (v : BitVec 257) : RxLane :=
  let x0 := if x.block = 16384 then x.newPeriod else x
  let (d, g) := descramble 257 x0.scrambler 0 v.toNat
  let h := d / 2 ^ 256
  let bytes := (List.range 32).map fun i => (BitVec.ofNat 8 (reverseByte (d / 2 ^ (8 * (31 - i)) % 256)), beyond)
  let x1 := { x0 with
    scrambler := g
    block := x0.block + 1
    fieldBlocks := if x0.block < 32 then x0.fieldBlocks + 1 else x0.fieldBlocks
    boundaryField := if x0.block < 16 then x0.boundaryField ||| BitVec.ofNat 16 (h * 2 ^ x0.block) else x0.boundaryField
    complementField := if 16 ≤ x0.block ∧ x0.block < 32 then x0.complementField ||| BitVec.ofNat 16 (h * 2 ^ (x0.block - 16)) else x0.complementField }
  x1.takeBytes bytes

/-- The code of a receiver's codewords (R254, R279). -/
def rsCodeOf : LaneRef → RsCode
  | .haul _ => haulCode
  | .twin _ => twinCode

/-- SPARE_CW_THRESH in force (R280). -/
def State.sparingThreshold (s : State) (lane : Nat) : Nat := orDefault (s.cfg.rxCfg.getD lane {}).threshold 9

/-- A codeword is bad for SPARE_AUTO: at or above the lane's threshold, or not corrected (R270). -/
def State.badCodeword (s : State) (l : LaneRef) (corrected : Option Nat) : Bool :=
  match l, corrected with
  | .haul n, some k => decide (s.sparingThreshold n ≤ k)
  | .haul _, none => true
  | .twin _, _ => false

/-- A codeword of a locked lane: the symbols corrected or a codeword not corrected are counted, its blocks pass on, and a bad one is noted for SPARE_AUTO
(R254, R259, R270). Log 89 [DEDUCED]. -/
def State.decodeCodeword (s : State) (l : LaneRef) (symbols : List (BitVec 10)) : State :=
  let received := symbols.map (·.toNat)
  let r := (rsCodeOf l).decode received
  let bad := s.badCodeword l (r.map (·.1))
  s.modReceiver l fun x =>
    (blocksOf (((r.map (·.2)).getD received).take 514)).foldl (RxLane.takeBlock r.isNone)
      { x with fecCorrected := rcAdd 64 x.fecCorrected ((r.map (·.1)).getD 0), fecUncorrected := rcAdd 32 x.fecUncorrected (nat01 r.isNone)
               badNow := x.badNow || bad }

/-! ### The pattern checker (R276) -/

/-- One pattern bit at a checker that has not locked: it follows what it receives, and locks when as many bits in a row as its register holds agree with the
register that as many bits before them filled. Log 142 [DESIGN CHOICE]. -/
def RxLane.seekBit (x : RxLane) (b : Bool) : RxLane :=
  let w := x.test.width
  let run := if x.checkerRun < w ∨ x.test.next x.checker = b then x.checkerRun + 1 else w
  { x with checker := shiftIn x.checker b, checkerRun := run, checkerLocked := decide (2 * w ≤ run) }

/-- One symbol of the line at a lane's checker: bits, bit errors and symbol errors are counted once it has locked (R276, R285). Log 142 [DESIGN CHOICE]. -/
def RxLane.checkSymbol (x : RxLane) (a b : Bool) : RxLane :=
  let (p, q) := (x.test.line a, x.test.line b)
  if x.checkerLocked then
    let e1 := x.test.next x.checker
    let g1 := shiftIn x.checker e1
    let e2 := x.test.next g1
    { x with checker := shiftIn g1 e2, bits := rcAdd 64 x.bits 2, bitErrors := rcAdd 64 x.bitErrors (nat01 (e1 != p) + nat01 (e2 != q))
             symbolErrors := rcAdd 64 x.symbolErrors (nat01 (e1 != p || e2 != q)) }
  else (x.seekBit p).seekBit q

/-- The bits of a line at a lane's checker. -/
def RxLane.checkBits (x : RxLane) : List Bool → RxLane
  | a :: b :: l => (x.checkSymbol a b).checkBits l
  | _ => x

/-- CODEWORD_DECODE: an RS codeword of a locked lane is decoded (R254); the bits of a lane in test mode go to its checker (R276), which in
DORMANT is powered down (R471). Log 8 [DESIGN CHOICE]. Log 89
[DEDUCED]. Log 89 [DEDUCED]. -/
def execCodewordDecode (lane : LaneRef) (message parity : List (BitVec 10)) (s : State) : Host.Outcome State Fault Refusal :=
  .next (if (s.receiver lane).test ≠ .service then
      if s.power.mode = .dormant then s else s.modReceiver lane fun x => x.checkBits (codedBits ((message ++ parity).map (·.toNat)))
    else if (s.receiver lane).lock = .locked then s.decodeCodeword lane (message ++ parity)
    else s)

/-- FIRST_BOUNDARY_CHECK: the comparison at block 16 of a period of a locked lane (R259). -/
def execFirstBoundaryCheck (lane : LaneRef) (field complement : Half) (s : State) : Host.Outcome State Fault Refusal :=
  .next (if (s.receiver lane).lock = .locked then s.modReceiver lane fun x => x.compareAt field complement else s)

/-! ### Kiln records (R429, R433, R459) -/

/-- The die of an element, as its record holds it: 0xFF for one of the whole package (R440). -/
def KilnElement.norm (e : KilnElement) : KilnElement :=
  match e.kind with
  | 1 => { e with die := dieOfLane e.index }
  | 2 => { e with die := dieOfLane e.index }
  | 4 => e
  | _ => { e with die := 0xFF }

/-- The record of an element. -/
def State.kilnRecord (s : State) (e : KilnElement) : KilnRecord :=
  (s.health.kiln.find? (·.element == KilnElement.norm e)).getD { element := KilnElement.norm e }

/-- Changes it. -/
def State.modKiln (s : State) (e : KilnElement) (f : KilnRecord → KilnRecord) : State :=
  { s with health := { s.health with kiln := upsert (·.element == KilnElement.norm e) { element := KilnElement.norm e } f s.health.kiln } }

end Sys2Proof.Machine
end

