-- ==== Sys2Proof/Machine/TwinLink.lean ====
section
/-! DEFINITION. Sending on the twin link (R329 to R331) and tun repair requests (R179, R348). -/

namespace Sys2Proof.Machine

/-- Twin-link TX lane k. -/
def State.twinTx (s : State) (k : Nat) : TxLane := s.lanes.twinTx.getD k {}

/-- Changes twin-link TX lane k. -/
def State.modTwinTx (s : State) (k : Nat) (f : TxLane → TxLane) : State :=
  { s with lanes := { s.lanes with twinTx := s.lanes.twinTx.modify k f } }

/-- A twin-link lane carries frames of the rotation: LOCKED and deskewed, neither direction in a kiln pass or failed (R261, R331, R428, R431). -/
def State.twinCarries (s : State) (k : Nat) : Bool :=
  (s.twinRx k).lock == .locked && decide ((s.twinRx k).skewPs.natAbs ≤ 64000) && !(s.twinRx k).inPass && !(s.twinRx k).failed && !(s.twinTx k).inPass && !(s.twinTx k).failed

/-- Lanes of the twin link that are LOCKED, lowest first (R331). -/
def State.lockedLanes (s : State) : List Nat := (List.range 4).filter s.twinCarries

/-- LOCKED lanes on which no frame waits, in rotation (R331). -/
def State.freeLanes (s : State) : List Nat :=
  let ls := s.lockedLanes
  let k := s.twin.rotation % max ls.length 1
  (ls.drop k ++ ls.take k).filter fun n => (s.twinTx n).line.queue.isEmpty

/-- Rank of a message in the priority order of R331. -/
def twinRank : Nat → Nat
  | 1 => 0
  | 5 | 6 => 1
  | 8 | 9 => 2
  | 4 => 3
  | 2 => 4
  | 3 => 5
  | _ => 6

/-- A TWINSTATE frame (R329): TICK as given, LAYOUT the MSG, bytes 24 to 27 SEGMENT, bytes 28 to 31 the TRANSACTION. -/
def State.twinFrame (s : State) (msg tick segment transaction : Nat) (payload : List Byte) : Frame :=
  { flags := 1, source := s.source, claim := s.ownClaim, tick := BitVec.ofNat 48 tick, layout := BitVec.ofNat 16 msg
    spec := BitVec.ofNat 64 (segment + 2 ^ 32 * transaction), payload := payload }

/-- A frame goes out on a lane with the lane's SEQ (R266). -/
def State.twinGive (s : State) (lane : Nat) (f : Frame) : State :=
  let g := sealFrame 5 { f with seq := (s.twinTx lane).seq }
  let s1 := s.modTwinTx lane fun x => { x with seq := x.seq + 1, line := { x.line with queue := x.line.queue ++ [(5, g)] } }
  State.emit { s1 with twin := { s1.twin with rotation := s1.twin.rotation + 1 } } (.twin lane g)

/-- Waiting frames go to the lanes that are free, in rotation: at most `n` of them (R331). -/
def State.twinPump : Nat → State → State
  | 0, s => s
  | n + 1, s =>
    match s.twin.waiting, s.freeLanes with
    | f :: rest, lane :: _ => State.twinPump n ({ s with twin := { s.twin with waiting := rest } }.twinGive lane f)
    | _, _ => s

/-- A frame joins those that wait for the twin link, in priority order, and leaves at once on a lane that is free; with no LOCKED lane it is not sent (R331), nor on
a link that stays unused (R349 step 2). -/
def State.twinQueue (s : State) (f : Frame) : State :=
  if s.lockedLanes.isEmpty || s.twin.incompatible then s
  else
    State.twinPump (s.twin.waiting.length + 1)
      { s with twin := { s.twin with waiting := insertBy (fun g => twinRank (g.layout.toNat % 256)) f s.twin.waiting } }

/-- Sends a TWINSTATE message of one frame (R329, R331). -/
def State.sendTwin (s : State) (msg transaction : Nat) (payload : List Byte) : State :=
  s.twinQueue (s.twinFrame msg s.eventTick 0 transaction payload)

/-! ### Messages of several frames -/

/-- A list cut into pieces of `n`; one empty piece for an empty list. -/
def pieces {α : Type} (n : Nat) (l : List α) : List (List α) :=
  (List.range (max 1 (ceilDiv l.length n))).map fun i => (l.drop (n * i)).take n

/-- SEGMENT of a STATE_COPY frame: index [30:0] and LAST (R329). -/
def segmentField (index count : Nat) : Nat := index + (if index + 1 = count then 2 ^ 31 else 0)

/-- Sends a state copy of boundary `tick` in segments of up to 8,192 bytes (R329). Log 115 [DEDUCED]. -/
def State.sendSegments (s : State) (tick : Nat) (bytes : List Byte) : State :=
  let ps := pieces 8192 bytes
  (ps.zipIdx).foldl (fun s (p, i) => s.twinQueue (s.twinFrame 2 tick (segmentField i ps.length) 0 p)) s

/-- The bytes of a journal entry, over which JOURNAL_CRC runs and of which JOURNAL carries parts (R329, R340; the layout of an entry is not the spec's, log 17 [DESIGN CHOICE]). -/
def journalBytes (e : JournalEntry) : List Byte :=
  leBytes 4 e.seq ++ leBytes 2 e.opcode ++ leBytes 2 e.args.length ++ leBytes 4 e.handle ++ e.args ++ e.mem

/-- The entry that these bytes spell. Log 17 [DESIGN CHOICE]. -/
def journalEntry (l : List Byte) : JournalEntry :=
  let n := field l 6 2
  { seq := field l 0 4, opcode := field l 4 2, handle := field l 8 4, args := (l.drop 12).take n, mem := l.drop (12 + n) }

/-- Sends a journal entry: JOURNAL_SEQ, PART and PARTS before each part of up to 8,184 bytes (R329). Its TRANSACTION is JOURNAL_SEQ (log 17 [DESIGN CHOICE]). -/
def State.sendEntry (s : State) (e : JournalEntry) : State :=
  let ps := pieces 8184 (journalBytes e)
  (ps.zipIdx).foldl (fun s (p, i) =>
    s.twinQueue (s.twinFrame 3 s.eventTick 0 e.seq (leBytes 4 e.seq ++ leBytes 2 i ++ leBytes 2 ps.length ++ p))) s

/-- Frames that wait have left, in rotation, by the time that a row moves data-path time on: the lines carry far more than waits (R72, R331); with no LOCKED lane they
are not sent. Log 143 [DESIGN CHOICE]. -/
def State.drainLines (s : State) : State :=
  let idle (x : TxLane) : TxLane := { x with line := { x.line with queue := [], sending := [] } }
  let give (s : State) (f : Frame) : State :=
    match s.lockedLanes with
    | [] => s
    | lanes => s.twinGive (lanes.getD (s.twin.rotation % lanes.length) 0) f
  let s1 := s.twin.waiting.foldl give { s with twin := { s.twin with waiting := [] } }
  { s1 with lanes := { s1.lanes with tx := s1.lanes.tx.map idle, twinTx := s1.lanes.twinTx.map idle } }

/-! ### Tun repair requests -/

/-- This package may ask its twin for a word: both are hot, and the standby of the two is ready (R179, R180). -/
def State.mayAsk (s : State) : Bool :=
  s.twin.mode == .hot && match s.twin.role with
    | .active => ((s.twin.partner.map fun p => p.hot && p.ready)).getD false
    | .standby => s.twin.wasReady
    | .alone => false

/-- REPAIR_REQ for one word (R348), noted until its reply comes. -/
def State.askRepair (s : State) (r : Repair) : State :=
  let t := s.data.nextTransaction
  let s1 := { s with data := { s.data with nextTransaction := t + 1, repairs := s.data.repairs ++ [{ r with transaction := t }] } }
  s1.sendTwin 5 t.toNat (leBytes 4 (s.cfg.dataHandle r.pipe) ++ leBytes 1 r.die ++ leBytes 1 r.bank ++ leBytes 2 r.channel ++ leBytes 4 r.tp ++ leBytes 4 r.word)

end Sys2Proof.Machine
end

