-- ==== Sys2Proof/Machine/Command.lean ====
section
/-! DEFINITION. How a command runs in a mailbox: its class and gates (R374, R507), the lease it renews (R375), the journal (R339), completion (R364,
R365, R384), and staging (R376). -/

namespace Sys2Proof.Machine

/-- Code of a status (R394). -/
def Status.code : Status → Nat
  | .ok => 0
  | .badOpcode => 1
  | .badLength => 2
  | .badArgument => 3
  | .staleHandle => 4
  | .noBudget => 5
  | .badTick => 6
  | .tooLate => 7
  | .refusedState => 8
  | .noLock => 9
  | .lockHeld => 10
  | .noResource => 11
  | .notActive => 12
  | .internal => 13

/-- The answer of a command: completed, or waiting for something with the answer it will give. -/
inductive CmdOut where
  | done (st : Status) (detail : Nat) (reply : List Byte) (s : State)
  | wait (w : WaitFor) (st : Status) (detail : Nat) (reply : List Byte) (s : State)

/-- What the lead core does for one opcode: sender, arguments, state. -/
abbrev Cmd := Origin → List Byte → State → CmdOut

/-- Runs the tests of a command in the order of R507; a refused command changes no state (R364). -/
def checked (l : Checks) (s : State) (k : State → CmdOut) : CmdOut :=
  match firstFail l with
  | some (st, d) => .done st.status d [] s
  | none => k s

/-- A command that completes with OK and no reply. -/
def okay (s : State) : CmdOut := .done .ok 0 [] s

/-- Classes of R374. -/
inductive CmdClass where
  | s | o | t | r | l
  deriving DecidableEq, Repr

/-- The class of each opcode, none for an unknown one (R393). -/
def classOf (op : Nat) : Option CmdClass :=
  if op ∈ [0x0020, 0x0021, 0x0100, 0x0101, 0x0102, 0x0200, 0x0210, 0x0310, 0x0311, 0x0320, 0x0400, 0x0401] then some .s
  else if op ∈ [0x0201, 0x0211, 0x0212, 0x0214, 0x0312, 0x0403] then some .t
  else if op ∈ [0x0010, 0x0011, 0x0012] then some .l
  else if op ∈ [0x0001, 0x0013, 0x0103, 0x0202, 0x0213, 0x0300, 0x0301, 0x0313, 0x0321, 0x0404, 0x0406, 0x0507, 0x0603, 0x0702, 0x0704, 0x0801, 0x0804,
      0x0805, 0x0807, 0x080A, 0x0903, 0x0904] then some .r
  else if op ∈ [0x0022, 0x0402, 0x0405, 0x0500, 0x0501, 0x0502, 0x0503, 0x0504, 0x0505, 0x0506, 0x0508, 0x0600, 0x0601, 0x0602, 0x0700, 0x0701, 0x0703,
      0x0800, 0x0802, 0x0803, 0x0806, 0x0808, 0x0809, 0x0900, 0x0901, 0x0902, 0x0905] then some .o
  else none

/-- TARGET of FW_STAGE, FW_ACTIVATE and OWNER_SEAL: the byte that names the twin partner (R452, R453, R456). -/
def targetPartner (op : Nat) (args : List Byte) : Bool :=
  if op = 0x0808 then field args 0 1 == 1 else (op == 0x0806 || op == 0x0809) && field args 1 1 == 1

/-- Commands that R339 journals, apart from the S commands that a commit applies. -/
def journalled (op : Nat) (args : List Byte) : Bool :=
  decide (op ∈ [0x0201, 0x0211, 0x0212, 0x0214, 0x0312, 0x0803]) || targetPartner op args

/-- Commands that a STANDBY refuses with NOT_ACTIVE (R374). -/
def standbyRefuses (op : Nat) (args : List Byte) : Bool :=
  classOf op == some .s || classOf op == some .l || op == 0x0601 || journalled op args

/-- The sender holds the lease (R374); a holder that came with a state copy over Ethernet must also come from the same source address (R378). -/
def State.holds (s : State) (o : Origin) : Bool :=
  s.lease.owner == some (o.ethernet, o.id) &&
    (!s.lease.inherited || !o.ethernet || ((s.mgmt.sessions.find? (·.number == o.id)).map (·.address)) == some s.lease.address)

/-- The configuration a command of this sender sees (R372). -/
def State.view (s : State) (o : Origin) : PackageCfg := s.viewFor (s.holds o)

/-- DETAIL of LOCK_HELD: OWNER_ID of the holder, with [16] for an Ethernet session (R366). -/
def State.holderDetail (s : State) : Nat :=
  match s.lease.owner with
  | some (eth, id) => id + 65536 * nat01 eth
  | none => 0

/-- NO_LOCK while the lease is free, LOCK_HELD while another holds it (R374). -/
def State.lockChecks (s : State) (o : Origin) : Checks :=
  [(s.lease.owner.isNone, .noLock, 0), (!s.holds o, .lockHeld, s.holderDetail)]

/-- Opcodes that recovery mode accepts (R451). -/
def recoveryAccepts (op : Nat) : Bool := decide (op ∈ [0x0001, 0x0806, 0x0807, 0x0808, 0x0905])

/-- A package that may take no claim and has no partner stays STANDBY, and yet takes the commands that lead out of that state (R338). Log 174 [DEDUCED]. -/
def State.claimless (s : State) : Bool := s.twin.exhausted && s.twin.partner.isNone

/-- The tests before the command's own: opcode and recovery, length, standby, lease (R507 items 1 to 4). Log 174 [DEDUCED]. -/
def State.gates (s : State) (o : Origin) (op : Nat) (args : List Byte) (len : Option Nat) : Checks :=
  let recovery := s.health.fw.recovery
  let cls := classOf op
  let lease := (cls == some .s || cls == some .o) && !recovery && s.twin.role != .standby
  [ (cls.isNone || (recovery && (!recoveryAccepts op || o.ethernet || o.mailbox != 0)), .badOpcode, 0),
    (len.isSome, .badLength, len.getD 0),
    (s.twin.role == .standby && !s.claimless && standbyRefuses op args, .notActive, 0) ]
  ++ (if lease then s.lockChecks o else [])

/-- Every command from the holder renews the lease to its full length when it reaches the lead core (R375). An unknown opcode does not (log 16 [DEDUCED]). -/
def State.renew (s : State) (o : Origin) (op : Nat) : State :=
  if s.holds o && (classOf op).isSome then { s with lease := { s.lease with leftMs := s.lease.fullMs } } else s

/-! ### Mailboxes and completion -/

/-- Mailbox m. -/
def State.box (s : State) (m : Nat) : Mailbox := s.mail.boxes.getD m {}

/-- Changes mailbox m. -/
def State.modBox (s : State) (m : Nat) (f : Mailbox → Mailbox) : State :=
  { s with mail := { s.mail with boxes := s.mail.boxes.modify m f } }

/-- Clears BUSY, sets DONE, and ends an ownership that waited for this (R363, R364). -/
def Mailbox.finish (b : Mailbox) : Mailbox :=
  let b1 := { b with busy := false, done := true }
  if b.ending then { b1 with owned := false, ownerId := 0, ethernet := false, ending := false } else b1

/-- Pushes a completion entry into its queue: cause 1 + c sets at each push (R380, R391). -/
def State.pushCompletion (s : State) (c : Nat) (e : Completion) : State :=
  let s1 := { s with mail := { s.mail with queues := s.mail.queues.modify c fun q =>
    { q with slots := q.slots.set (q.prod % 16) e, prod := (q.prod + 1) % 32 } } }
  (s1.modBox e.mailbox Mailbox.finish).setCause (1 + c)

/-- The REPLY datagram of a session's mailbox, kept for a repeated REQUEST (R368). -/
def State.sendReply (s : State) (m : Nat) : State :=
  match s.mgmt.sessions.find? (fun x => x.mailbox == m && x.busy) with
  | none => s
  | some x =>
    let b := s.box m
    let d := datagram 4 m x.number x.lastSeq.toNat b.opcode.toNat b.tag.toNat b.status 0 b.detail.toNat (b.message.take b.replyLen)
    let s1 := s.emit (.mgmt x.address x.port d)
    { s1 with mgmt := { s1.mgmt with sessions := updateAll (·.number == x.number) (fun y => { y with busy := false, cached := some d }) s1.mgmt.sessions } }

/-- Completion (R364 steps 4 and 5): reply, STATUS, REPLY_LEN and DETAIL are written, and the entry is pushed, or held while its queue is full (R384). -/
def State.complete (s : State) (m : Nat) (st : Status) (detail : Nat) (reply : List Byte) : State :=
  let s1 := s.modBox m fun b =>
    { b with message := overwrite b.message 0 reply, status := st.code, replyLen := reply.length, detail := BitVec.ofNat 32 detail }
  let b := s1.box m
  let e : Completion := { mailbox := m, status := st.code, tag := b.tag, opcode := b.opcode, replyLen := reply.length,
                          detail := BitVec.ofNat 32 detail, seq := s1.mail.nextSeq }
  let s2 := { s1 with mail := { s1.mail with nextSeq := s1.mail.nextSeq + 1 } }
  let c := b.cqSel.toNat
  let s3 :=
    if (s2.mail.queues.getD c {}).depth < 16 then s2.pushCompletion c e
    else { s2 with mail := { s2.mail with held := s2.mail.held ++ [(c, e)] } }
  s3.sendReply m

/-- Held completions of a queue enter it while it has a free slot, in the order in which they completed (R384). `n` bounds their number. -/
def State.releaseHeld : Nat → Nat → State → State
  | 0, _, s => s
  | n + 1, c, s =>
    match s.mail.held.find? (·.1 == c) with
    | none => s
    | some (_, e) =>
      if (s.mail.queues.getD c {}).depth < 16 then
        State.releaseHeld n c (State.pushCompletion { s with mail := { s.mail with held := s.mail.held.erase (c, e) } } c e)
      else s

/-! ### Journal (R339) -/

/-- The active sends one entry and numbers it by JOURNAL_SEQ (R339). Log 17 [DESIGN CHOICE]. -/
def State.journal (s : State) (op : Nat) (args mem : List Byte) (handle : Nat) : State :=
  let e : JournalEntry := { seq := s.twin.journalSeq + 1, opcode := op, args := args, handle := handle, mem := mem }
  let s1 := { s with twin := { s.twin with history := s.twin.history ++ [e] } }
  if s.twin.role = .active ∧ s.twin.partner.isSome then
    State.sendEntry { s1 with twin := { s1.twin with journalSeq := e.seq, journalCrc := crc64From s1.twin.journalCrc (journalBytes e), inSync := false } } e
  else s1

/-- A hot standby is attached, so journalled commands wait for JOURNAL_ACK (R339). -/
def State.hotPair (s : State) : Bool :=
  s.twin.role == .active && s.twin.mode == .hot && ((s.twin.partner.map (·.hot)).getD false)

/-- A journalled command completes only when its entry has been acknowledged: at a hot standby (R339), and one that is relayed at any standby (R455). -/
def State.awaitsAck (s : State) (op : Nat) (args : List Byte) : Bool :=
  s.hotPair || (targetPartner op args && s.twin.role == .active && s.twin.partner.isSome)

/-- Package memory that a journalled command refers to, which the entry carries (R339): the table of WEIGHT_LOAD (R219) and the bytes of FW_STAGE WRITE
(R455). -/
def State.journalMem (s : State) (op : Nat) (args : List Byte) : List Byte :=
  if op = 0x0312 then (s.pkgRead (field args 16 8) (2 * field args 26 2 * field args 30 2 * field args 36 4)).1
  else if op = 0x0806 ∧ field args 0 1 = 2 then (s.pkgRead (field args 16 8) (field args 8 4)).1
  else []

/-! ### Settings kept across resets (R399, R448, R449, R461) -/

/-- The policy that a block sets, defaults for zeros (R461). -/
def parsePolicy (args : List Byte) : Policy :=
  { withdrawC := orDefault (field args 1 1) 100, takeoverC := orDefault (field args 2 1) 103, kilnDeltaC := orDefault (field args 3 1) 5
    kilnPeriodS := orDefault (field args 4 4) 3600, holdupUf := orDefault (field args 8 4) 2200, vminMv := orDefault (field args 12 2) 3000
    reserveMj := orDefault (field args 14 2) 20 }

/-- POLICY_SET takes effect (R441, R461). -/
def State.applyPolicy (s : State) (args : List Byte) : State :=
  let h := s.health
  { s with health := { h with policy := parsePolicy args, alarm := h.alarm && !(field args 0 1).testBit 0 } }

/-- Reference settings kept in the configuration area (R399). Log 41 [DEDUCED]. -/
def Dpll.kept (d : Dpll) : Dpll :=
  { revertive := d.revertive, haulRecLane := d.haulRecLane, wtrS := d.wtrS, xoFreqHz := d.xoFreqHz, entries := d.entries, slopePpb := d.slopePpb
    jumpThreshNs := d.jumpThreshNs, holdAllowPpb := d.holdAllowPpb, holdAvgS := d.holdAvgS
    inputs := d.inputs.map fun x => { qualS := x.qualS, freqHz := x.freqHz, bwMilliHz := x.bwMilliHz, qualPpm := x.qualPpm, delayPs := x.delayPs } }

/-- A journalled command whose setting the configuration area keeps: position, lane, policy (R399). Log 41 [DEDUCED]. -/
def keptEntry (e : JournalEntry) : Bool := decide (e.opcode ∈ [0x0020, 0x0400, 0x0401, 0x0803])

/-- The settings that the configuration area keeps, as they are in force or about to be (R399). Log 41 [DEDUCED]. Log 64 [DEDUCED]. -/
def State.settings (s : State) : NorConfig :=
  { position := s.cfg.position, positionValid := s.cfg.positionValid, rxCfg := s.cfg.rxCfg, txCfg := s.cfg.txCfg, peers := s.cfg.peers
    mgmt := { s.mgmt with sessions := [], lastSession := 0 }, dpll := s.clocks.dpll.kept
    mode := s.twin.nextMode.getD s.twin.mode, attachWaitMs := s.twin.attachWaitMs, history := s.twin.history.filter keptEntry
    policy := s.health.policy, bootPointer := s.health.fw.bootPointer, ownerSeal := s.health.fw.ownerSeal
    aloneSleepOk := s.crate.aloneSleepOk, wakeCrate := s.crate.wakeCrate }

/-- The configuration area takes the settings when the hold-up check of a page program passes, and otherwise at its retry (R448, R449). Log 64 [DEDUCED]. -/
def State.storeConfig (s : State) : State :=
  if s.holdOk .page then
    let s1 := s.endEpisode
    { s1 with health := { s1.health with norConfig := s1.settings, configDue := false } }
  else (State.deferEpisode { s with health := { s.health with configDue := true } } .page).noteDeath s

/-- What has changed a kept setting since `before` stores it (R399). Log 64 [DEDUCED]. -/
def State.keepSettings (s before : State) : State := if s.settings = before.settings then s else s.storeConfig

/-! ### Staging (R376) -/

/-- Room for one more staged command: 256 commands and 256 KiB of arguments (R376). -/
def State.stagingFull (s : State) (args : List Byte) : Bool :=
  decide (256 ≤ s.lease.staged.length) || decide (262144 < (s.lease.staged.map (·.args.length)).sum + args.length)

/-- Appends to the staging. -/
def State.stage (s : State) (x : Staged) : State := { s with lease := { s.lease with staged := s.lease.staged ++ [x] } }

/-- A T command naming a pipe that the holder has staged is staged with it (R372, R374). -/
def State.isStagedPipe (s : State) (o : Origin) (h : Nat) : Bool := s.holds o && (s.candidate.entry h).state == .staged

/-! ### Running a command -/

/-- What remains in progress when a command must wait. -/
def State.park (s : State) (r : Running) : State := { s with mail := { s.mail with running := s.mail.running ++ [r] } }

/-- The end of a command: completion at once, or with a journalled command after its acknowledgement (R339, R455), or when what it waits for has come.
`staged` says that the command was staged: the journal takes it at its commit, and a commit of nothing has no entry to wait for. -/
def State.conclude (o : Origin) (op : Nat) (args : List Byte) (before : State) : CmdOut → State
  | .wait w st detail reply s => s.park { origin := o, opcode := op, args := args, waits := w, status := st, detail := detail, reply := reply }
  | .done st detail reply s =>
    let staged := before.lease.staged.length < s.lease.staged.length
    if st = .ok ∧ journalled op args ∧ ¬staged then
      let s1 := s.journal op args (before.journalMem op args) 0
      if s1.awaitsAck op args then
        s1.park { origin := o, opcode := op, args := args, waits := .journal s1.twin.journalSeq, status := st, detail := detail, reply := reply }
      else s1.complete o.mailbox st detail reply
    else if st = .ok ∧ op = 0x0011 ∧ s.hotPair ∧ before.lease.staged ≠ [] then
      s.park { origin := o, opcode := op, args := args, waits := .journal s.twin.journalSeq, status := st, detail := detail, reply := reply }
    else s.complete o.mailbox st detail reply

/-- A PENDING pipe is RUNNING once data-path time has reached the start of its START_TICK (R372). -/
def State.refreshPipes (s : State) : State :=
  match s.cfg.tick with
  | none => s
  | some t =>
    if s.cfg.pipes.any fun e => e.state == .pending && t.started s.timeNs e.startTick then
      { s with cfg := { s.cfg with pipes := s.cfg.pipes.map fun e =>
          if e.state == .pending && t.started s.timeNs e.startTick then { e with state := .running } else e } }
    else s

/-- The lead core runs a command: gates, then the command, then its end. -/
def State.runCommand (o : Origin) (op : Nat) (args : List Byte) (len : Option Nat) (cmd : Cmd) (s : State) : State :=
  let s1 := s.refreshPipes.renew o op
  match firstFail (s1.gates o op args len) with
  | some (st, d) => s1.complete o.mailbox st.status d []
  | none => State.conclude o op args s1 (cmd o args s1)

/-- A mailbox takes a command: arguments in the message area, OPCODE and ARG_LEN, BUSY set and DONE cleared (R364). -/
def Mailbox.load (op : Nat) (args : List Byte) (b : Mailbox) : Mailbox :=
  { b with message := overwrite b.message 0 args, opcode := BitVec.ofNat 16 op, argLen := BitVec.ofNat 11 args.length, busy := true, done := false }

/-- A command row: `o` sends this command through its mailbox and the lead core runs it. Before start-up step 3 completes it keeps BUSY set and waits
(R477). Log 127 [DEDUCED]. Log 128 [DESIGN CHOICE]. -/
def State.row (o : Origin) (op : Nat) (args : List Byte) (len : List Byte → Option Nat) (cmd : Cmd) (s : State) : State :=
  let s1 := s.modBox o.mailbox (Mailbox.load op args)
  if s1.power.stage < 3 ∧ ¬s1.health.fw.recovery then s1.modBox o.mailbox fun b => { b with waiting := some o }
  else State.runCommand o op args (if args.length ≤ 1024 then len args else some 0) cmd s1

/-- A command in progress ends with the answer it holds; POLICY_SET takes effect with it (R461). -/
def State.finishRunning (s : State) (r : Running) : State :=
  let s1 := if r.opcode = 0x0803 then s.applyPolicy r.args else s
  State.complete { s1 with mail := { s1.mail with running := s1.mail.running.erase r } } r.origin.mailbox r.status r.detail r.reply

/-- The configuration against which a T or R command judges a pipe: the running one, or the staging for a pipe that its holder has STAGED (R372, R374). Log 138 [DEDUCED]. -/
def State.pipeView (s : State) (o : Origin) (h : Nat) : PackageCfg := if s.isStagedPipe o h then s.candidate else s.cfg

/-- Tests of a T or R command that names a pipe: stale or wrong handle at `off` (R371, R372). Log 138 [DEDUCED]. -/
def State.pipeChecks (s : State) (o : Origin) (args : List Byte) (off : Nat) (kinds : List Nat) : Checks :=
  (s.pipeView o (field args off 4)).handleChecks (field args off 4) off kinds

/-- An R command that names a STAGED pipe is refused with REFUSED_STATE (R372). -/
def State.stagedRead (s : State) (o : Origin) (h : Nat) : Bool × Reason × Nat := refusedIf (s.isStagedPipe o h)

/-- Before READY, every S command is refused with REFUSED_STATE (R477). -/
def State.notReady (s : State) : Bool × Reason × Nat := refusedIf (!s.power.ready)

end Sys2Proof.Machine
end

