-- ==== Sys2Proof/Machine/Trig.lean ====
section
/-! DEFINITION. Tables of the channeliser and the rotator in exact integer arithmetic: sine and cosine to 100 binary places, then rounded half to even
(R126, R127, R130). The spec evaluates the built-in window in binary64; log 19 [DEDUCED]. -/

namespace Sys2Proof.Machine

/-- Half a pi in units of 2^(-100). Log 19 [DEDUCED]. -/
def halfPi : Int := 1991220906497848681844175556976

/-- The product of two values in units of 2^(-100). Log 19 [DEDUCED]. -/
def fixMul (a b : Int) : Int := a * b / 2 ^ 100

/-- The rest of the Taylor series from a term x^k / k!: alternating terms two apart; `n` bounds their number. Log 19 [DEDUCED]. -/
def taylor : Nat → Nat → Int → Int → Int
  | 0, _, _, _ => 0
  | n + 1, k, x2, term => term + taylor n (k + 2) x2 (-(fixMul term x2) / ((k + 1) * (k + 2) : Nat))

/-- Cosine and sine of 2 pi a / b in units of 2^(-100). Log 19 [DEDUCED]. -/
def cosSin (a b : Nat) : Int × Int :=
  let v := 4 * (a % b)
  let x := halfPi * ((v % b : Nat) : Int) / (b : Int)
  let x2 := fixMul x x
  let c := taylor 24 0 x2 (2 ^ 100)
  let s := taylor 24 1 x2 x
  match v / b with
  | 0 => (c, s)
  | 1 => (-s, c)
  | 2 => (-c, -s)
  | _ => (s, -c)

/-- `scale` times a value in units of 2^(-100), rounded half to even. Log 19 [DEDUCED]. -/
def fixRound (scale : Int) (v : Int) : Int := rndShift (scale * v) 100

/-- A table component limited to ±131,071 (R127, R130). -/
def limit18 (v : Int) : Int := clampInt (-131071) 131071 v

/-- C[p] and S[p] of the rotator (R130). Log 19 [DEDUCED]. -/
def rotEntry (p : Nat) : Int × Int :=
  let (c, s) := cosSin p 16384
  (limit18 (fixRound 131072 c), limit18 (fixRound 131072 s))

/-- Twiddle W_q = e^(-2 pi i q / n) of an n-point stage (R127). Log 19 [DEDUCED]. -/
def twiddle (q n : Nat) : Int × Int :=
  let (c, s) := cosSin q n
  (limit18 (fixRound 131072 c), limit18 (fixRound 131072 (-s)))

/-- h[i] of the built-in window for size n (R126): sinc((i - 2n + 1/2) / n) times a Hann window. Log 19 [DEDUCED]. -/
def builtinTap (n i : Nat) : Int :=
  let num : Int := 2 * (i : Int) - 4 * n + 1
  let (_, s) := cosSin num.natAbs (4 * n)
  let sinc := s * (2 * n : Int) / (num.natAbs : Int) * 2 ^ 100 / (2 * halfPi)
  let (c, _) := cosSin (2 * i + 1) (8 * n)
  let hann := (2 ^ 100 - c) / 2
  fixRound 131071 (fixMul sinc hann)

end Sys2Proof.Machine
end

