-- ==== Sys2Proof/Machine/Chain.lean ====
section
/-! DEFINITION. The chain of one input: spall filter, offset block, half-band stages, delay, channeliser, rotator, gain and requantiser (R78 to R135), one
grist sample at a time. -/

namespace Sys2Proof.Machine

/-- f of R78. -/
def scaleF (format : Nat) : Nat := if format = 2 then 1 else if format = 4 then 9 else 5

/-- A component at one of the format's over-range codes (R78). Log 132 [DEDUCED]. -/
def clippedPart (format : Nat) (v : Int) : Bool :=
  match format with
  | 1 => v == -128 || v == 127
  | 2 => v == -2048 || v == 2047
  | 3 => v == -128 || v == 127
  | 4 => v == 15
  | _ => v == -8

/-- Spall window w; 1 when off. -/
def IngestCfg.w (c : IngestCfg) : Nat := c.spallWindow

/-- Reach E of the stages before the integer delay (R100); none for format 0x5. -/
def IngestCfg.reach (c : IngestCfg) : Nat := if c.format = 5 then 0 else (c.w - 1) / 2 + 29 * (2 ^ c.hbStages - 1)

/-- M x T: channel samples per tick. -/
def IngestCfg.outsPerTick (c : IngestCfg) : Nat := c.m * c.t

/-- First and last working sample of output `m` before delay (R101, R121). -/
def IngestCfg.span (c : IngestCfg) (m : Nat) : Int × Int :=
  if c.format = 5 then (m, m)
  else if c.realPair then (2 * m, 2 * m + 1)
  else if c.chanLog2 = 0 then (m, m)
  else (((m : Int) - 2) * c.n, ((m : Int) + 2) * c.n - 1)

/-- Half-band taps at the odd offsets 1, 3, … 29 (R98). -/
def hbTaps : List Int := [41602, -13618, 7812, -5230, 3762, -2792, 2110, -1599, 1206, -891, 642, -446, 288, -170, 92]

/-- One component of a half-band output from 59 inputs, newest first, centred on the thirtieth (R98, R99); whether it was limited. -/
def hbOut (x : List Int) : Int × Bool :=
  let at' (i : Nat) : Int := x.getD i 0
  let acc := 65536 * at' 29 + ((List.range 15).map fun k => hbTaps.getD k 0 * (at' (29 - (2 * k + 1)) + at' (29 + (2 * k + 1)))).sum
  let v := rndShift acc 17
  (clampInt (-32767) 32767 v, decide (v < -32767 ∨ 32767 < v))

/-- Result of pushing a sample through the half-band stages: their histories, the working sample that came out, and the grist centres of limited
outputs. -/
structure HbResult where
  stages : List (List Sample) := []
  out : Option Sample := none
  limited : List Nat := []

/-- Pushes a sample of index `x.index` at stage `k` through `n` more stages. Output j of a stage is formed when its input 2j + 29 arrives; inputs before the
start of the run read as zero (R99, R106). Log 5 [DEDUCED]. -/
def hbPush : Nat → Nat → List (List Sample) → Sample → HbResult
  | 0, _, st, x => { stages := st, out := some x }
  | _ + 1, _, [], x => { stages := [], out := some x }
  | n + 1, k, h :: rest, x =>
    let hist := (x :: h).take 59
    let i := x.index
    let j := (i - 29) / 2
    if i % 2 = 1 then
      let (re, a) := hbOut (hist.map (·.re))
      let (im, b) := hbOut (hist.map (·.im))
      let r := hbPush n (k + 1) rest { index := j, re := re, im := im }
      { stages := hist :: r.stages, out := r.out, limited := (if a || b then [(2 ^ (k + 1) * j).toNat] else []) ++ r.limited }
    else { stages := hist :: rest, out := none }

/-- The rank-r value of a window; rank 0 is the median (R90). -/
def rankOf (w rank : Nat) (l : List Int) : Int :=
  ((l.insertionSort (· ≤ ·))[(if rank = 0 then (w + 1) / 2 else rank) - 1]?).getD 0

/-- Theta in force of one component. -/
def Chain.theta (c : Chain) (im : Bool) : Nat := if im then c.thetaIm else c.thetaRe

/-- Theta of the present block: SPALL_THRESH in fixed mode (R91) and until a whole block has been seen, else the estimate of the block before (R92). Log 167 [DESIGN CHOICE]. -/
def Chain.setTheta (c : Chain) : Chain :=
  if c.cfg.spallMode = 1 ∧ c.spallKnown = true then { c with thetaRe := c.adaptRe, thetaIm := c.adaptIm }
  else { c with thetaRe := c.cfg.spallThresh, thetaIm := c.cfg.spallThresh }

/-- End of a spall block: a whole block gives the adaptive estimate, which adaptive mode applies (R92, R93). -/
def Chain.spallRoll (c : Chain) : Chain :=
  let est (d : Nat) : Nat := max c.cfg.spallFloor (c.cfg.spallMult * d / 65536)
  let c1 := if c.spallSeen = 4096 then { c with adaptRe := est c.spallRe, adaptIm := est c.spallIm, spallKnown := true } else c
  Chain.setTheta { c1 with spallRe := 0, spallIm := 0, spallSeen := 0 }

/-- A loaded mean within the range of the format (R95, R115). Log 148 [DEDUCED]. -/
def offsetLimit (format : Nat) (v : Int) : Int :=
  match format with
  | 2 => clampInt (-4096) 4094 v
  | 4 => clampInt 0 7680 v
  | 5 => 0
  | _ => clampInt (-4096) 4064 v

/-- Sets the mean of both components: one value serves the two of a complex input (R97, R114, R115). Log 149 [DESIGN CHOICE]. Log 148 [DEDUCED]. -/
def Chain.loadMean (c : Chain) (v : Int) : Chain :=
  { c with muRe := offsetLimit c.cfg.format v, muIm := if c.cfg.complex then offsetLimit c.cfg.format v else 0 }

/-- The chain of a changed configuration accounts for grist before the boundary at which it was changed; what follows is the new chain's (R108). -/
def Chain.owns (c : Chain) (i : Nat) : Bool := c.finish.elim true fun lim => decide (i < lim * c.cfg.gristPerOut)

/-- Freeze, thaw and load actions due at an offset block boundary of grist index `i`, in order of arrival (R115). One whose tick has passed when it arrives
acts at the next boundary. Log 149 [DESIGN CHOICE]. -/
def Chain.freezeDue (c : Chain) (i : Nat) : Chain :=
  let due := c.freezeNext.filter fun x => decide (x.1 * c.cfg.samplesPerTick ≤ i)
  let c1 := due.foldl (fun c x =>
    if x.2.1 = 0 then { c with frozen := false }
    else if x.2.1 = 1 then { c with frozen := true }
    else { c.loadMean x.2.2 with frozen := true }) c
  { c1 with freezeNext := c.freezeNext.filter fun x => !decide (x.1 * c.cfg.samplesPerTick ≤ i) }

/-- End of an offset block, index `i` being the first of the next: a whole block with few over-range samples sets mu, unless the estimate is frozen
before or after the boundary: a freeze at the boundary keeps the mean of the block that ends (R94, R96, R97, R115). Log 149 [DESIGN CHOICE]. -/
def Chain.offsetRoll (c : Chain) (i : Nat) : Chain :=
  let m := c.cfg.offsetLog2
  let whole := c.sumSeen == 2 ^ m && m != 0
  let held := whole && decide (c.cfg.offsetClipMax < c.sumClipped)
  let was := c.frozen
  let c1 := c.freezeDue i
  let k := m - scaleF c.cfg.format
  let c2 := if whole && !held && !was && !c1.frozen then { c1 with muRe := rndShift c.sumRe k, muIm := rndShift c.sumIm k } else c1
  { c2 with sumRe := 0, sumIm := 0, sumSeen := 0, sumClipped := 0, offsetKnown := c.offsetKnown || whole, offsetHeld := if held && c.owns (i - 1) then rcAdd 32 c.offsetHeld 1 else c.offsetHeld }

/-- The longest delay that an output still to come may have (R57, R121). Log 168 [DEDUCED]. -/
def Chain.longestDelay (c : Chain) : Nat := c.prior.foldl (fun d p => max d p.2.delayMax) c.cfg.delayMax

/-- The present run of a chain. -/
def Chain.run (c : Chain) : ChainRun := { start := c.emptyFrom, gap := c.gapAt, work := c.work, taints := c.taints }

/-- Runs that some output still to come may reach: `q` bounds where its delayed span stands, `newer` is the start of the run after the first (R122). -/
def keepRuns (q : Int) : Nat → List ChainRun → List ChainRun
  | _, [] => []
  | newer, r :: l => if q < newer then r :: keepRuns q r.start l else []

/-- A start or restart at grist index `i`: the filter state is empty, theta is SPALL_THRESH and mu is OFFSET_INIT unless frozen (R92, R95, R97, R106,
R109). A run that ended at a gap is kept while delayed outputs reach it (R122). Log 148 [DEDUCED]. -/
def Chain.restart (c : Chain) (i : Nat) : Chain :=
  let next := i / c.cfg.gristPerOut
  let c1 := { c with
    stopped := false, gapAt := none, emptyFrom := i, raw := [], stages := List.replicate 6 [], work := [], taints := []
    past := if c.stopped then keepRuns ((next * c.cfg.gristPerOut : Nat) - 2 ^ c.cfg.hbStages * (c.longestDelay : Int)) i (c.run :: c.past) else []
    spallKnown := false, offsetKnown := false, spallRe := 0, spallIm := 0, spallSeen := 0
    sumRe := 0, sumIm := 0, sumSeen := 0, sumClipped := 0, nextOut := next }
  let c2 := c1.setTheta
  if c.frozen then { c2 with muRe := offsetLimit c.cfg.format c.muRe, muIm := if c.cfg.complex then offsetLimit c.cfg.format c.muIm else 0 }
  else c2.loadMean c.offsetInit

/-! ### Configuration by tick (R57, R108, R144) -/

/-- The tick of the next output of a chain. Log 157 [DESIGN CHOICE]. -/
def Chain.outTick (c : Chain) : Nat := c.nextOut / max c.cfg.outsPerTick 1

/-- The configuration that outputs of tick `t` come under. -/
def Chain.cfgFor (c : Chain) (t : Nat) : IngestCfg := c.prior.foldl (fun k p => if t < p.1 then p.2 else k) c.cfg

/-- The slot, die and OFFSET_INIT of the changes due by tick `t`; the new OFFSET_INIT is the mean while no whole block has been summed (R86, R97, R114). The
filter state goes with an input to its new slot. Log 151 [DESIGN CHOICE]. Log 153 [DEDUCED]. -/
def Chain.move (c : Chain) (t : Nat) : Chain :=
  match (c.moves.filter fun x => decide (x.tick ≤ t)).getLast? with
  | none => c
  | some x =>
    let c1 := { c with die := x.die, slot := x.slot, offsetInit := x.offsetInit, moves := c.moves.filter fun y => !decide (y.tick ≤ t) }
    if c.offsetKnown || c.frozen || x.offsetInit == c.offsetInit then c1 else c1.loadMean x.offsetInit

/-- A change that resets nothing takes effect at tick `t`: a new m begins again from OFFSET_INIT, theta follows a new SPALL_THRESH or SPALL_MODE, and outputs
of earlier ticks keep the configuration before it (R92, R97, R108, R144). An estimate already formed stands until the block ends, whatever SPALL_MULT and
SPALL_FLOOR become. Log 167 [DESIGN CHOICE]. -/
def Chain.adopt (c : Chain) (k : IngestCfg) (t : Nat) : Chain :=
  if k = c.cfg then c
  else
    let c1 := { c with cfg := k, prior := (t, c.cfg) :: c.prior.filter fun p => decide (c.outTick < p.1) }
    let c2 := c1.setTheta
    if k.offsetLog2 = c.cfg.offsetLog2 then c2
    else
      let c3 := { c2 with offsetKnown := false, sumRe := 0, sumIm := 0, sumSeen := 0, sumClipped := 0 }
      if c.frozen then c3 else c3.loadMean c.offsetInit

/-! ### Delay (R120 to R123) -/

/-- tau of one polynomial at index j, before clamping (R120). -/
def DelayPoly.eval (p : DelayPoly) (j : Int) : Int :=
  let h := p.c2 + rndShift (p.c3 * j) 26
  let h := p.c1 + rndShift (h * j) 26
  p.c0 + rndShift (h * j) 26

/-- The polynomial for tick `t`: that of the latest tick at or before it (R123). Log 150 [DEDUCED]. -/
def Chain.poly (c : Chain) (t : Nat) : Option DelayPoly :=
  c.polys.foldl (fun best p => if p.tick ≤ t then (match best with
    | none => some p
    | some q => if q.tick < p.tick then some p else some q) else best) none

/-- tau before clamping for output `m`: tick and index within it, the pre-roll held at tau(0) of START_TICK, an old polynomial carried on below 2^26
(R107, R120, R123). -/
def Chain.tauRaw (c : Chain) (m : Nat) : Int :=
  let mt := max c.cfg.outsPerTick 1
  let t := max (m / mt) c.startTick
  let j := if m / mt < c.startTick then 0 else m % mt
  match c.poly t with
  | none => 0
  | some p => p.eval (min (j + (t - p.tick) * mt) (2 ^ 26 - 1) : Nat)

/-- tau for output `m` in units of 2^(-32) working samples, and whether it was clamped (R120). -/
def Chain.tau (c : Chain) (m : Nat) : Int × Bool :=
  if !c.cfg.delayEnable then (0, false)
  else
    let raw := c.tauRaw m
    let v := clampInt 0 (c.cfg.delayMax * 2 ^ 32) raw
    (v, v != raw)

/-- d: the integer part of the delay (R121). -/
def delayInt (tau : Int) : Int := (tau + 2 ^ 31) / 2 ^ 32

/-! ### Channeliser, rotator, gain, requantiser (R125 to R135) -/

/-- Working sample `n` of a run after spectrum inversion (R119); zero before the run began. -/
def IngestCfg.workAt (c : IngestCfg) (work : List Sample) (n : Int) : Int × Int :=
  match work with
  | [] => (0, 0)
  | x :: _ =>
    if x.index < n then (0, 0)
    else match work[(x.index - n).toNat]? with
      | none => (0, 0)
      | some y =>
        if !c.spectrumInvert then (y.re, y.im)
        else if c.complex then (y.re, -y.im)
        else if n % 2 = 1 then (-y.re, y.im) else (y.re, y.im)

/-- Even-placed elements. -/
def evens {α : Type} : List α → List α
  | [] => []
  | [a] => [a]
  | a :: _ :: l => a :: evens l

/-- Odd-placed elements. -/
def odds {α : Type} : List α → List α
  | [] => []
  | [_] => []
  | _ :: b :: l => b :: odds l

/-- The 2^k-point FFT of R127 step 3: radix-2 decimation in time, each butterfly rounding b x W and adding without scaling. -/
def fft : Nat → List (Int × Int) → List (Int × Int)
  | 0, l => l
  | k + 1, l =>
    let e := fft k (evens l)
    let o := fft k (odds l)
    let n := 2 ^ (k + 1)
    let t := (List.range (n / 2)).map fun q =>
      let (b1, b2) := o.getD q (0, 0)
      let (w1, w2) := twiddle q n
      (rndShift (b1 * w1 - b2 * w2) 17, rndShift (b1 * w2 + b2 * w1) 17)
    (e.zip t).map (fun p => (p.1.1 + p.2.1, p.1.2 + p.2.2)) ++ (e.zip t).map (fun p => (p.1.1 - p.2.1, p.1.2 - p.2.2))

/-- Channel sample `m` of every channel (R127), `tap` giving h[i], for integer delay `d`. -/
def IngestCfg.channelise (c : IngestCfg) (tap : Nat → Int) (work : List Sample) (m : Nat) (d : Int) : List (Int × Int) :=
  let n := c.n
  let v := (List.range n).map fun r =>
    let s := (List.range 4).foldl (fun acc (t : Nat) =>
      let y := c.workAt work (((m : Int) - 2) * (n : Int) + ((t * n + r : Nat) : Int) - d)
      (acc.1 + tap (t * n + r) * y.1, acc.2 + tap (t * n + r) * y.2)) ((0 : Int), (0 : Int))
    (rndShift s.1 17, rndShift s.2 17)
  (fft c.chanLog2 v).take c.channels

/-- Signed channel index c_s (R125). -/
def IngestCfg.signedChannel (c : IngestCfg) (ch : Nat) : Int :=
  if c.complex && decide (c.n / 2 ≤ ch) then (ch : Int) - c.n else ch

/-- The table index of R129 for channel `ch`. -/
def phaseIndex (c : IngestCfg) (tau : Int) (ch : Nat) : Nat :=
  let frac := if c.fracDelayEnable then tau - delayInt tau * 2 ^ 32 else 0
  let lo := if c.fringeEnable then c.loRatio * tau else 0
  let fr := if c.chanLog2 = 0 then 0 else c.signedChannel ch * (frac + 2 ^ 31) * 2 ^ (48 - c.chanLog2)
  let v := -((lo + fr) % 2 ^ 80)
  (rndShift v 66 % 16384).toNat

/-- The rotator (R129, R130): a bypassed complex pipe without fringe rotation, and real-pair mode, pass unrotated (R118). -/
def rotate (c : IngestCfg) (tau : Int) (ch : Nat) (x : Int × Int) : Int × Int :=
  if c.realPair || (c.chanLog2 == 0 && !c.fringeEnable) then x
  else
    let (cs, sn) := rotEntry (phaseIndex c tau ch)
    (rndShift (x.1 * cs - x.2 * sn) 17, rndShift (x.1 * sn + x.2 * cs) 17)

/-- The gain stage on one component (R131). -/
def gainOut (word : Word) (x : Int) : Int := rndShift (x * ((word.toNat % 65536 : Nat) : Int)) (word.toNat / 65536 % 64)

/-- Limit L of the requantiser (R134). -/
def reqLimit (mode : Nat) : Int := if mode = 2 then 127 else 7

/-- The word of a gain state at tick `t`: what has come due is in force (R131 to R133). Log 154 [DEDUCED]. -/
def GainState.atTick (g : GainState) (t : Nat) : GainState :=
  let due := g.next.filter fun x => decide (x.1 ≤ t)
  match due.getLast? with
  | none => g
  | some x => { g with word := x.2.1, next := g.next.filter fun y => !decide (y.1 ≤ t) }

/-- One output of one channel: gain, clip count and level control sums (R131, R132, R134, R135). -/
def gainStep (c : IngestCfg) (t : Nat) (missing : Bool) (g : GainState) (x : Int × Int) : GainState × (Int × Int) :=
  let g1 := g.atTick t
  if missing then (g1, (0, 0))
  else
    let q1 := gainOut g1.word x.1
    let q2 := gainOut g1.word x.2
    let l := reqLimit c.reqMode
    let y1 := clampInt (-l) l q1
    let y2 := clampInt (-l) l q2
    let p := min (q1 * q1).toNat (2 ^ 30) + min (q2 * q2).toNat (2 ^ 30)
    ({ g1 with clip := rcAdd 32 g1.clip (nat01 (y1 != q1) + nat01 (y2 != q2))
               power := if c.alcEnable then g1.power + p else g1.power, n := if c.alcEnable then g1.n + 1 else g1.n }, (y1, y2))

/-- The run of a chain that an output belongs to whose grain, less its delay, begins at grist index `q` (R109, R122). Log 5 [DEDUCED]. -/
def Chain.runOf (c : Chain) (q : Int) : ChainRun :=
  ((c.run :: c.past).find? fun r => decide ((r.start : Int) ≤ q)).getD (((c.run :: c.past).getLast?).getD {})

/-- First and last grist index that output `m` reaches under delay `d` (R100, R101, R121, R122). -/
def IngestCfg.reachOf (c : IngestCfg) (m : Nat) (d : Int) : Int × Int :=
  let (lo, hi) := c.span m
  (2 ^ c.hbStages * (lo - d) - c.reach, 2 ^ c.hbStages * (hi - d) + c.reach)

/-- The input X[c] of the rotator or gain stage for the channels sent (R127, R128). -/
def IngestCfg.spectrum (c : IngestCfg) (tap : Nat → Int) (work : List Sample) (m : Nat) (d : Int) : List (Int × Int) :=
  if c.realPair then [((c.workAt work (2 * m - d)).1, (c.workAt work (2 * m + 1 - d)).1)]
  else if c.chanLog2 = 0 then [c.workAt work ((m : Int) - d)]
  else ((c.channelise tap work m d).drop c.chFirst).take c.chCount

/-- Gain words for at least the first `n` channels sent: those held stay by their place, one not held yet is `init` from tick `t` (R131). Log 151 [DESIGN
CHOICE]. -/
def padGains (gs : List GainState) (init : Word) (t n : Nat) : List GainState :=
  gs ++ List.replicate (n - gs.length) { word := init, loads := [t] }

/-- Output `m` of format 0x5: its channel values unchanged, MISSING when its sample is (R79, R140). -/
def Chain.formWire (c : Chain) (m : Nat) : Chain :=
  let k := c.cfgFor (m / max c.cfg.outsPerTick 1)
  let x : Option Sample := c.work.find? (fun x => x.index == (m : Int))
  let vals := (List.range k.chCount).map fun i =>
    (((x.map (·.chans)).getD []).find? (·.1 == k.chFirst + i)).elim (0, 0) (fun v => (v.2.1, v.2.2))
  { c with outs := c.outs ++ [{ index := m, values := vals, missing := x.isNone }], nextOut := m + 1 }

/-- Forms output `m` (R118) under the configuration of its tick: MISSING when its delayed span holds a missing sample (R109, R122) or a working sample `lost`
in the delay buffer (R410). Every evaluation counts its clamp (R120); the marks stay on a MISSING output (R135). Log 5 [DEDUCED]. -/
def Chain.form (tap : Nat → Int) (lost : Int → Bool) (c : Chain) (m : Nat) : Chain :=
  if c.cfg.format = 5 then c.formWire m
  else
    let t := m / max c.cfg.outsPerTick 1
    let k := c.cfgFor t
    let (tau, clamped) := Chain.tau { c with cfg := k } m
    let d := delayInt tau
    let r := c.runOf ((m * k.gristPerOut : Nat) - 2 ^ k.hbStages * d)
    let (lo, hi) := k.reachOf m d
    let (first, last) := k.span m
    let gone := k.delayEnable && (List.range (last - first + 1).toNat).any fun j => lost (first - d + j)
    let miss := gone || r.gap.any fun p => decide ((p : Int) ≤ hi)
    let xs := if miss then [] else k.spectrum tap r.work m d
    let gains := padGains c.gains k.gainInit t k.chCount
    let pairs := (List.range k.chCount).map fun i =>
      gainStep k t miss (gains.getD i {}) (if miss then (0, 0) else rotate k tau (k.chFirst + i) (xs.getD i (0, 0)))
    { c with
      gains := pairs.map (·.1) ++ gains.drop k.chCount, nextOut := m + 1, delayClamp := c.delayClamp + nat01 clamped
      outs := c.outs ++ [{ index := m, values := pairs.map (·.2), missing := miss, unsettled := decide (lo < r.start)
                           tainted := r.taints.any fun p => decide (lo ≤ p ∧ (p : Int) ≤ hi) }] }

/-- The working samples that output `m` reads from the delay buffer (R118, R121). -/
def Chain.delayReads (c : Chain) (m : Nat) : List Int :=
  let k := c.cfgFor (m / max c.cfg.outsPerTick 1)
  let d := delayInt (Chain.tau { c with cfg := k } m).1
  let (first, last) := k.span m
  if k.delayEnable ∧ c.cfg.format ≠ 5 then (List.range (last - first + 1).toNat).map fun (j : Nat) => first - d + (j : Int) else []

/-- Forms outputs from `nextOut` while `p` holds, at most `n` of them; a changed configuration forms none from its boundary on (R108). Log 5 [DEDUCED]. -/
def Chain.formWhile (tap : Nat → Int) (lost : Int → Bool) (p : Nat → Bool) : Nat → Chain → Chain
  | 0, c => c
  | n + 1, c => if p c.nextOut && c.finish.elim true (fun lim => decide (c.nextOut < lim)) then Chain.formWhile tap lost p n (c.form tap lost c.nextOut) else c

/-- Outputs whose whole span has been received once grist index `s` is in: the chain's group delay behind it (R85, R101). What may still taint them is
awaited: the spall filter's decision on the last sample of the reach (R104), and half-band outputs of that reach that may be limited (R103). Log 5 [DEDUCED]. -/
def Chain.due (c : Chain) (s : Nat) (m : Nat) : Bool :=
  decide ((c.cfg.reachOf m 0).2 + (if c.cfg.hbStages = 0 then 0 else (c.cfg.reach : Int)) + ((c.cfg.w - 1) / 2 : Nat) ≤ s)

/-- Working samples kept: the longest delay and the channeliser span behind the newest, and the reach that outputs wait for. A change that raises DELAY_MAX
finds those kept before it: what lies further back reads as zero. Log 168 [DEDUCED]. -/
def Chain.keep (c : Chain) : Nat := c.longestDelay + 4 * c.cfg.n + 2 * c.cfg.reach + 4

/-- Spall filter on the centre sample of the window (R90, R102 to R104), block sums included: the filtered value, and the chain. A clipped sample taints
here, unless SPALL_CLEARS_TAINT is set for it and the filter replaces it. Log 132 [DEDUCED]. Before the first sample of an empty filter state the window
reads zero. Log 167 [DESIGN CHOICE]. -/
def Chain.spall (c : Chain) (i : Nat) : (Int × Int) × Chain :=
  let hw := (c.cfg.w - 1) / 2
  let x := c.raw.getD hw {}
  let win := (List.range c.cfg.w).map fun k => c.raw.getD k {}
  let v1 := rankOf c.cfg.w c.cfg.spallRank (win.map (·.re))
  let v2 := rankOf c.cfg.w c.cfg.spallRank (win.map (·.im))
  let on := c.cfg.w != 1
  let a1 := (x.re - v1).natAbs
  let a2 := (x.im - v2).natAbs
  let r1 := on && decide (c.theta false < a1)
  let r2 := on && c.cfg.complex && decide (c.theta true < a2)
  let k1 := clippedPart c.cfg.format x.re
  let k2 := c.cfg.complex && clippedPart c.cfg.format x.im
  let cleared := (!k1 || r1) && (!k2 || r2)
  let c1 := { c with
    spallHits := if c.owns i then rcAdd 64 c.spallHits (nat01 r1 + nat01 r2) else c.spallHits, spallRe := c.spallRe + a1, spallIm := c.spallIm + a2, spallSeen := c.spallSeen + 1
    taints := if (k1 || k2) && !(c.cfg.spallClearsTaint && cleared) then i :: c.taints else c.taints }
  ((if r1 then v1 else x.re, if r2 then v2 else x.im), c1)

/-- The offset block on a filtered value (R94): the working sample, and the chain with its sums. -/
def Chain.offset (c : Chain) (i : Nat) (v : Int × Int) (clipped : Bool) : Sample × Chain :=
  let f := scaleF c.cfg.format
  let on := c.cfg.offsetLog2 != 0
  let mu1 := if on then c.muRe else 0
  let mu2 := if on && c.cfg.complex then c.muIm else 0
  ({ index := i, re := v.1 * 2 ^ f - mu1, im := if c.cfg.complex then v.2 * 2 ^ f - mu2 else 0 },
   { c with sumRe := c.sumRe + v.1, sumIm := c.sumIm + v.2, sumSeen := c.sumSeen + 1, sumClipped := c.sumClipped + nat01 clipped })

/-- A clipped sample as it arrives (R102). Log 132 [DEDUCED]. -/
def IngestCfg.clips (c : IngestCfg) (x : Sample) : Bool := clippedPart c.format x.re || (c.complex && clippedPart c.format x.im)

/-- What a sample adds to CLIP_COUNT: each clipped channel value of format 0x5 is a clipped sample (R78, R82, R102). -/
def IngestCfg.clipsOf (c : IngestCfg) (x : Sample) : Nat :=
  if c.format = 5 then (x.chans.filter fun v => v.2.1 == -8 || v.2.2 == -8).length else nat01 (c.clips x)

/-- Counts the clipped samples of a sample that arrived; the chain that completes old outputs counts none (R102, R108). -/
def Chain.countClips (c : Chain) (x : Sample) : Chain :=
  if c.finish.isNone then { c with clipCount := rcAdd 64 c.clipCount (c.cfg.clipsOf x) } else c

/-- A received sample goes through the stages; grist index is `c.next` (R90 to R99, R118). -/
def Chain.consume (tap : Nat → Int) (lost : Int → Bool) (c : Chain) (x : Sample) : Chain :=
  let s := c.next
  if c.cfg.format = 5 then
    let c1 := { c.countClips x with work := ({ x with index := s } :: c.work).take 4 }
    c1.formWhile tap lost (fun m => decide (m ≤ s)) 1
  else
    let clipped := c.cfg.clips x
    let c1 := { c.countClips x with
      raw := ({ x with index := s, tainted := clipped } :: c.raw).take 7 }
    let hw := (c.cfg.w - 1) / 2
    if s < c.emptyFrom + hw then c1
    else
      let i := s - hw
      let c2 := if i % 4096 = 0 then c1.spallRoll else c1
      let c3 := if c2.cfg.offsetLog2 != 0 && i % 2 ^ c2.cfg.offsetLog2 == 0 then c2.offsetRoll i else c2
      let centre := c3.raw.getD hw {}
      let (v, c4) := c3.spall i
      let (y, c5) := c4.offset i v centre.tainted
      let r := hbPush c5.cfg.hbStages 0 c5.stages y
      let keep := 2 ^ c5.cfg.hbStages * c5.keep
      let c6 := { c5 with
        stages := r.stages, hbSat := rcAdd 32 c5.hbSat (r.limited.filter c.owns).length
        taints := (c5.taints ++ r.limited).filter fun p => decide (s ≤ p + keep)
        work := match r.out with
          | none => c5.work
          | some y => (y :: c5.work).take c5.keep }
      c6.formWhile tap lost (c6.due s) 2

/-- Forms every output before index `lim`. -/
def Chain.formTo (tap : Nat → Int) (lost : Int → Bool) (c : Chain) (lim : Nat) : Chain :=
  c.formWhile tap lost (fun m => decide (m < lim)) (lim - c.nextOut)

/-- No sample follows those received: clipped ones that the spall filter has not reached are not replaced, so they taint (R103, R104). -/
def Chain.taintUntested (c : Chain) : Chain :=
  { c with taints := ((c.raw.take ((c.cfg.w - 1) / 2)).filter (·.tainted)).map (·.index.toNat) ++ c.taints }

/-- The last offset block boundary before grist index `p`, where the offset block has not reached it: what is due there acts (R115). -/
def Chain.freezeUnreached (c : Chain) (p : Nat) : Chain :=
  let b := (p - 1) / 2 ^ c.cfg.offsetLog2 * 2 ^ c.cfg.offsetLog2
  if c.cfg.offsetLog2 != 0 && decide (p ≤ b + (c.cfg.w - 1) / 2) then c.freezeDue b else c

/-- The chain stops at grist index `p`, which it does not get: outputs up to the grain of `p` are formed where their span is in, else MISSING (R109). -/
def Chain.stop (tap : Nat → Int) (lost : Int → Bool) (c : Chain) (p : Nat) : Chain :=
  Chain.formTo tap lost { (c.taintUntested.freezeUnreached p) with stopped := true, gapAt := some p } (p / c.cfg.gristPerOut)

/-- An offset block boundary passes while the chain is stopped: what is due there acts (R115). -/
def Chain.passBoundary (c : Chain) (s : Nat) : Chain :=
  if c.cfg.offsetLog2 != 0 && s % 2 ^ c.cfg.offsetLog2 == 0 then c.freezeDue s else c

/-- While the chain is stopped, each output whose grain has passed leaves: MISSING where its delayed span holds the gap (R109, R122). -/
def Chain.passGrain (tap : Nat → Int) (lost : Int → Bool) (c : Chain) (s : Nat) : Chain := c.formTo tap lost ((s + 1) / c.cfg.gristPerOut)

/-- Ingest ends before grist index `c.next`: the outputs before `lim` whose span is not in are MISSING (R117). Log 152 [DEDUCED]. -/
def Chain.close (tap : Nat → Int) (lost : Int → Bool) (c : Chain) (lim : Nat) : Chain :=
  Chain.formTo tap lost (if c.stopped then c else { c.taintUntested with stopped := true, gapAt := some c.next }) lim

/-- One grist index reaches its hold time: processed, or counted missing (R85, R106, R109). -/
def Chain.advance (tap : Nat → Int) (lost : Int → Bool) (c : Chain) (x : Option Sample) : Chain :=
  let s := c.next
  let c1 :=
    match x with
    | none =>
      let c0 := (if c.stopped then c else c.stop tap lost s).passBoundary s
      let gap := (c.gapStart.map fun g => (g, c.gapScale)).getD (s, c.cfg.samplesPerTick)
      { c0.passGrain tap lost s with
        missing := if c.finish.isNone then rcAdd 64 c.missing 1 else c.missing, gapStart := some gap.1, gapScale := gap.2 }
    | some y =>
      let c0 := { c with gapStart := none, silent := false }
      if !c.stopped then c0.consume tap lost y
      else if s % c.cfg.gristPerOut = 0 then (c0.restart s).consume tap lost y
      else ((c0.passBoundary s).countClips y).passGrain tap lost s
  { c1 with next := s + 1, buffer := c1.buffer.filter fun y => decide ((s : Int) < y.index) }

end Sys2Proof.Machine
end

