-- ==== Sys2Proof/Machine/Admission.lean ====
section
/-! DEFINITION. Admission (R30, R38, R61 to R74, R89, R154, R196, R198) in exact rational arithmetic, on a candidate configuration. -/

namespace Sys2Proof.Machine

/-- A rational: numerator over a positive denominator. -/
abbrev Q := Nat × Nat

/-- The sum of two rationals. -/
def Q.add (a b : Q) : Q := (a.1 * b.2 + b.1 * a.2, a.2 * b.2)

/-- The sum of a list. -/
def Q.sum (l : List Q) : Q := l.foldl Q.add (0, 1)

/-- The order of rationals. -/
def Q.gt (a b : Q) : Bool := decide (b.1 * a.2 < a.1 * b.2)

/-! ### Shapes -/

/-- g: tile rows of a group of n inputs (R25). -/
def tileRows (n : Nat) : Nat := ceilDiv n 64

/-- Tile positions of one job (R28). -/
def CorrCfg.jobTiles (c : CorrCfg) (j : Job) : Nat :=
  let ga := tileRows (c.groupSize.getD j.col 0)
  let gb := tileRows (c.groupSize.getD j.row 0)
  if j.col = j.row then ga * (ga + 1) / 2 else ga * gb

/-- P_corr: tile positions per channel (R28, R61). -/
def CorrCfg.pCorr (c : CorrCfg) : Nat := (c.jobs.map c.jobTiles).sum

/-- q: tile-cycles per sample (R61). -/
def qOf (mode : Nat) : Nat := if mode = 2 then 4 else 1

/-- Channels that a die works, alone or in a time-split set (R31, R184). -/
def diesChannels (dieCh : List Nat) (d die : Nat) : Nat := dieCh.getD (die / max d 1 * max d 1) 0

/-- The first system channel, relative to SYS_CH_FIRST, that the channels of a die begin at (R183). -/
def dieChOffset (dieCh : List Nat) (d die : Nat) : Nat := (dieCh.take (die / max d 1 * max d 1)).sum

/-- Inputs of a CORR pipe: the sum of its group sizes. -/
def CorrCfg.inputs (c : CorrCfg) : Nat := c.groupSize.sum

/-- A group's samples of a mash fit a column slot whole (R67). -/
def CorrCfg.whole (c : CorrCfg) (g : Nat) : Bool := decide (64 * tileRows (c.groupSize.getD g 0) * 2 ^ c.tLog2 * modeBytes c.sampleMode ≤ 2 ^ 26)

/-- A job comes to the column slots: its columns into the one that was not in use, its rows through the other; the groups loaded. A group whole in a
slot is not loaded again (R67). -/
def Slots.stage (whole : Nat → Bool) (s : Slots) (col row : StagedGroup) : Slots × List Nat :=
  let (s1, l) :=
    if s.col = some col then (s, [])
    else if s.row = some col ∧ whole col.group then ({ col := s.row, row := s.col }, [])
    else ({ col := some col, row := s.col }, [col.group])
  if row = col ∨ (s1.row = some row ∧ whole row.group) then (s1, l) else ({ s1 with row := some row }, l ++ [row.group])

/-- L_b: loads of each group over a channel's jobs in the order of R67 (R66 to R68). -/
def CorrCfg.loads (c : CorrCfg) : List Nat :=
  (c.jobs.foldl (fun (st : Slots × List Nat) j =>
    let (sl, l) := st.1.stage c.whole { group := j.col } { group := j.row }
    (sl, l.foldl (fun acc g => acc.modify g (· + 1)) st.2)) ({}, List.replicate 16 0)).2

/-- The set inputs whose samples a die uses: all for SOURCE 0 and 1, those it serves for SOURCE 2 (R190, R196). Log 15 [DEDUCED]. -/
def beamDieInputs (c : PackageCfg) (e : PipeEntry) (b : BeamCfg) (die : Nat) : List Nat :=
  let own := e.beamInputs.map (·.input)
  if b.source = 2 then
    let served := ((c.entry b.sourceHandle).inputs.filter (·.die == die)).map (·.input)
    own.filter served.contains
  else own

/-- The number of set inputs a die uses; before BEAM_INPUTS has named them all, INPUT_COUNT for SOURCE 0 and 1 of an owner (R61, log 15 [DEDUCED]). -/
def beamDieCount (c : PackageCfg) (e : PipeEntry) (b : BeamCfg) (die : Nat) : Nat :=
  let n := (beamDieInputs c e b die).length
  if b.source = 2 || b.partialPipe then n else max n b.inputCount

/-- g_B: 64-input tile columns that cover the set's inputs on a die, counted within each input group (R61). -/
def gBeam (c : PackageCfg) (e : PipeEntry) (b : BeamCfg) (die : Nat) : Nat :=
  let ins := beamDieInputs c e b die
  let byGroup := ((List.range 16).map fun g => ceilDiv (ins.filter (fun i => i / 4096 == g)).length 64).sum
  if b.source = 2 || b.partialPipe then byGroup else max byGroup (ceilDiv b.inputCount 64)

/-- Channels of a BEAM pipe that a die works: every channel on each serving die for SOURCE 2 (R190). -/
def BeamCfg.channelsOn (b : BeamCfg) (serves : Bool) (die : Nat) : Nat :=
  if b.source = 2 then (if serves then b.chCount else 0) else diesChannels b.dieCh b.splitD die

/-- Weight passes of a tile: 2 for 4-bit inputs, 4 for 8-bit (R61, R193). -/
def wOf (mode : Nat) : Nat := if mode = 2 then 4 else 2

/-- P_beam of one channel on a die (R61). Log 15 [DEDUCED]. -/
def pBeam (c : PackageCfg) (e : PipeEntry) (b : BeamCfg) (die : Nat) : Nat :=
  wOf b.sampleMode * ceilDiv b.beams 64 * gBeam c e b die

/-- Dies that serve inputs of a BEAM pipe (R190). Log 27 [DEDUCED]. -/
def servingDies (c : PackageCfg) (e : PipeEntry) : List Nat := (List.range 8).filter fun d => beamDieCount c e e.cfg.beamCfg d != 0

/-- The die on which a SOURCE 2 pipe's mashes are finished: the lowest-numbered that serves its inputs, die 0 where it has none. Log 27 [DEDUCED]. -/
def tapFinisher (c : PackageCfg) (e : PipeEntry) : Nat := (servingDies c e).headD 0

/-- Channels of a BEAM pipe that a die forms or finishes (R190, R192, R196). Log 27 [DEDUCED]. -/
def beamChannels (c : PackageCfg) (e : PipeEntry) (b : BeamCfg) (die : Nat) : Nat :=
  b.channelsOn (beamDieCount c e b die != 0 || (!b.partialPipe && tapFinisher c e == die)) die

/-- Channels of a BEAM pipe that a die finishes: it receives their BEAMPART frames and detects their beams (R192). -/
def finishChannels (c : PackageCfg) (e : PipeEntry) (b : BeamCfg) (die : Nat) : Nat :=
  if b.partialPipe then 0 else b.channelsOn (tapFinisher c e == die) die

/-- The pipes of a configuration that exist, with their entries. -/
def PackageCfg.live (c : PackageCfg) : List (Nat × PipeEntry) :=
  (List.range c.pipes.length).filterMap fun i =>
    let e := c.pipes.getD i {}
    if e.exists? then some (i, e) else none

/-! ### Work (R61) -/

/-- W: the work of one die in one tick (R61). -/
def workOf (c : PackageCfg) (die : Nat) : Nat :=
  (c.live.map fun (_, e) => match e.cfg with
    | .corr p => diesChannels p.dieCh p.splitD die * (p.m * 2 ^ p.tLog2 / max p.splitD 1) * (qOf p.sampleMode * p.pCorr)
    | .beam p => beamChannels c e p die * (p.m * 2 ^ p.tLog2 / max p.splitD 1) * pBeam c e p die
    | _ => 0).sum

/-- The admissible tile-cycles of a tick: floor(213,760,000,000 x TICK_NUM / TICK_DEN) (R61). -/
def budgetOf (t : TickCfg) : Nat := 213760000000 * t.num / max t.den 1

/-! ### HBM traffic in bytes per tick (R66) -/

/-- The traffic of one pipe on one die in one tick. -/
def trafficOf (c : PackageCfg) (die : Nat) (e : PipeEntry) : Q :=
  match e.cfg with
  | .corr p =>
    let d := max p.splitD 1
    let ch := diesChannels p.dieCh p.splitD die
    let deep := if p.deepTun then 2 else 1
    let own := p.dieCh.getD die 0
    let turn := ((List.range 16).map fun g => p.groupSize.getD g 0 * (1 + p.loads.getD g 0)).sum
    Q.sum [(ch * (p.m / d) * p.pCorr * 65536 * deep, 1),
      (2 * (d - 1) * own * p.pCorr * 32768 * deep, max p.k 1),
      (ch * turn * (p.m * 2 ^ p.tLog2) * modeBytes p.sampleMode, d)]
  | .beam p =>
    let d := max p.splitD 1
    let ch := beamChannels c e p die
    let samples := p.m * 2 ^ p.tLog2
    let turn := if p.source = 1 then 0 else 2 * beamDieCount c e p die * samples * modeBytes p.sampleMode * ch
    let fin := finishChannels c e p die
    Q.sum [(turn, d), (16 * p.beams * ch * samples, d), (16 * p.contribCount * p.beams * fin * samples, d),
      (if p.detected then (8 * p.beams * fin * samples, d * 2 ^ p.detLog2) else (0, 1))]
  | .ingest p =>
    if p.delayEnable then
      let n := (e.inputs.filter (·.die == die)).length
      (2 * n * (p.samplesPerTick / 2 ^ p.hbStages) * (if p.complex then 4 else 2), 1)
    else (0, 1)
  | _ => (0, 1)

/-! ### HBM capacity (R69, R124, R196, R198, R400) -/

/-- The areas of one pipe on one die in bytes, in the order of R400: turn half 0, turn half 1, tun bank 0, tun bank 1, partial area, weight tables,
detected banks, delay buffer. -/
def areasOf (c : PackageCfg) (die : Nat) (e : PipeEntry) : List (AreaKind × Nat) :=
  match e.cfg with
  | .corr p =>
    let d := max p.splitD 1
    let ch := diesChannels p.dieCh p.splitD die
    let half := ch * p.inputs * modeBytes p.sampleMode * (p.m * 2 ^ p.tLog2) / d
    let bank := ch * p.pCorr * 32768 * (if p.deepTun then 2 else 1)
    [(.turn, 2 * half), (.tun0, bank), (.tun1, bank)]
  | .beam p =>
    let d := max p.splitD 1
    let ch := beamChannels c e p die
    let n := beamDieCount c e p die
    let half := if p.source = 1 then 0 else ch * n * modeBytes p.sampleMode * (p.m * 2 ^ p.tLog2) / d
    [(.turn, 2 * half), (.partialArea, ch * (3 * p.beams * p.m * 2 ^ p.tLog2 * 8 / d)), (.weights, ch * (3 * p.beams * n * 2)),
     (.detected, if p.detected && !p.partialPipe then ch * (2 * p.beams * (p.m * 2 ^ p.tLog2 * p.k / 2 ^ p.detLog2) * 4 / d) else 0)]
  | .ingest p =>
    if p.delayEnable then
      let one := ceilDiv ((p.delayMax + 4 * (if p.chanLog2 = 0 then 2 else p.n)) * (if p.complex then 4 else 2)) 4096 * 4096
      [(.delay, (e.inputs.filter (·.die == die)).length * one)]
    else []
  | _ => []

/-- Bytes of one pipe on one die. -/
def capacityOf (c : PackageCfg) (die : Nat) (e : PipeEntry) : Nat := ((areasOf c die e).map (·.2)).sum

/-- Bytes of one turn half of one pipe on one die. -/
def turnHalfOf (c : PackageCfg) (die : Nat) (e : PipeEntry) : Nat :=
  (((areasOf c die e).filter (fun a => a.1 == .turn)).map (·.2)).sum / 2

/-- Bits of contributor bitmaps of one pipe on one die: the one that its contributors' frames come to (R192, R198). -/
def bitmapBits (c : PackageCfg) (die : Nat) (e : PipeEntry) : Nat :=
  match e.cfg with
  | .beam p =>
    let cells := 2 ^ p.tLog2 / 2 ^ p.frameSamplesLog2 * ceilDiv p.beams (2 ^ p.frameBeamsLog2)
    3 * finishChannels c e p die * (p.contribCount * cells)
  | _ => 0

/-! ### Sparge time (R71, R239) -/

/-- Wire bytes of a datagram with `n` bytes of data (R239). -/
def wireBytes (k : SinkCfg) (n : Nat) : Nat :=
  8 + 14 + (if k.vlanEn then 4 else 0) + (if k.ipVersion = 4 then 20 else 40) + 8 + 64 + n + 4 + 12

/-- Groups of at most `g` out of `n`, as sizes. -/
def groupsOf (n g : Nat) : List Nat :=
  (List.range (ceilDiv n (max g 1))).map fun i => min (max g 1) (n - i * max g 1)

/-- Wire bytes of one integration scope of a CORR pipe (R71, R230, R231, R235). -/
def corrScopeBytes (k : SinkCfg) (p : CorrCfg) : Nat :=
  let frags := 64 / 2 ^ k.rowsLog2
  let vis := p.pCorr * frags * wireBytes k (2 ^ k.rowsLog2 * 64 * (if p.deepTun then 16 else 8))
  let counts := ((groupsOf p.inputs 256).map fun n => wireBytes k (32 * n)).sum
  p.chCount * (vis + counts) + wireBytes k 0

/-- Bytes of one voltage value (R211). -/
def voltBytes (p : BeamCfg) : Nat := if p.voltMode = 2 then 4 else 2

/-- Wire bytes of one tick scope of a BEAM pipe (R223, R233, R234). -/
def beamTickBytes (k : SinkCfg) (p : BeamCfg) : Nat :=
  let summary := ((groupsOf p.beams 1020).map fun n => wireBytes k (32 + 8 * n)).sum
  let volt := if p.voltage then
      2 ^ p.tLog2 / 2 ^ (min k.voltSamplesLog2 p.tLog2) *
        ((groupsOf p.beams (2 ^ k.voltBeamsLog2)).map fun n => wireBytes k (2 ^ (min k.voltSamplesLog2 p.tLog2) * n * voltBytes p)).sum
    else 0
  p.chCount * p.m * (summary + volt) + wireBytes k 0

/-- Wire bytes of one integration scope of a BEAM pipe (R223, R234). -/
def beamIntBytes (k : SinkCfg) (p : BeamCfg) : Nat :=
  let runs := p.m * 2 ^ p.tLog2 * p.k / 2 ^ p.detLog2
  let det := ((groupsOf runs (2 ^ k.detRunsLog2)).map fun r =>
    ((groupsOf p.beams (2 ^ k.detBeamsLog2)).map fun n => wireBytes k (r * n * 4)).sum).sum
  p.chCount * det + wireBytes k 0

/-- The left side of R71 for one pipe: the sum over its scopes of B / (0.9 L), in bytes per second. -/
def spargeLoad (t : TickCfg) (k : SinkCfg) (e : PipeEntry) : Q :=
  let one (bytes ticks : Nat) : Q := (10 * bytes * t.den, 9 * max ticks 1 * max t.num 1)
  match e.cfg with
  | .corr p => one (corrScopeBytes k p) p.k
  | .beam p => if p.partialPipe then (0, 1)
      else Q.add (one (beamTickBytes k p) 1) (if p.detected then one (beamIntBytes k p) p.k else (0, 1))
  | _ => (0, 1)

/-- The SINK handle that a pipe names. -/
def PipeCfg.sinkHandle : PipeCfg → Nat
  | .corr c => c.sink
  | .beam c => c.sink
  | _ => 0

/-- C: the capacity of a destination table, each distinct port once (R71, R238, R244). -/
def sinkCapacity (ds : List SinkDest) : Nat :=
  let ports := dedup (ds.map (·.port))
  (ports.map fun p => match ds.find? (·.port == p) with
    | some d => if d.pace = 0 then 100000000000 else d.pace * 1000000000 / 8
    | none => 0).sum

/-- The lowest-numbered die that holds a channel of a pipe; a BEAM pipe of SOURCE 2 has them on each die that serves its inputs (R190, R215). -/
def PipeEntry.firstDie (c : PackageCfg) (e : PipeEntry) : Nat :=
  match e.cfg with
  | .corr p => (p.dieCh.findIdx? (· != 0)).getD 0
  | .beam p => if p.source = 2 then tapFinisher c e else (p.dieCh.findIdx? (· != 0)).getD 0
  | _ => 0

/-- The SINK whose pipes exceed its capacity, as the die of DETAIL (R71, R366). -/
def spargeOver (t : TickCfg) (c : PackageCfg) : Option Nat :=
  (c.live.filter fun x => x.2.cfg.kind == 4 && !x.2.sinkDests.isEmpty).findSome? fun (i, e) =>
    let users := c.live.filter fun x => (x.2.cfg.kind == 2 || x.2.cfg.kind == 3) && x.2.cfg.sinkHandle == c.handle i
    let load := Q.sum (users.map fun x => spargeLoad t e.cfg.sinkCfg x.2)
    if load.gt (sinkCapacity e.sinkDests, 1) then some (((users.head?).map fun x => x.2.firstDie c).getD 0) else none

/-! ### Lane load (R72) -/

/-- Bits per tick that one destination puts on each of its lanes: ceil(F / LANE_COUNT) x L (R72). -/
def destLoad (p : IngestCfg) (d : TurnDest) : Nat :=
  let ch := min p.channelsPerFrame d.count
  let frames := p.inputCount * ceilDiv d.count (max p.channelsPerFrame 1) * (p.m * (p.t / max p.samplesPerFrame 1))
  ceilDiv frames (max d.laneCount 1) * ((36 + turnPayload p.samplesPerFrame ch (modeBytes p.reqMode)) * 8)

/-- Bits per tick that a partial pipe puts on each of its lanes (R72, R205). -/
def partialLoad (c : PackageCfg) (dies : Nat) (e : PipeEntry) (p : BeamCfg) : Nat :=
  let cells := 2 ^ p.tLog2 / 2 ^ p.frameSamplesLog2 * ceilDiv p.beams (2 ^ p.frameBeamsLog2)
  let mashes := ((List.range dies).map fun d => beamChannels c e p d * (p.m / max p.splitD 1)).sum
  let biggest := 36 + max 16 (2 ^ p.frameSamplesLog2 * min p.beams (2 ^ p.frameBeamsLog2) * 8)
  ceilDiv (mashes * (cells + 1)) (max p.laneCount 1) * (biggest * 8)

/-- Bits per tick on one TX lane, under the destination tables in force (R72). -/
def txLoad (c : PackageCfg) (dies lane : Nat) : Nat :=
  (c.live.map fun (_, e) => match e.cfg with
    | .ingest p =>
      ((e.dests.filter fun d => d.laneCount != 0 && decide (d.laneFirst ≤ lane ∧ lane < d.laneFirst + d.laneCount)).map (destLoad p)).sum
    | .beam p => if p.partialPipe && decide (p.laneFirst ≤ lane ∧ lane < p.laneFirst + p.laneCount) then partialLoad c dies e p else 0
    | _ => 0).sum

/-- The GRIST payload that lane load is counted with: the largest of whole sample groups (R72, R83). The senders choose their frames; log 146 [DESIGN CHOICE]. -/
def gristPayload (p : IngestCfg) : Nat :=
  if p.format = 2 then 8190 else if p.format = 5 then 8192 / max p.chCount 1 * max p.chCount 1 else 8192

/-- Grist bits per tick of one input, with header and CRC (R72, R508). -/
def gristLoad (p : IngestCfg) : Q :=
  let width := if p.format = 1 then 8 else if p.format = 2 then 12 else if p.format = 3 then 16 else if p.format = 4 then 4 else 8 * p.chCount
  (p.samplesPerTick * width * (gristPayload p + 36), max (gristPayload p) 1)

/-- Grist bits per tick on one RX lane. Log 146 [DESIGN CHOICE]. -/
def rxLoad (c : PackageCfg) (lane : Nat) : Q :=
  Q.sum (c.live.flatMap fun (_, e) => match e.cfg with
    | .ingest p => (e.inputs.filter fun i => 16 * i.die + i.lane == lane).map fun _ => gristLoad p
    | _ => [])

/-! ### Ingest limits (R38, R89) -/

/-- Slots of one die (R86). -/
def slotsOf (c : PackageCfg) (die : Nat) : Nat :=
  (c.live.map fun (_, e) => match e.cfg with
    | .ingest p => let n := (e.inputs.filter (·.die == die)).length; if p.format = 4 then ceilDiv n 2 else n
    | _ => 0).sum

/-- Grist samples per second of one input as R89 counts it, as a rational. -/
def gristRate (p : IngestCfg) : Q := ((if p.format = 5 then p.chCount else 1) * p.rateNum, max p.rateDen 1)

/-- The ingest limits of a die fail: slots, samples per second, or one slot's rate, which of two inputs of format 0x4 in one slot is the sum (R38, R89). -/
def ingestOver (c : PackageCfg) (die : Nat) : Bool :=
  let served := c.live.filterMap fun (_, e) => match e.cfg with
    | .ingest p => let n := (e.inputs.filter (·.die == die)).length; if n = 0 then none else some (p, n)
    | _ => none
  decide (512 < slotsOf c die) || (Q.sum (served.map fun (p, n) => (n * (gristRate p).1, (gristRate p).2))).gt (800000000000, 1) ||
    served.any fun (p, n) => Q.gt ((if p.format = 4 ∧ 2 ≤ n then 2 else 1) * (gristRate p).1, (gristRate p).2) (6400000000, 1)

/-! ### The checks in the order of R73 -/

/-- The configuration as it stands for the work of tick `t`: pipes that run at `t`, in the form that R57 and R58 give; SINKs always (R70). Log 129 [DEDUCED]. -/
def PackageCfg.atTick (c : PackageCfg) (t : Nat) : PackageCfg :=
  { c with pipes := c.pipes.map fun e =>
      if e.cfg.kind = 4 then e
      else if e.exists? && decide (e.firstTick ≤ t) && !(e.state == .draining && decide (e.endTick < t)) then e.atTick t
      else {} }

/-- The ticks at which the set of running configurations changes. Log 129 [DEDUCED]. -/
def PackageCfg.turningPoints (c : PackageCfg) (now : Nat) : List Nat :=
  dedup (now :: c.live.flatMap fun (_, e) =>
    (max now e.startTick :: e.changes.map fun g => max now (e.effectTick g.tick)) ++ (e.nextDests.map fun x => max now x.1) ++ (if e.state == .draining then [max now (e.endTick + 1)] else []))

/-- The staging checks of a CORR pipe fail (R30, R154): 64 g of the column group times T. -/
def stagingOver (p : CorrCfg) : Bool :=
  p.jobs.any fun j => decide ((if p.sampleMode = 2 then 2 ^ 25 else 2 ^ 26) < 64 * tileRows (p.groupSize.getD j.col 0) * 2 ^ p.tLog2)

/-- A pipe places channels, inputs or beams on a die. -/
def usesDie (c : PackageCfg) (e : PipeEntry) (die : Nat) : Bool :=
  match e.cfg with
  | .corr p => diesChannels p.dieCh p.splitD die != 0
  | .beam p => beamChannels c e p die != 0
  | .ingest _ => e.inputs.any (·.die == die)
  | _ => false

/-- The first failing check of one tick's configuration `a`, the tick before being `b`: check number and die (R73, R366). Log 129 [DEDUCED]. -/
def admitTick (t : TickCfg) (dies : Nat) (withheld : List Nat) (b a : PackageCfg) : Option (Nat × Nat) :=
  let ds := List.range dies
  let live := a.live
  let first (k : Nat) (p : Nat → Bool) : Option (Nat × Nat) := (ds.find? p).map fun d => (k, d)
  let staging := (live.find? fun (_, e) => match e.cfg with
    | .corr p => stagingOver p
    | _ => false).map fun (_, e) => (1, e.firstDie a)
  let cycles := first 2 fun d => decide (budgetOf t < workOf a d)
  let traffic := first 3 fun d => Q.gt (Q.sum (live.map fun x => trafficOf a d x.2)) (1854000000000 * t.num, max t.den 1)
  let capacity := first 4 fun d =>
    let oldHalf := (b.live.map fun x => turnHalfOf b d x.2).sum
    let newHalf := (live.map fun x => turnHalfOf a d x.2).sum
    let all := (live.map fun x => capacityOf a d x.2).sum - 2 * newHalf + newHalf + max oldHalf newHalf
    (withheld.contains d && live.any fun x => usesDie a x.2 d) || decide (62 * 2 ^ 30 < all) ||
      decide (8 * 8388608 < (live.map fun x => bitmapBits a d x.2).sum)
  let sparge := (spargeOver t a).map fun d => (5, d)
  let lanes := ((List.range 128).find? fun l =>
    Q.gt (txLoad a dies l, 1) (200000000000 * t.num, max t.den 1) || (rxLoad a l).gt (200000000000 * t.num, max t.den 1)).map fun l => (6, dieOfLane l)
  let ingest := first 7 fun d => ingestOver a d
  staging.orElse fun _ => cycles.orElse fun _ => traffic.orElse fun _ => capacity.orElse fun _ => sparge.orElse fun _ =>
    lanes.orElse fun _ => ingest

/-- Admission of a candidate configuration at data-path tick `now`: the failing check with the lowest number over the ticks at which the work changes,
and its die (R70, R73). -/
def budgetFail (c : PackageCfg) (dies now : Nat) (withheld : List Nat) : Option (Nat × Nat) :=
  match c.tick with
  | none => none
  | some t =>
    let fails := (c.turningPoints now).filterMap fun n => admitTick t dies withheld (c.atTick (n - 1)) (c.atTick n)
    fails.foldl (fun best f => match best with
      | none => some f
      | some g => if f.1 < g.1 then some f else some g) none

/-- DETAIL of NO_BUDGET (R366). -/
def budgetDetail (f : Nat × Nat) : Nat := f.1 + 256 * f.2

end Sys2Proof.Machine
end

