-- ==== Sys2Proof/Machine/Turn.lean ====
section
/-! DEFINITION. TURN frames at the receiver and the turn buffer (R56, R138 to R142). -/

namespace Sys2Proof.Machine

/-- Data-path time has reached the start of tick `n` plus `off` nanoseconds, judged exactly (R52, R53). -/
def TickCfg.reached (c : TickCfg) (timeNs n : Nat) (off : Int) : Bool :=
  decide (((c.epochSec * nsPerSec + c.epochNs : Nat) + off) * (c.den : Int) + ((n * c.num * nsPerSec : Nat) : Int) ≤ ((timeNs * c.den : Nat) : Int))

/-- Die d's work. -/
def State.die (s : State) (d : Nat) : DieWork := s.data.dies.getD d {}

/-- Changes die d's work. -/
def State.modDie (s : State) (d : Nat) (f : DieWork → DieWork) : State :=
  { s with data := { s.data with dies := s.data.dies.modify d f } }

/-- A frame of tick `n` comes after tick boundary n + 1 (R56). -/
def State.turnLate (s : State) (n : Nat) : Bool :=
  match s.data.boundary with
  | some b => decide (n + 1 ≤ b)
  | none => false

/-- A frame of tick `n` comes before tick boundary n less G (R56). -/
def State.turnEarly (s : State) (n : Nat) : Bool :=
  let gate := match s.cfg.tick with
    | some c => !c.reached s.timeNs n ((c.closeNs : Int) - c.guardNs)
    | none => true
  match s.data.boundary with
  | some b => decide (b + 2 ≤ n) || (decide (n = b + 1) && gate)
  | none => gate

/-- Pipe `i` as it works tick `t`, if it runs then (R57). -/
def State.pipeAt (s : State) (i t : Nat) : Option PipeEntry :=
  match s.cfg.pipes[i]? with
  | none => none
  | some e => if (e.state == .running || e.state == .pending || (e.state == .draining && decide (t ≤ e.endTick))) && decide (e.firstTick ≤ t)
      then some (e.atTick t) else none

/-- The first die of the set that owns system channel `ch` under DIE_CH_COUNT (R26, R183). -/
def ownerDie (dieCh : List Nat) (first ch : Nat) : Option Nat :=
  (List.range 8).find? fun d => decide (first + (dieCh.take d).sum ≤ ch ∧ ch < first + (dieCh.take (d + 1)).sum)

/-- The die that works mash `j` of a channel: the j mod D-th of the set (R31). -/
def mashDie (owner splitD j : Nat) : Nat := owner + j % max splitD 1

/-- Inputs, channels, sample mode, T and M that a receiving pipe holds for TURN (R142). -/
structure TurnHold where
  mode : Nat := 1
  tLog2 : Nat := 10
  m : Nat := 1
  splitD : Nat := 1
  first : Nat := 0
  count : Nat := 0
  dieCh : List Nat := []
  /-- The input identifiers held. -/
  holds : Nat → Bool := fun _ => false

/-- What a CORR pipe, or a BEAM pipe of SOURCE 0, holds. -/
def turnHold (e : PipeEntry) : Option TurnHold :=
  match e.cfg with
  | .corr p => some { mode := p.sampleMode, tLog2 := p.tLog2, m := p.m, splitD := p.splitD, first := p.chFirst, count := p.chCount, dieCh := p.dieCh,
                      holds := fun i => decide (i % 4096 < p.groupSize.getD (i / 4096) 0) }
  | .beam p => if p.source = 0 then
      some { mode := p.sampleMode, tLog2 := p.tLog2, m := p.m, splitD := p.splitD, first := p.chFirst, count := p.chCount, dieCh := p.dieCh,
             holds := fun i => e.beamInputs.any (·.input == i) }
    else none
  | _ => none

/-- A component code as the receiver stores it: the most negative code is the taint carrier (R140). -/
def storeCode (w v : Nat) : Int × Bool :=
  let x := toSigned w v
  if x = -(2 ^ (w - 1)) then (-(2 ^ (w - 1)) + 1, true) else (x, false)

/-- One value of a TURN payload: real first (R134, R140). -/
def turnValue (mode : Nat) (pl : List Byte) (off : Nat) : Int × Int × Bool :=
  let (re, a) := if mode = 2 then storeCode 8 (field pl off 1) else storeCode 4 (field pl off 1 % 16)
  let (im, b) := if mode = 2 then storeCode 8 (field pl (off + 1) 1) else storeCode 4 (field pl off 1 / 16)
  (re, im, a || b)

/-- The samples of a TURN frame as the turn half holds them (R138 to R140). -/
def turnSamples (mode : Nat) (f : Frame) : List TurnSample :=
  let pl := f.payload
  let n := field pl 0 2
  let ch := f.layout.toNat / 16 + 1
  let off := f.spec.toNat % 2 ^ 32
  let input := f.spec.toNat / 2 ^ 32 % 65536
  let first := f.spec.toNat / 2 ^ 48
  (List.range n).flatMap fun i =>
    let mark := field pl (4 + i / 2) 1 / 16 ^ (i % 2) % 16
    (List.range ch).map fun c =>
      let (re, im, carrier) := turnValue mode pl (4 + markBytes n + (i * ch + c) * modeBytes mode)
      { pipe := f.pipe.toNat, tick := f.tick.toNat, input := input, channel := first + c, index := off + i, re := re, im := im
        tainted := mark.testBit 0 || carrier, unsettled := mark.testBit 1, missing := mark.testBit 2 }

/-- A sample and its tick. -/
def TurnSample.key (x : TurnSample) : Nat × Nat × Nat × Nat × Nat := (x.pipe, x.tick, x.input, x.channel, x.index)

/-- The place of a sample in the turn buffer: ticks of one half share it (R56). -/
def TurnSample.place (x : TurnSample) : Nat × Nat × Nat × Nat × Nat := (x.pipe, x.tick % 2, x.input, x.channel, x.index)

/-- The words that samples are written to become good (R405). Log 2 [DESIGN CHOICE]. -/
def State.healTurn (s : State) (xs : List TurnSample) : State :=
  if !s.anyBad then s
  else (List.range s.dies).foldl (fun s die => xs.foldl (fun s x =>
    s.healItems (s.cfg.pipes.getD x.pipe {}) die .turn [[x.tick % 2, x.input, x.channel, x.index]]) s) s

/-- Writes samples into the turn buffer over what stands there (R56, R142). -/
def State.turnWrite (s : State) (xs : List TurnSample) : State :=
  let places := xs.map TurnSample.place
  State.healTurn { s with data := { s.data with turn := s.data.turn.filter (fun y => !places.contains y.place) ++ xs } } xs

/-- The verdicts of R142, in the order judged (log 18 [DEDUCED]). -/
inductive TurnVerdict where
  | malformed | unknown | late | early | duplicate | fresh
  deriving DecidableEq, Repr

/-- The verdict on a TURN frame and the die that counts it; `die` is that of the lane it came on (R142). Log 18 [DEDUCED]. -/
def State.turnJudge (s : State) (die : Nat) (f : Frame) : TurnVerdict × Nat × List TurnSample :=
  let tick := f.tick.toNat
  match (s.pipeAt f.pipe.toNat tick).bind turnHold with
  | none => (.unknown, die, [])
  | some h =>
    let n := field f.payload 0 2
    let ch := f.layout.toNat / 16 + 1
    let off := f.spec.toNat % 2 ^ 32
    let input := f.spec.toNat / 2 ^ 32 % 65536
    let first := f.spec.toNat / 2 ^ 48
    let t := 2 ^ h.tLog2
    let held := decide (h.first ≤ first ∧ first + ch ≤ h.first + h.count)
    let owners := (List.range ch).map fun c => ownerDie h.dieCh h.first (first + c)
    let target := match owners.head? with
      | some (some d) => mashDie d h.splitD (off / t)
      | _ => die
    if f.payload.length ≠ turnPayload n ch (modeBytes h.mode) ∨ n = 0 ∨ 4096 < n ∨ f.layout.toNat % 16 ≠ h.mode ∨
        (held ∧ (dedup owners).length ≠ 1) ∨ off / t ≠ (off + n - 1) / t ∨ h.m * t < off + n then (.malformed, target, [])
    else if !held || !h.holds input then (.unknown, target, [])
    else if s.turnLate tick then (.late, target, [])
    else if s.turnEarly tick then (.early, target, [])
    else
      let xs := turnSamples h.mode f
      let keys := xs.map TurnSample.key
      if s.data.turn.any fun y => keys.contains y.key then (.duplicate, target, xs) else (.fresh, target, xs)

/-- A TURN frame reaches the die that owns its channels (R27, R142). -/
def State.turnAccept (s : State) (die : Nat) (f : Frame) : State :=
  let (v, d, xs) := s.turnJudge die f
  match v with
  | .malformed => s.modDie d fun w => { w with turnMalformed := rcAdd 32 w.turnMalformed 1 }
  | .unknown => s.modDie d fun w => { w with turnUnknown := rcAdd 32 w.turnUnknown 1 }
  | .late => s.modDie d fun w => { w with turnLate := rcAdd 32 w.turnLate 1 }
  | .early => s.modDie d fun w => { w with turnEarly := rcAdd 32 w.turnEarly 1 }
  | .duplicate => (s.turnWrite xs).modDie d fun w => { w with turnDuplicate := rcAdd 32 w.turnDuplicate 1 }
  | .fresh => s.turnWrite xs

/-- TURN: a whole TURN frame arrives on an RX lane (R142, R264); at a full turn write buffer of the die that owns its channels it is discarded (R407). -/
def execTurn (lane : Nat) (f : Frame) (s : State) : Host.Outcome State Fault Refusal :=
  let (ok, s1) := s.receive lane 2 f
  let (v, d, _) := s1.turnJudge (dieOfLane lane) f
  let full := ((s1.fabric.hbm[d]?).map fun h => decide (2 ^ 21 ≤ h.turnBuffer)).getD false
  .next (if ok && s1.works && full && (v == .fresh || v == .duplicate) then
    let dropped := s1.fabric.hbm.modify d fun h => { h with rtDrops := rcAdd 32 h.rtDrops 1 }
    State.frameOk { s1 with fabric := { s1.fabric with hbm := dropped } } lane
  else if ok && s1.works then
    let s2 := s1.turnAccept (dieOfLane lane) f
    if v = .fresh ∨ v = .duplicate then s2.frameOk lane else s2
  else s1)

end Sys2Proof.Machine
end

