-- ==== Sys2Proof/Machine/Ingest.lean ====
section
/-! DEFINITION. Grist ingest over the package: GRIST frames (R81 to R85), the processing of a sample at its hold time, TURN framing (R141), ingest taps
(R190), level control (R132) and the slots of the engine (R86). -/

namespace Sys2Proof.Machine

/-! ### Chains and slots -/

/-- The chain of an input that takes grist now. -/
def Chain.isOf (pipe input : Nat) (c : Chain) : Bool := c.pipe == pipe && c.input == input && c.finish.isNone

/-- The chain of an input. -/
def State.chain (s : State) (pipe input : Nat) : Option Chain := s.data.chains.find? (Chain.isOf pipe input)

/-- Changes the chains that `p` holds of. -/
def State.modChains (s : State) (p : Chain → Bool) (f : Chain → Chain) : State :=
  { s with data := { s.data with chains := updateAll p f s.data.chains } }

/-- Pre-roll in grist samples: DELAY_MAX x 2^h rounded up to a whole grain (R107). -/
def IngestCfg.preroll (c : IngestCfg) : Nat := ceilDiv (c.delayMax * 2 ^ c.hbStages) c.gristPerOut * c.gristPerOut

/-- An input of a pipe with the die and slot that serve it (R86). -/
abbrev SlotPlace := Nat × Nat × Nat

/-- The slot of the next input listed for a die: the lowest free one, or in format 0x4 that of the input before it when it is the second of a pair (R86). -/
def nextSlot (taken : List (Nat × Nat)) (format : Nat) (placed : List SlotPlace) (die : Nat) : Nat :=
  let mine := placed.filter (·.2.1 == die)
  if format = 4 ∧ mine.length % 2 = 1 then ((mine.getLast?).map (·.2.2)).getD 0
  else ((List.range 512).find? fun k => !taken.contains (die, k) && !mine.any (·.2.2 == k)).getD 0

/-- Slots of the inputs `xs` in list order (R86). An input of `old` keeps its slot while its die stands and neither format is 0x4, or the inputs paired on
its die are the same as before. Log 153 [DEDUCED]. -/
def assignSlots (taken : List (Nat × Nat)) (format oldFormat : Nat) (old : List SlotPlace) (xs : List InputEntry) : List SlotPlace :=
  let keeps (x : InputEntry) : Option SlotPlace :=
    let same := if format = 4 then oldFormat == 4 && (xs.filter (·.die == x.die)).map (·.input) == (old.filter (·.2.1 == x.die)).map (·.1) else oldFormat != 4
    if same then old.find? fun o => o.1 == x.input && o.2.1 == x.die else none
  let held := xs.filterMap fun x => (keeps x).map fun o => (o.2.1, o.2.2)
  xs.foldl (fun acc x => acc ++ [(keeps x).getD (x.input, x.die, nextSlot (taken ++ held) format acc x.die)]) []

/-- The inputs of a pipe take or change their slots at a tick (R86, R114). -/
structure SlotEvent where
  tick : Nat := 0
  pipe : Nat := 0
  format : Nat := 1
  oldFormat : Nat := 1
  inputs : List InputEntry := []
  deriving DecidableEq, Repr

/-- The places that each of the events gives, in their order, `held` being those held before: each pipe that has ended by an event's tick has freed its
slots (R86, R117). Log 153 [DEDUCED]. -/
def planSlots (gone : Nat → Nat → Bool) : List SlotEvent → List (Nat × SlotPlace) → List (Nat × Nat × List SlotPlace)
  | [], _ => []
  | v :: l, held =>
    let live := held.filter fun h => !gone h.1 v.tick
    let others := live.filter (·.1 != v.pipe)
    let new := assignSlots (others.map fun h => (h.2.2.1, h.2.2.2)) v.format v.oldFormat ((live.filter (·.1 == v.pipe)).map (·.2)) v.inputs
    (v.pipe, v.tick, new) :: planSlots gone l (others ++ new.map fun p => (v.pipe, p))

/-- A new chain of an input that starts for tick `t`; its slot is planned with those of all pipes (R86, R97, R107, R131). The partial level control period
before it gives no result (log 154 [DEDUCED]). -/
def newChain (pipe : Nat) (c : IngestCfg) (i : InputEntry) (t : Nat) : Chain :=
  let g := t * c.samplesPerTick - c.preroll
  Chain.restart { pipe := pipe, input := i.input, die := i.die, cfg := c, startTick := t, start := g, next := g,
                  offsetInit := i.offsetInit, gains := List.replicate c.chCount { word := c.gainInit, loads := [t] } } g

/-- What a command loaded into a chain that has not begun goes with it into the chain that replaces it (R115, R123, R133). -/
def Chain.carryTables (old new : Chain) : Chain :=
  { new with
    freezeNext := old.freezeNext, polys := old.polys, buffer := if old.cfg.samplesPerTick = new.cfg.samplesPerTick then old.buffer else []
    gains := (List.range (max old.gains.length new.gains.length)).map fun k =>
      let g := old.gains.getD k {}
      { word := new.cfg.gainInit, loads := new.startTick :: g.loads.drop 1, next := g.next } }

/-- The chains of INGEST pipe `i` that has not started, from tick `t`: one that takes grist already under the same configuration goes on, the others begin
afresh (R86, R107, R114). -/
def State.makeChains (s : State) (i t : Nat) : State :=
  let e := s.cfg.pipes.getD i {}
  match e.cfg with
  | .ingest c =>
    let mine := e.inputs.map fun x =>
      let new := newChain i c x t
      match s.data.chains.find? (Chain.isOf i x.input) with
      | none => new
      | some k =>
        if k.cfg = c ∧ k.startTick = t ∧ k.next ≠ k.start then { k with die := x.die, offsetInit := x.offsetInit } else k.carryTables new
    { s with data := { s.data with chains := s.data.chains.filter (·.pipe != i) ++ mine } }
  | _ => s

/-- The last tick boundary; before the first, zero. -/
def State.lastBoundary (s : State) : Nat := s.data.boundary.getD 0

/-- Changes of an entry whose tick is still to come. -/
def State.coming (s : State) (e : PipeEntry) : List PipeChange := e.changes.filter fun g => !decide (g.tick ≤ s.lastBoundary)

/-- Committed changes of a running INGEST pipe reach its chains: new dies and OFFSET_INIT from their ticks, and chains for the inputs they add (R86, R107,
R114). -/
def State.makeChangeChains (s : State) (i : Nat) : State :=
  let coming := s.coming (s.cfg.pipes.getD i {})
  let stays (c : Chain) : List SlotMove := c.moves.filter fun x => decide (x.tick ≤ s.lastBoundary)
  let moves (input : Nat) : List SlotMove := coming.filterMap fun g => (g.inputs.find? (·.input == input)).map fun x =>
    { tick := g.tick, die := x.die, offsetInit := x.offsetInit }
  let old := updateAll (fun c => c.pipe == i && c.finish.isNone) (fun c => { c with moves := stays c ++ moves c.input }) s.data.chains
  let cs := coming.foldl (fun cs g => g.inputs.foldl (fun cs x =>
      if cs.any (Chain.isOf i x.input) then cs
      else cs ++ [{ newChain i g.cfg.ingestCfg x g.tick with moves := (moves x.input).filter fun m => decide (g.tick < m.tick) }]) cs) old
  { s with data := { s.data with chains := cs } }

/-- The tick for which the chains of pipe `i` start: that of the first of them. -/
def State.chainsFrom (s : State) (i : Nat) : Nat :=
  let l := (s.data.chains.filter fun c => c.pipe == i && c.finish.isNone).map (·.startTick)
  l.foldl min (l.headD 0)

/-- What pipe `i` still does with its slots: it takes them when it starts, and each change to come may move its inputs (R86, R114). -/
def State.slotEvents (s : State) (i : Nat) : List SlotEvent :=
  let e := s.cfg.pipes.getD i {}
  let met := e.changes.filter fun g => decide (g.tick ≤ s.lastBoundary)
  let stand := met.foldl (fun (e : PipeEntry) g => e.applyChange g) e
  let t := s.chainsFrom i
  let event (t : Nat) (old : PipeEntry) (g : PipeEntry) : SlotEvent :=
    { tick := t, pipe := i, format := g.cfg.ingestCfg.format, oldFormat := old.cfg.ingestCfg.format, inputs := g.inputs }
  let later := (s.coming e).foldl (fun (acc : PipeEntry × List SlotEvent) g =>
    let e' := acc.1.applyChange g
    (e', acc.2 ++ [event g.tick acc.1 e'])) (stand, [])
  (if s.lastBoundary < t then [event t stand stand] else []) ++ later.2

/-- Slots that inputs hold now, by the chains that have begun (R86). -/
def State.slotsHeld (s : State) : List (Nat × SlotPlace) :=
  (s.data.chains.filter fun c => c.finish.isNone && decide (c.startTick ≤ s.lastBoundary)).map fun c =>
    let last := ((c.moves.filter fun x => decide (x.tick ≤ s.lastBoundary)).getLast?).map fun m => (m.die, m.slot)
    (c.pipe, c.input, last.getD (c.die, c.slot))

/-- The slots of every input from now on, assigned afresh for what is still to come: pipes and changes take slots in the order of their ticks, those that a
destroyed pipe has freed by then among them (R86, R117). Log 153 [DEDUCED]. -/
def State.assignChains (s : State) : State :=
  let gone (i t : Nat) : Bool := let e := s.cfg.pipes.getD i {}; e.state == .draining && decide (e.endTick < t)
  let events := ((s.cfg.indices [1]).flatMap s.slotEvents).filter fun v => !gone v.pipe v.tick
  let plan := (planSlots gone (sortBy (·.tick) events) s.slotsHeld).reverse
  let slotOf (i t input : Nat) : Option Nat :=
    ((plan.find? fun p => p.1 == i && p.2.1 == t).bind fun p => p.2.2.find? (·.1 == input)).map (·.2.2)
  s.modChains (·.finish.isNone) fun c =>
    { c with
      slot := if s.lastBoundary < c.startTick then (slotOf c.pipe c.startTick c.input).getD c.slot else c.slot
      moves := c.moves.map fun x => { x with slot := (slotOf c.pipe x.tick c.input).getD x.slot } }

/-! ### GRIST frames (R81 to R85) -/

/-- Sample groups of a payload: bytes in a group and samples in it (R82, R83). -/
def gristGroup (format count : Nat) : Nat × Nat :=
  if format = 2 then (3, 2) else if format = 3 then (2, 1) else if format = 4 then (1, 2) else if format = 5 then (count, 1) else (1, 1)

/-- Raw value of sample `k` of a payload (R78, R82); `count` and `first` are those of format 0x5. Log 94 [DEDUCED]. -/
def gristSample (format count first : Nat) (pl : List Byte) (k : Nat) : Sample :=
  match format with
  | 1 => { re := fieldS pl k 1 }
  | 2 => { re := toSigned 12 (bits (field pl (3 * (k / 2)) 3) (12 * (k % 2)) 12) }
  | 3 => { re := fieldS pl (2 * k) 1, im := fieldS pl (2 * k + 1) 1 }
  | 4 => { re := (bits (field pl (k / 2) 1) (4 * (k % 2)) 4 : Nat) }
  | _ => { chans := (List.range count).map fun c =>
      let b := field pl (k * count + c) 1
      (first + c, toSigned 4 (b % 16), toSigned 4 (b / 16)) }

/-- A GRIST frame is malformed for a pipe's configuration (R83): groups, tick, format, channels of format 0x5. LAYOUT[15:4] and FIRST_CHANNEL of the other
formats are not looked at. Log 155 [DESIGN CHOICE]. Log 169 [DESIGN CHOICE]. -/
def gristMalformed (c : IngestCfg) (f : Frame) : Bool :=
  let fmt := f.layout.toNat % 16
  let count := f.layout.toNat / 16 + 1
  let first := f.spec.toNat / 2 ^ 48
  let (bytes, per) := gristGroup fmt count
  let n := f.payload.length / max bytes 1 * per
  fmt != c.format || f.payload.length % max bytes 1 != 0 || decide (c.samplesPerTick < f.spec.toNat % 2 ^ 32 + n) ||
    (fmt == 5 && (decide (first < c.chFirst) || decide (c.chFirst + c.chCount < first + count)))

/-- Places a sample in a chain's buffer; values of further channels of a format 0x5 sample join it, a repeated sample replaces the first (R82). -/
def bufferPut (b : List Sample) (x : Sample) : List Sample :=
  match b.find? (·.index == x.index) with
  | none => b ++ [x]
  | some y => updateAll (·.index == x.index) (fun _ =>
      { x with chans := y.chans.filter (fun v => !x.chans.any (·.1 == v.1)) ++ x.chans }) b

/-- The samples of a frame reach a chain, `per` being S in the tick of the frame: those before the pipe takes grist are not taken, those past their hold
count in GRIST_LATE (R85, R107). -/
def Chain.take (scale : Nat) (c : Chain) (f : Frame) : Chain :=
  let fmt := f.layout.toNat % 16
  let count := f.layout.toNat / 16 + 1
  let first := f.spec.toNat / 2 ^ 48
  let (bytes, per) := gristGroup fmt count
  let base := f.tick.toNat * scale + f.spec.toNat % 2 ^ 32
  let past := decide (f.tick.toNat < c.next / max c.cfg.samplesPerTick 1)
  (List.range (f.payload.length / max bytes 1 * per)).foldl (fun c k =>
    let s := base + k
    if s * c.cfg.samplesPerTick < c.start * scale then c
    else if past || decide (s < c.next) then { c with late := rcAdd 64 c.late 1 }
    else { c with buffer := bufferPut c.buffer { gristSample fmt count first f.payload k with index := s } }) c

/-- A change between two configurations resets the chain (R108, R144). A change of the samples per tick does too (log 20 [DEDUCED]). -/
def resets (a b : IngestCfg) : Bool :=
  a.format != b.format || a.spallWindow != b.spallWindow || a.spallRank != b.spallRank || a.hbStages != b.hbStages || a.realPair != b.realPair ||
    a.delayEnable != b.delayEnable || a.chanLog2 != b.chanLog2 || a.windowSel != b.windowSel || a.spectrumInvert != b.spectrumInvert ||
    a.samplesPerTick != b.samplesPerTick || a.outsPerTick != b.outsPerTick

/-- A frame reaches the chain of its input: one of a tick whose configuration `k` resets the chain waits until it has done so (R81, R108). Log 20 [DEDUCED]. -/
def Chain.accept (c : Chain) (k : IngestCfg) (f : Frame) : Chain :=
  if decide (c.next / max c.cfg.samplesPerTick 1 ≤ f.tick.toNat) && resets c.cfg k then { c with ahead := c.ahead ++ [f] } else Chain.take k.samplesPerTick c f

/-- Pipe `i` takes no grist of tick `t`: the tick that its destruction names is over (R117). Log 169 [DESIGN CHOICE]. -/
def PipeEntry.ended (e : PipeEntry) (t : Nat) : Bool := e.state == .draining && decide (e.endTick < t)

/-- The configuration that a pipe has for grist of tick `t`; before START_TICK, the one with which it starts (R107). -/
def State.gristEntry (s : State) (i t : Nat) : PipeEntry := (s.pipeAt i t).getD (s.cfg.pipes.getD i {})

/-- GRIST: a whole GRIST frame arrives on an RX lane (R83, R117, R264). A frame for an input that only another die serves is malformed, and unknown only one
for an input that no INGEST pipe of the package holds. A frame of a tick after the one that a PIPE_DESTROY names is accepted without effect until the slots
are free. Log 169 [DESIGN CHOICE]. -/
def execGrist (lane : Nat) (f : Frame) (s : State) : Host.Outcome State Fault Refusal :=
  let (ok, s1) := s.receive lane 1 f
  let die := dieOfLane lane
  let input := f.spec.toNat / 2 ^ 32 % 65536
  let tick := f.tick.toNat
  let pipes := (s1.cfg.indices [1]).filter fun i => (s1.gristEntry i tick).inputs.any (·.input == input)
  let mine := pipes.filter fun i => (s1.gristEntry i tick).inputs.any fun x => x.input == input && x.die == die
  let good := mine.filter fun i => !gristMalformed (s1.gristEntry i tick).cfg.ingestCfg f
  let taking := good.filter fun i => !(s1.gristEntry i tick).ended tick
  .next (if !ok || !s1.works then s1
    else if pipes.isEmpty then s1.modDie die fun w => { w with gristUnknown := rcAdd 32 w.gristUnknown 1 }
    else if good.isEmpty then s1.modDie die fun w => { w with gristMalformed := rcAdd 32 w.gristMalformed 1 }
    else (s1.modChains (fun c => taking.contains c.pipe && c.input == input && c.finish.isNone)
      (fun c => c.accept (s1.gristEntry c.pipe tick).cfg.ingestCfg f)).frameOk lane)

/-! ### TURN framing (R138 to R141) -/

/-- The mark nibble of a sample: a frame of a format 0x5 pipe never sets TAINTED (R139, R140). -/
def markNibble (ext : Bool) (o : OutSample) : Nat := nat01 (o.tainted && !ext) + 2 * nat01 o.unsettled + 4 * nat01 o.missing

/-- The coded value of R134. -/
def turnCode (mode : Nat) (v : Int × Int) : List Byte :=
  if mode = 2 then leInt 1 v.1 ++ leInt 1 v.2 else leBytes 1 (toBits 4 v.1 + 16 * toBits 4 v.2)

/-- The payload of one TURN frame: channels `c0` to `c0 + n - 1` of those sent (R139). -/
def turnPayloadBytes (c : IngestCfg) (block : List OutSample) (c0 n : Nat) : List Byte :=
  let marks := block.map (markNibble (c.format == 5))
  let pairs := (List.range (ceilDiv block.length 2)).map fun i => BitVec.ofNat 8 (marks.getD (2 * i) 0 + 16 * marks.getD (2 * i + 1) 0)
  leBytes 2 block.length ++ leBytes 2 0 ++ padTo (markBytes block.length) pairs
    ++ block.flatMap fun o => (List.range n).flatMap fun k => turnCode c.reqMode (if o.missing then (0, 0) else o.values.getD (c0 + k) (0, 0))

/-- One TURN frame of a block for one run of channels of a destination (R138, R141). -/
def turnFrame (c : IngestCfg) (input : Nat) (block : List OutSample) (d : TurnDest) (first n : Nat) : Frame :=
  let m := ((block.head?).map (·.index)).getD 0
  { tick := BitVec.ofNat 48 (m / max c.outsPerTick 1), pipe := BitVec.ofNat 16 d.pipe, layout := BitVec.ofNat 16 (c.reqMode + 16 * (n - 1))
    spec := BitVec.ofNat 64 (m % max c.outsPerTick 1 + 2 ^ 32 * input + 2 ^ 48 * first)
    payload := turnPayloadBytes c block (first - c.sysChannelBase) n }

/-- Sends one frame of destination `k`: on its next lane in rotation, or to this package itself (R22, R141). Log 156 [DESIGN CHOICE]. -/
def State.dealTurn (s : State) (pipe die k : Nat) (d : TurnDest) (f : Frame) : State :=
  if d.laneCount = 0 then s.turnAccept die (sealFrame 2 { f with source := s.source, claim := s.ownClaim })
  else
    let dealt := ((s.data.rotations.find? fun r => r.1 == pipe && r.2.1 == k).map (·.2.2)).getD 0
    let rots := upsert (fun r => r.1 == pipe && r.2.1 == k) (pipe, k, 0) (fun r => (pipe, k, r.2.2 + 1)) s.data.rotations
    let s1 := { s with data := { s.data with rotations := rots } }
    s1.sendHaul (d.laneFirst + dealt % d.laneCount) 2 f

/-- The frames of one block of an input under its destination table: each range afresh in runs of CHANNELS_PER_FRAME (R141). Log 94 [DEDUCED]. -/
def State.frameBlock (s : State) (c : Chain) (block : List OutSample) : State :=
  let t := ((block.head?).map (·.index)).getD 0 / max c.cfg.outsPerTick 1
  let k := c.cfgFor t
  if t < c.startTick then s
  else
    let ds := (s.cfg.pipes.getD c.pipe {}).destsAt t
    (List.range ds.length).foldl (fun s j =>
      let d := ds.getD j {}
      (List.range (ceilDiv d.count (max k.channelsPerFrame 1))).foldl (fun s r =>
        let first := d.first + r * k.channelsPerFrame
        let n := min k.channelsPerFrame (d.first + d.count - first)
        s.dealTurn c.pipe c.die j d (turnFrame k c.input block d first n)) s) s

/-- A value as an ingest tap stores it: the carrier of format 0x5 is stored as -7 and taints that value (R103, R140, R190). -/
def tapValue (format : Nat) (v : Int × Int) : Int × Int × Bool :=
  if format = 5 then
    let a := storeCode 4 (toBits 4 v.1)
    let b := storeCode 4 (toBits 4 v.2)
    (a.1, b.1, a.2 || b.2)
  else (v.1, v.2, false)

/-- What a tapping BEAM pipe `i` stores of one output: the channels it holds in the tick of the output (R57, R190). -/
def State.tapSamples (s : State) (c : Chain) (i : Nat) (o : OutSample) : List TurnSample :=
  let t := o.index / max c.cfg.outsPerTick 1
  let k := c.cfgFor t
  match s.pipeAt i t with
  | none => []
  | some e =>
    let b := e.cfg.beamCfg
    if b.source = 2 ∧ bits b.sourceHandle 0 16 = c.pipe ∧ c.startTick ≤ t ∧ e.beamInputs.any (·.input == c.input) then
      (List.range b.chCount).map fun j =>
        let v := tapValue k.format (if o.missing then (0, 0) else o.values.getD (b.chFirst + j - k.sysChannelBase) (0, 0))
        { pipe := i, tick := t, input := c.input, channel := b.chFirst + j, index := o.index % max c.cfg.outsPerTick 1, re := v.1, im := v.2.1
          tainted := o.tainted || v.2.2, unsettled := o.unsettled, missing := o.missing }
    else []

/-- Ingest taps: BEAM pipes of SOURCE 2 on this pipe take each requantised sample of the channels they hold into their own turn area (R190). -/
def State.tapOutputs (s : State) (c : Chain) (outs : List OutSample) : State :=
  (s.cfg.indices [3]).foldl (fun s i => s.turnWrite (outs.flatMap (s.tapSamples c i))) s

/-- Outputs of a chain that fill whole blocks of SAMPLES_PER_FRAME leave as TURN frames; the rest wait (R141). `n` bounds the blocks. -/
def State.drainOuts : Nat → Chain → State → State × Chain
  | 0, c, s => (s, c)
  | n + 1, c, s =>
    match c.outs with
    | [] => (s, c)
    | o :: _ =>
      let spf := max (c.cfgFor (o.index / max c.cfg.outsPerTick 1)).samplesPerFrame 1
      let top := (o.index / spf + 1) * spf
      if top ≤ c.nextOut then
        let block := c.outs.filter fun x => decide (x.index < top)
        State.drainOuts n { c with outs := c.outs.filter fun x => !decide (x.index < top) } (s.frameBlock c block)
      else (s, c)

/-! ### Windows -/

/-- h[i] of a pipe's window: built in, or the slot that WINDOW_SEL names with its second half mirrored (R126, R149). -/
def State.tapOf (s : State) (pipe : Nat) (c : IngestCfg) (i : Nat) : Int :=
  if c.windowSel = 0 then builtinTap c.n i
  else
    let k := if i < 2 * c.n then i else 4 * c.n - 1 - i
    ((s.data.windows.find? fun w => w.1 == pipe && w.2.1 == c.windowSel && w.2.2.1 == k).map (·.2.2.2)).getD 0

/-! ### Processing one grist sample (R85) -/

/-- A chain with its RC counters cleared (R116, R13). -/
def Chain.clearStats (c : Chain) : Chain :=
  { c with clipCount := 0, spallHits := 0, missing := 0, late := 0, offsetHeld := 0, hbSat := 0 }

/-- Nothing measured: what the chain that completes old outputs adds is counted from here (R108). -/
def Chain.uncounted (c : Chain) : Chain :=
  { c.clearStats with delayClamp := 0, gains := c.gains.map fun g => { g with clip := 0, power := 0, n := 0 } }

/-- What a chain that completes old outputs has counted since is added to the chain of its input (R87, R108, R134). -/
def Chain.gather (c old : Chain) : Chain :=
  { c with
    spallHits := rcAdd 64 c.spallHits old.spallHits, offsetHeld := rcAdd 32 c.offsetHeld old.offsetHeld, hbSat := rcAdd 32 c.hbSat old.hbSat
    delayClamp := c.delayClamp + old.delayClamp
    gains := (c.gains.zipIdx).map fun (g, k) =>
      let h := old.gains.getD k {}
      { g with clip := rcAdd 32 g.clip h.clip, power := g.power + h.power, n := g.n + h.n } }

/-- A chain meets the configuration of the tick of its next sample: parameters change from the grain boundary on, or a resetting change starts a fresh
chain beside the old one, which completes its outputs (R57, R108). Log 20 [DEDUCED]. Log 96 [DEDUCED]. -/
def Chain.meet (c : Chain) (cfgOf : Nat → IngestCfg) : List Chain :=
  let t := c.next / max c.cfg.samplesPerTick 1
  let k := cfgOf t
  if resets c.cfg k then
    let g := t * k.samplesPerTick
    let ready (f : Frame) : Bool := !resets k (cfgOf f.tick.toNat)
    let buffer := if c.cfg.samplesPerTick = k.samplesPerTick then c.buffer else []
    let new := Chain.restart { c.move t with
      cfg := k, prior := [], stopped := false, next := g, start := c.start * k.samplesPerTick / max c.cfg.samplesPerTick 1, outs := [], buffer := buffer
      ahead := c.ahead.filter fun f => !ready f } g
    [{ c.uncounted with finish := some (t * c.cfg.outsPerTick), buffer := [], ahead := [] }, (c.ahead.filter ready).foldl (Chain.take k.samplesPerTick) new]
  else
    let i := (c.next - (c.cfg.w - 1) / 2) / max c.cfg.samplesPerTick 1
    [(c.adopt (cfgOf i) i).move i]

/-- INPUT_SILENT once for a gap that has reached 1 ms of grist sample time (R110, R505). -/
def State.silence (s : State) (c : Chain) : State × Chain :=
  match c.gapStart with
  | none => (s, c)
  | some g =>
    let k := max c.gapScale 1
    if !c.silent && decide (c.cfg.rateNum * k ≤ (c.next * k - g * c.cfg.samplesPerTick) * 1000 * c.cfg.rateDen) then
      (s.raise 0x0101 c.die (leBytes 4 (s.cfg.dataHandle c.pipe) ++ leBytes 2 c.input ++ leBytes 6 (g / k)), { c with silent := true })
    else (s, c)

/-- Outputs before this index are sent: those before a resetting change, or of the ticks up to the one that a destroy names (R108, R117). -/
def Chain.limit (c : Chain) (e : PipeEntry) : Option Nat :=
  if e.state = .draining then
    let last := (e.endTick + 1) * c.cfg.outsPerTick
    some (c.finish.elim last (min last))
  else c.finish

/-- Traffic of a chain's step with the delay buffer: the words of new working samples become good, and bad words read for new outputs count (R405, R410). -/
def State.delayTraffic (s : State) (e : PipeEntry) (c c2 : Chain) : State :=
  if !s.anyBad then s
  else
    let read := ((List.range (c2.nextOut - c.nextOut)).flatMap fun i => (c2.delayReads (c.nextOut + i)).filter fun n => c.work.any (·.index == n)).map fun n => [c.input, n.toNat]
    let made := (c2.work.filter fun x => !c.work.any (·.index == x.index)).map fun x => [c.input, x.index.toNat]
    (s.meetBad c.die (s.badItems e c.die .delay read)).healItems e c.die .delay made

/-- One chain advances by one grist index, and completes its outputs when `last` says that ingest ends with it (R117); its outputs go to the taps and to TURN
frames. Log 96 [DEDUCED]. -/
def State.stepChain (s : State) (c : Chain) (x : Option Sample) (last : Bool) : State × Chain :=
  let e := s.cfg.pipes.getD c.pipe {}
  let tap := s.tapOf c.pipe c.cfg
  let lost (n : Int) : Bool := s.anyBad && c.work.any (·.index == n) && s.itemBad e c.die .delay [c.input, n.toNat]
  let lim := c.limit e
  let c1 := c.advance tap lost x
  let c2 := if last then c1.close tap lost (lim.getD 0) else c1
  let s := s.delayTraffic e c c2
  let fresh := c2.outs.filter fun o => decide (c.nextOut ≤ o.index) && lim.elim true fun n => decide (o.index < n)
  let c3 := { c2 with outs := c2.outs.filter fun o => lim.elim true fun n => decide (o.index < n) }
  let (s2, c4) := State.drainOuts (c3.outs.length + 1) c3 (s.tapOutputs c3 fresh)
  if c.finish.isSome then (s2, c4) else s2.silence c4

/-- The sample that a chain processes next, from its buffer: a format 0x5 sample counts only with every channel sent (R85, R82). -/
def Chain.nextSample (c : Chain) : Option Sample :=
  (c.buffer.find? (·.index == (c.next : Int))).bind fun x =>
    if c.cfg.format = 5 ∧ !(List.range c.cfg.chCount).all (fun i => x.chans.any (·.1 == c.cfg.chFirst + i)) then none else some x

/-- GRIST_HOLD_EXPIRY: the next grist index of an input reaches its hold time (R85); none is processed after the tick that a destroy names (R117). -/
def execGristHoldExpiry (pipe input : Nat) (s : State) : Host.Outcome State Fault Refusal :=
  .next (match if s.works then s.chain pipe input else none with
    | none => s
    | some c0 =>
      let e := s.cfg.pipes.getD pipe {}
      if e.ended (c0.next / max c0.cfg.samplesPerTick 1) then s
      else
        let met := c0.meet fun t => (((s.pipeAt pipe t).map (·.cfg.ingestCfg)).getD c0.cfg)
        let live := (met.find? (·.finish.isNone)).getD c0
        let x := live.nextSample
        let last := e.ended ((c0.next + 1) / max c0.cfg.samplesPerTick 1)
        let olds := (s.data.chains.filter fun c => c.pipe == pipe && c.input == input && c.finish.isSome) ++ met.filter (·.finish.isSome)
        let rest := s.data.chains.filter fun c => !(c.pipe == pipe && c.input == input)
        let s0 := { s with data := { s.data with chains := rest } }
        let (s1, done) := olds.foldl (fun (acc : State × List Chain) c =>
          let (s', c') := acc.1.stepChain c x last
          (s', acc.2 ++ [c'])) (s0, [])
        let (s2, c1) := s1.stepChain live x last
        let kept := (done.filter fun c => c.finish.elim true fun lim => decide (c.nextOut < lim)).map Chain.uncounted
        { s2 with data := { s2.data with chains := s2.data.chains ++ kept ++ [done.foldl Chain.gather c1] } })

/-- SPALL_BLOCK_END: a whole block of 4,096 samples sets the adaptive threshold of the next (R92, R93). -/
def execSpallBlockEnd (pipe input : Nat) (s : State) : Host.Outcome State Fault Refusal :=
  .next (s.modChains (fun c => s.works && Chain.isOf pipe input c && c.spallSeen == 4096) Chain.spallRoll)

/-- OFFSET_BLOCK_END: a whole offset block sets the estimate of the next (R94, R96, R97). -/
def execOffsetBlockEnd (pipe input : Nat) (s : State) : Host.Outcome State Fault Refusal :=
  .next (s.modChains (fun c => s.works && Chain.isOf pipe input c && c.cfg.offsetLog2 != 0 && c.sumSeen == 2 ^ c.cfg.offsetLog2)
    fun c => c.offsetRoll (c.next - (c.cfg.w - 1) / 2))

/-! ### Automatic level control (R132, R133) -/

/-- The integer square root, below 2^40. -/
def isqrt (n : Nat) : Nat :=
  (List.range 40).foldr (fun b r => if (r + 2 ^ b) * (r + 2 ^ b) ≤ n then r + 2 ^ b else r) 0

/-- isqrt takes the high bits first: `foldr` over 0 … 39 meets 39 first. `down` halves a mantissa that is too large (R132). -/
def alcDown : Nat → Nat → Nat → Nat → Nat × Nat × Nat
  | 0, mt, ex, lim => (mt, ex, lim)
  | k + 1, mt, ex, lim => if mt < 2 ^ 16 then (mt, ex, lim) else if ex = 0 then (2 ^ 16 - 1, 0, lim + 1) else alcDown k (mt / 2) (ex - 1) lim

/-- Doubles a mantissa that is too small (R132). -/
def alcUp : Nat → Nat → Nat → Nat × Nat
  | 0, mt, ex => (mt, ex)
  | k + 1, mt, ex => if mt < 2 ^ 15 ∧ mt ≠ 0 ∧ ex < 63 then alcUp k (mt * 2) (ex + 1) else (mt, ex)

/-- ALC_TARGET with its default (R132). -/
def IngestCfg.target (c : IngestCfg) : Nat := if c.alcTarget = 0 then (if c.reqMode = 2 then 8192 else 563) else c.alcTarget

/-- The new word of one channel after a period (R132), and whether ALC_LIMIT counts. -/
def alcWord (c : IngestCfg) (g : GainState) : Word × Nat :=
  let r := c.target * c.target * 2 * g.n * 2 ^ 16 / max g.power 1
  let f := min (max (isqrt r) (2 ^ 15)) (2 ^ 17)
  let (mt, ex, lim) := alcDown 4 (g.word.toNat % 65536 * f / 2 ^ 16) (g.word.toNat / 65536 % 64) 0
  let (mt2, ex2) := alcUp 64 mt ex
  (BitVec.ofNat 32 (mt2 + 65536 * ex2), lim)

/-- The end of period `j` for one channel: the result takes effect at period j + 2 unless a loaded word governs it (R132, R133). A period within which
ALC_ENABLE was set or ALC_PERIOD changed gives the result of the sums that it has. Log 154 [DEDUCED]. -/
def alcStep (c : IngestCfg) (j : Nat) (g : GainState) : GainState × Nat :=
  let reset := { g with power := 0, n := 0, loads := g.loads.filter fun t => decide (j * c.alcPeriod < t) }
  if !c.alcEnable || g.word.getLsbD 22 || g.power == 0 then (reset, 0)
  else if !g.loads.any fun t => decide (j * c.alcPeriod < t ∧ t ≤ (j + 2) * c.alcPeriod) then
    let (w, lim) := alcWord c g
    ({ reset with next := insertBy (·.1) ((j + 2) * c.alcPeriod, w, false) g.next }, lim)
  else (reset, 0)

/-- ALC_PERIOD_END: the ALC period of the last outputs formed ends for every input of the pipe (R132). -/
def execAlcPeriodEnd (pipe : Nat) (s : State) : Host.Outcome State Fault Refusal :=
  .next (s.modChains (fun c => s.works && c.pipe == pipe && c.finish.isNone) fun c =>
    let t := (c.nextOut - 1) / max c.cfg.outsPerTick 1
    let k := c.cfgFor t
    let rs := c.gains.map (alcStep k (t / max k.alcPeriod 1))
    { c with gains := rs.map (·.1), alcLimit := c.alcLimit + (rs.map (·.2)).sum })

end Sys2Proof.Machine
end

