-- ==== Sys2Proof/Machine/Corr.lean ====
section
/-! DEFINITION. The correlation engine and the tun: tiles and their checksums (R150 to R161), faults and replays (R62, R162 to R169), the tun adder (R63,
R170 to R178), digests (R174, R175), miss planes (R232), CORR_STATS and TILE_MAP (R186, R187). -/

namespace Sys2Proof.Machine

/-! ### Where a tile position lies (R155, R156, R170) -/

/-- The job of tile position q of a channel, and its number p within the job (R156). -/
def jobOf : List Job → CorrCfg → Nat → Option (Job × Nat)
  | [], _, _ => none
  | j :: l, c, q => if q < c.jobTiles j then some (j, q) else jobOf l c (q - c.jobTiles j)

/-- Row and column tile of position p of a triangle: p = i(i + 1)/2 + j with j at most i (R155). -/
def triangleOf : Nat → Nat → Nat × Nat
  | 0, p => (0, p)
  | n + 1, p => let i := n + 1; if i * (i + 1) / 2 ≤ p then (i, p - i * (i + 1) / 2) else triangleOf n p

/-- Tile position q: job, row tile i, column tile j (R155). -/
def CorrCfg.place (c : CorrCfg) (q : Nat) : Option (Job × Nat × Nat) :=
  (jobOf c.jobs c q).map fun (job, p) =>
    let ga := tileRows (c.groupSize.getD job.col 0)
    if job.col = job.row then (job, (triangleOf ga p).1, (triangleOf ga p).2) else (job, p / max ga 1, p % max ga 1)

/-- Input identifier of member `m` of a group; none for padding (R24, R25). -/
def CorrCfg.member (c : CorrCfg) (group m : Nat) : Option Nat := if m < c.groupSize.getD group 0 then some (group * 4096 + m) else none

/-- The 64 row and 64 column inputs of a tile position (R155). -/
def CorrCfg.tileInputs (c : CorrCfg) (q : Nat) : List (Option Nat) × List (Option Nat) :=
  match c.place q with
  | none => ([], [])
  | some (job, i, j) => ((List.range 64).map fun u => c.member job.row (64 * i + u), (List.range 64).map fun v => c.member job.col (64 * j + v))

/-- Cell (u, v) of tile position q lies in a padding row or column (R25). -/
def CorrCfg.paddingCell (c : CorrCfg) (q u v : Nat) : Bool :=
  let (rows, cols) := c.tileInputs q
  (rows.getD u none).isNone || (cols.getD v none).isNone

/-- Bytes of a tile position: V (R170). -/
def CorrCfg.v (c : CorrCfg) : Nat := if c.deepTun then 65536 else 32768

/-- Bytes of one component. -/
def CorrCfg.compBytes (c : CorrCfg) : Nat := if c.deepTun then 8 else 4

/-- Channel index l of a system channel on a die (R170). -/
def CorrCfg.channelIndex (c : CorrCfg) (die ch : Nat) : Nat := ch - (c.chFirst + dieChOffset c.dieCh c.splitD die)

/-- A die works a channel (R26, R31). -/
def CorrCfg.worksChannel (c : CorrCfg) (die ch : Nat) : Bool :=
  decide (c.chFirst + dieChOffset c.dieCh c.splitD die ≤ ch ∧ ch < c.chFirst + dieChOffset c.dieCh c.splitD die + diesChannels c.dieCh c.splitD die)

/-- A die works mash j of a channel (R31). -/
def CorrCfg.worksMash (c : CorrCfg) (die ch mash : Nat) : Bool :=
  c.worksChannel die ch && decide (mash < c.m) && mash % max c.splitD 1 == die % max c.splitD 1

/-- The kind of a bank's area. -/
def bankKind (bank : Nat) : AreaKind := if bank = 0 then .tun0 else .tun1

/-- The address of a tile position in a bank (R170). -/
def PipeEntry.tunAddr (e : PipeEntry) (die bank ch q : Nat) : Nat :=
  (e.areaBase die (bankKind bank)).getD 0 + (e.cfg.corrCfg.channelIndex die ch * e.cfg.corrCfg.pCorr + q) * e.cfg.corrCfg.v

/-! ### Samples (R45, R139) -/

/-- A sample of the turn buffer as the staging loader of a die reads it, if it was received and its word can be read (R410). -/
def State.turnAt (s : State) (die pipe tick input ch idx : Nat) : Option TurnSample :=
  if s.itemBad (s.cfg.pipes.getD pipe {}) die .turn [tick % 2, input, ch, idx] then none
  else s.data.turn.find? fun x => x.pipe == pipe && x.tick == tick && x.input == input && x.channel == ch && x.index == idx

/-- The value that enters products: zero when padding, not received or MISSING (R25, R45). -/
def sampleValue (x : Option TurnSample) : Int × Int :=
  match x with
  | some y => if y.missing then (0, 0) else (y.re, y.im)
  | none => (0, 0)

/-- A sample counts as MISSING when it was not received or is marked so. -/
def sampleMissing (x : Option TurnSample) : Bool :=
  match x with
  | some y => y.missing
  | none => true

/-- Samples of one input in one mash of one channel: value, and MISSING. -/
def State.mashOf (s : State) (die pipe tick ch t mash : Nat) (input : Option Nat) : List ((Int × Int) × Bool) :=
  (List.range t).map fun k =>
    match input with
    | none => ((0, 0), false)
    | some i => let x := s.turnAt die pipe tick i ch (mash * t + k); (sampleValue x, sampleMissing x)

/-! ### The tile (R150 to R153, R160, R161) -/

/-- x conj(y), exact (R151). -/
def mulConj (x y : Int × Int) : Int × Int := (x.1 * y.1 + x.2 * y.2, x.2 * y.1 - x.1 * y.2)

/-- One add of a 23-bit component accumulator with its sticky overflow bit (R152). -/
def add23 (a : Int × Bool) (p : Int) : Int × Bool :=
  let v := a.1 + p
  if -(2 ^ 22) ≤ v ∧ v < 2 ^ 22 then (v, a.2) else (wrapInt 23 v, true)

/-- One cell over a mash: components, and whether any overflow bit is set (R150, R152, R153). -/
def cellRun (eight : Bool) (x y : List (Int × Int)) : (Int × Int) × Bool :=
  let ps := (x.zip y).map fun p => mulConj p.1 p.2
  if eight then ((wrapInt 44 (ps.map (·.1)).sum, wrapInt 44 (ps.map (·.2)).sum), false)
  else
    let r := ps.foldl (fun a p => add23 a p.1) ((0 : Int), false)
    let i := ps.foldl (fun a p => add23 a p.2) ((0 : Int), false)
    ((r.1, i.1), r.2 || i.2)

/-- A checksum cell: 30 bits per component (R160). -/
def checkRun (x y : List (Int × Int)) : Int × Int :=
  let ps := (x.zip y).map fun p => mulConj p.1 p.2
  (wrapInt 30 (ps.map (·.1)).sum, wrapInt 30 (ps.map (·.2)).sum)

/-- Sums over several values of each sample. -/
def sumOf (l : List (List (Int × Int))) : List (Int × Int) :=
  match l with
  | [] => []
  | a :: rest => rest.foldl (fun acc x => (acc.zip x).map fun p => (p.1.1 + p.2.1, p.1.2 + p.2.2)) a

/-- Flips bits of an accumulator component of `w` bits. -/
def flip (w : Nat) (v : Int) (e : BitVec 30) : Int := toSigned w ((toBits w v ^^^ e.toNat) % 2 ^ w)

/-- Applies the errors that name cell `k`. -/
def flipAt (w : Nat) (errs : List TileError) (k : Nat) (v : Int × Int) : Int × Int :=
  (errs.filter (·.cell == k)).foldl (fun v e => (flip w v.1 e.re, flip w v.2 e.im)) v

/-- What a tile holds at the end of a mash. -/
structure TileRun where
  cells : List (Int × Int) := []
  overflow : Bool := false
  ccol : List (Int × Int) := []
  crow : List (Int × Int) := []

/-- A tile over one mash: 64 row and 64 column inputs, with the errors of its hardware (R150 to R153, R160). -/
def tileRun (eight : Bool) (rows cols : List (List (Int × Int))) (errs : List TileError) : TileRun :=
  let w := if eight then 44 else 23
  let raw := rows.flatMap fun x => cols.map fun y => cellRun eight x y
  let xs := sumOf rows
  let ys := sumOf cols
  { cells := (raw.zipIdx).map fun p => flipAt w errs p.2 p.1.1
    overflow := raw.any (·.2)
    ccol := (cols.zipIdx).map fun p => flipAt 30 errs (4096 + p.2) (checkRun xs p.1)
    crow := (rows.zipIdx).map fun p => flipAt 30 errs (4160 + p.2) (checkRun p.1 ys) }

/-- The sums agree modulo 2^23 in both components. -/
def agree (a b : List (Int × Int)) : Bool :=
  ((a.map (·.1)).sum - (b.map (·.1)).sum) % 2 ^ 23 == 0 && ((a.map (·.2)).sum - (b.map (·.2)).sum) % 2 ^ 23 == 0

/-- Verification of a dump (R161). -/
def TileRun.verified (r : TileRun) : Bool :=
  ((List.range 64).all fun v => agree ((List.range 64).map fun u => r.cells.getD (64 * u + v) (0, 0)) [r.ccol.getD v (0, 0)]) &&
  ((List.range 64).all fun u => agree ((List.range 64).map fun v => r.cells.getD (64 * u + v) (0, 0)) [r.crow.getD u (0, 0)]) &&
  agree r.ccol r.crow

/-- Half of a component, to even (R167). -/
def halfOf (x : Int) : Int := rndDiv x 2

/-- The exact component from the held wrapped value and the replay's (R168). -/
def recombine (a h : Int) : Int :=
  let est := 4 * h
  est + ((a - est + 2 ^ 22) % 2 ^ 23 - 2 ^ 22)

/-- Miss counts of a tile position over a mash, per cell; cells with a padding operand have none (R232, log 26 [DEDUCED]). -/
def missCounts (rows cols : List (Bool × List Bool)) : List Nat :=
  rows.flatMap fun x => cols.map fun y =>
    if x.1 || y.1 then 0 else ((x.2.zip y.2).filter fun p => p.1 || p.2).length

/-! ### Counters and records -/

/-- Changes a CORR pipe's counters on a die. -/
def State.modCorr (s : State) (pipe die : Nat) (f : CorrCount → CorrCount) : State :=
  let l := upsert (fun c => c.pipe == pipe && c.die == die) { pipe := pipe, die := die } f s.data.corr
  { s with data := { s.data with corr := l } }

/-- The record of a tile position in a bank. -/
def State.tilePos (s : State) (pipe die bank ch q : Nat) : TilePos :=
  (s.data.tiles.find? fun x => x.pipe == pipe && x.die == die && x.bank == bank && x.channel == ch && x.tp == q).getD
    { pipe := pipe, die := die, bank := bank, channel := ch, tp := q }

/-- Changes it. -/
def State.modTile (s : State) (pipe die bank ch q : Nat) (f : TilePos → TilePos) : State :=
  let l := upsert (fun x => x.pipe == pipe && x.die == die && x.bank == bank && x.channel == ch && x.tp == q)
    { pipe := pipe, die := die, bank := bank, channel := ch, tp := q } f s.data.tiles
  { s with data := { s.data with tiles := l } }

/-- The descriptor of a dump record (R174). -/
def dumpHeader (tick mash ch kind q : Nat) : List Byte :=
  leBytes 6 tick ++ leBytes 2 mash ++ leBytes 2 ch ++ leBytes 1 kind ++ leBytes 1 0 ++ leBytes 4 q

/-- The digest of a tick takes one more record (R174, R175). -/
def State.addDigest (s : State) (tick : Nat) (record : List Byte) : State :=
  let d := ((s.data.digests.find? (·.1 == tick)).map (·.2)).getD 0 + crc64From 0 record
  { s with data := { s.data with digests := assign s.data.digests tick d } }

/-- TUN_CORRUPT and its counter for a tile position (R178, R179, R182). -/
def State.markCorrupt (s : State) (pipe die bank ch q : Nat) : State :=
  if (s.tilePos pipe die bank ch q).corrupt then s
  else
    let s1 := (s.modTile pipe die bank ch q fun x => { x with corrupt := true }).modCorr pipe die fun c => { c with tunCorrupt := rcAdd 32 c.tunCorrupt 1 }
    s1.raise 0x0207 die (leBytes 4 (s.cfg.dataHandle pipe) ++ leBytes 1 die ++ leBytes 2 ch ++ leBytes 4 q)

/-- Words in the poison table of a pipe's bank on a die (R178). -/
def State.poisonCount (s : State) (pipe die bank : Nat) : Nat :=
  ((s.data.tiles.filter fun x => x.pipe == pipe && x.die == die && x.bank == bank).map (·.poison.length)).sum

/-! ### The tun adder (R63, R171, R172, R178) -/

/-- Components of `n` bytes in a run of bytes. -/
def componentsOf (n : Nat) (l : List Byte) : List Int := (List.range (l.length / max n 1)).map fun i => fieldS l (n * i) n

/-- Full scale by the sign of a component (R63). Log 90 [DEDUCED]. -/
def fullScale (n : Nat) (v : Int) : Int := if v < 0 then -(2 ^ (8 * n - 1)) else 2 ^ (8 * n - 1) - 1

/-- What one add leaves of one component: value, and whether it left the range (R172). -/
def addComponent (n : Nat) (marked : Bool) (old v : Int) : Int × Bool :=
  if marked then (old, false) else let r := old + v; (satInt (8 * n) r, r != satInt (8 * n) r)

/-- TUN_SATURATED once per pipe per integration, TUN_SAT_POS for a position that became SATURATED, and the flag (R172, R186). -/
def State.noteSaturation (s : State) (pipe die bank ch q : Nat) : State :=
  let was := (s.tilePos pipe die bank ch q).saturated
  let s1 := s.modTile pipe die bank ch q fun x => { x with saturated := true }
  let s2 := if was then s1 else s1.modCorr pipe die fun c => { c with tunSatPos := rcAdd 32 c.tunSatPos 1 }
  if (pipe, bank) ∈ s2.data.satRaised then s2
  else
    State.raise { s2 with data := { s2.data with satRaised := (pipe, bank) :: s2.data.satRaised } } 0x0205 die
      (leBytes 4 (s.cfg.dataHandle pipe) ++ leBytes 1 die ++ leBytes 2 ch ++ leBytes 4 q)

/-- Words of a tile position that the read of a read-modify-write finds uncorrectable are entered in the poison table, or with the table full mark it
CORRUPT; a word that is listed stays as it is (R178). -/
def State.poisonWords (s : State) (pipe die bank ch q : Nat) (ws : List Nat) : State :=
  (ws.filter fun w => !(s.tilePos pipe die bank ch q).poison.contains w).foldl (fun s w =>
    if s.poisonCount pipe die bank < 4096 then
      (s.modTile pipe die bank ch q fun x => { x with poison := x.poison ++ [w] }).modCorr pipe die fun c => { c with tunPoisoned := rcAdd 32 c.tunPoisoned 1 }
    else s.markCorrupt pipe die bank ch q) s

/-- What the components of a tile position become by one add: `old` and `vs` from component `first`, with its bad words. A component of a bad word is added
to zero (R172, R178). Log 90 [DEDUCED]. -/
def TilePos.sums (tp : TilePos) (n first : Nat) (badWs : List Nat) (old vs : List Int) : List (Int × Bool) :=
  (vs.zipIdx).map fun (v, i) =>
    let k := first + i
    if badWs.contains (k / (32 / n)) then (v, false) else addComponent n (tp.full || tp.satMarks.contains k) (old.getD i 0) v

/-- Components that one add saturated, from component `first`: those of a poisoned word take no mark (R172, R178). -/
def TilePos.newMarks (tp : TilePos) (n first : Nat) (res : List (Int × Bool)) : List Nat :=
  ((res.zipIdx).filter fun (r, i) => r.2 && !tp.poison.contains ((first + i) / (32 / n))).map fun x => first + x.2

/-- Stores the sums of one add from component `first`, with their marks and what follows from them (R172, R178). -/
def State.storeSums (s : State) (e : PipeEntry) (pipe die bank ch q first : Nat) (badWs : List Nat) (res : List (Int × Bool)) : State :=
  let n := e.cfg.corrCfg.compBytes
  let a := e.tunAddr die bank ch q + n * first
  let marks := (s.tilePos pipe die bank ch q).newMarks n first res
  let s1 := (s.memWrite a (res.flatMap fun r => leInt n r.1)).healWords a (n * res.length)
  let s2 := s1.modTile pipe die bank ch q fun x => { x with satMarks := x.satMarks ++ marks }
  let s3 := s2.poisonWords pipe die bank ch q badWs
  if marks.isEmpty then s3 else s3.noteSaturation pipe die bank ch q

/-- Adds the components `vs` of a whole tile position into a bank (R171, R172, R178). Log 90 [DEDUCED]. Log 176 [DEDUCED]. -/
def State.tunAdd (s : State) (e : PipeEntry) (pipe die bank ch q : Nat) (vs : List Int) : State :=
  let c := e.cfg.corrCfg
  let a := e.tunAddr die bank ch q
  let tp := s.tilePos pipe die bank ch q
  let read (w : Nat) : Bool := !tp.fresh || tp.written.contains w
  let badWs := if tp.fresh && tp.written.isEmpty then [] else (List.range (c.v / 32)).filter fun w => read w && s.badWord (a + 32 * w)
  let old := if tp.fresh && tp.written.isEmpty then []
    else ((componentsOf c.compBytes (s.memRead a c.v)).zipIdx).map fun (v, k) => if read (k / (32 / c.compBytes)) then v else 0
  ((s.meetBad die badWs.length).storeSums e pipe die bank ch q 0 badWs (tp.sums c.compBytes 0 badWs old vs)).modTile pipe die bank ch q fun x => { x with fresh := false, written := [] }

/-- Adds the components `vs` of one word of a tile position into a bank; `broken`: its read is uncorrectable (R172, R178). -/
def State.addWord (s : State) (e : PipeEntry) (pipe die bank ch q w : Nat) (vs : List Int) (broken : Bool) : State :=
  let n := e.cfg.corrCfg.compBytes
  let first := w * (32 / n)
  let badWs := if broken then [w] else []
  let old := componentsOf n (s.memRead (e.tunAddr die bank ch q + 32 * w) 32)
  s.storeSums e pipe die bank ch q first badWs ((s.tilePos pipe die bank ch q).sums n first badWs old vs)

/-- A reference without the tile it ran on. -/
def DumpRef.key (d : DumpRef) : DumpRef := { d with tile := 0 }

/-- The tick that is worked in the present window: tick boundary n works tick n - 1 (R54). -/
def State.workTick (s : State) : Nat := (s.data.boundary.getD 0) - 1

/-- Writes every component of a tile position in the current bank to full scale (R63, R64), with its digest record; what is held for it is released
(R169). Log 90 [DEDUCED]. -/
def State.writeFull (s : State) (e : PipeEntry) (d : DumpRef) : State :=
  let c := e.cfg.corrCfg
  let n := c.compBytes
  let bank := e.bankAt s.workTick
  let a := e.tunAddr d.die bank d.channel d.tp
  let tp := s.tilePos d.pipe d.die bank d.channel d.tp
  let old := if tp.fresh then List.replicate (c.v / n) 0 else componentsOf n (s.memRead a c.v)
  let s1 := (s.memWrite a (old.flatMap fun v => leInt n (fullScale n v))).healWords a c.v
  let s2 := s1.modTile d.pipe d.die bank d.channel d.tp fun x => { x with fresh := false, written := [], saturated := true, full := true }
  let s3 := s2.modCorr d.pipe d.die fun k => { k with reserveShort := rcAdd 32 k.reserveShort 1 }
  let s4 := s3.addDigest s.workTick (dumpHeader s.workTick d.mash d.channel 2 d.tp)
  let s5 := s4.modDie d.die fun w => { w with exhausted := true, exhaustedCount := w.exhaustedCount + 1, done := DumpRef.key d :: w.done }
  { s5 with data := { s5.data with held := s5.data.held.filter fun h => DumpRef.key h.ref != DumpRef.key d } }

/-! ### Replays (R62, R162 to R169) -/

/-- Cost of a replay in tile-cycles (R62). Log 24 [DEDUCED]. -/
def CorrCfg.replayCost (c : CorrCfg) : Nat := qOf c.sampleMode * 2 ^ c.tLog2

/-- The order of overflow replays: channel, block job and tile position (R62). -/
def Replay.order (r : Replay) : Nat := r.ref.channel * 2 ^ 32 + r.ref.tp

/-- A queue with one more replay, in the order of R62: checksum faults first as detected, then overflows by channel and tile position. -/
def queueReplay (l : List Replay) (r : Replay) : List Replay :=
  if r.fault then (l.filter (·.fault)) ++ [r] ++ l.filter (fun x => !x.fault)
  else (l.filter (·.fault)) ++ insertBy Replay.order r (l.filter fun x => !x.fault)

/-- A replay is asked for: it waits in its place of the queue, and draws on the reserve when the scheduler serves it (R62, R162, R166).
Log 24 [DEDUCED]. -/
def State.requestReplay (s : State) (d : DumpRef) (fault : Bool) : State :=
  s.modDie d.die fun w => { w with replays := queueReplay w.replays { fault := fault, ref := DumpRef.key d } }

/-- 2,000,000,000 x the time left in the work window that began at boundary n = workTick + 1, in whole tile-cycles (R54, R162). Log 24 [DEDUCED]. -/
def State.windowLeft (s : State) : Int :=
  match s.cfg.tick with
  | none => 0
  | some c =>
    let n := s.workTick + 1
    let stop : Int := ((c.epochSec * nsPerSec + c.epochNs : Nat) + (c.closeNs : Int) - c.guardNs) * c.den + ((n + 1) * c.num * nsPerSec : Nat)
    max 0 (2 * (stop - ((s.timeNs * c.den : Nat) : Int)) / c.den)

/-- The physical tile of a logical one (R159). -/
def DieWork.physical (w : DieWork) (tile : Nat) : Option Nat := (w.tileMap.getD tile none)

/-- A faulty tile is counted and reported (R162, R188). -/
def State.noteFault (s : State) (die p channel tp : Nat) : State :=
  let s1 := s.modDie die fun w => { w with tileFaults := rcAdd 32 w.tileFaults 1 }
  s1.raise 0x0201 die (leBytes 1 die ++ leBytes 1 p ++ leBytes 6 s.workTick ++ leBytes 2 channel ++ leBytes 4 tp)

/-- A faulty tile is out for the window, and the reserve shrinks by the time left (R162). -/
def State.tileOut (s : State) (die p : Nat) : State :=
  s.modDie die fun w => { w with faulty := w.faulty ++ [p], reserve := w.reserve - s.windowLeft }

/-- A dump fails verification (R162): counted and reported, its tile position queued for a checksum-fault replay, its tile out for the window, the reserve
reduced. -/
def State.tileFault (s : State) (d : DumpRef) : State :=
  let p := ((s.die d.die).physical d.tile).getD 255
  ((s.noteFault d.die p d.channel d.tp).requestReplay d true).tileOut d.die p

/-- Adds miss counts to the plane of a tile position, taking a plane from the pool of 256 per bank and die (R232). Log 26 [DEDUCED]. -/
def State.addMisses (s : State) (pipe die bank ch q : Nat) (counts : List Nat) : State :=
  if counts.all (· == 0) then s
  else
    let tp := s.tilePos pipe die bank ch q
    let used := (s.data.tiles.filter fun x => x.die == die && x.bank == bank && x.plane.isSome).length
    if tp.plane.isNone ∧ 256 ≤ used then s.modTile pipe die bank ch q fun x => { x with planeInexact := true }
    else s.modTile pipe die bank ch q fun x =>
      let sums := (List.range 4096).map fun k => (x.plane.getD []).getD k 0 + counts.getD k 0
      { x with plane := some (sums.map fun v => min v (2 ^ 32 - 1)), planeInexact := x.planeInexact || sums.any fun v => decide (2 ^ 32 ≤ v) }

/-- A verified and exact dump reaches the tun: add, digest, miss plane, REPLAYED (R168, R171, R174, R232). -/
def State.dumpAdd (s : State) (e : PipeEntry) (d : DumpRef) (cells : List (Int × Int)) (replayed : Bool) (misses : List Nat) : State :=
  let bank := e.bankAt s.workTick
  let s1 := s.tunAdd e d.pipe d.die bank d.channel d.tp (cells.flatMap fun x => [x.1, x.2])
  let s2 := s1.addDigest s.workTick (dumpHeader s.workTick d.mash d.channel 1 d.tp ++ cells.flatMap fun x => leInt 4 x.1 ++ leInt 4 x.2)
  let s3 := s2.addMisses d.pipe d.die bank d.channel d.tp misses
  let s4 := if replayed then s3.modTile d.pipe d.die bank d.channel d.tp fun x => { x with replayed := true } else s3
  s4.modDie d.die fun w => { w with done := DumpRef.key d :: w.done }

/-- What the tile computes for a reference, at full or half scale, and the miss counts. -/
def State.runTile (s : State) (c : CorrCfg) (d : DumpRef) (half : Bool) (errs : List TileError) : TileRun × List Nat :=
  let t := 2 ^ c.tLog2
  let (ri, ci) := c.tileInputs d.tp
  let rows := ri.map fun i => (i.isNone, s.mashOf d.die d.pipe s.workTick d.channel t d.mash i)
  let cols := ci.map fun i => (i.isNone, s.mashOf d.die d.pipe s.workTick d.channel t d.mash i)
  let value (p : (Int × Int) × Bool) : Int × Int := if half then (halfOf p.1.1, halfOf p.1.2) else p.1
  (tileRun (c.sampleMode == 2) (rows.map fun r => r.2.map value) (cols.map fun r => r.2.map value) errs,
   missCounts (rows.map fun r => (r.1, r.2.map (·.2))) (cols.map fun r => (r.1, r.2.map (·.2))))

/-- No work window runs: no boundary has passed yet, or the tick is one that a takeover does not accumulate (R54, R345). -/
def State.noWindow (s : State) : Bool := s.data.boundary.isNone || decide (s.workTick < s.twin.accumulateFrom)

/-- The configuration as it stands for the work of tick `t` (R57). -/
def State.cfgAt (s : State) (t : Nat) : PackageCfg := s.cfg.atTick t

/-- The CORR entry whose work a reference names in the present window. -/
def State.corrAt (s : State) (d : DumpRef) : Option PipeEntry :=
  if s.noWindow then none
  else (s.pipeAt d.pipe s.workTick).bind fun e =>
    if e.cfg.kind = 2 ∧ e.cfg.corrCfg.worksMash d.die d.channel d.mash ∧ d.tp < e.cfg.corrCfg.pCorr then some e else none

/-- A logical tile that may take work: mapped, and not found faulty in this window (R162, R163). -/
def DieWork.tileRuns (w : DieWork) (tile : Nat) : Bool :=
  match w.physical tile with
  | some p => !w.faulty.contains p
  | none => false

/-! ### Retirement (R162, R163) -/

/-- The lowest-numbered free spare (R162). -/
def DieWork.freeSpare (w : DieWork) : Option Nat := (List.range 136).find? fun p => w.tiles.getD p 2 == 1

/-- Retires the physical tile of logical tile `l`: its logical tile goes to a spare, or is left unmapped (R162, R163). -/
def State.retireTile (s : State) (die p : Nat) : State :=
  let w := s.die die
  match w.tileMap.findIdx? (· == some p) with
  | none => s.modDie die fun w => { w with tiles := w.tiles.set p 2 }
  | some l =>
    let spare := w.freeSpare
    let s1 := s.modDie die fun w =>
      { w with tileMap := w.tileMap.set l spare
               tiles := match spare with
                 | some q => (w.tiles.set p 2).set q 0
                 | none => w.tiles.set p 2 }
    let s2 := s1.raise 0x0202 die (leBytes 1 die ++ leBytes 1 p ++ leBytes 1 l ++ leBytes 1 (spare.getD 0xFF))
    if spare.isNone then
      s2.raise 0x0203 die (leBytes 1 die ++ leBytes 4 (((s2.die die).tileMap.filter (·.isNone)).length))
    else s2

/-- Logical tiles that are mapped. -/
def DieWork.mapped (w : DieWork) : Nat := (w.tileMap.filter (·.isSome)).length

/-- The replay reserve of a window by R163, before the floor at zero. -/
def reserveOf (t : TickCfg) (mapped : Nat) : Int :=
  ((32000000000 * t.num / max t.den 1 : Nat) : Int) - ((128 - mapped : Nat) : Int) * ((2000000000 * t.num / max t.den 1 : Nat) : Int)

/-! ### CORR_STATS and TILE_MAP -/

/-- A CORR pipe's counters on a die. -/
def State.corrCount (s : State) (pipe die : Nat) : CorrCount :=
  (s.data.corr.find? fun c => c.pipe == pipe && c.die == die).getD { pipe := pipe, die := die }

/-- CORR_STATS (R186). On a die where the pipe has no bank, TUN_BASE_0 and TUN_BASE_1 are 0. Log 172 [DESIGN CHOICE]. -/
def cmdCorrStats : Cmd := fun o args s =>
  let h := field args 0 4
  let i := field args 0 2
  let d := field args 4 1
  checked (s.pipeChecks o args 0 [2] ++ [bad 4 (decide (s.dies ≤ d))] ++ reserved args 5 3 ++ [s.stagedRead o h]) s fun s =>
    let e := (s.pipeAt i s.workTick).getD (s.cfg.entry h)
    let c := s.corrCount i d
    let w := s.die d
    let reply := leBytes 8 c.ovfReplays ++ leBytes 8 c.faultReplays ++ leBytes 4 w.tileFaults ++ leBytes 4 c.reserveShort ++ leBytes 4 c.tunSatPos
      ++ leBytes 4 c.tunPoisoned ++ leBytes 4 c.tunRepaired ++ leBytes 4 c.tunCorrupt ++ leBytes 4 c.replayRefetch
      ++ leBytes 4 (w.reserveLast / 2 ^ e.cfg.corrCfg.tLog2).toNat ++ leBytes 8 ((e.areaBase d .tun0).getD 0) ++ leBytes 8 ((e.areaBase d .tun1).getD 0)
      ++ leBytes 4 e.cfg.corrCfg.pCorr ++ leBytes 4 0
    .done .ok 0 reply ((s.modCorr i d fun _ => { pipe := i, die := d }).modDie d fun w => { w with tileFaults := 0 })

/-- CORR_STATS (R186). -/
def execCorrStats (o : Origin) (args : List Byte) (s : State) : Host.Outcome State Fault Refusal :=
  .next (s.row o 0x0300 args (fixedLen 8) cmdCorrStats)

/-- TILE_MAP (R187). -/
def cmdTileMap : Cmd := fun _ args s =>
  let d := field args 0 1
  checked ([bad 0 (decide (s.dies ≤ d))] ++ reserved args 1 3) s fun s =>
    .done .ok 0 ((s.die d).tiles.flatMap (leBytes 1 ·) ++ (s.die d).tileMap.flatMap fun p => leBytes 1 (p.getD 0xFF)) s

/-- TILE_MAP (R187). -/
def execTileMap (o : Origin) (args : List Byte) (s : State) : Host.Outcome State Fault Refusal :=
  .next (s.row o 0x0301 args (fixedLen 4) cmdTileMap)

end Sys2Proof.Machine
end

