-- ==== Sys2Proof/Machine/Tables.lean ====
section
/-! DEFINITION. Table and read commands of INGEST pipes: OFFSET_FREEZE (R115), DELAY_LOAD (R123, R146), GAIN_LOAD (R133, R147), WINDOW_LOAD (R149),
INGEST_STATS (R116), GAIN_READ (R148). -/

namespace Sys2Proof.Machine

/-- The length test of a command of `base` bytes and entries of `size` bytes, counted by the `n`-byte field at `off` (R366). -/
def listLen (base size off n : Nat) (args : List Byte) : Option Nat :=
  if args.length < base then some off else if args.length = base + size * field args off n then none else some off

/-- Bits [63:48] of an 8-byte tick field are zero. -/
def tickField (args : List Byte) (off : Nat) : Bool × Reason × Nat := bad off (decide (2 ^ 48 ≤ field args off 8))

/-- Data-path time has reached the start of tick `t - 1`: too late for a change that names `t` (R123, R147, R200). Log 100 [DEDUCED]. -/
def TickCfg.deadlinePassed (c : TickCfg) (timeNs t : Nat) : Bool :=
  decide (((c.epochSec * nsPerSec + c.epochNs : Nat) : Int) * c.den + ((t : Int) - 1) * c.num * nsPerSec ≤ ((timeNs * c.den : Nat) : Int))

/-- TOO_LATE with bits [31:0] of the tick (R366). For a pipe that is STAGED ticks are those of a TICK_CONFIG staged with it (R372, R376). Log 100 [DEDUCED]. -/
def State.late (s : State) (o : Origin) (h t : Nat) : Bool × Reason × Nat :=
  (match (if s.isStagedPipe o h then s.candidate.tick else s.cfg.tick) with
   | some c => c.deadlinePassed s.timeNs t
   | none => false, .tooLate, t % 2 ^ 32)

/-- Staging is full for one more command (R376). -/
def State.noRoom (s : State) (args : List Byte) : Bool × Reason × Nat := (s.stagingFull args, .noResource, 0)

/-- A T command on the pipe of the handle in bytes 0 to 3: staged with a pipe that is STAGED, otherwise it takes effect now (R372, R374). `early` are
tests of the arguments, `late` tests against the configuration, `deadline` the last of R507: it holds of a staged pipe too (R123, R133, R200). -/
def tableCommand (op : Nat) (kind : Nat) (early : Checks) (state : State → Checks) (late : State → PipeEntry → Checks) (deadline : State → Checks)
    (f : State → State) : Cmd := fun o args s =>
  let h := field args 0 4
  let staged := s.isStagedPipe o h
  let e := (s.pipeView o h).entry h
  checked (s.pipeChecks o args 0 [kind] ++ early ++ state s ++ (if staged then [s.noRoom args] else []) ++ late s e
      ++ deadline s) s fun s =>
    if staged then okay (s.stage { opcode := op, args := args, mem := s.journalMem op args }) else okay (f s)

/-- The inputs of an entry, those of its changes included (R114). -/
def PipeEntry.allInputs (e : PipeEntry) : List InputEntry := e.inputs ++ e.changes.flatMap (·.inputs)

/-- The input is assigned to the pipe. -/
def PipeEntry.assigned (e : PipeEntry) (input : Nat) : Bool := e.allInputs.any (·.input == input)

/-- Range of OFFSET_INIT and VALUE by format (R95, R114). -/
def offsetInRange (format : Nat) (v : Int) : Bool :=
  match format with
  | 1 => decide (-4096 ≤ v ∧ v ≤ 4064)
  | 2 => decide (-4096 ≤ v ∧ v ≤ 4094)
  | 3 => decide (-4096 ≤ v ∧ v ≤ 4064)
  | 4 => decide (0 ≤ v ∧ v ≤ 7680)
  | _ => v == 0

/-! ### OFFSET_FREEZE -/

/-- Tests of OFFSET_FREEZE's arguments (R115). -/
def offsetFreezeChecks (args : List Byte) : Checks := [inRange args 6 1 0 2, bad 7 (field args 7 1 != 0), tickField args 12]

/-- The action waits on every input it names for the offset block boundary of its tick (R115). -/
def applyOffsetFreeze (args : List Byte) (s : State) : State :=
  let i := field args 0 2
  let input := field args 4 2
  s.modChains (fun c => c.pipe == i && c.finish.isNone && (input == 0xFFFF || c.input == input)) fun c =>
    { c with freezeNext := c.freezeNext ++ [(field args 12 8, field args 6 1, fieldS args 8 4)] }

/-- OFFSET_FREEZE (R115). -/
def cmdOffsetFreeze : Cmd := fun o args s =>
  tableCommand 0x0201 1 (offsetFreezeChecks args) (fun _ => [])
    (fun _ e => [bad 4 (field args 4 2 != 0xFFFF && !e.assigned (field args 4 2)),
      bad 8 (field args 6 1 == 2 && !offsetInRange e.cfg.ingestCfg.format (fieldS args 8 4))])
    (fun _ => []) (applyOffsetFreeze args) o args s

/-- OFFSET_FREEZE (R115). -/
def execOffsetFreeze (o : Origin) (args : List Byte) (s : State) : Host.Outcome State Fault Refusal :=
  .next (s.row o 0x0201 args (fixedLen 20) cmdOffsetFreeze)

/-! ### DELAY_LOAD -/

/-- Entry `i` of DELAY_LOAD. -/
def delayEntry (args : List Byte) (t i : Nat) : Nat × DelayPoly :=
  let o := 16 + 36 * i
  (field args o 2, { tick := t, c0 := fieldS args (o + 4) 8, c1 := fieldS args (o + 12) 8, c2 := fieldS args (o + 20) 8, c3 := fieldS args (o + 28) 8 })

/-- A load replaces one of the same input and tick (R123). -/
def Chain.loadPoly (c : Chain) (p : DelayPoly) : Chain :=
  { c with polys := p :: c.polys.filter (·.tick != p.tick) }

/-- Loads the polynomials and the table version (R123, R146). -/
def applyDelayLoad (args : List Byte) (s : State) : State :=
  let i := field args 0 2
  let t := field args 4 8
  let s1 := { s with data := { s.data with delayVersions := assign s.data.delayVersions i (field args 12 2) } }
  (List.range (field args 14 2)).foldl (fun s k =>
    let (input, p) := delayEntry args t k
    s.modChains (Chain.isOf i input) (fun c => c.loadPoly p)) s1

/-- DELAY_LOAD (R123, R146). -/
def cmdDelayLoad : Cmd := fun o args s =>
  let n := field args 14 2
  tableCommand 0x0211 1
    ([tickField args 4, inRange args 14 2 1 27] ++ (List.range n).flatMap fun k => reserved args (16 + 36 * k + 2) 2)
    (fun _ => [])
    (fun _ e => (List.range n).map fun k => bad (16 + 36 * k) (!e.assigned (field args (16 + 36 * k) 2)))
    (fun s => [s.late o (field args 0 4) (field args 4 8)]) (applyDelayLoad args) o args s

/-- DELAY_LOAD (R123). -/
def execDelayLoad (o : Origin) (args : List Byte) (s : State) : Host.Outcome State Fault Refusal :=
  .next (s.row o 0x0211 args (listLen 16 36 14 2) cmdDelayLoad)

/-! ### GAIN_LOAD and GAIN_READ -/

/-- A loaded word waits for its tick; results of level control that would follow it, from periods that began before it, are discarded (R133). -/
def GainState.load (g : GainState) (t : Nat) (w : Word) : GainState :=
  { g with next := insertBy (·.1) (t, w, true) (g.next.filter fun x => x.2.2 && x.1 != t || decide (x.1 < t)), loads := g.loads ++ [t] }

/-- The INGEST block of an entry at tick `t` (R57). -/
def PipeEntry.ingestAt (e : PipeEntry) (t : Nat) : IngestCfg := (e.atTick t).cfg.ingestCfg

/-- Loads gain words (R133, R147). -/
def applyGainLoad (args : List Byte) (s : State) : State :=
  let t := field args 12 8
  let init := ((s.cfg.pipes.getD (field args 0 2) {}).ingestAt t).gainInit
  s.modChains (Chain.isOf (field args 0 2) (field args 4 2)) fun c =>
    let held := padGains c.gains init t (field args 6 2 + field args 8 2)
    { c with gains := (List.range (field args 8 2)).foldl (fun gs k =>
        gs.modify (field args 6 2 + k) fun g => g.load t (BitVec.ofNat 32 (field args (20 + 4 * k) 4))) held }

/-- GAIN_LOAD (R133, R147): the channels are those sent at AT_TICK. -/
def cmdGainLoad : Cmd := fun o args s =>
  let n := field args 8 2
  tableCommand 0x0212 1
    ([inRange args 8 2 1 248] ++ reserved args 10 2 ++ [tickField args 12] ++ (List.range n).flatMap fun k =>
      [bad (20 + 4 * k + 2) (decide (128 ≤ field args (20 + 4 * k + 2) 1)), bad (20 + 4 * k + 3) (field args (20 + 4 * k + 3) 1 != 0)])
    (fun _ => [])
    (fun _ e => [bad 4 (!e.assigned (field args 4 2)), bad 6 (decide ((e.ingestAt (field args 12 8)).chCount ≤ field args 6 2)),
      bad 8 (decide ((e.ingestAt (field args 12 8)).chCount < field args 6 2 + n))])
    (fun s => [s.late o (field args 0 4) (field args 12 8)]) (applyGainLoad args) o args s

/-- GAIN_LOAD (R147). -/
def execGainLoad (o : Origin) (args : List Byte) (s : State) : Host.Outcome State Fault Refusal :=
  .next (s.row o 0x0212 args (listLen 20 4 8 2) cmdGainLoad)

/-- The tick whose words are in force for an input: that of the next output to be formed; before its chain exists, the tick now (R148). Log 157 [DESIGN
CHOICE]. -/
def State.gainTick (s : State) (i input : Nat) : Nat := ((s.chain i input).map Chain.outTick).getD (s.tickNow.getD 0)

/-- GAIN_READ: words in force and REQ_CLIP, which is read and cleared (R148, R12). -/
def cmdGainRead : Cmd := fun o args s =>
  let h := field args 0 4
  let i := field args 0 2
  let input := field args 4 2
  let first := field args 6 2
  let n := field args 8 2
  let e := (s.pipeView o h).entry h
  let t := s.gainTick i input
  let k := e.ingestAt t
  checked (s.pipeChecks o args 0 [1] ++ [inRange args 8 2 1 124] ++ reserved args 10 2 ++ [s.stagedRead o h] ++
      [bad 4 (!e.assigned input), bad 6 (decide (k.chCount ≤ first)), bad 8 (decide (k.chCount < first + n))]) s fun s =>
    let gains := padGains (((s.chain i input).map (·.gains)).getD []) k.gainInit t (first + n)
    let reply := (List.range n).flatMap fun j =>
      let g := (gains.getD (first + j) {}).atTick t
      leBytes 4 g.word.toNat ++ leBytes 4 g.clip
    .done .ok 0 reply (s.modChains (Chain.isOf i input) fun c =>
      { c with gains := (List.range n).foldl (fun gs j => gs.modify (first + j) fun g => { g with clip := 0 }) c.gains })

/-- GAIN_READ (R148). -/
def execGainRead (o : Origin) (args : List Byte) (s : State) : Host.Outcome State Fault Refusal :=
  .next (s.row o 0x0213 args (fixedLen 12) cmdGainRead)

/-! ### WINDOW_LOAD -/

/-- A configuration of an entry uses the slot from tick `t` on: the one in force, or one of those still to come (R149). -/
def PipeEntry.usesWindow (e : PipeEntry) (slot t : Nat) : Bool :=
  let now := e.atTick t
  e.state != .staged && (now.cfg.ingestCfg.windowSel == slot || now.changes.any fun c => c.cfg.ingestCfg.windowSel == slot)

/-- A running configuration uses the slot: the pipe's from now on, or that of a chain that still forms outputs with it (R108, R149). -/
def State.windowBusy (s : State) (o : Origin) (h slot : Nat) : Bool :=
  ((s.pipeView o h).entry h).usesWindow slot (s.tickNow.getD 0) ||
    s.data.chains.any fun c => c.pipe == bits h 0 16 && c.cfg.windowSel == slot

/-- Writes window taps (R149). -/
def applyWindowLoad (args : List Byte) (s : State) : State :=
  let i := field args 0 2
  let slot := field args 4 1
  (List.range (field args 6 2)).foldl (fun s k =>
    let idx := field args 8 4 + k
    let taps := upsert (fun w => w.1 == i && w.2.1 == slot && w.2.2.1 == idx) (i, slot, idx, 0) (fun _ => (i, slot, idx, fieldS args (12 + 4 * k) 4)) s.data.windows
    let keys := if (i, slot, idx) ∈ s.data.windowWritten then s.data.windowWritten else s.data.windowWritten ++ [(i, slot, idx)]
    { s with data := { s.data with windows := taps, windowWritten := keys } }) s

/-- The taps that WINDOW_LOAD commands of a staging write into a slot of pipe `i`. -/
def stagedTaps (staged : List Staged) (i slot : Nat) : List Nat :=
  staged.flatMap fun x =>
    if x.opcode = 0x0214 ∧ field x.args 0 2 = i ∧ field x.args 4 1 = slot then
      (List.range (field x.args 6 2)).map fun k => field x.args 8 4 + k
    else []

/-- The ticks from which configurations of an INGEST entry newly select a window slot, with the slot; that of its creation is 0 (R149). -/
def PipeEntry.windowChoices (e : PipeEntry) : List (Nat × Nat) :=
  let steps := (e.changes.foldl (fun (acc : Nat × List (Nat × Nat)) g =>
    let w := g.cfg.ingestCfg.windowSel
    (w, if w = acc.1 then acc.2 else acc.2 ++ [(g.tick, w)])) (e.cfg.ingestCfg.windowSel, [(0, e.cfg.ingestCfg.windowSel)])).2
  if e.cfg.kind = 1 then steps.filter (·.2 != 0) else []

/-- The window slots that a change of an entry newly selects (R149). -/
def newWindows (old new : PipeEntry) : List Nat :=
  let had := if old.gen = new.gen ∧ old.state ≠ .free then old.windowChoices else []
  (new.windowChoices.filter fun x => !had.contains x).map (·.2)

/-- Taps of a slot of pipe `i` written since a configuration last selected it, the staging included (R149, R374). -/
def State.tapsWritten (s : State) (i slot : Nat) : List Nat :=
  let held := (s.data.windowWritten.filter fun k => k.1 == i && k.2.1 == slot).map (·.2.2)
  (s.lease.staged.foldl (fun (acc : PackageCfg × List Nat) x =>
    let c := acc.1.apply x
    let l := if (newWindows (acc.1.pipes.getD i {}) (c.pipes.getD i {})).contains slot then [] else acc.2
    (c, l ++ stagedTaps [x] i slot)) (s.cfg, held)).2

/-- A slot is usable for size N: h[0] to h[2N - 1] all written since a configuration last selected it (R149). -/
def State.windowUsable (s : State) (i slot n : Nat) : Bool :=
  let taps := s.tapsWritten i slot
  (List.range (2 * n)).all taps.contains

/-- WINDOW_LOAD (R149). -/
def cmdWindowLoad : Cmd := fun o args s =>
  let n := field args 6 2
  let slot := field args 4 1
  tableCommand 0x0214 1
    ([inRange args 4 1 1 2, bad 5 (field args 5 1 != 0), inRange args 6 2 1 250, bad 8 (decide (16384 < field args 8 4 + n))] ++
      (List.range n).map fun k => bad (12 + 4 * k) (decide (131071 < (fieldS args (12 + 4 * k) 4).natAbs)))
    (fun s => [refusedIf (s.windowBusy o (field args 0 4) slot)])
    (fun _ _ => []) (fun _ => []) (applyWindowLoad args) o args s

/-- WINDOW_LOAD (R149). -/
def execWindowLoad (o : Origin) (args : List Byte) (s : State) : Host.Outcome State Fault Refusal :=
  .next (s.row o 0x0214 args (listLen 12 4 6 2) cmdWindowLoad)

/-! ### INGEST_STATS -/

/-- The present mean of one component: 0 while the offset block is off (R94, R116). -/
def Chain.mean (c : Chain) (im : Bool) : Int := if c.cfg.offsetLog2 = 0 then 0 else if im then c.muIm else c.muRe

/-- The reply of INGEST_STATS (R116); the die's frame counters come with the first input that the pipe lists for the die, so where several pipes serve a
die each pipe's first input reads and clears them. THETA_ADAPT is the estimate of the real component, and a
theta of more than 16 bits is reported modulo 2^16. Log 158 [DESIGN CHOICE]. -/
def ingestStatsReply (c : Chain) (w : Option DieWork) : List Byte :=
  leBytes 8 c.clipCount ++ leBytes 8 c.spallHits ++ leBytes 8 c.missing ++ leBytes 8 c.late ++ leBytes 4 c.offsetHeld ++ leBytes 4 c.hbSat
    ++ leInt 4 (c.mean false) ++ leInt 4 (c.mean true) ++ leBytes 2 (c.theta false) ++ leBytes 2 (if c.cfg.complex then c.theta true else 0)
    ++ leBytes 2 c.adaptRe ++ leBytes 2 c.slot ++ leBytes 4 ((w.map (·.gristMalformed)).getD 0) ++ leBytes 4 ((w.map (·.gristUnknown)).getD 0)

/-- INGEST_STATS (R116). Log 158 [DESIGN CHOICE]. -/
def cmdIngestStats : Cmd := fun o args s =>
  let h := field args 0 4
  let i := field args 0 2
  let input := field args 4 2
  let e := (s.pipeView o h).entry h
  checked (s.pipeChecks o args 0 [1] ++ reserved args 6 2 ++ [s.stagedRead o h, bad 4 (!e.assigned input)]) s fun s =>
    let now := (e.atTick (s.tickNow.getD 0)).inputs ++ e.allInputs
    let die := ((now.find? (·.input == input)).map (·.die)).getD 0
    let first := ((now.find? (·.die == die)).map (·.input)) == some input
    let c := (s.chain i input).getD { cfg := e.cfg.ingestCfg }
    let s1 := s.modChains (Chain.isOf i input) Chain.clearStats
    .done .ok 0 (ingestStatsReply c (if first then some (s.die die) else none))
      (if first then s1.modDie die (fun w => { w with gristMalformed := 0, gristUnknown := 0 }) else s1)

/-- INGEST_STATS (R116). -/
def execIngestStats (o : Origin) (args : List Byte) (s : State) : Host.Outcome State Fault Refusal :=
  .next (s.row o 0x0202 args (fixedLen 8) cmdIngestStats)

end Sys2Proof.Machine
end

