-- ==== Sys2Proof/Machine/Pipes.lean ====
section
/-! DEFINITION. Staged commands (class S of R374): POSITION_SET, TICK_CONFIG, PIPE_CREATE, PIPE_MODIFY, PIPE_DESTROY, INGEST_INPUTS, TURN_DEST_SET,
BEAM_INPUTS, BEAM_CONTRIB, SINK_DEST, LANE_CONFIG, SPARE_PEER; and PIPE_LIST. -/

namespace Sys2Proof.Machine

/-- Dies whose stack is withheld from admission (R401). -/
def State.withheld (s : State) : List Nat :=
  (List.range s.dies).filter fun d => ((s.fabric.hbm[d]?).map (·.trainState)).getD 0 == 2

/-- NO_BUDGET of the candidate with one more staged command (R73, R374). -/
def State.admission (s : State) (x : Staged) : Checks :=
  match budgetFail (s.candidate.apply x) s.dies (s.tickNow.getD 0) s.withheld with
  | some f => [(true, .noBudget, budgetDetail f)]
  | none => []

/-- An S command: the tests in the order of R507, then it is appended to the staging with this DETAIL (R374, R376). -/
def State.stageChecked (s : State) (x : Staged) (detail : Nat) (early state late : Checks) (admits : Bool) : CmdOut :=
  checked (early ++ [s.notReady] ++ state ++ [s.noRoom x.args] ++ late ++ (if admits then s.admission x else [])) s fun s =>
    .done .ok detail [] (s.stage x)

/-! ### POSITION_SET and TICK_CONFIG -/

/-- Any pipe exists, staged ones included (R372). -/
def PackageCfg.anyPipe (c : PackageCfg) : Bool := !(c.indices [1, 2, 3, 4]).isEmpty

/-- POSITION_SET (R379). -/
def cmdPositionSet : Cmd := fun _ args s =>
  s.stageChecked { opcode := 0x0020, args := args } 0 ([reservedHigh args 1 2] ++ reserved args 2 2) [refusedIf (s.candidate.anyPipe || s.cfg.anyPipe)] []
    false

/-- POSITION_SET (R379). -/
def execPositionSet (o : Origin) (args : List Byte) (s : State) : Host.Outcome State Fault Refusal :=
  .next (s.row o 0x0020 args (fixedLen 4) cmdPositionSet)

/-- Tests of TICK_CONFIG's arguments alone, in the order of R52. -/
def tickChecks (args : List Byte) : Checks :=
  let c := parseTick args
  [ bad 0 (decide (2 ^ 48 ≤ c.epochSec)),
    bad 8 (decide (999999999 < c.epochNs)),
    bad 12 (c.den == 0),
    bad 16 (decide (c.num * 1000 < c.den) || decide (2 * c.den < c.num)),
    bad 24 (decide (c.closeNs < c.guardNs) || decide (c.num * nsPerSec < c.closeNs * c.den)),
    bad 28 (decide (c.num * nsPerSec < c.guardNs * 100 * c.den)),
    bad 32 (field args 32 4 != 0) ]

/-- The tick number of the present time plus 3,155,760,000 s would exceed 2^48 - 1 (R49, R52). -/
def tickOverflows (c : TickCfg) (timeNs : Nat) : Bool :=
  let now := timeNs + 3155760000 * nsPerSec
  let e := c.epochSec * nsPerSec + c.epochNs
  decide (2 ^ 48 ≤ (now - e) * c.den / max (c.num * nsPerSec) 1)

/-- TICK_CONFIG (R52). -/
def cmdTickConfig : Cmd := fun _ args s =>
  s.stageChecked { opcode := 0x0021, args := args } 0 (tickChecks args)
    [refusedIf (s.candidate.anyPipe || s.cfg.anyPipe || !s.clocks.time.valid)] [bad 0 (tickOverflows (parseTick args) s.timeNs)] false

/-- TICK_CONFIG (R52). -/
def execTickConfig (o : Origin) (args : List Byte) (s : State) : Host.Outcome State Fault Refusal :=
  .next (s.row o 0x0021 args (fixedLen 36) cmdTickConfig)

/-! ### PIPE_CREATE and PIPE_MODIFY -/

/-- TX lanes `first` to `first + count - 1` are all in role HAUL in a configuration. -/
def haulLanes (c : PackageCfg) (first count : Nat) : Bool :=
  (List.range count).all fun i => (c.txCfg.getD (first + i) {}).role == .haul

/-- Handles that a kind block names, each with its offset and the kind that suits: SINK, and SOURCE_HANDLE of a BEAM block (R183, R215). -/
def namedHandles (args : List Byte) : List (Nat × Nat × Nat) :=
  match parseBlock args with
  | .corr p => [(p.sink, 20, 4)]
  | .beam p =>
    (if p.partialPipe then [] else [(p.sink, 20, 4)]) ++
      (if p.source = 1 then [(p.sourceHandle, 56, 2)] else if p.source = 2 then [(p.sourceHandle, 56, 1)] else [])
  | _ => []

/-- The tests of the handles that a kind block names: none is stale, and then each is of its kind (R371, R507). -/
def blockHandles (c : PackageCfg) (args : List Byte) : Checks :=
  (namedHandles args).map (fun x => (c.stale x.1, .staleHandle, 0)) ++ (namedHandles args).map fun x => bad x.2.1 (c.wrongKind x.1 [x.2.2])

/-- A VOLT record of the pipe under this grid holds more than 8,192 bytes of data (R234). -/
def voltTooLong (k : SinkCfg) (p : BeamCfg) : Bool :=
  p.voltage && decide (8192 < 2 ^ (min k.voltSamplesLog2 p.tLog2) * min (2 ^ k.voltBeamsLog2) p.beams * voltBytes p)

/-- A DET record of the pipe under this grid holds more than 8,192 bytes of data (R234). -/
def detTooLong (k : SinkCfg) (p : BeamCfg) : Bool :=
  p.detected && decide (8192 < min (2 ^ k.detRunsLog2) (p.m * 2 ^ p.tLog2 * p.k / 2 ^ p.detLog2) * min (2 ^ k.detBeamsLog2) p.beams * 4)

/-- The blocks that an entry has from tick `t` on: the one in force, and those of the changes to come (R57). -/
def PipeEntry.blocksFrom (e : PipeEntry) (t : Nat) : List PipeCfg := let now := e.atTick t; now.cfg :: now.changes.map (·.cfg)

/-- The block that an entry will have when its changes have taken effect. -/
def PipeEntry.final (e : PipeEntry) : PipeEntry := e.changes.foldl (fun e c => e.applyChange c) e

/-- The source pipe of a BEAM block as it stands at the tick from which the block of pipe `i` holds, changes staged and pending included (R57, R216). -/
def PackageCfg.sourceAt (c : PackageCfg) (i : Nat) (p : BeamCfg) (args : List Byte) : PipeEntry :=
  (c.entry p.sourceHandle).atTick ((c.pipes.getD i {}).effectTick (blockTick args))

/-- Tests of a kind block against the configuration (R144, R216, R243); `i` is the pipe's index and `old` its present block. -/
def State.blockLate (s : State) (c : PackageCfg) (i : Nat) (old : PipeCfg) (args : List Byte) : Checks :=
  match parseBlock args with
  | .ingest p =>
    let same := old.ingestCfg.windowSel == p.windowSel && old.ingestCfg.chanLog2 == p.chanLog2 && old.kind == 1
    [bad 49 (p.windowSel != 0 && !same && !s.windowUsable i p.windowSel p.n)]
  | .corr p => [bad 20 (p.deepTun && (c.entry p.sink).cfg.sinkCfg.rowsLog2 == 4)]
  | .sink k =>
    let users := ((c.indices [2, 3]).flatMap fun j => (c.pipes.getD j {}).blocksFrom (s.tickNow.getD 0)).filter fun u =>
      old.kind == 4 && u.sinkHandle == c.handle i
    [bad 10 (k.rowsLog2 == 4 && users.any fun u => u.kind == 2 && u.corrCfg.deepTun), bad 52 (users.any fun u => u.kind == 3 && voltTooLong k u.beamCfg),
     bad 53 (users.any fun u => u.kind == 3 && detTooLong k u.beamCfg)]
  | .beam p =>
    (let k := (c.entry p.sink).cfg.sinkCfg; [bad 20 (!p.partialPipe && (voltTooLong k p || detTooLong k p))]) ++
    if p.source = 1 then
      let q := (c.sourceAt i p args).cfg.corrCfg
      [bad 8 (p.sampleMode != q.sampleMode), bad 10 (p.tLog2 != q.tLog2), bad 12 (p.m != q.m),
       bad 24 (decide (p.chFirst < q.chFirst) || decide (q.chFirst + q.chCount < p.chFirst + p.chCount)), bad 44 (p.splitD != q.splitD)]
    else if p.source = 2 then
      let q := (c.sourceAt i p args).cfg.ingestCfg
      [bad 8 (p.sampleMode != q.reqMode), bad 10 (p.tLog2 != q.tLog2), bad 12 (p.m != q.m),
       bad 24 (decide (p.chFirst < q.sysChannelBase) || decide (q.sysChannelBase + q.chCount < p.chFirst + p.chCount))]
    else []
  | _ => []

/-- BAD_TICK: M x T / f_ch differs from the tick length, in integers (R50). -/
def badTick (c : PackageCfg) (i : Nat) (args : List Byte) : Bool × Reason × Nat :=
  let wrong (p : IngestCfg) : Bool := match c.tick with
    | some t => p.samplesPerTick * p.rateDen * t.den != t.num * p.rateNum
    | none => false
  (match parseBlock args with
   | .ingest p => wrong p
   | .beam p => p.source == 2 && wrong (c.sourceAt i p args).cfg.ingestCfg
   | _ => false, .badTick, 0)

/-- REFUSED_STATE of a block: a partial pipe whose lanes are not in role HAUL (R216). -/
def partialLanes (c : PackageCfg) (args : List Byte) : Bool × Reason × Nat :=
  match parseBlock args with
  | .beam p => refusedIf (p.partialPipe && !haulLanes c p.laneFirst p.laneCount)
  | _ => refusedIf false

/-- The lowest free table entry (R370). Log 95 [DEDUCED]. -/
def PackageCfg.freeEntry (c : PackageCfg) : Option Nat := (List.range 512).find? fun i => (c.pipes.getD i {}).state == .free

/-- PIPE_CREATE (R370 to R373, R50, R301, R379, R473). Log 95 [DEDUCED]. -/
def cmdPipeCreate : Cmd := fun _ args s =>
  let c := s.candidate
  let kind := field args 0 1
  let i := c.freeEntry.getD 0
  let h := makeHandle kind (c.pipes.getD i {}).gen i
  s.stageChecked { opcode := 0x0100, args := args, handle := h } h
    (blockHandles c args ++ [inRange args 0 1 1 4, bad 1 (field args 1 1 != 0), bad 4 (field args 4 4 != 0)] ++ blockChecks s.dies s.hasLane args)
    [refusedIf (kind != 4 && (s.power.mode == .idle || s.power.mode == .dormant)), refusedIf (kind != 4 && (c.tick.isNone || !s.clocks.time.valid || !s.cfg.positionValid)), partialLanes c args]
    ([(c.freeEntry.isNone || (kind == 4 && decide (16 ≤ (c.indices [4]).length)), .noResource, 0)] ++ s.blockLate c i .none args
      ++ [badTick c i args])
    true

/-- PIPE_CREATE (R373). -/
def execPipeCreate (o : Origin) (args : List Byte) (s : State) : Host.Outcome State Fault Refusal :=
  .next (s.row o 0x0100 args pipeLen cmdPipeCreate)

/-- PIPE_MODIFY (R373). Log 101 [DEDUCED]. -/
def cmdPipeModify : Cmd := fun _ args s =>
  let c := s.candidate
  let h := field args 4 4
  s.stageChecked { opcode := 0x0101, args := args } 0
    ([(c.stale h, .staleHandle, 0)] ++ blockHandles c args ++
      [inRange args 0 1 1 4, bad 1 (field args 1 1 != 0), bad 4 (c.wrongKind h [field args 0 1])] ++ blockChecks s.dies s.hasLane args)
    [partialLanes c args] (s.blockLate c (bits h 0 16) (c.entry h).final.cfg args ++ [badTick c (bits h 0 16) args]) true

/-- PIPE_MODIFY (R373). -/
def execPipeModify (o : Origin) (args : List Byte) (s : State) : Host.Outcome State Fault Refusal :=
  .next (s.row o 0x0101 args pipeLen cmdPipeModify)

/-- A CORR or BEAM pipe names this SINK (R243). -/
def PackageCfg.sinkUsed (c : PackageCfg) (h : Nat) : Bool :=
  (c.indices [2, 3]).any fun i =>
    let e := c.pipes.getD i {}
    e.cfg.sinkHandle == h || e.changes.any fun g => g.cfg.sinkHandle == h

/-- PIPE_DESTROY (R373). -/
def cmdPipeDestroy : Cmd := fun _ args s =>
  let c := s.candidate
  let h := field args 0 4
  s.stageChecked { opcode := 0x0102, args := args } 0
    (c.handleChecks h 0 [1, 2, 3, 4] ++ reserved args 4 4 ++ [bad 8 (bits h 28 4 != 4 && decide (2 ^ 48 ≤ field args 8 8))])
    [refusedIf (bits h 28 4 == 4 && c.sinkUsed h)] [] false

/-- PIPE_DESTROY (R373). -/
def execPipeDestroy (o : Origin) (args : List Byte) (s : State) : Host.Outcome State Fault Refusal :=
  .next (s.row o 0x0102 args (fixedLen 16) cmdPipeDestroy)

/-! ### Tables of a pipe -/

/-- The staging holds a PIPE_MODIFY of the pipe (R114). -/
def State.modifyStaged (s : State) (h : Nat) : Bool :=
  s.lease.staged.any fun x => x.opcode == 0x0101 && field x.args 4 2 == bits h 0 16

/-- REFUSED_STATE unless the entry is STAGED or PENDING, or RUNNING with a PIPE_MODIFY of it staged before (R114). -/
def State.listable (s : State) (h : Nat) : Bool × Reason × Nat :=
  let st := (s.candidate.entry h).state
  refusedIf (!(st == .staged || st == .pending || (st == .running && s.modifyStaged h)))

/-- A value at the entry's offset that an earlier entry of the list also holds, at each entry. -/
def repeated (base size n : Nat) (key : Nat → Nat) : Checks :=
  (List.range n).map fun i => bad (base + size * i) ((List.range i).any fun j => key j == key i)

/-- INGEST_INPUTS (R114). -/
def cmdIngestInputs : Cmd := fun _ args s =>
  let c := s.candidate
  let h := field args 0 4
  let n := field args 4 2
  let off (i : Nat) : Nat := 8 + 8 * i
  s.stageChecked { opcode := 0x0200, args := args } 0
    (c.handleChecks h 0 [1] ++ [inRange args 4 2 0 126] ++ reserved args 6 2 ++ ((List.range n).flatMap fun i =>
        [bad (off i + 2) (decide (s.dies ≤ field args (off i + 2) 1)), bad (off i + 3) (decide (15 < field args (off i + 3) 1))])
      ++ repeated 8 8 n (fun i => field args (off i) 2))
    [s.listable h]
    ((List.range n).flatMap fun i =>
      [bad (off i + 3) ((c.rxCfg.getD (16 * field args (off i + 2) 1 + field args (off i + 3) 1) {}).role != .grist),
       bad (off i + 4) (!offsetInRange (c.entry h).final.cfg.ingestCfg.format (fieldS args (off i + 4) 4))])
    true

/-- INGEST_INPUTS (R114). -/
def execIngestInputs (o : Origin) (args : List Byte) (s : State) : Host.Outcome State Fault Refusal :=
  .next (s.row o 0x0200 args (listLen 8 8 4 2) cmdIngestInputs)

/-- BEAM_INPUTS (R217). -/
def cmdBeamInputs : Cmd := fun _ args s =>
  let c := s.candidate
  let h := field args 0 4
  let n := field args 4 2
  let off (i : Nat) : Nat := 8 + 8 * i
  s.stageChecked { opcode := 0x0310, args := args } 0
    (c.handleChecks h 0 [3] ++ [inRange args 4 2 0 126] ++ reserved args 6 2 ++ ((List.range n).flatMap fun i => reserved args (off i + 6) 2)
      ++ repeated 8 8 n (fun i => field args (off i) 4))
    [s.listable h]
    ((List.range n).map fun i => bad (off i) (decide ((c.entry h).final.cfg.beamCfg.inputCount ≤ field args (off i) 4)))
    true

/-- BEAM_INPUTS (R217). -/
def execBeamInputs (o : Origin) (args : List Byte) (s : State) : Host.Outcome State Fault Refusal :=
  .next (s.row o 0x0310 args (listLen 8 8 4 2) cmdBeamInputs)

/-- BEAM_CONTRIB (R218). -/
def cmdBeamContrib : Cmd := fun _ args s =>
  let c := s.candidate
  let h := field args 0 4
  let n := field args 4 2
  let off (i : Nat) : Nat := 8 + 8 * i
  s.stageChecked { opcode := 0x0311, args := args } 0
    (c.handleChecks h 0 [3] ++ [inRange args 4 2 0 126] ++ reserved args 6 2 ++ (List.range n).flatMap fun i =>
      [inRange args (off i) 2 0 1023, inRange args (off i + 2) 1 0 7, bad (off i + 3) (field args (off i + 3) 1 != 0)])
    [s.listable h] [] true

/-- BEAM_CONTRIB (R218). -/
def execBeamContrib (o : Origin) (args : List Byte) (s : State) : Host.Outcome State Fault Refusal :=
  .next (s.row o 0x0311 args (listLen 8 8 4 2) cmdBeamContrib)

/-- Tests of the coverage of TURN_DEST_SET: every channel sent exactly once (R145). A range outside the channels sent is found wrong at its
SYS_CH_FIRST (log 13 [DESIGN CHOICE]). -/
def coverChecks (p : IngestCfg) (ds : List TurnDest) : Checks :=
  let lo := p.sysChannelBase
  let hi := lo + p.chCount
  let covers (d : TurnDest) (ch : Nat) : Bool := decide (d.first ≤ ch ∧ ch < d.first + d.count)
  (List.range ds.length).map (fun i =>
    let d := ds.getD i {}
    bad (16 + 12 * i) (d.count != 0 && (decide (d.first < lo) || decide (hi < d.first + d.count) ||
      (ds.take i).any fun b => b.count != 0 && decide (d.first < b.first + b.count ∧ b.first < d.first + d.count))))
  ++ [bad 4 (!(List.range p.chCount).all fun k => ds.any fun d => covers d (lo + k))]

/-- TURN_DEST_SET (R145). -/
def cmdTurnDestSet : Cmd := fun _ args s =>
  let c := s.candidate
  let h := field args 0 4
  let t := field args 8 8
  let ds := parseDests args
  let off (i : Nat) : Nat := 16 + 12 * i
  s.stageChecked { opcode := 0x0210, args := args } 0
    (c.handleChecks h 0 [1] ++ [inRange args 4 2 1 84] ++ reserved args 6 2 ++ [tickField args 8] ++ (List.range ds.length).flatMap fun i =>
      let d := ds.getD i {}
      [inRange args (off i + 4) 2 0 1023, inRange args (off i + 6) 2 0 511,
       bad (off i + 8) (d.laneCount != 0 && (decide (128 < d.laneFirst + d.laneCount) ||
         !(List.range d.laneCount).all fun k => s.hasLane (d.laneFirst + k)))] ++ reserved args (off i + 10) 2)
    [refusedIf (!ds.all fun d => haulLanes c d.laneFirst d.laneCount)]
    (coverChecks ((c.entry h).atTick t).cfg.ingestCfg ds) true

/-- TURN_DEST_SET (R145). -/
def execTurnDestSet (o : Origin) (args : List Byte) (s : State) : Host.Outcome State Fault Refusal :=
  .next (s.row o 0x0210 args (listLen 16 12 4 2) cmdTurnDestSet)

/-- TX lane of the first lane of Ethernet port `p` = 4 x die + group (R35, R244). -/
def portLane (port : Nat) : Nat := 16 * (port / 4) + 4 * (port % 4)

/-- The four lanes of a port are in role ETHERNET (R35, R240). -/
def PackageCfg.portFormed (c : PackageCfg) (port : Nat) : Bool :=
  (List.range 4).all fun k => (c.txCfg.getD (portLane port + k) {}).role == .ethernet

/-- SINK_DEST (R240, R244). -/
def cmdSinkDest : Cmd := fun _ args s =>
  let c := s.candidate
  let h := field args 0 4
  let n := field args 4 2
  let off (i : Nat) : Nat := 8 + 32 * i
  let port (i : Nat) : Nat := field args (off i) 1
  let taken (p : Nat) : Bool := (c.indices [4]).any fun i => i != bits h 0 16 && (c.pipes.getD i {}).sinkDests.any (·.port == p)
  s.stageChecked { opcode := 0x0320, args := args } 0
    (c.handleChecks h 0 [4] ++ [inRange args 4 2 1 16] ++ reserved args 6 2 ++ (List.range n).flatMap fun i =>
      [bad (off i) (decide (4 * s.dies ≤ port i)), bad (off i + 1) (field args (off i + 1) 1 != 0), inRange args (off i + 2) 2 0 799,
       bad (off i + 2) ((List.range i).any fun j => port j == port i && field args (off j + 2) 2 != field args (off i + 2) 2),
       bad (off i + 10) (field args (off i + 10) 2 == 0)] ++ reserved args (off i + 28) 4)
    [refusedIf ((List.range n).any fun i => !c.portFormed (port i) || taken (port i))]
    ((List.range n).map fun i => bad (off i + 12) ((c.entry h).cfg.sinkCfg.ipVersion == 4 && field args (off i + 16) 12 != 0))
    true

/-- SINK_DEST (R244). -/
def execSinkDest (o : Origin) (args : List Byte) (s : State) : Host.Outcome State Fault Refusal :=
  .next (s.row o 0x0320 args (listLen 8 32 4 2) cmdSinkDest)

/-! ### Lanes -/

/-- Port groups of a die that hold a lane in role ETHERNET (R35). -/
def portGroups (tx : List LaneCfg) (die : Nat) : Nat :=
  ((List.range 4).filter fun p => (List.range 4).any fun k => (tx.getD (16 * die + 4 * p + k) {}).role == .ethernet).length

/-- LANE_CONFIG (R280); during wide steering a TX lane takes no role but OFF (R298). -/
def cmdLaneConfig : Cmd := fun _ args s =>
  let lane := field args 0 1
  let x : Staged := { opcode := 0x0400, args := args }
  s.stageChecked x 0
    ([bad 0 (!s.hasLane lane), inRange args 1 1 0 1,
      bad 2 (decide (3 < field args 2 1) || (field args 1 1 == 0 && field args 2 1 == 3) || (field args 1 1 == 1 && field args 2 1 == 1) ||
        (decide (128 ≤ lane) && field args 2 1 != 0)),
      bad 3 (decide (1 < field args 3 1) || (field args 1 1 == 1 && field args 3 1 != 0)), inRange args 4 1 0 15] ++ reserved args 5 3)
    [refusedIf (s.clocks.dpll.wide && field args 1 1 == 1 && field args 2 1 != 0)] [bad 2 (field args 2 1 == 3 && decide (2 < portGroups (s.candidate.apply x).txCfg (dieOfLane lane)))] false

/-- LANE_CONFIG (R280). -/
def execLaneConfig (o : Origin) (args : List Byte) (s : State) : Host.Outcome State Fault Refusal :=
  .next (s.row o 0x0400 args (fixedLen 8) cmdLaneConfig)

/-- SPARE_PEER (R281). -/
def cmdSparePeer : Cmd := fun _ args s =>
  s.stageChecked { opcode := 0x0401, args := args } 0
    ([bad 0 (decide (s.dies ≤ field args 0 1)), bad 1 (field args 1 1 != 0), reservedHigh args 3 4,
      bad 5 (field args 5 1 != 0xFF && !s.hasLane (field args 5 1))] ++ reserved args 6 2)
    [] [] false

/-- SPARE_PEER (R281). -/
def execSparePeer (o : Origin) (args : List Byte) (s : State) : Host.Outcome State Fault Refusal :=
  .next (s.row o 0x0401 args (fixedLen 8) cmdSparePeer)

/-! ### PIPE_LIST -/

/-- Codes of a table state (R373). -/
def PipeState.code : PipeState → Nat
  | .free => 0
  | .staged => 1
  | .pending => 2
  | .running => 3
  | .draining => 4

/-- Handle and state of a table entry: a staged create shows as STAGED, any other entry as it runs (R372). -/
def State.tableEntry (s : State) (i : Nat) : Nat × PipeState :=
  if (s.candidate.pipes.getD i {}).state = .staged then (s.candidate.handle i, .staged) else (s.cfg.handle i, (s.cfg.pipes.getD i {}).state)

/-- PIPE_LIST (R373). -/
def cmdPipeList : Cmd := fun _ args s =>
  checked (reserved args 2 2) s fun s =>
    let live := ((List.range 512).filter fun i => decide (field args 0 2 ≤ i) && (s.tableEntry i).2 != .free).take 128
    .done .ok 0 (live.flatMap fun i => leBytes 4 (s.tableEntry i).1 ++ leBytes 1 (s.tableEntry i).2.code ++ leBytes 3 0) s

/-- PIPE_LIST (R373). -/
def execPipeList (o : Origin) (args : List Byte) (s : State) : Host.Outcome State Fault Refusal :=
  .next (s.row o 0x0103 args (fixedLen 4) cmdPipeList)

end Sys2Proof.Machine
end

