-- ==== Sys2Proof/Machine/Beam.lean ====
section
/-! DEFINITION. The beam engine: weights and ramps (R199 to R201), strips (R193 to R195), partial slots (R197), BEAMPART frames (R202 to R206), finishing
(R208 to R213), WEIGHT_LOAD (R219) and BEAM_STATS (R220). -/

namespace Sys2Proof.Machine

/-! ### Where beam work runs (R190, R192) -/

/-- The set inputs of a BEAM pipe whose samples a die uses, with their set indices. -/
def beamSet (c : PackageCfg) (e : PipeEntry) (die : Nat) : List BeamInput :=
  e.beamInputs.filter fun x => (beamDieInputs c e e.cfg.beamCfg die).contains x.input

/-- A channel and mash of the pipe. -/
def BeamCfg.hasMash (b : BeamCfg) (ch mash : Nat) : Bool := decide (b.chFirst ≤ ch ∧ ch < b.chFirst + b.chCount ∧ mash < b.m)

/-- The die on which a beam mash is reduced and finished (R192): for SOURCE 2 the lowest-numbered serving die (log 27 [DEDUCED]). -/
def finishDie (c : PackageCfg) (e : PipeEntry) (ch mash : Nat) : Nat :=
  let b := e.cfg.beamCfg
  if b.source = 2 then tapFinisher c e
  else match ownerDie b.dieCh b.chFirst ch with
    | some d => mashDie d b.splitD mash
    | none => 0

/-- A die forms strips of a beam mash (R190, R192). -/
def formsOn (c : PackageCfg) (e : PipeEntry) (die ch mash : Nat) : Bool :=
  e.cfg.beamCfg.hasMash ch mash && !(beamSet c e die).isEmpty &&
    (if e.cfg.beamCfg.source = 2 then (servingDies c e).contains die else finishDie c e ch mash == die)

/-- Beam blocks of a pipe (R193). -/
def BeamCfg.blocks (b : BeamCfg) : Nat := ceilDiv b.beams 64

/-- Strips of a beam block in a mash (R193). -/
def BeamCfg.strips (b : BeamCfg) : Nat := 2 ^ b.tLog2 / 256

/-- The pipe whose turn area holds the samples (R190). -/
def BeamCfg.turnPipe (b : BeamCfg) (pipe : Nat) : Nat := if b.source = 1 then bits b.sourceHandle 0 16 else pipe

/-- The BEAM entry whose work a reference names in the present window. -/
def State.beamAt (s : State) (pipe die ch mash : Nat) : Option PipeEntry :=
  if s.noWindow then none
  else (s.pipeAt pipe s.workTick).bind fun e => if e.cfg.kind = 3 ∧ formsOn (s.cfgAt s.workTick) e die ch mash then some e else none

/-! ### Weights and ramps (R199 to R201) -/

/-- What the pipe holds beside weights and sums. -/
def State.beamWork (s : State) (pipe : Nat) : BeamWork := (s.data.beams.find? (·.pipe == pipe)).getD { pipe := pipe }

/-- Changes it. -/
def State.modBeam (s : State) (pipe : Nat) (f : BeamWork → BeamWork) : State :=
  let l := upsert (·.pipe == pipe) { pipe := pipe } f s.data.beams
  { s with data := { s.data with beams := l } }

/-- VERSION in force at a tick (R201). -/
def BeamWork.versionAt (w : BeamWork) (t : Nat) : Nat := ((w.versions.find? fun v => decide (v.1 ≤ t)).map (·.2)).getD 0

/-- One component of a weight in force for mash k of a ramp of n mashes (R201). -/
def rampAt (start tgt : Int) (k n : Nat) : Int := if n ≤ k + 1 then tgt else start + rndDiv ((tgt - start) * ((k + 1 : Nat) : Int)) n

/-- A weight in force for mash `mash` of tick `t` (R201). -/
def Weight.inForce (x : Weight) (w : BeamWork) (m t mash : Nat) : Int × Int :=
  let k := (t - w.rampTick) * m + mash
  (rampAt x.startRe x.re k (w.rampTicks * m), rampAt x.startIm x.im k (w.rampTicks * m))

/-- The weight of a beam, channel (from SYS_CH_FIRST) and set index, in force; zero where none was loaded (R201). -/
def State.weightOf (s : State) (pipe ch beam index m t mash : Nat) : Int × Int :=
  match s.data.weights.find? fun x => x.pipe == pipe && x.channel == ch && x.beam == beam && x.index == index with
  | some x => x.inForce (s.beamWork pipe) m t mash
  | none => (0, 0)

/-- Weights that are written make their words good: by WEIGHT_LOAD and by the steps of a ramp (R405, R410). -/
def State.healWeights (s : State) (pipe : Nat) (ws : List Weight) : State :=
  (List.range s.dies).foldl (fun s die => s.healItems (s.cfg.pipes.getD pipe {}) die .weights (ws.map fun x => [x.channel, x.beam, x.index])) s

/-- A pending load takes effect at its tick: every weight starts a new ramp from its value in force at the last mash before (R201). -/
def State.startRamp (s : State) (pipe m : Nat) (l : WeightLoad) : State :=
  let w := s.beamWork pipe
  let t := l.tick
  let s1 := s.modBeam pipe fun w => { w with versions := ((t, l.version) :: w.versions).take 8, pending := none }
  if l.targets.isEmpty then s1
  else
    let old := s.data.weights.map fun x =>
      if x.pipe = pipe then let v := x.inForce w m (t - 1) (m - 1); { x with startRe := v.1, startIm := v.2 } else x
    let new := l.targets.foldl (fun ws y =>
      upsert (fun x => x.pipe == pipe && x.channel == y.channel && x.beam == y.beam && x.index == y.index) { y with pipe := pipe, startRe := 0, startIm := 0 }
        (fun x => { x with pipe := pipe, re := y.re, im := y.im }) ws) old
    let s2 := { s1 with data := { s1.data with weights := new } }
    (s2.modBeam pipe fun w => { w with rampTick := t, rampTicks := l.rampTicks, rampDone := false }).healWeights pipe
      (new.filter (·.pipe == pipe))

/-- The steps of a ramp that runs in a tick write every weight anew (R201, R410). -/
def State.stepRamp (s : State) (pipe : Nat) : State :=
  if (s.beamWork pipe).rampDone then s else s.healWeights pipe (s.data.weights.filter (·.pipe == pipe))

/-! ### Slots and progress (R197, R203) -/

/-- Changes a contributor's progress on a beam mash. -/
def State.modContrib (s : State) (k : ContribMash) (f : ContribMash → ContribMash) : State :=
  let l := upsert (fun x => x.pipe == k.pipe && x.position == k.position && x.die == k.die && x.slot == k.slot && x.channel == k.channel &&
    x.mash == k.mash) k f s.data.contribs
  { s with data := { s.data with contribs := l } }

/-- The progress of a contributor, if anything of it was accepted. -/
def State.contrib (s : State) (pipe position die slot ch mash : Nat) : Option ContribMash :=
  s.data.contribs.find? fun x => x.pipe == pipe && x.position == position && x.die == die && x.slot == slot && x.channel == ch && x.mash == mash

/-- The position that marks the own strips of a die. Log 102 [DEDUCED]. -/
def ownStrips : Nat := 1024

/-- Grid cell width in samples and beams (R203). -/
def BeamCfg.cellSamples (b : BeamCfg) : Nat := 2 ^ b.frameSamplesLog2

/-- Beams of a whole grid cell (R203). -/
def BeamCfg.cellBeams (b : BeamCfg) : Nat := 2 ^ b.frameBeamsLog2

/-- Grid cells of a beam mash (R203). -/
def BeamCfg.cellCount (b : BeamCfg) : Nat := 2 ^ b.tLog2 / b.cellSamples * ceilDiv b.beams b.cellBeams

/-- The index of the grid cell that holds a sample of the mash and a beam (R203). -/
def BeamCfg.cellOf (b : BeamCfg) (sample beam : Nat) : Nat := sample / b.cellSamples * ceilDiv b.beams b.cellBeams + beam / b.cellBeams

/-- Beams that a grid cell holds from its first (R203). -/
def BeamCfg.cellWidth (b : BeamCfg) (beam : Nat) : Nat := min b.cellBeams (b.beams - beam)

/-- The place of a sample and beam within its grid cell. -/
def BeamCfg.cellPlace (b : BeamCfg) (sample beam : Nat) : Nat :=
  sample % b.cellSamples * b.cellWidth (beam / b.cellBeams * b.cellBeams) + beam % b.cellBeams

/-- The grid cells of a strip: first sample of the mash and first beam of each. -/
def BeamCfg.stripCells (b : BeamCfg) (block strip : Nat) : List (Nat × Nat) :=
  (List.range (256 / b.cellSamples)).flatMap fun i =>
    (List.range (ceilDiv (min 64 (b.beams - 64 * block)) b.cellBeams)).map fun j =>
      (256 * strip + i * b.cellSamples, 64 * block + j * b.cellBeams)

/-- One add to a grid cell of a slot: the first writes, later ones add and saturate (R197, R172). -/
def State.addCell (s : State) (k : BeamCell) (vs : List (Int × Int)) : State :=
  let same (x : BeamCell) : Bool :=
    x.pipe == k.pipe && x.die == k.die && x.slot == k.slot && x.channel == k.channel && x.mash == k.mash && x.cell == k.cell
  let new := match s.data.cells.find? same with
    | none => { k with values := vs }
    | some x =>
      let rs := ((x.values.zip vs).zipIdx).map fun (p, i) =>
        (addComponent 4 (x.marks.contains (2 * i)) p.1.1 p.2.1, addComponent 4 (x.marks.contains (2 * i + 1)) p.1.2 p.2.2)
      { x with
        values := rs.map fun r => (r.1.1, r.2.1)
        marks := x.marks ++ (rs.zipIdx).flatMap fun (r, i) => (if r.1.2 then [2 * i] else []) ++ (if r.2.2 then [2 * i + 1] else []) }
  let s1 : State := { s with data := { s.data with cells := upsert same new (fun _ => new) s.data.cells } }
  if s.data.cells.any same then s1
  else s1.healItems (s.cfg.pipes.getD k.pipe {}) k.die .partialArea ((List.range vs.length).map fun i => [k.channel, k.slot, k.mash, k.cell, i])

/-! ### Strips (R193 to R195) -/

/-- W x of one complex pair (R189). -/
def mulPlain (w x : Int × Int) : Int × Int := (w.1 * x.1 - w.2 * x.2, w.1 * x.2 + w.2 * x.1)

/-- Sum of complex values. -/
def sumC (l : List (Int × Int)) : Int × Int := ((l.map (·.1)).sum, (l.map (·.2)).sum)

/-- The 256 x 64 results of a strip and its checksum column, with the errors of the tile's hardware (R193, R195): `ws` gives per set input its 64 row
weights, `xs` its 256 samples. -/
def stripRun (ws xs : List (List (Int × Int))) (errs : List TileError) : List (Int × Int) × List (Int × Int) :=
  let ys := (List.range 256).flatMap fun t => (List.range 64).map fun u =>
    flipAt 40 errs (64 * t + u) (sumC ((ws.zip xs).map fun p => mulPlain (p.1.getD u (0, 0)) (p.2.getD t (0, 0))))
  let ck := (List.range 256).map fun t => flipAt 32 errs (16384 + t) (sumC ((ws.zip xs).map fun p => mulPlain (sumC p.1) (p.2.getD t (0, 0))))
  (ys, ck)

/-- The check of a strip: the row results of each sample agree with the checksum column modulo 2^32 (R195). -/
def stripVerified (ys ck : List (Int × Int)) : Bool :=
  (List.range 256).all fun t =>
    let a := sumC ((ys.drop (64 * t)).take 64)
    let b := ck.getD t (0, 0)
    (a.1 - b.1) % 2 ^ 32 == 0 && (a.2 - b.2) % 2 ^ 32 == 0

/-- Weights and samples of a strip (R193). -/
def State.stripData (s : State) (e : PipeEntry) (d : StripRef) : List (List (Int × Int)) × List (List (Int × Int)) :=
  let b := e.cfg.beamCfg
  let set := beamSet (s.cfgAt s.workTick) e d.die
  let t := s.workTick
  (set.map fun v => (List.range 64).map fun u =>
      if b.beams ≤ 64 * d.block + u then (0, 0) else s.weightOf d.pipe (d.channel - b.chFirst) (64 * d.block + u) v.index b.m t d.mash,
   set.map fun v => (List.range 256).map fun k =>
      sampleValue (s.turnAt d.die (b.turnPipe d.pipe) t v.input d.channel (d.mash * 2 ^ b.tLog2 + 256 * d.strip + k)))

/-- How many words of the weight tables that the strip needs cannot be read (R410). -/
def State.weightsBad (s : State) (e : PipeEntry) (d : StripRef) : Nat :=
  let b := e.cfg.beamCfg
  s.badItems e d.die .weights ((beamSet (s.cfgAt s.workTick) e d.die).flatMap fun v =>
    (List.range (min 64 (b.beams - 64 * d.block))).map fun u => [d.channel - b.chFirst, 64 * d.block + u, v.index])

/-- A reference without the tile it ran on. -/
def StripRef.key (d : StripRef) : StripRef := { d with tile := 0 }

/-- The progress record of the own strips of a beam mash. -/
def StripRef.own (d : StripRef) (slot : Nat) : ContribMash :=
  { pipe := d.pipe, position := ownStrips, die := d.die, slot := slot, channel := d.channel, mash := d.mash }

/-- The number of a strip in its mash, block by block. Log 102 [DEDUCED]. -/
def StripRef.number (d : StripRef) : Nat := d.block * 2 ^ 16 + d.strip

/-- The slot of the tick in work (R196, R214). -/
def State.workSlot (s : State) : Nat := s.workTick % 3

/-- Every strip of the own record has been written, sent or lost. -/
def ContribMash.settled (r : ContribMash) (b : BeamCfg) : Bool := decide (b.blocks * b.strips ≤ r.cells.length + r.lost.length)

/-- Changes a BEAM pipe's counters on a die. -/
def State.modBeamCount (s : State) (pipe die : Nat) (f : BeamCount → BeamCount) : State :=
  let l := upsert (fun c => c.pipe == pipe && c.die == die) { pipe := pipe, die := die } f s.data.beamCounts
  { s with data := { s.data with beamCounts := l } }

/-- The lane of a pipe's next frame in rotation over its TX lanes (R141, R205). -/
def State.nextLane (s : State) (pipe first count : Nat) : Nat × State :=
  let dealt := ((s.data.rotations.find? fun r => r.1 == pipe && r.2.1 == 0).map (·.2.2)).getD 0
  let rots := upsert (fun r => r.1 == pipe && r.2.1 == 0) (pipe, 0, 0) (fun r => (pipe, 0, r.2.2 + 1)) s.data.rotations
  (first + dealt % max count 1, { s with data := { s.data with rotations := rots } })

/-- A BEAMPART frame of the tick in work (R202). -/
def State.partFrame (s : State) (b : BeamCfg) (d : StripRef) (count : Bool) (width offset beam : Nat) (payload : List Byte) : Frame :=
  { tick := BitVec.ofNat 48 s.workTick, pipe := BitVec.ofNat 16 b.ownerPipe
    layout := BitVec.ofNat 16 (width - 1 + 64 * nat01 count + 256 * d.die)
    spec := BitVec.ofNat 64 (offset + 2 ^ 32 * beam + 2 ^ 48 * d.channel), payload := payload }

/-- Sends one BEAMPART frame of a partial pipe (R205, R220). -/
def State.sendPart (s : State) (b : BeamCfg) (d : StripRef) (f : Frame) : State :=
  let (lane, s1) := s.nextLane d.pipe b.laneFirst b.laneCount
  let s2 := if s1.txSends lane then s1.modBeamCount d.pipe d.die fun c => { c with tx := rcAdd 64 c.tx 1 } else s1
  s2.sendHaul lane 3 f

/-- A verified strip leaves the tile: into the owner's slot, or as BEAMPART frames, one for each grid cell (R191, R195, R203). -/
def State.stripOut (s : State) (e : PipeEntry) (d : StripRef) (ys : List (Int × Int)) : State :=
  let b := e.cfg.beamCfg
  (b.stripCells d.block d.strip).foldl (fun s (fs, fb) =>
    let w := b.cellWidth fb
    let vs := (List.range b.cellSamples).flatMap fun i => (List.range w).map fun j =>
      ys.getD (64 * (fs + i - 256 * d.strip) + (fb + j - 64 * d.block)) (0, 0)
    if b.partialPipe then
      s.sendPart b d (s.partFrame b d false w (d.mash * 2 ^ b.tLog2 + fs) fb (vs.flatMap fun v => leInt 4 v.1 ++ leInt 4 v.2))
    else
      s.addCell { pipe := d.pipe, die := finishDie (s.cfgAt s.workTick) e d.channel d.mash, slot := s.workSlot, channel := d.channel, mash := d.mash
                  cell := b.cellOf fs fb } vs) s

/-- The count frame of a partial pipe's beam mash (R204), sent when its last strip has left. -/
def State.sendCount (s : State) (b : BeamCfg) (d : StripRef) (r : ContribMash) : State :=
  s.sendPart b d (s.partFrame b d true 1 (d.mash * 2 ^ b.tLog2) 0
    (leBytes 4 r.tainted ++ leBytes 4 r.unsettled ++ leBytes 4 r.missing ++ leBytes 2 r.version ++ leBytes 2 0))

/-- WEIGHT_RAMP_DONE once the last mash of a ramp is formed on every die (R221). -/
def State.rampCheck (s : State) (e : PipeEntry) (d : StripRef) : State :=
  let b := e.cfg.beamCfg
  let w := s.beamWork d.pipe
  let last := s.data.contribs.filter fun x =>
    x.pipe == d.pipe && x.position == ownStrips && x.slot == s.workSlot && x.mash == b.m - 1
  if !w.rampDone && decide (w.rampTick + w.rampTicks ≤ s.workTick + 1) && d.mash == b.m - 1 && last.all (·.settled b) then
    (s.modBeam d.pipe fun w => { w with rampDone := true }).raise 0x0213 d.die
      (leBytes 4 (s.cfg.dataHandle d.pipe) ++ leBytes 2 (w.versionAt s.workTick) ++ leBytes 6 s.workTick)
  else s

/-- A strip is settled: entered in the own record; a partial pipe's last strip of a mash sends the count frame (R204). Log 102 [DEDUCED]. -/
def State.stripSettle (s : State) (e : PipeEntry) (d : StripRef) (written : Bool) : State :=
  let s1 := s.modContrib (StripRef.own d s.workSlot) fun r =>
    if written then { r with cells := r.cells ++ [StripRef.number d] } else { r with lost := r.lost ++ [StripRef.number d] }
  let r := (s1.contrib d.pipe ownStrips d.die s.workSlot d.channel d.mash).getD {}
  let s2 := if e.cfg.beamCfg.partialPipe && r.settled e.cfg.beamCfg then s1.sendCount e.cfg.beamCfg d r else s1
  s2.rampCheck e d

/-- A strip that the reserve cannot take is not written and not sent (R195, R221). -/
def State.stripLost (s : State) (e : PipeEntry) (d : StripRef) : State :=
  let s1 := s.modBeamCount d.pipe d.die fun c => { c with stripsLost := rcAdd 32 c.stripsLost 1 }
  let s2 :=
    if (s1.die d.die).stripLost then s1
    else (s1.modDie d.die fun w => { w with stripLost := true }).raise 0x0214 d.die
      (leBytes 4 (s.cfg.dataHandle d.pipe) ++ leBytes 1 d.die ++ leBytes 6 s.workTick)
  s2.stripSettle e d false

/-! ### The start of work on a tick (R59 step 6, R201, R209) -/

/-- TAINTED, UNSETTLED and MISSING input-samples of a die's set inputs over a beam mash (R204, R213). -/
def State.countMash (s : State) (e : PipeEntry) (pipe die ch mash : Nat) : Nat × Nat × Nat :=
  let b := e.cfg.beamCfg
  let t := 2 ^ b.tLog2
  let xs := (beamSet (s.cfgAt s.workTick) e die).flatMap fun v => (List.range t).map fun k =>
    s.turnAt die (b.turnPipe pipe) s.workTick v.input ch (mash * t + k)
  ((xs.filter fun x => (x.map (·.tainted)).getD false).length, (xs.filter fun x => (x.map (·.unsettled)).getD false).length,
   (xs.filter sampleMissing).length)

/-- The keys of the turn samples of a die's set inputs over a beam mash. -/
def State.mashKeys (s : State) (e : PipeEntry) (die ch mash : Nat) : List (List Nat) :=
  if !s.anyBad then []
  else (beamSet (s.cfgAt s.workTick) e die).flatMap fun v => (List.range (2 ^ e.cfg.beamCfg.tLog2)).map fun k =>
    [s.workTick % 2, v.input, ch, mash * 2 ^ e.cfg.beamCfg.tLog2 + k]

/-- Work on the tick opens for a BEAM pipe: a load due takes effect, and each beam mash that a die forms gets its record. -/
def State.beamOpen (s : State) (pipe : Nat) : State :=
  match s.pipeAt pipe s.workTick with
  | none => s
  | some e =>
    let b := e.cfg.beamCfg
    let t := s.workTick
    let s1 := match (s.beamWork pipe).pending with
      | some l => if l.tick ≤ t then s.startRamp pipe b.m l else s.stepRamp pipe
      | none => s.stepRamp pipe
    let s2 := { s1 with data := { s1.data with contribs := s1.data.contribs.filter fun x =>
      !(x.pipe == pipe && x.position == ownStrips && x.slot == s.workSlot) } }
    let version := (s2.beamWork pipe).versionAt t
    (List.range s.dies).foldl (fun s die => (List.range b.chCount).foldl (fun s l => (List.range b.m).foldl (fun s mash =>
      let ch := b.chFirst + l
      if formsOn (s.cfgAt t) e die ch mash then
        let (a, u, m) := s.countMash e pipe die ch mash
        (s.meetBad die (s.badItems (s.cfg.pipes.getD (b.turnPipe pipe) {}) die .turn (s.mashKeys e die ch mash))).modContrib { pipe := pipe, position := ownStrips, die := die, slot := s.workSlot, channel := ch, mash := mash } fun r =>
          { r with counted := true, tainted := a, unsettled := u, missing := m, version := version }
      else s) s) s) s2

/-! ### BEAMPART (R202 to R206) -/

/-- Verdicts of R206. -/
inductive PartVerdict where
  | malformed | unknown | late | early | duplicate | fresh
  deriving DecidableEq, Repr

/-- The layout, lengths and alignment of R202 to R204. -/
def partFormed (b : BeamCfg) (f : Frame) : Bool :=
  let l := f.layout.toNat
  let width := l % 64 + 1
  let off := f.spec.toNat % 2 ^ 32
  let beam := f.spec.toNat / 2 ^ 32 % 65536
  let t := 2 ^ b.tLog2
  decide (l / 128 % 2 = 0 ∧ l / 2048 = 0) &&
    if l.testBit 6 then
      decide (off % t = 0 ∧ off + t ≤ b.m * t ∧ beam = 0 ∧ width = 1 ∧ f.payload.length = 16) && field f.payload 14 2 == 0
    else
      decide (off % b.cellSamples = 0 ∧ off + b.cellSamples ≤ b.m * t ∧ beam % b.cellBeams = 0 ∧ f.payload.length = b.cellSamples * width * 8) &&
        (decide (b.beams < beam + width) || width == b.cellWidth beam)

/-- The verdict on a BEAMPART frame and the die that counts it (R206). The order is that of R142's verdicts (log 18 [DEDUCED]); EARLY while slot n mod 3
holds tick n - 3, which the pipe worked. -/
def State.partJudge (s : State) (die : Nat) (f : Frame) : PartVerdict × Nat × PipeEntry :=
  let tick := f.tick.toNat
  let pipe := f.pipe.toNat
  match s.pipeAt pipe tick with
  | none => (.unknown, die, {})
  | some e =>
    let b := e.cfg.beamCfg
    let count := f.layout.toNat.testBit 6
    let off := f.spec.toNat % 2 ^ 32
    let beam := f.spec.toNat / 2 ^ 32 % 65536
    let ch := f.spec.toNat / 2 ^ 48
    let from' := f.source.toNat % 1024
    let fromDie := f.layout.toNat / 256 % 8
    let mash := off / 2 ^ b.tLog2
    let target := if b.hasMash ch 0 then finishDie (s.cfgAt tick) e ch mash else die
    let known := e.contribs.any fun x => x.position == from' && x.die == fromDie
    if e.cfg.kind ≠ 3 ∨ b.partialPipe then (.unknown, die, e)
    else if !partFormed b f then (.malformed, target, e)
    else if !b.hasMash ch 0 || !known || (!count && decide (b.beams < beam + f.layout.toNat % 64 + 1)) then (.unknown, target, e)
    else
      let b0 := s.data.boundary
      let before := match b0 with
        | some n => decide (n < tick + 1)
        | none => true
      let r := s.contrib pipe from' fromDie (tick % 3) ch mash
      if (b0.map fun n => decide (tick + 3 ≤ n)).getD false then (.late, target, e)
      else if before && decide (3 ≤ tick) && (s.pipeAt pipe (tick - 3)).isSome then (.early, target, e)
      else if (if count then (r.map (·.counted)).getD false
          else (r.map fun x => (x.cells ++ x.spoilt).contains (b.cellOf (off % 2 ^ b.tLog2) beam)).getD false) then (.duplicate, target, e)
      else (.fresh, target, e)

/-- An accepted BEAMPART frame: the contributor's bit is set, and a value frame is added to the slot (R197, R203, R204, R206). -/
def State.partAdd (s : State) (e : PipeEntry) (die : Nat) (f : Frame) : State :=
  let b := e.cfg.beamCfg
  let tick := f.tick.toNat
  let pipe := f.pipe.toNat
  let off := f.spec.toNat % 2 ^ 32
  let beam := f.spec.toNat / 2 ^ 32 % 65536
  let ch := f.spec.toNat / 2 ^ 48
  let mash := off / 2 ^ b.tLog2
  let k : ContribMash := { pipe := pipe, position := f.source.toNat % 1024, die := f.layout.toNat / 256 % 8, slot := tick % 3, channel := ch, mash := mash }
  let s1 := s.modBeamCount pipe die fun c => { c with rx := rcAdd 64 c.rx 1 }
  if f.layout.toNat.testBit 6 then
    s1.modContrib k fun r => { r with counted := true, tainted := field f.payload 0 4, unsettled := field f.payload 4 4, missing := field f.payload 8 4
                                      version := field f.payload 12 2 }
  else
    let cell := b.cellOf (off % 2 ^ b.tLog2) beam
    let vs := (List.range (f.payload.length / 8)).map fun i => (fieldS f.payload (8 * i) 4, fieldS f.payload (8 * i + 4) 4)
    (s1.modContrib k fun r => { r with cells := r.cells ++ [cell] }).addCell
      { pipe := pipe, die := die, slot := tick % 3, channel := ch, mash := mash, cell := cell } vs

/-- BEAMPART: a whole BEAMPART frame arrives on an RX lane (R206, R264). -/
def execBeampart (lane : Nat) (f : Frame) (s : State) : Host.Outcome State Fault Refusal :=
  let (ok, s1) := s.receive lane 3 f
  let (v, d, e) := s1.partJudge (dieOfLane lane) f
  let p := f.pipe.toNat
  .next (if !ok || !s1.works then s1 else match v with
    | .malformed => s1.modBeamCount p d fun c => { c with malformed := rcAdd 32 c.malformed 1 }
    | .unknown => s1.modBeamCount p d fun c => { c with unknown := rcAdd 32 c.unknown 1 }
    | .late => s1.modBeamCount p d fun c => { c with late := rcAdd 32 c.late 1 }
    | .early => s1.modBeamCount p d fun c => { c with early := rcAdd 32 c.early 1 }
    | .duplicate => s1.modBeamCount p d fun c => { c with duplicate := rcAdd 32 c.duplicate 1 }
    | .fresh => (s1.partAdd e d f).frameOk lane)

/-! ### Finishing (R208 to R213) -/

/-- Cells of a record that can be relied on: accepted, with a bit that can be read (R412). -/
def ContribMash.sure (r : ContribMash) : List Nat := r.cells.filter fun k => !r.spoilt.contains k

/-- Grid cells that a settled or open own record lacks: those of strips not written (R209). -/
def ContribMash.cellsShort (r : ContribMash) (b : BeamCfg) : Nat :=
  ((List.range b.blocks).flatMap fun k => (List.range b.strips).map fun t =>
    if r.sure.contains (k * 2 ^ 16 + t) then 0 else (b.stripCells k t).length).sum

/-- The own records of a beam mash, one for each die that forms it. -/
def State.ownRecords (s : State) (e : PipeEntry) (pipe tick ch mash : Nat) : List ContribMash :=
  let slot := tick % 3
  ((List.range s.dies).filter fun d => formsOn (s.cfgAt tick) e d ch mash).map fun d =>
    (s.contrib pipe ownStrips d slot ch mash).getD { pipe := pipe, position := ownStrips, die := d, slot := slot, channel := ch, mash := mash }

/-- A declared contributor has delivered everything (R208). -/
def contribDone (b : BeamCfg) (r : Option ContribMash) : Bool :=
  match r with
  | some x => x.counted && x.sure.length == b.cellCount
  | none => false

/-- A beam mash is complete (R208). -/
def State.mashComplete (s : State) (e : PipeEntry) (pipe tick ch mash : Nat) : Bool :=
  (s.ownRecords e pipe tick ch mash).all (fun r => r.cellsShort e.cfg.beamCfg == 0) &&
    e.contribs.all fun c => contribDone e.cfg.beamCfg (s.contrib pipe c.position c.die (tick % 3) ch mash)

/-- Reduction of one component to a voltage: value, and whether it was limited (R211). -/
def voltOut (b : BeamCfg) (y : Int) : Int × Bool :=
  let l : Int := if b.voltMode = 2 then 32767 else 127
  let v := rndShift y b.voltShift
  (clampInt (-l) l v, decide (v < -l ∨ l < v))

/-- One run of D samples reduced to power: value, and limits counted (R212). -/
def detOut (b : BeamCfg) (ys : List (Int × Int)) : Nat × Nat :=
  let lim (y : Int) : Int × Nat := let v := rndShift y b.detShift; (clampInt (-32767) 32767 v, nat01 (decide (v < -32767 ∨ 32767 < v)))
  let parts := ys.map fun y => (lim y.1, lim y.2)
  let sum := (parts.map fun p => p.1.1 * p.1.1 + p.2.1 * p.2.1).sum
  let out := (rndShift sum b.detPost).toNat
  let clips := (parts.map fun p => p.1.2 + p.2.2).sum
  if 2 ^ 32 ≤ out then (2 ^ 32 - 1, clips + 1) else (out, clips)

/-- The sum of a beam at a sample of the mash, as the finisher reads it: zero where the cell is fresh or the value's word cannot be read (R197, R410). -/
def State.beamValue (s : State) (e : PipeEntry) (pipe die slot ch mash : Nat) (sample beam : Nat) : Int × Int :=
  let b := e.cfg.beamCfg
  let cell := b.cellOf sample beam
  let place := b.cellPlace sample beam
  if s.anyBad && s.itemBad e die .partialArea [ch, slot, mash, cell, place] then (0, 0)
  else match s.data.cells.find? fun x => x.pipe == pipe && x.die == die && x.slot == slot && x.channel == ch && x.mash == mash && x.cell == cell with
    | none => (0, 0)
    | some x => x.values.getD place (0, 0)

/-- BEAMPART_MISSING for a contributor (R209, R221). -/
def State.partMissing (s : State) (pipe die position fromDie tick : Nat) : State :=
  s.raise 0x0211 die (leBytes 4 (s.cfg.dataHandle pipe) ++ leBytes 1 die ++ leBytes 2 position ++ leBytes 1 fromDie ++ leBytes 6 tick)

/-- WEIGHT_MIXED once per pipe per integration (R210, R221). -/
def State.noteMixed (s : State) (e : PipeEntry) (pipe die tick : Nat) (r : ContribMash) : State :=
  let first := e.startTick + e.integration tick * max e.cfg.k 1
  if (s.beamWork pipe).mixedIn.contains first then s
  else (s.modBeam pipe fun w => { w with mixedIn := (first :: w.mixedIn).take 4 }).raise 0x0212 die
    (leBytes 4 (s.cfg.dataHandle pipe) ++ leBytes 6 tick ++ leBytes 2 r.position ++ leBytes 1 r.die ++ leBytes 2 r.version)

/-- The finisher reads a beam mash and reduces it (R209 to R213). -/
def State.finishMash (s : State) (e : PipeEntry) (pipe tick ch mash : Nat) : State :=
  let b := e.cfg.beamCfg
  let slot := tick % 3
  let die := finishDie (s.cfgAt tick) e ch mash
  let t := 2 ^ b.tLog2
  let own := s.ownRecords e pipe tick ch mash
  let decl := e.contribs.map fun c => (c, s.contrib pipe c.position c.die slot ch mash)
  let version := (s.beamWork pipe).versionAt tick
  let ownShort := own.any fun r => r.cellsShort b != 0
  let short := decl.filter fun x => !contribDone b x.2
  let absent := (short.map fun x => (x.1.position, x.1.die)) ++ (if ownShort then [(ownStrips, die)] else [])
  let keys := if s.anyBad then (List.range t).flatMap fun k => (List.range b.beams).map fun u => [ch, slot, mash, b.cellOf k u, b.cellPlace k u] else []
  let bad := dedup ((keys.filter (s.itemBad e die .partialArea)).map fun k => k.getD 3 0)
  let cellsMissing := (own.map fun r => r.cellsShort b).sum + (decl.map fun x => b.cellCount - ((x.2.map (·.sure.length)).getD 0)).sum + bad.length
  let counted := own ++ decl.filterMap fun x => x.2.filter (·.counted)
  let uncounted := (decl.map fun x => if (x.2.map (·.counted)).getD false then 0 else x.1.inputs * t).sum
  let mixed := (decl.filterMap (·.2)).find? fun r => r.counted && r.version != version
  let sat := (own ++ decl.filterMap (·.2)).any (fun r => !r.spoilt.isEmpty) || s.data.cells.any fun x =>
    x.pipe == pipe && x.die == die && x.slot == slot && x.channel == ch && x.mash == mash && !x.marks.isEmpty
  let y (k u : Nat) : Int × Int := s.beamValue e pipe die slot ch mash k u
  let volts := if b.voltage then (List.range t).map fun k => (List.range b.beams).map fun u => (voltOut b (y k u).1, voltOut b (y k u).2) else []
  let dets := if b.detected then
      (List.range (t / 2 ^ b.detLog2)).map fun r => (List.range b.beams).map fun u =>
        detOut b ((List.range (2 ^ b.detLog2)).map fun k => y (r * 2 ^ b.detLog2 + k) u)
    else []
  let voltClip := (List.range b.beams).map fun u => (volts.map fun row => match row[u]? with
    | some v => nat01 v.1.2 + nat01 v.2.2
    | none => 0).sum
  let detClip := (List.range b.beams).map fun u => (dets.map fun row => ((row[u]?).map (·.2)).getD 0).sum
  let m : BeamMash :=
    { pipe := pipe, die := die, tick := tick, channel := ch, mash := mash, tainted := (counted.map (·.tainted)).sum
      unsettled := (counted.map (·.unsettled)).sum, missing := (counted.map (·.missing)).sum + uncounted, contribMissing := absent.length
      cellsMissing := cellsMissing, version := version, weightMixed := mixed.isSome, saturated := sat, voltClip := voltClip, detClip := detClip
      volts := volts.flatMap fun row => row.map fun v => (v.1.1, v.2.1), dets := dets.flatMap fun row => row.map (·.1) }
  let run := (s.beamWork pipe).missingRun
  let s1 := State.meetBad { s with data := { s.data with finished := s.data.finished ++ [m] } } die (s.badItems e die .partialArea keys)
  let s2 := s1.modBeamCount pipe die fun c =>
    { c with contribMissing := rcAdd 32 c.contribMissing absent.length, voltClip := rcAdd 64 c.voltClip voltClip.sum
             detClip := rcAdd 64 c.detClip detClip.sum, weightMixed := rcAdd 32 c.weightMixed (nat01 mixed.isSome) }
  let s3 := (absent.filter fun a => !run.contains a).foldl (fun s a =>
    s.partMissing pipe die (if a.1 = ownStrips then s.cfg.position else a.1) a.2 tick) s2
  let s4 := s3.modBeam pipe fun w => { w with missingRun := absent }
  match mixed with
  | some r => s4.noteMixed e pipe die tick r
  | none => s4

/-- The owner BEAM entry whose mash may be finished at a tick: not finished yet, and complete or closed by the deadline (R208). -/
def State.finishable (s : State) (pipe tick ch mash : Nat) : Option PipeEntry :=
  (s.pipeAt pipe tick).bind fun e =>
    let b := e.cfg.beamCfg
    let n := s.data.boundary.getD 0
    let lag := if b.contribCount = 0 then 3 else 4
    if s.works ∧ e.cfg.kind = 3 ∧ !b.partialPipe ∧ b.hasMash ch mash ∧ tick + 1 ≤ n ∧ n < tick + lag ∧
        !(s.data.finished.any fun x => x.pipe == pipe && x.tick == tick && x.channel == ch && x.mash == mash) ∧
        (s.mashComplete e pipe tick ch mash ∨ tick + 3 ≤ n) then some e else none

/-- BEAM_MASH_FINISH: the finisher reads a complete or closed beam mash (R211, R212). -/
def execBeamMashFinish (pipe die channel tick mash : Nat) (s : State) : Host.Outcome State Fault Refusal :=
  .next (match s.finishable pipe tick channel mash with
    | some e => if finishDie (s.cfgAt tick) e channel mash = die then s.finishMash e pipe tick channel mash else s
    | none => s)

/-- Every beam mash of a tick is finished, in channel and mash order (R214). -/
def State.finishTick (s : State) (e : PipeEntry) (pipe tick : Nat) : State :=
  let b := e.cfg.beamCfg
  (List.range b.chCount).foldl (fun s l => (List.range b.m).foldl (fun s mash =>
    if s.data.finished.any fun x => x.pipe == pipe && x.tick == tick && x.channel == b.chFirst + l && x.mash == mash then s
    else s.finishMash e pipe tick (b.chFirst + l) mash) s) s

/-- Slot n mod 3 of a pipe is released, its fresh bits set (R197, R214). -/
def State.freeSlot (s : State) (pipe tick : Nat) : State :=
  { s with data := { s.data with
      cells := s.data.cells.filter fun x => !(x.pipe == pipe && x.slot == tick % 3)
      contribs := s.data.contribs.filter fun x => !(x.pipe == pipe && x.slot == tick % 3)
      finished := s.data.finished.filter fun x => !(x.pipe == pipe && x.tick == tick) } }

/-! ### WEIGHT_LOAD (R200, R219) -/

/-- The weights that a table names: channel, beam and set index in the order of R219. -/
def loadTargets (args mem : List Byte) : List Weight :=
  let nb := field args 26 2
  let nc := field args 30 2
  let nv := field args 36 4
  (List.range nc).flatMap fun c => (List.range nb).flatMap fun u => (List.range nv).map fun v =>
    let o := 2 * ((c * nb + u) * nv + v)
    { channel := field args 28 2 + c, beam := field args 24 2 + u, index := field args 32 4 + v, re := fieldS mem o 1, im := fieldS mem (o + 1) 1 }

/-- A load waits for its tick; one for the same tick replaces the named targets (R200). -/
def applyWeights (args mem : List Byte) (s : State) : State :=
  let i := field args 0 2
  (s.healWeights i (loadTargets args mem)).modBeam i fun w =>
    let old := match w.pending with
      | some l => if l.tick = field args 4 8 then l.targets else []
      | none => []
    let new := loadTargets args mem
    let kept := old.filter fun x => !new.any fun y => x.channel == y.channel && x.beam == y.beam && x.index == y.index
    { w with pending := some { tick := field args 4 8, version := field args 12 2, rampTicks := field args 14 2, targets := kept ++ new } }

/-- The bytes of the table. -/
def tableBytes (args : List Byte) : Nat := 2 * field args 26 2 * field args 30 2 * field args 36 4

/-- WEIGHT_LOAD (R199, R200, R219). A table outside package memory, or with a component of -128, is found wrong at SRC_ADDR (log 13 [DESIGN CHOICE]). -/
def cmdWeightLoad : Cmd := fun o args s =>
  let h := field args 0 4
  let t := field args 4 8
  let a := field args 16 8
  let staged := s.isStagedPipe o h
  let inStaging := s.lease.staged.any fun x => x.opcode == 0x0312 && field x.args 0 4 == h && field x.args 4 8 != t
  let other := match (s.beamWork (bits h 0 16)).pending with
    | some l => l.tick != t
    | none => false
  tableCommand 0x0312 3
    [tickField args 4, inRange args 14 2 1 256, bad 16 (tableBytes args != 0 && !rangeIn s.inMemory a (tableBytes args))]
    (fun _ => [refusedIf (if staged then inStaging else other)])
    (fun s e =>
      let b := e.final.cfg.beamCfg
      [ bad 16 ((s.pkgRead a (tableBytes args)).1.any (· == 0x80)),
        bad 24 (decide (b.beams < field args 24 2)), bad 26 (decide (b.beams < field args 24 2 + field args 26 2)),
        bad 28 (decide (b.chCount < field args 28 2)), bad 30 (decide (b.chCount < field args 28 2 + field args 30 2)),
        bad 32 (decide (b.inputCount < field args 32 4)), bad 36 (decide (b.inputCount < field args 32 4 + field args 36 4)) ])
    (fun s => [s.late o h t]) (fun s => let (table, s1) := s.pkgRead a (tableBytes args); applyWeights args table s1) o args s

/-- WEIGHT_LOAD (R200). -/
def execWeightLoad (o : Origin) (args : List Byte) (s : State) : Host.Outcome State Fault Refusal :=
  .next (s.row o 0x0312 args (fixedLen 40) cmdWeightLoad)

/-! ### BEAM_STATS (R220) -/

/-- A BEAM pipe's counters on a die. -/
def State.beamCount (s : State) (pipe die : Nat) : BeamCount :=
  (s.data.beamCounts.find? fun c => c.pipe == pipe && c.die == die).getD { pipe := pipe, die := die }

/-- The reply of BEAM_STATS (R220). RAMP_LEFT counts the ticks of the ramp from the one in work (log 28 [DEDUCED]). -/
def beamReply (c : BeamCount) (w : BeamWork) (t : Nat) : List Byte :=
  leBytes 8 c.rx ++ leBytes 8 c.tx ++ leBytes 4 c.malformed ++ leBytes 4 c.unknown ++ leBytes 4 c.duplicate ++ leBytes 4 c.late ++ leBytes 4 c.early
    ++ leBytes 4 c.contribMissing ++ leBytes 4 c.stripFaults ++ leBytes 4 c.stripsLost ++ leBytes 8 c.voltClip ++ leBytes 8 c.detClip
    ++ leBytes 4 c.weightMixed ++ leBytes 2 (w.versionAt t) ++ leBytes 2 (w.rampTick + w.rampTicks - t)

/-- BEAM_STATS (R220). Log 28 [DEDUCED]. -/
def cmdBeamStats : Cmd := fun o args s =>
  let h := field args 0 4
  let i := field args 0 2
  let d := field args 4 1
  checked (s.pipeChecks o args 0 [3] ++ [bad 4 (decide (s.dies ≤ d))] ++ reserved args 5 3 ++ [s.stagedRead o h]) s fun s =>
    .done .ok 0 (beamReply (s.beamCount i d) (s.beamWork i) s.workTick) (s.modBeamCount i d fun _ => { pipe := i, die := d })

/-- BEAM_STATS (R220). -/
def execBeamStats (o : Origin) (args : List Byte) (s : State) : Host.Outcome State Fault Refusal :=
  .next (s.row o 0x0313 args (fixedLen 8) cmdBeamStats)

end Sys2Proof.Machine
end

