-- ==== Sys2Proof/Machine/Sparing.lean ====
section
/-! DEFINITION. Lane sparing (R269 to R275), CONTROL frames and HELLO (R267, R268), and the lane commands LANE_SPARE, LANE_CONTROL_IN, LANE_STATUS,
LANE_TEST, LANE_EYE (R282 to R286). -/

namespace Sys2Proof.Machine

/-! ### Sending CONTROL messages (R267, R271) -/

/-- The spare peer entry of a die (R281). -/
def State.peer (s : State) (die : Nat) : SparePeerCfg := s.cfg.peers.getD die {}

/-- The 16-byte CONTROL payload (R268). -/
def controlBody (txLane txSpare rxLane rxSpare code atTick : Nat) : List Byte :=
  leBytes 1 txLane ++ leBytes 1 txSpare ++ leBytes 1 rxLane ++ leBytes 1 rxSpare ++ leBytes 1 code ++ leBytes 1 0 ++ leBytes 6 atTick ++ leBytes 4 0

/-- A CONTROL frame (R262, R267). -/
def controlFrame (tick msg : Nat) (dest transaction : Nat) (body : List Byte) : Frame :=
  { tick := BitVec.ofNat 48 tick, layout := BitVec.ofNat 16 msg, spec := BitVec.ofNat 64 (dest + 2 ^ 32 * transaction), payload := body }

/-- Sends a message for die `die`: in band on its RETURN_LANE, or out of band as LANE_CONTROL_OUT when there is none or the package is a STANDBY (R271,
R283). -/
def State.sendControl (s : State) (die msg : Nat) (dest : Half) (transaction : Word) (body : List Byte) : State :=
  let p := s.peer die
  if p.returnLane = 0xFF ∨ s.twin.role = .standby then
    s.raise 0x0307 die (leBytes 1 msg ++ leBytes 1 0 ++ leBytes 2 dest.toNat ++ leBytes 4 transaction.toNat ++ body)
  else s.sendHaul p.returnLane 4 (controlFrame s.eventTick msg dest.toNat transaction.toNat body)

/-! ### The receiver's side (R270 to R274) -/

/-- A message of the receiver of die d about its present sparing. -/
def State.sendAsReceiver (s : State) (d msg code atTick : Nat) : State :=
  let x := s.spareRx d
  s.sendControl d msg (s.peer d).peer x.transaction (controlBody x.txLane x.txSpare x.lane (128 + d) code atTick)

/-- Within ±64 ns of the reference (R261). -/
def RxLane.inTolerance (x : RxLane) : Bool := decide (x.skewPs.natAbs ≤ 64000)

/-- The spare of a die may take a request: none runs, or it was released (R274). -/
def SpareRx.isFree (x : SpareRx) : Bool := x.step == .idle || x.step == .released

/-- Starts sparing RX lane `lane` for a reason: SPARE_REQUEST is sent (R270, R272 step 1). While the die's spare is in use the request goes out all the same, and
its sender's answer decides (R274). Log 99 [DEDUCED]. -/
def State.startSpare (s : State) (lane reason : Nat) : State :=
  let d := dieOfLane lane
  let tx := (s.rx lane).remoteLane
  let p := s.peer d
  let t := s.lanes.nextTransaction
  let s1 := { s with lanes := { s.lanes with nextTransaction := t + 1 } }
  let s2 := s1.modSpareRx d fun y =>
    if y.isFree then { step := .requested false, lane := lane, txLane := tx, txSpare := p.peerSpare, transaction := t, reason := reason, extra := y.extra }
    else { y with extra := y.extra ++ [(lane, tx, t)] }
  s2.sendControl d 0x10 p.peer t (controlBody tx p.peerSpare lane (128 + d) reason 0)

/-- LANE_SPARE_FAILED: lane, REFUSAL or 0 (R287). -/
def State.spareFailed (s : State) (lane refusal : Nat) : State := s.raise 0x0306 (dieOfLane lane) (leBytes 1 lane ++ leBytes 1 refusal)

/-- LANE_SPARE with ACTION 2 completes when SPARE_RELEASE of its lane has been sent (R282). Log 99 [DEDUCED]. -/
def State.releaseSent (s : State) (lane : Nat) : State :=
  let (done, rest) := s.mail.running.partition fun r => r.waits == .spareRelease lane
  done.foldl (fun s r => s.complete r.origin.mailbox .ok 0 []) { s with mail := { s.mail with running := rest } }

/-- SPARE_RELEASE of the present sparing of die d, after which the spare is free (R272, R273). -/
def State.releaseSpare (s : State) (d : Nat) : State :=
  let lane := (s.spareRx d).lane
  ((s.sendAsReceiver d 0x13 0 s.eventTick).modSpareRx d fun y => { y with step := .released }).releaseSent lane

/-- The lane returns from its spare (R273 step 2). -/
def State.returnLane (s : State) (d : Nat) (failed : Bool) : State :=
  let x := s.spareRx d
  let s1 := (s.modRx x.lane fun y => { y with carried := false }).releaseSpare d
  if failed then s1.spareFailed x.lane 0 else s1.raise 0x0305 d (leBytes 1 x.lane ++ leBytes 6 s.eventTick)

/-- The spare lost lock while it carried a lane: back at once if that lane is locked and within tolerance, else both are lost (R274). -/
def State.spareLost (s : State) (d : Nat) : State :=
  let x := s.spareRx d
  let y := s.rx x.lane
  if x.carries && y.lock == .locked && y.inTolerance && !y.failed then s.returnLane d true else s

/-- SPARE_CONFIRMED: the spare is locked, its LANE is TX_LANE, it lies within ±64 ns, and FIRST_BOUNDARY agrees on both lanes for two periods (R272
step 3). -/
def execSpareConfirmed (die : Nat) (s : State) : Host.Outcome State Fault Refusal :=
  let x := s.spareRx die
  let sp := s.rx (128 + die)
  let l := s.rx x.lane
  .next (match x.step with
    | .requested _ =>
      if sp.lock = .locked ∧ sp.remoteLane = x.txLane ∧ sp.inTolerance ∧ sp.boundaries.length = 2 ∧ sp.boundaries = l.boundaries then
        s.modSpareRx die fun y => { y with step := .confirmed }
      else s
    | _ => s)

/-- A carried lane may return: it is locked and in tolerance, and the spare, whose skew is against that lane, lies within ±64 ns of it (R260, R261, R273). Log 22 [DEDUCED]. -/
def State.mayReturn (s : State) (x : SpareRx) : Bool :=
  (s.rx x.lane).lock == .locked && (s.rx x.lane).inTolerance && (s.rx (128 + dieOfLane x.lane)).inTolerance && !(s.rx x.lane).failed

/-- A carried lane is due to return: it was asked for, or the lane had lost lock, and it may (R273, log 22 [DEDUCED]). -/
def State.returnDue (s : State) (x : SpareRx) : Bool := (x.releaseAsked || x.lost) && s.mayReturn x

/-- LANE_RESTORE_SWITCH: the switch back at a comma after the boundary (R273). Log 22 [DEDUCED]. -/
def execLaneRestoreSwitch (die : Nat) (s : State) : Host.Outcome State Fault Refusal :=
  let x := s.spareRx die
  .next (if x.step = .returning ∧ s.mayReturn x then s.returnLane die false else s)

/-- The spare for a kiln pass of a lane was refused, or its peer does not answer: the lane stays due (R429). Log 69 [DEDUCED]. -/
def State.kilnRefused (s : State) (x : SpareRx) : State :=
  if x.reason = 2 then
    { s with health := { s.health with kiln := updateAll (fun k => k.element.kind == 1 && k.element.index == x.lane) (fun k => { k with refused := true }) s.health.kiln } }
  else s

/-- SPARE_TIMEOUT: the handshake is given up (R272); so is a request sent while the spare was in use, whose sender never answered (R274). Log 99 [DEDUCED]. -/
def execSpareTimeout (die : Nat) (s : State) : Host.Outcome State Fault Refusal :=
  let x := s.spareRx die
  .next (match x.step, x.extra with
    | .requested _, _ => ((s.spareFailed x.lane 0).kilnRefused x).releaseSpare die
    | _, (lane, tx, t) :: rest =>
      let s1 := (s.modSpareRx die fun y => { y with extra := rest }).spareFailed lane 0
      if lane = x.lane then s1 else s1.sendControl die 0x13 (s.peer die).peer t (controlBody tx (s.peer die).peerSpare lane (128 + die) 0 s.eventTick)
    | _, [] => s)

/-- An RX lane asks for its spare at a tick boundary: SPARE_AUTO after two bad ticks (R270), or a failed lane with a role whose spare is wired (R428). A lane out of
tolerance takes no part in sparing (R261), and one that is already being spared asks no more. Log 22 [DEDUCED]. -/
def State.wantsSpare (s : State) (lane : Nat) : Bool :=
  let y := s.rx lane
  let x := s.spareRx (dieOfLane lane)
  ((y.badNow && y.badLast && (s.cfg.rxCfg.getD lane {}).spareAuto) ||
      (y.failed && y.role != .off && decide (128 ≤ (s.peer (dieOfLane lane)).peerSpare))) &&
    y.inTolerance && !(x.lane == lane && !x.isFree) && !x.extra.any (·.1 == lane)

/-- The sparing steps of a die at tick boundary `n`, step 2 of R59: lanes that ask for their spare (R270), a confirmed spare (R272), a lane due to return (R273).
Log 22 [DEDUCED]. -/
def State.sparingBoundary (s : State) (n : Nat) (d : Nat) : State :=
  let x := s.spareRx d
  let s1 := if x.step = .confirmed then s.modSpareRx d fun y => { y with step := .switching, atTick := n }
    else if x.step = .carrying ∧ s.returnDue x then s.modSpareRx d fun y => { y with step := .returning, atTick := n }
    else s
  let wants := ((List.range 16).map fun k => 16 * d + k).filter s.wantsSpare
  (List.range 16).foldl (fun s k => s.modRx (16 * d + k) fun y => { y with badLast := y.badNow, badNow := false })
    (wants.foldl (fun s l => s.startSpare l 1) s1)

/-! ### The sender's side (R272 to R274) -/

/-- Sparing at the sender of die e changes. -/
def State.modSpareTx (s : State) (e : Nat) (f : SpareTx → SpareTx) : State :=
  { s with lanes := { s.lanes with spareTx := s.lanes.spareTx.modify e f } }

/-- The sender's answer to a requester. -/
def State.answer (s : State) (e msg txLane code : Nat) (r : Half × Word × Nat × Nat × Nat) : State :=
  s.sendControl e msg r.1 r.2.1 (controlBody txLane (128 + e) r.2.2.1 r.2.2.2.1 code 0)

/-- A requester as its message names it: SOURCE, TRANSACTION, RX_LANE, RX_SPARE, arrival lane. -/
def requester (src : Half) (transaction : Word) (body : List Byte) (lane : Nat) : Half × Word × Nat × Nat × Nat :=
  (src, transaction, field body 2 1, field body 3 1, lane)

/-- SPARE_REQUEST at a sender (R272 step 2, R274). Log 98 [DEDUCED]. -/
def State.spareRequestIn (s : State) (src : Half) (transaction : Word) (body : List Byte) (lane : Nat) : State :=
  let tx := field body 0 1
  let e := dieOfLane tx
  let r := requester src transaction body lane
  let x := s.spareTx e
  if 128 ≤ tx ∨ !s.hasLane tx then s.answer (min e 7) 0x1F tx 2 r
  else if field body 1 1 ≠ 128 + e then s.answer e 0x1F tx 3 r
  else match x.lane with
    | none => s.modSpareTx e fun y => { y with lane := some tx, copying := false, stopping := false, holders := [(src, transaction)], toAnswer := [r] }
    | some l =>
      if l ≠ tx then s.answer e 0x1F tx 1 r
      else
        let s1 := s.modSpareTx e fun y => { y with holders := (y.holders.filter (·.1 != src)) ++ [(src, transaction)], stopping := false }
        if x.copying then s1.answer e 0x11 tx 0 r else s1.modSpareTx e fun y => { y with toAnswer := y.toAnswer ++ [r] }

/-- SPARE_COPY_START: at its next comma boundary the sender copies the lane onto its spare and replies (R272 step 2). -/
def execSpareCopyStart (die : Nat) (s : State) : Host.Outcome State Fault Refusal :=
  let x := s.spareTx die
  .next (match x.lane with
    | some l =>
      if x.copying then s
      else x.toAnswer.foldl (fun s r => s.answer die 0x11 l 0 r) (s.modSpareTx die fun y => { y with copying := true, toAnswer := [] })
    | none => s)

/-- SPARE_RELEASE at a sender: the copy stops when every requester has released (R273, R274). Log 98 [DEDUCED]. -/
def State.spareReleaseIn (s : State) (src : Half) (transaction : Word) (body : List Byte) (lane : Nat) : State :=
  let tx := field body 0 1
  let e := dieOfLane tx
  let x := s.spareTx e
  if x.lane ≠ some tx then s
  else
    let left := x.holders.filter (·.1 != src)
    let stops := x.toStop ++ [requester src transaction body lane]
    if left.isEmpty ∧ !x.copying then stops.foldl (fun s r => s.answer e 0x14 tx 0 r) (s.modSpareTx e fun _ => {})
    else s.modSpareTx e fun y => { y with holders := left, stopping := left.isEmpty, toStop := stops, toAnswer := y.toAnswer.filter (·.1 != src) }

/-- A requester has detached: it holds no copy any more (R274, R351). Log 98 [DEDUCED]. -/
def State.dropRequester (s : State) (src : Half) : State :=
  { s with lanes := { s.lanes with spareTx := s.lanes.spareTx.map fun y =>
      let left := y.holders.filter (·.1 != src)
      if left.length = y.holders.length then y
      else if left.isEmpty && !y.copying then {}
      else { y with holders := left, stopping := y.stopping || left.isEmpty, toAnswer := y.toAnswer.filter (·.1 != src), toStop := y.toStop.filter (·.1 != src) } } }

/-- SPARE_COPY_STOP: at its next comma boundary the sender stops the copy and replies SPARE_STOPPED (R273 step 3). -/
def execSpareCopyStop (die : Nat) (s : State) : Host.Outcome State Fault Refusal :=
  let x := s.spareTx die
  .next (match x.lane with
    | some l => if x.stopping then x.toStop.foldl (fun s r => s.answer die 0x14 l 0 r) (s.modSpareTx die fun _ => {}) else s
    | none => s)

/-- A transmitter takes its kiln pass in the window that SPARE_SWITCHED opens: a lane in role HAUL, once per copy (R430). -/
def State.windowPass (s : State) (tx : Nat) : Bool :=
  decide (tx < 128) && (s.tx tx).role == .haul && !(s.spareTx (dieOfLane tx)).passed && !(s.kilnRecord { kind := 2, index := tx }).inPass

/-- SPARE_SWITCHED at a sender: the requester reads the spare, which confirms the copy (R274) and opens the transmitter's kiln window, in which its pass begins
(R272 step 4, R430). -/
def State.spareSwitchedIn (s : State) (_src : Half) (_transaction : Word) (body : List Byte) : State :=
  let tx := field body 0 1
  let y := s.spareTx (dieOfLane tx)
  if y.lane = some tx ∧ y.copying then
    let begins := s.windowPass tx
    let s1 := s.modSpareTx (dieOfLane tx) fun y => { y with confirmed := true, window := true, passed := y.passed || begins }
    if begins then (s1.modKiln { kind := 2, index := tx } fun k => { k with due := true, inPass := true }).modTx tx fun x => { x with inPass := true } else s1
  else s

/-- The receiving die whose sparing has this TRANSACTION. -/
def State.spareOf (s : State) (transaction : Word) (body : List Byte) : Option Nat :=
  (List.range s.dies).find? fun d => (s.spareRx d).transaction == transaction && (s.spareRx d).lane == field body 2 1 && (s.spareRx d).step != .idle

/-- A request of die d that was sent while the spare was in use, by its TRANSACTION (R274). Log 99 [DEDUCED]. -/
def State.extraOf (s : State) (transaction : Word) : Option (Nat × Nat) :=
  (List.range s.dies).findSome? fun d => ((s.spareRx d).extra.find? (·.2.2 == transaction)).map fun e => (d, e.1)

/-- An answer to a request sent while the spare was in use: the request waits no more. -/
def State.dropExtra (s : State) (d : Nat) (transaction : Word) : State :=
  s.modSpareRx d fun y => { y with extra := y.extra.filter (·.2.2 != transaction) }

/-- SPARE_DUPLICATING at a receiver; after confirmation it changes nothing (R272). -/
def State.spareDuplicatingIn (s : State) (transaction : Word) (body : List Byte) : State :=
  match s.extraOf transaction, s.spareOf transaction body with
  | some (d, _), _ => s.dropExtra d transaction
  | none, some d => s.modSpareRx d fun y => match y.step with
    | .requested _ => { y with step := .requested true }
    | _ => y
  | none, none => s

/-- SPARE_STOPPED at a receiver: the spare is free again (R273). -/
def State.spareStoppedIn (s : State) (transaction : Word) (body : List Byte) : State :=
  match s.spareOf transaction body with
  | some d => s.modSpareRx d fun y => if y.step = .released then { y with step := .idle } else y
  | none => s

/-- SPARE_REFUSED at a receiver: LANE_SPARE_FAILED with the refusal (R274, R287). -/
def State.spareRefusedIn (s : State) (transaction : Word) (body : List Byte) : State :=
  match s.extraOf transaction, s.spareOf transaction body with
  | some (d, lane), _ => (s.dropExtra d transaction).spareFailed lane (field body 4 1)
  | none, some d => match (s.spareRx d).step with
    | .requested _ =>
      let s1 := ((s.modSpareRx d fun y => { y with step := .idle }).spareFailed (s.spareRx d).lane (field body 4 1)).releaseSent (s.spareRx d).lane
      if field body 4 1 = 1 then s1 else s1.kilnRefused (s.spareRx d)
    | _ => s
  | none, none => s

/-- A sparing message, in band or out of band (R271, R283). -/
def State.sparingIn (s : State) (msg : Nat) (src : Half) (transaction : Word) (body : List Byte) (lane : Nat) : State :=
  match msg with
  | 0x10 => s.spareRequestIn src transaction body lane
  | 0x11 => s.spareDuplicatingIn transaction body
  | 0x12 => s.spareSwitchedIn src transaction body
  | 0x13 => s.spareReleaseIn src transaction body lane
  | 0x14 => s.spareStoppedIn transaction body
  | 0x1F => s.spareRefusedIn transaction body
  | _ => s

/-! ### CONTROL frames received (R264, R267, R268) -/

/-- DEST addresses this package: its position, and its twin bit or BOTH (R267). -/
def State.addressed (s : State) (dest : Nat) : Bool :=
  dest % 1024 == s.cfg.position && (dest.testBit 11 || dest.testBit 10 == s.twinB)

/-- A CONTROL frame on a haul lane, carrying MSG `msg`: checks of R264, then PIPE, PAYLOAD_LEN and MSG, then DEST (R267, R268). A frame not addressed to
this package is discarded uncounted. -/
def State.controlFrameIn (s : State) (msg lane : Nat) (f : Frame) (act : State → State) : State :=
  let (ok, s1) := s.receive lane 4 f
  if !ok then s1
  else if f.pipe ≠ 0 ∨ f.payload.length ≠ 16 ∨ f.layout.toNat % 256 ≠ msg then
    s1.modRx lane fun x => { x with headerMalformed := rcAdd 32 x.headerMalformed 1 }
  else if msg ≠ 0x01 ∧ !s.addressed (f.spec.toNat % 65536) then s1
  else act (s1.frameOk lane)

/-- TRANSACTION of a CONTROL frame (R267). -/
def transactionOf (f : Frame) : Word := BitVec.ofNat 32 (f.spec.toNat / 2 ^ 32)

/-- A sparing message in band. -/
def State.sparingFrame (s : State) (msg lane : Nat) (f : Frame) : State :=
  s.controlFrameIn msg lane f fun s => s.sparingIn msg f.source (transactionOf f) f.payload lane

/-- HELLO: the far end's version window becomes REMOTE_VERSION of the lane (R268). -/
def execHello (lane : Nat) (f : Frame) (s : State) : Host.Outcome State Fault Refusal :=
  .next (s.controlFrameIn 0x01 lane f fun s => s.modRx lane fun x => { x with versionLo := field f.payload 0 1, versionHi := field f.payload 1 1 })

/-- SPARE_REQUEST in band (R272). -/
def execSpareRequest (lane : Nat) (f : Frame) (s : State) : Host.Outcome State Fault Refusal := .next (s.sparingFrame 0x10 lane f)

/-- SPARE_DUPLICATING in band (R272). -/
def execSpareDuplicating (lane : Nat) (f : Frame) (s : State) : Host.Outcome State Fault Refusal := .next (s.sparingFrame 0x11 lane f)

/-- SPARE_SWITCHED in band (R272). -/
def execSpareSwitched (lane : Nat) (f : Frame) (s : State) : Host.Outcome State Fault Refusal := .next (s.sparingFrame 0x12 lane f)

/-- SPARE_RELEASE in band (R273). -/
def execSpareRelease (lane : Nat) (f : Frame) (s : State) : Host.Outcome State Fault Refusal := .next (s.sparingFrame 0x13 lane f)

/-- SPARE_STOPPED in band (R273). -/
def execSpareStopped (lane : Nat) (f : Frame) (s : State) : Host.Outcome State Fault Refusal := .next (s.sparingFrame 0x14 lane f)

/-- SPARE_REFUSED in band (R274). -/
def execSpareRefused (lane : Nat) (f : Frame) (s : State) : Host.Outcome State Fault Refusal := .next (s.sparingFrame 0x1F lane f)

/-- HELLO_TIMER: HELLO on a TX lane in role HAUL, BOTH in DEST, with this image's version window (R267, R268). -/
def execHelloTimer (lane : Nat) (s : State) : Host.Outcome State Fault Refusal :=
  .next (s.sendHaul lane 4 (controlFrame s.eventTick 0x01 2048 0
    (controlBody (s.ident.haulWindow.toNat % 16) (s.ident.haulWindow.toNat / 16) 0 0 0 0)))

/-! ### Commands -/

/-- LANE_SPARE: ACTION 1 sends SPARE_REQUEST, ACTION 2 SPARE_RELEASE, which a lane that its spare carries sends when it has returned (R273, R282). Log 99
[DEDUCED]. Log 99 [DEDUCED]. -/
def cmdLaneSpare : Cmd := fun _ args s =>
  let lane := field args 0 1
  let x := s.spareRx (dieOfLane lane)
  let spare := field args 1 1 == 1
  checked ([bad 0 (!s.hasLane lane || decide (128 ≤ lane)), inRange args 1 1 1 2] ++ reserved args 2 2 ++
      [refusedIf (spare && !(s.rx lane).inTolerance), refusedIf (!spare && (x.lane != lane || x.isFree))]) s fun s =>
    if spare then okay (s.startSpare lane 3)
    else if x.carries then .wait (.spareRelease lane) .ok 0 [] (s.modSpareRx (dieOfLane lane) fun y => { y with releaseAsked := true })
    else okay (s.releaseSpare (dieOfLane lane))

/-- LANE_SPARE (R282). -/
def execLaneSpare (o : Origin) (args : List Byte) (s : State) : Host.Outcome State Fault Refusal :=
  .next (s.row o 0x0402 args (fixedLen 4) cmdLaneSpare)

/-- MSG values of R268. -/
def knownMsg (m : Nat) : Bool := decide (m ∈ [0x01, 0x10, 0x11, 0x12, 0x13, 0x14, 0x1F])

/-- LANE_CONTROL_IN: a message delivered out of band (R271, R283). -/
def cmdLaneControlIn : Cmd := fun _ args s =>
  checked ([bad 0 (!knownMsg (field args 0 1)), bad 1 (field args 1 1 != 0), reservedHigh args 3 3, bad 13 (field args 13 1 != 0)] ++ reserved args 20 4) s fun s =>
    okay (s.sparingIn (field args 0 1) (BitVec.ofNat 16 (field args 2 2)) (BitVec.ofNat 32 (field args 4 4)) ((args.drop 8).take 16) 255)

/-- LANE_CONTROL_IN (R283). -/
def execLaneControlIn (o : Origin) (args : List Byte) (s : State) : Host.Outcome State Fault Refusal :=
  .next (s.row o 0x0403 args (fixedLen 24) cmdLaneControlIn)

/-- STATE of LANE_STATUS (R284): a TX lane reads 0 or 3 (log 23 [DEDUCED]). -/
def State.laneState (s : State) (lane dir : Nat) : Nat :=
  if dir = 1 then (let t := s.tx lane; if t.test ≠ .service then 4 else if t.role = .off ∧ lane < 128 then 0 else 3)
  else
    let x := s.rx lane
    if x.test ≠ .service then 4
    else if x.carried then 5
    else if x.role = .off ∧ lane < 128 then 0
    else match x.lock with
      | .search => 1
      | .candidate _ => 2
      | .locked => 3

/-- The counters of LANE_STATUS (R284), in its order from byte 8. -/
def RxLane.counters (x : RxLane) : List Byte :=
  leBytes 8 x.framesOk ++ leBytes 8 x.fecCorrected ++ leBytes 4 x.fecUncorrected ++ leBytes 4 x.crcErrors ++ leBytes 4 x.versionDrops
    ++ leBytes 4 x.roleMismatch ++ leBytes 4 x.headerMalformed ++ leBytes 4 x.claimStale ++ leBytes 4 x.seqGaps ++ leBytes 4 x.framingSlips
    ++ leBytes 4 x.commaMissed ++ leBytes 4 x.commaBad ++ leBytes 4 x.lockLosses

/-- A lane with its RC counters cleared (R284). -/
def RxLane.clearCounters (x : RxLane) : RxLane :=
  { x with framesOk := 0, fecCorrected := 0, fecUncorrected := 0, crcErrors := 0, versionDrops := 0, roleMismatch := 0, headerMalformed := 0,
           claimStale := 0, seqGaps := 0, framingSlips := 0, commaMissed := 0, commaBad := 0, lockLosses := 0 }

/-- LANE_STATUS (R284). Log 23 [DEDUCED]. -/
def cmdLaneStatus : Cmd := fun _ args s =>
  let lane := field args 0 1
  let dir := field args 1 1
  checked ([bad 0 (!s.hasLane lane), inRange args 1 1 0 1] ++ reserved args 2 2) s fun s =>
    let x : RxLane := if dir = 0 then s.rx lane else {}
    let reply := leBytes 1 (s.laneState lane dir) ++ leBytes 1 x.remoteLane ++ leBytes 1 (x.versionLo % 16 + 16 * (x.versionHi % 16)) ++ leBytes 1 0
      ++ leInt 4 x.skewPs ++ x.counters ++ leBytes 4 0
    .done .ok 0 reply (if dir = 0 then s.modRx lane RxLane.clearCounters else s)

/-- LANE_STATUS (R284). -/
def execLaneStatus (o : Origin) (args : List Byte) (s : State) : Host.Outcome State Fault Refusal :=
  .next (s.row o 0x0404 args (fixedLen 4) cmdLaneStatus)

/-- Test modes as LANE_TEST codes them (R285). -/
def testMode : Nat → TestMode
  | 1 => .prbs13
  | 2 => .prbs31
  | _ => .service

/-- A lane may go into test mode: its role is OFF, that of the lane it stands in for or copies if it is a spare (R36), or its spare carries it, for a TX lane from
SPARE_SWITCHED on (R272, R276). -/
def State.mayTest (s : State) (lane dir : Nat) : Bool :=
  if dir = 0 then s.rxRole lane == .off || (s.rx lane).carried else s.txRole lane == .off || ((s.copySpare lane).isSome && (s.spareTx (dieOfLane lane)).confirmed)

/-- What LANE_TEST arms (R277): SINGLE flips one bit of the next symbol, BURST so many bits from there, RATE one bit in every 2^RATE_LOG2. Which bit of the symbol,
and which of the 2^RATE_LOG2, is a free value (log 1 [DESIGN CHOICE]). -/
def injectionOf (mode burst rateLog2 pick : Nat) : Injection :=
  match mode with
  | 1 => { skip := pick % 2, left := 1 }
  | 2 => { left := burst }
  | 3 => { skip := pick % 2 ^ rateLog2, left := 1, every := 2 ^ rateLog2 }
  | _ => {}

/-- LANE_TEST (R276, R277, R285). A pattern generator starts from a free value that is not zero (log 1 [DESIGN CHOICE]). -/
def cmdLaneTest : Cmd := fun _ args s =>
  let lane := field args 0 1
  let dir := field args 1 1
  let mode := testMode (field args 2 1)
  let inject := field args 3 1
  checked ([bad 0 (!s.hasLane lane), inRange args 1 1 0 1, inRange args 2 1 0 2, inRange args 3 1 0 3,
      bad 4 (inject == 2 && (decide (field args 4 1 < 1) || decide (64 < field args 4 1))),
      bad 5 (inject == 3 && (decide (field args 5 1 < 10) || decide (40 < field args 5 1)))] ++ reserved args 6 2 ++
      [refusedIf (mode != .service && !s.mayTest lane dir)]) s fun s =>
    if dir = 0 then
      let x := s.rx lane
      let keep := x.test == mode
      .done .ok 0 (leBytes 8 x.bits ++ leBytes 8 x.bitErrors ++ leBytes 8 x.symbolErrors ++ leBytes 1 (nat01 x.checkerLocked))
        (s.modRx lane fun x => { x with test := mode, bits := 0, bitErrors := 0, symbolErrors := 0, checkerLocked := x.checkerLocked && keep,
                                        checkerRun := if keep then x.checkerRun else 0 })
    else
      let (pick, s1) := s.fresh
      let (seed, s2) := s1.fresh
      .done .ok 0 (leBytes 25 0)
        (s2.modTx lane fun x => { x with test := mode, inject := inject, burstLen := field args 4 1, rateLog2 := field args 5 1
                                         injection := injectionOf inject (field args 4 1) (field args 5 1) pick
                                         generator := BitVec.ofNat 31 (seed % (2 ^ mode.width - 1) + 1) })

/-- LANE_TEST (R285). -/
def execLaneTest (o : Origin) (args : List Byte) (s : State) : Host.Outcome State Fault Refusal :=
  .next (s.row o 0x0405 args (fixedLen 8) cmdLaneTest)

/-- LANE_EYE: one point of the offset sampler; the command completes when the comparison is done (R278, R286). -/
def cmdLaneEye : Cmd := fun _ args s =>
  let lane := field args 0 1
  let phase := fieldS args 2 1
  let volt := fieldS args 3 1
  checked ([bad 0 (!s.hasLane lane), inRange args 1 1 0 2, bad 2 (decide (32 < phase.natAbs)), bad 3 (decide (63 < volt.natAbs)), inRange args 4 1 16 40] ++
      reserved args 5 3 ++ [refusedIf ((s.rx lane).lock != .locked && (s.rx lane).test == .service)]) s fun s =>
    .wait (.eye lane (field args 4 1)) .ok 0 [] s

/-- LANE_EYE (R286). -/
def execLaneEye (o : Origin) (args : List Byte) (s : State) : Host.Outcome State Fault Refusal :=
  .next (s.row o 0x0406 args (fixedLen 8) cmdLaneEye)

/-- EYE_SCAN_DONE: LANE_EYE completes with SYMBOLS and MISMATCHES (R286). -/
def execEyeScanDone (lane mismatches : Nat) (s : State) : Host.Outcome State Fault Refusal :=
  .next (match s.mail.running.find? fun r => match r.waits with
      | .eye l _ => l == lane
      | _ => false with
    | none => s
    | some r =>
      let log := match r.waits with
        | .eye _ k => k
        | _ => 0
      State.complete { s with mail := { s.mail with running := s.mail.running.erase r } } r.origin.mailbox .ok 0
        (leBytes 8 (2 ^ log) ++ leBytes 8 mismatches))

end Sys2Proof.Machine
end

