-- ==== Sys2Proof/Machine/Clock.lean ====
section
/-! DEFINITION. Clocks and data-path time: the DPLL and its references (R288 to R299), data-path time and time inputs (R300 to R304), log time (R305, R306),
pulse outputs (R310, R311), and their commands (R317 to R324). -/

namespace Sys2Proof.Machine

/-- Changes the DPLL. -/
def State.modDpll (s : State) (f : Dpll → Dpll) : State := { s with clocks := { s.clocks with dpll := f s.clocks.dpll } }

/-- Reference input of a code 1 to 6 (R290). -/
def State.refInput (s : State) (code : Nat) : RefInput := s.clocks.dpll.inputs.getD (code - 1) {}

/-- Changes it. -/
def State.modRef (s : State) (code : Nat) (f : RefInput → RefInput) : State :=
  s.modDpll fun d => { d with inputs := d.inputs.modify (code - 1) f }

/-- A free value as a signed quantity within `±lim`. Log 1 [DESIGN CHOICE]. -/
def State.freshWithin (s : State) (lim : Nat) : Int × State := (s.anyWithin lim 0, { s with free := s.free + 1 })

/-- The package clock and what runs from it: not in OFF, nor in reset (R311). -/
def State.clocksRun (s : State) : Bool := s.power.mode != .off && !s.power.inReset

/-! ### Selection (R292, R293) -/

/-- Entry k names a qualified input. -/
def Dpll.good (d : Dpll) (k : Nat) : Bool :=
  let c := d.entries.getD k 0
  c != 0 && (d.inputs.getD (c - 1) {}).qualified

/-- The lowest-numbered entry whose input is qualified. -/
def Dpll.best (d : Dpll) : Option Nat := (List.range 6).find? d.good

/-- The input code selected, if any. -/
def Dpll.code (d : Dpll) : Option Nat := d.selected.map fun k => d.entries.getD k 0

/-- The output's offset from its nominal rate while it follows no input (R294, R297). -/
def Dpll.ownPpt (d : Dpll) : Int := if d.state = .holdover then d.holdoverPpt + d.steerPpt else d.steerPpt

/-- The least that is left of the waits that run shows as WTR_LEFT_S (R324). -/
def Dpll.showWtr (d : Dpll) : Dpll := { d with wtrLeftS := (((d.inputs.filter (·.wtrRunning)).map (·.wtrLeftS)).min?).getD 0 }

/-- Waits of the entries that `keep` names go on; every other one ends (R292, R293). -/
def Dpll.keepWtr (d : Dpll) (keep : Nat → Bool) : Dpll :=
  let codes := ((List.range 6).filter keep).map fun j => d.entries.getD j 0
  Dpll.showWtr { d with inputs := (d.inputs.zipIdx).map fun (x, i) => if x.wtrRunning && !codes.contains (i + 1) then { x with wtrRunning := false, wtrLeftS := 0 } else x }

/-- The phase difference to a frequency input, taken modulo its period P into (-P/2, +P/2] where its frequency is declared (R296); which it is, is measured
(log 1 [DESIGN CHOICE]). -/
def phaseDifference (freqHz v : Nat) : Int :=
  if freqHz = 0 then ((v % 2 ^ 32 : Nat) : Int) - 2 ^ 31
  else
    let p := 1000000000000 / freqHz
    (p / 2 : Nat) - ((v % p : Nat) : Int)

/-- What a switch to input `code` measures and what it leaves to pull in (R296): a frequency input's difference on S2 and S4, less than 50 ps of it on S8, which
absorbs the rest; a time input's difference is its own, pulled in when it is measured (R302). Log 1 [DESIGN CHOICE]. -/
def State.switchPhase (s : State) (code : Nat) : Int × Int × State :=
  let (v, s1) := s.fresh
  let (w, s2) := s1.fresh
  if code = 3 ∨ code = 4 then ((s.refInput code).offsetPs, 0, s2)
  else
    let diff := phaseDifference (if code ≤ 2 then (s.refInput code).freqHz else 0) v
    (diff, if s.ident.variant = .s8 ∧ !s.outOfService 6 0xFF 1 then ((w % 99 : Nat) : Int) - 49 else diff, s2)

/-- The DPLL selects entry `k` and enters ACQUIRE: STEER_PPT is cleared, wide steering ends, and the loop starts from the rate the output had; a way back within the
pull range that another entry began goes on (R294, R298). Entries above it go on waiting (R292). -/
def State.selectEntry (s : State) (k : Nat) : State :=
  let old := s.clocks.dpll.selected
  let (diff, pull, s1) := s.switchPhase (s.clocks.dpll.entries.getD k 0)
  let s2 := s1.modDpll fun d => Dpll.keepWtr
    { d with state := .acquire, selected := some k, steerPpt := 0, wide := false, holdoverS := 0, acceptedSinceSelect := false, phaseErrPs := diff, pullInPs := pull
             switches := rcAdd 32 d.switches 1, startPpt := if old.isNone then some d.ownPpt else d.startPpt } (· < k)
  s2.raise 0x0403 0xFF (leBytes 1 (old.getD 0xFF) ++ leBytes 1 k ++ leInt 4 diff)

/-- No entry is qualified: HOLDOVER with a valid history, FREERUN without (R292, R297). The mean that holdover keeps is measured, within the pull range of
R289 (log 1 [DESIGN CHOICE]). -/
def State.loseReference (s : State) : State :=
  if s.clocks.dpll.historyValid then
    let (mean, s1) := s.freshWithin 75000000
    let s2 := s1.modDpll fun d => Dpll.keepWtr { d with state := .holdover, selected := none, holdoverPpt := mean, holdoverS := 0, startPpt := none } fun _ => false
    s2.raise 0x0405 0xFF (leInt 4 mean)
  else (s.modDpll fun d => Dpll.keepWtr { d with state := .freerun, selected := none, startPpt := none } fun _ => false).raise 0x0406 0xFF []

/-- The selected input is gone: the choice among qualified inputs by entry order, at once (R292, R293). -/
def State.reselect (s : State) : State :=
  match s.clocks.dpll.best with
  | some k => s.selectEntry k
  | none => s.loseReference

/-- Each entry above the selected one that is qualified waits WTR_S from its own qualification in revertive mode; none waits in the other (R292, R293). -/
def State.startWtr (s : State) : State :=
  let d := s.clocks.dpll
  match d.selected with
  | some k =>
    if d.revertive then
      s.modDpll fun d => Dpll.showWtr { d with inputs := ((List.range k).filter d.good).foldl (fun l j => l.modify (d.entries.getD j 0 - 1) fun x =>
        if x.wtrRunning then x else { x with wtrRunning := true, wtrLeftS := d.wtrS }) d.inputs }
    else s.modDpll fun d => d.keepWtr fun _ => false
  | none => s

/-- An input fails a test, numbered within its row of R291 (log 30 [DESIGN CHOICE]). -/
def State.disqualify (s : State) (code test : Nat) : State :=
  if (s.refInput code).qualified then
    let wasSelected := s.clocks.dpll.code == some code
    let s1 := (s.modRef code fun x => { x with qualified := false, wtrRunning := false, wtrLeftS := 0 }).raise 0x0402 0xFF (leBytes 1 code ++ leBytes 1 test)
    let s2 := s1.modDpll Dpll.showWtr
    if wasSelected then s2.reselect else s2
  else s

/-- REF_DISQUALIFY (R291 to R293). Log 30 [DESIGN CHOICE]. -/
def execRefDisqualify (input test : Nat) (s : State) : Host.Outcome State Fault Refusal := .next (s.disqualify input test)

/-- The RX lane that HAUL_REC follows: the spare of HAUL_REC_LANE while it carries that lane (R290). -/
def State.haulRecLane (s : State) : Nat :=
  let n := s.clocks.dpll.haulRecLane
  if (s.rx n).carried then 128 + dieOfLane n else n

/-- What the last state copy told of the partner's DPLL, at a standby: LOCKED, and to another input than TWIN_REC (R291, R340). -/
def State.partnerServes (s : State) : Bool :=
  s.twin.role != .standby || (s.twin.copy.map fun c => c.dpllState == 2 && c.selectedCode != 6).getD true

/-- The tests of R291 that this package's own state decides, for input `code`: TIME_BAD; the chosen PTP master; the lane's and the link's lock; the partner's
DPLL. Every other test is the outside's to make (log 30 [DESIGN CHOICE]). -/
def State.refPasses (s : State) (code : Nat) : Bool :=
  !(s.refInput code).timeBad && match code with
    | 4 => s.clocks.ptp.role == .slave && (s.clocks.ptp.best.map fun b => b.ptpTimescale && decide (b.clockClass ≤ 187)).getD false
    | 5 => (s.rx s.haulRecLane).lock == .locked
    | 6 => s.linkLanes == 15 && s.partnerServes
    | _ => true

/-- HAUL_REC and TWIN_REC are disqualified when the lane or the link has lost lock, or the partner's DPLL no longer serves (R291). -/
def State.refCheck (s : State) : State :=
  let s1 := if s.refPasses 5 then s else s.disqualify 5 1
  if s1.refPasses 6 then s1 else s1.disqualify 6 (if s1.linkLanes ≠ 15 then 1 else if (s1.twin.copy.map (·.dpllState)) = some 2 then 3 else 2)

/-- REF_QUALIFY: in HOLDOVER or FREERUN the lowest qualified entry is selected at once; otherwise a higher entry waits (R291 to R293). -/
def execRefQualify (input : Nat) (s : State) : Host.Outcome State Fault Refusal :=
  .next (if (s.refInput input).qualified || !s.refPasses input || !s.clocksRun || input == 0 || decide (6 < input) then s
  else
    let s1 := (s.modRef input fun x => { x with qualified := true }).raise 0x0401 0xFF (leBytes 1 input)
    match s1.clocks.dpll.selected with
    | some _ => s1.startWtr
    | none => match s1.clocks.dpll.best with
      | some k => s1.selectEntry k
      | none => s1)

/-- The entry above `k` whose wait ends first; of those that end together the lowest-numbered (R292). -/
def Dpll.waited (d : Dpll) (k : Nat) : Option Nat :=
  let x (j : Nat) : RefInput := d.inputs.getD (d.entries.getD j 0 - 1) {}
  let waiting := (List.range k).filter fun j => d.good j && (x j).wtrRunning
  waiting.find? fun j => waiting.all fun i => decide ((x j).wtrLeftS ≤ (x i).wtrLeftS)

/-- WTR_EXPIRY: in revertive mode the DPLL switches to the entry above the selected one that has stayed qualified for WTR_S (R292). Log 86 [DESIGN CHOICE]. -/
def execWtrExpiry (s : State) : Host.Outcome State Fault Refusal :=
  let d := s.clocks.dpll
  .next (match d.selected.bind d.waited with
    | some j => if d.revertive then s.selectEntry j else s
    | none => s)

/-- ACQUIRE leads to LOCKED: the phase error of a frequency input lies within 10 ns (R294); which it is, is measured (log 1 [DESIGN CHOICE]). -/
def State.dpllLock (s : State) : State :=
  if s.clocks.dpll.state = .acquire ∧ s.clocksRun then
    let (err, s1) := s.freshWithin 10000
    let timeInput := s.clocks.dpll.code == some 3 || s.clocks.dpll.code == some 4
    (s1.modDpll fun d =>
      { d with state := .locked, startPpt := none, pullInPs := if timeInput || decide (d.pullInPs.natAbs ≤ 10000) then d.pullInPs else err
               phaseErrPs := if timeInput then d.phaseErrPs else if d.pullInPs.natAbs ≤ 10000 then d.pullInPs else err }).raise 0x0404 0xFF
      (leBytes 1 (s.clocks.dpll.selected.getD 0xFF))
  else s

/-- HISTORY_VALID: LOCKED without a break for HOLD_AVG_S seconds (R294). -/
def execHistoryValid (s : State) : Host.Outcome State Fault Refusal :=
  .next (if s.clocks.dpll.state = .locked ∧ s.clocksRun then s.modDpll fun d => { d with historyValid := true } else s)

/-! ### Data-path time and time inputs (R300 to R303) -/

/-- STEP_ALLOWED: no INGEST, CORR or BEAM pipe exists, staged ones included (R301, R372). -/
def State.stepAllowed (s : State) : Bool := !s.cfg.dataPipes && !s.candidate.dataPipes

/-- Data-path time takes a new value, in nanoseconds; TIME_VALID is raised when it was invalid (R301, R325). Tick boundaries start afresh. -/
def State.stepTime (s : State) (ns source : Nat) : State :=
  let was := s.clocks.time.valid
  let s1 := s.setTimeNs ns
  let s2 := { s1 with clocks := { s1.clocks with time := { s1.clocks.time with valid := true }, lastSecond := none }, data := { s1.data with boundary := none } }
  if was then s2 else s2.raise 0x0407 0xFF (leBytes 1 source)

/-- The time that a time input gives now: local time less its offset. With time invalid, PPS_IN gives no number of its second, which
began DELAY_PS before the edge (R318, log 1 [DESIGN CHOICE]). Log 84 [DEDUCED]. -/
def State.inputTime (s : State) (code : Nat) (offsetPs : Int) : Nat × State :=
  if code = 3 ∧ !s.clocks.time.valid then
    let (v, s1) := s.fresh
    (((v % 2 ^ 48 * nsPerSec : Nat) + rndDiv (s.refInput 3).delayPs 1000).toNat % (2 ^ 48 * nsPerSec), s1)
  else ((((s.timeNs : Int) * 1000 - offsetPs) / 1000 % ((2 ^ 48 * nsPerSec : Nat) : Int)).toNat, s)

/-- The measurement is pulled in at a bounded rate (R295, R302). Log 85 [DEDUCED]. -/
def State.pullIn (s : State) (code : Nat) (offsetPs : Int) : State :=
  (s.modRef code fun x => { x with accepted := false }).modDpll fun d =>
    { d with pullInPs := offsetPs, acceptedSinceSelect := true, sinceAcceptedS := 0 }

/-- The limit of R302 in picoseconds. -/
def Dpll.jumpLimitPs (d : Dpll) : Nat :=
  1000 * (if d.acceptedSinceSelect then d.jumpThreshNs else d.jumpThreshNs + d.holdAllowPpb * d.sinceAcceptedS)

/-- The test number of TIME_BAD in a time input's row of R291 (log 30 [DESIGN CHOICE]). -/
def timeBadTest (code : Nat) : Nat := if code = 3 then 3 else 6

/-- One measurement of a time input, 3 or 4: local time less the input's (R301, R302). Log 84 [DEDUCED]. -/
def State.measure (s : State) (code : Nat) (offsetPs : Int) : State :=
  let s1 := s.modRef code fun x => { x with offsetPs := offsetPs }
  let d := s1.clocks.dpll
  if d.code ≠ some code then s1
  else
    let s2 := s1.modDpll fun d => { d with phaseErrPs := offsetPs }
    if s.stepAllowed then
      if d.acceptedSinceSelect && s.clocks.time.valid then s2.pullIn code offsetPs
      else
        let (t, s3) := s2.inputTime code offsetPs
        (s3.stepTime t code).pullIn code 0
    else if (s.refInput code).accepted || decide (offsetPs.natAbs ≤ d.jumpLimitPs) then s2.pullIn code offsetPs
    else
      let s3 := (s2.modRef code fun x => { x with timeBad := true }).modDpll fun d => { d with jumpsRefused := rcAdd 32 d.jumpsRefused 1 }
      let s4 := s3.raise 0x0408 0xFF (leBytes 1 code ++ leInt 4 (offsetPs / 1000) ++ leBytes 4 (d.jumpLimitPs / 1000))
      s4.disqualify code (timeBadTest code)

/-- The TIME_SET that waits for a PPS edge (R320). -/
def State.waitingPps (s : State) : Option (Running × Nat) :=
  s.mail.running.findSome? fun r => match r.waits with
    | .pps sec => some (r, sec)
    | _ => none

/-- Ends a waiting command with another answer and its DETAIL. -/
def State.finishDetail (s : State) (r : Running) (st : Status) (detail : Nat) : State :=
  State.complete { s with mail := { s.mail with running := s.mail.running.erase r } } r.origin.mailbox st detail []

/-- Ends a waiting command with another answer, of DETAIL 0. -/
def State.finishWith (s : State) (r : Running) (st : Status) : State := s.finishDetail r st 0

/-- A TIME_SET that waits ends at a qualified edge: it takes the time, or is refused where a pipe has come to exist (R320). -/
def State.ppsTimeSet (s : State) (r : Running) (sec : Nat) : State :=
  if s.stepAllowed then (s.stepTime (((sec * nsPerSec : Nat) : Int) + rndDiv (s.refInput 3).delayPs 1000).toNat 0).finishWith r .ok
  else s.finishWith r .refusedState

/-- Each TIME_SET that waits, in the order of arrival; at most `n`. -/
def State.ppsTimeSets : Nat → State → State
  | 0, s => s
  | n + 1, s => match s.waitingPps with
    | some (r, sec) => State.ppsTimeSets n (s.ppsTimeSet r sec)
    | none => s

/-- PPS_IN_EDGE: `offsetNs` is data-path time at the edge less the nearest whole second. Every TIME_SET that waits ends at a qualified edge (R320); where none
has stepped time, the edge, corrected by DELAY_PS, is a measurement (R302, R318). Log 84 [DEDUCED]. -/
def execPpsInEdge (offsetNs : Int) (s : State) : Host.Outcome State Fault Refusal :=
  let x := s.refInput 3
  let takes := x.qualified && s.waitingPps.isSome
  let s1 := if takes then s.ppsTimeSets s.mail.running.length else s
  .next (if !s.clocksRun then s else if takes && s.stepAllowed then s1 else s1.measure 3 (offsetNs * 1000 - x.delayPs))

/-- TIME_SET_PPS_TIMEOUT: no qualified edge within 2 s (R320). -/
def execTimeSetPpsTimeout (s : State) : Host.Outcome State Fault Refusal :=
  .next (match s.waitingPps with
    | some (r, _) => s.finishWith r .tooLate
    | none => s)

/-- TIME_BAD_CLEAR: the offset has stayed within JUMP_THRESH_NS while the input is not selected (R302). -/
def execTimeBadClear (input : Nat) (s : State) : Host.Outcome State Fault Refusal :=
  .next (if (input = 3 ∨ input = 4) ∧ s.clocks.dpll.code ≠ some input then s.modRef input fun x => { x with timeBad := false } else s)

/-! ### Commands -/

/-- A signed field within `±lim`. -/
def signedRange (args : List Byte) (off n lim : Nat) : Bool × Reason × Nat := bad off (decide (lim < (fieldS args off n).natAbs))

/-- The entries of REF_CONFIG. -/
def refEntries (args : List Byte) : List Nat := (List.range 6).map fun k => field args (8 + k) 1

/-- Selection after REF_CONFIG (R293). -/
def State.refSelect (s : State) (old : Dpll) : State :=
  let d := s.clocks.dpll
  match old.code with
  | none => match d.best with
    | some k => s.selectEntry k
    | none => s
  | some c =>
    match (List.range 6).find? fun k => d.entries.getD k 0 == c with
    | none => (s.modDpll fun d => d.keepWtr fun _ => false).reselect
    | some j =>
      let s1 := s.modDpll fun d => Dpll.keepWtr { d with selected := some j } (· < j)
      match d.best with
      | some b => if b < j ∧ !d.revertive ∧ old.entries ≠ d.entries then s1.selectEntry b else s1.startWtr
      | none => s1

/-- REF_CONFIG (R292, R293, R317). -/
def cmdRefConfig : Cmd := fun _ args s =>
  let es := refEntries args
  let xo := field args 4 4
  checked ([reservedHigh args 0 1, bad 1 (decide (127 < field args 1 1) || !s.hasLane (field args 1 1)),
      bad 2 (field args 2 2 != 0xFFFF && decide (3600 < field args 2 2)), bad 4 (xo != 0 && (decide (xo < 10000000) || decide (100000000 < xo)))] ++
      (List.range 6).map (fun k => bad (8 + k) (decide (6 < es.getD k 0) || (es.getD k 0 != 0 && (es.take k).contains (es.getD k 0)))) ++
      [zeroOrRange args 14 2 1 10000, zeroOrRange args 16 4 10 1000000, bad 20 (field args 20 2 != 0xFFFF && decide (1000 < field args 20 2)),
       zeroOrRange args 22 2 1 10000]) s fun s =>
    let old := s.clocks.dpll
    let s1 := s.modDpll fun d =>
      { d with revertive := (field args 0 1).testBit 0, haulRecLane := field args 1 1, wtrS := if field args 2 2 = 0xFFFF then 60 else field args 2 2
               xoFreqHz := xo, entries := es, slopePpb := orDefault (field args 14 2) 100, jumpThreshNs := orDefault (field args 16 4) 100
               holdAllowPpb := if field args 20 2 = 0xFFFF then 1 else field args 20 2, holdAvgS := orDefault (field args 22 2) 100 }
    okay (s1.refSelect old).refCheck

/-- Bandwidth range of an input in millihertz (R290). -/
def bandwidthRange (code : Nat) : Nat × Nat := [(100, 100000), (100, 100000), (10, 1000), (1, 100), (10000, 1000000), (10000, 1000000)].getD (code - 1) (0, 0)

/-- REF_INPUT_CONFIG (R318). -/
def cmdRefInputConfig : Cmd := fun _ args s =>
  let c := field args 0 1
  let f := field args 4 4
  let timeInput := c == 3 || c == 4
  let r := bandwidthRange c
  checked [inRange args 0 1 1 6, bad 1 (field args 1 1 != 0), zeroOrRange args 2 2 1 3600,
      bad 4 (if c = 1 ∨ c = 2 then decide (f < 10000000) || decide (100000000 < f) || f % 1000 != 0 else f != 0), zeroOrRange args 8 4 r.1 r.2,
      bad 12 (if timeInput then field args 12 2 != 0 else decide (100 < field args 12 2)), bad 14 (field args 14 1 != 0), bad 15 (field args 15 1 != 0),
      bad 16 (if c = 3 then decide (1000000 < (fieldS args 16 4).natAbs) else field args 16 4 != 0)] s fun s =>
    okay (s.modRef c fun x => { x with qualS := orDefault (field args 2 2) 10, freqHz := f, bwMilliHz := orDefault (field args 8 4) (defaultBandwidth c), qualPpm := if timeInput then 0 else orDefault (field args 12 2) 10, delayPs := fieldS args 16 4 })

/-- REF_INPUT_CONFIG (R318). -/
def execRefInputConfig (o : Origin) (args : List Byte) (s : State) : Host.Outcome State Fault Refusal :=
  .next (s.row o 0x0501 args (fixedLen 20) cmdRefInputConfig)

/-- Beyond the pull range against the oscillator (R289, R298). -/
def Dpll.beyondPull (d : Dpll) (steer : Int) : Bool :=
  decide (75000000 < ((if d.state = .holdover then d.holdoverPpt else 0) + steer).natAbs)

/-- Every TX lane is in role OFF and the twin link is down (R298). -/
def State.lanesQuiet (s : State) : Bool := s.lanes.tx.all (·.role == .off) && s.linkLanes == 0

/-- CLOCK_STEER (R298, R319). -/
def cmdClockSteer : Cmd := fun _ args s =>
  let v := fieldS args 0 4
  let d := s.clocks.dpll
  checked [signedRange args 0 4 200000000, refusedIf (d.state == .acquire || d.state == .locked), bad 0 (d.beyondPull v && !s.lanesQuiet)] s fun s =>
    okay (s.modDpll fun d => { d with steerPpt := v, wide := d.beyondPull v })

/-- CLOCK_STEER (R298). -/
def execClockSteer (o : Origin) (args : List Byte) (s : State) : Host.Outcome State Fault Refusal :=
  .next (s.row o 0x0502 args (fixedLen 4) cmdClockSteer)

/-- TIME_SET (R301, R320). -/
def cmdTimeSet : Cmd := fun _ args s =>
  let sec := field args 0 8
  checked ([bad 0 (decide (2 ^ 48 ≤ sec)), inRange args 8 4 0 999999999, reservedHigh args 12 1] ++ reserved args 13 3 ++ [refusedIf (!s.stepAllowed)]) s fun s =>
    if (field args 12 1).testBit 0 then .wait (.pps sec) .ok 0 [] s
    else okay (s.stepTime (sec * nsPerSec + field args 8 4) 0)

/-- TIME_SET (R320). -/
def execTimeSet (o : Origin) (args : List Byte) (s : State) : Host.Outcome State Fault Refusal :=
  .next (s.row o 0x0503 args (fixedLen 16) cmdTimeSet)

/-- A step of log time, with its LOG_TIME_STEPPED entry (R306, R325); the ages of kiln passes stay (R459). -/
def State.stepLog (s : State) (sec ns : Nat) : State :=
  let old := s.logTimeNs
  let moved := s.health.kiln.map fun k => { k with passSec := k.passSec + (sec : Int) - s.clocks.log.sec }
  let s1 := { s with clocks := { s.clocks with log := { s.clocks.log with sec := sec, ns := ns, frac := 0 } }, health := { s.health with kiln := moved } }
  s1.raise 0x040B 0xFF (leBytes 8 old ++ leBytes 8 s1.logTimeNs)

/-- LOG_TIME_SET (R306, R321). Log 87 [DEDUCED]. -/
def cmdLogTimeSet : Cmd := fun _ args s =>
  let a := field args 0 1
  let inc := a.testBit 0
  checked [bad 0 (decide (8 ≤ a) || (a.testBit 1 && a.testBit 2)), inRange args 1 1 3 5,
      bad 2 (field args 2 1 != 0), bad 3 (field args 3 1 != 0), bad 8 (decide (2 ^ 48 ≤ field args 8 8)), inRange args 16 4 0 999999999] s fun s =>
    let s1 := if inc then { s with clocks := { s.clocks with log := { s.clocks.log with incNs := field args 1 1, incFrac := field args 4 4 } } } else s
    okay (if a.testBit 1 then s1.stepLog (field args 8 8) (field args 16 4)
      else if a.testBit 2 then s1.stepLog s1.clocks.time.sec s1.clocks.time.ns
      else s1)

/-- LOG_TIME_SET (R321). -/
def execLogTimeSet (o : Origin) (args : List Byte) (s : State) : Host.Outcome State Fault Refusal :=
  .next (s.row o 0x0504 args (fixedLen 20) cmdLogTimeSet)

/-- PULSE_CONFIG (R323). Log 13 [DESIGN CHOICE]. -/
def cmdPulseConfig : Cmd := fun _ args s =>
  let div := field args 12 1
  let tickUs := orDefault (field args 4 4) 10
  let tooWide : Bool := match s.cfg.tick with
    | some t => decide (t.num * nsPerSec ≤ tickUs * 1000 * t.den)
    | none => false
  checked [zeroOrRange args 0 4 1 500000, zeroOrRange args 4 4 1 500, signedRange args 8 4 1000000,
      bad 12 (div != 0 && (decide (div < 3) || decide (25 < div))), reservedHigh args 13 2, bad 14 (field args 14 1 != 0), bad 15 (field args 15 1 != 0),
      bad 4 tooWide] s fun s =>
    let c : PulseCfg := { ppsWidthUs := orDefault (field args 0 4) 100, tickWidthUs := tickUs, tickOffsetNs := fieldS args 8 4, refOutDiv := div
                          ppsEn := (field args 13 1).testBit 0, tickEn := (field args 13 1).testBit 1 }
    okay { s with clocks := { s.clocks with pulses := { s.clocks.pulses with next := some c } } }

/-- PULSE_CONFIG (R323). -/
def execPulseConfig (o : Origin) (args : List Byte) (s : State) : Host.Outcome State Fault Refusal :=
  .next (s.row o 0x0506 args (fixedLen 16) cmdPulseConfig)

/-- Codes of DPLL_STATE (R324). -/
def DpllState.code : DpllState → Nat
  | .freerun => 0
  | .acquire => 1
  | .locked => 2
  | .holdover => 3

/-- FRAC at an instant, truncated to the interpolator's resolution: 1 ps on S8, 62.5 ps on S2 and S4 and with a failed TDC; the model's time does not carry the
instant within its nanosecond (R300, R428, log 1 [DESIGN CHOICE]). -/
def State.stampFrac (s : State) : Nat × State :=
  let (v, s1) := s.fresh
  (if s.ident.variant = .s8 ∧ !s.outOfService 6 0xFF 0 then v % 1000 * 65536 / 1000 else v % 16 * 4096, s1)

/-- FREQ_OFFSET_PPT: what the output runs at; in ACQUIRE the rate it starts from until the loop has moved it; while it follows an input, a measured value within
the bound of R289 (R298, R324, log 1 [DESIGN CHOICE]). -/
def State.freqOffset (s : State) : Int × State :=
  let d := s.clocks.dpll
  if d.state = .acquire ∨ d.state = .locked then
    match d.startPpt with
    | some r => (r, s)
    | none => s.freshWithin 100000000
  else (d.ownPpt, s)

/-- CLOCK_STATUS (R324). -/
def cmdClockStatus : Cmd := fun _ _ s =>
  let (frac, s1) := s.stampFrac
  let (freq, s2) := s1.freqOffset
  let d := s.clocks.dpll
  let t := s.clocks.time
  let qual := ((List.range 6).map fun k => if (d.inputs.getD k {}).qualified then 2 ^ (k + 1) else 0).sum
  let flags := nat01 t.valid + 2 * nat01 s.stepAllowed + 4 * nat01 (s.refInput 3).timeBad + 8 * nat01 (s.refInput 4).timeBad + 16 * nat01 d.historyValid
  let reply := leBytes 1 d.state.code ++ leBytes 1 (d.selected.getD 0xFF) ++ leBytes 1 qual ++ leBytes 1 flags ++ leBytes 2 d.wtrLeftS ++ leBytes 2 0
    ++ leBytes 8 (if t.valid then t.sec else 0) ++ leBytes 4 (if t.valid then t.ns else 0) ++ leBytes 2 (if t.valid then frac else 0) ++ leBytes 2 0
    ++ leInt 4 d.phaseErrPs ++ leInt 4 freq ++ leInt 4 d.steerPpt ++ leBytes 4 d.holdoverS ++ leBytes 4 d.switches ++ leBytes 4 d.jumpsRefused
    ++ leInt 4 (if s.twin.role = .standby then s.twin.offsetPs else 0) ++ leBytes 4 0
  .done .ok 0 reply (s2.modDpll fun d => { d with switches := 0, jumpsRefused := 0 })

/-- CLOCK_STATUS (R324). -/
def execClockStatus (o : Origin) (args : List Byte) (s : State) : Host.Outcome State Fault Refusal :=
  .next (s.row o 0x0507 args (fixedLen 0) cmdClockStatus)

/-- REF_TIME_ACCEPT (R303). -/
def cmdRefTimeAccept : Cmd := fun _ args s =>
  let c := field args 0 1
  checked ([inRange args 0 1 3 4] ++ reserved args 1 3) s fun s =>
    let s1 := s.modRef c fun x => { x with timeBad := false, accepted := true }
    okay (if s.clocks.dpll.code = some c then s1.pullIn c (s.refInput c).offsetPs else s1)

/-- REF_TIME_ACCEPT (R303). -/
def execRefTimeAccept (o : Origin) (args : List Byte) (s : State) : Host.Outcome State Fault Refusal :=
  .next (s.row o 0x0508 args (fixedLen 4) cmdRefTimeAccept)

/-! ### Pulse outputs (R310, R311) -/

/-- Changes the pulse outputs. -/
def State.modPulses (s : State) (f : Pulses → Pulses) : State := { s with clocks := { s.clocks with pulses := f s.clocks.pulses } }

/-- Moves data-path time forward to an instant; never back. What waited for the lines leaves meanwhile. Log 6 [DESIGN CHOICE]. Log 143 [DESIGN CHOICE]. -/
def State.advanceTo (s : State) (ns : Nat) : State := if s.timeNs < ns then (s.setTimeNs ns).drainLines else s

/-- TICK_START: at the start of tick n plus TICK_OFFSET_NS, TICK_OUT rises (R310). Log 6 [DESIGN CHOICE]. -/
def execTickStart (n : Nat) (s : State) : Host.Outcome State Fault Refusal :=
  let p := s.clocks.pulses
  .next (match s.cfg.tick with
    | some t =>
      if s.clocks.time.valid && s.clocksRun then
        let s1 := (s.advanceTo ((t.startNs n : Int) + p.cfg.tickOffsetNs).toNat).refreshPipes
        if p.driven && p.cfg.tickEn then s1.modPulses fun p => { p with tickOut := .high } else s1
      else s
    | none => s)

/-- PULSE_WIDTH_END: the pulse is over (R310). -/
def execPulseWidthEnd (tick : Bool) (s : State) : Host.Outcome State Fault Refusal :=
  .next (s.modPulses fun p =>
    if !p.driven then p else if tick then { p with tickOut := .low } else { p with ppsOut := .low })

/-- The pulse settings that wait take effect, REF_OUT restarts, and PPS_OUT rises (R310, R323). -/
def Pulses.second (p : Pulses) (valid : Bool) : Pulses :=
  let c := p.next.getD p.cfg
  let q := { p with cfg := c, next := none, refOutDiv := c.refOutDiv, tickOut := if p.driven && !c.tickEn then .low else p.tickOut }
  if !p.driven then q else if valid && c.ppsEn then { q with ppsOut := .high } else { q with ppsOut := .low }

/-- The start rate of ACQUIRE one second on: brought back towards the pull range by SLOPE_PPB a second, then left to the loop (R298). Log 145 [DEDUCED]. -/
def Dpll.startRate (d : Dpll) : Option Int :=
  d.startPpt.bind fun r =>
    if r.natAbs ≤ 75000000 then none
    else
      let size := max 75000000 (r.natAbs - d.slopePpb * 1000)
      some (if r < 0 then -(size : Int) else size)

/-- One second of the DPLL's clocks: each wait-to-restore, holdover, age of the last accepted measurement, the way back from wide steering, and pull-in at no more
than SLOPE_PPB; how much is taken in within that bound is the loop's (R292, R295, R298, R302, log 1 [DESIGN CHOICE]). What is left to pull in is the phase error of a
frequency input (R324). Log 85 [DEDUCED]. Log 145 [DEDUCED]. -/
def State.dpllSecond (s : State) : State :=
  let (v, s1) := s.fresh
  s1.modDpll fun d =>
    let room := min d.pullInPs.natAbs (d.slopePpb * 1000)
    let step : Int := (v % (room + 1) : Nat)
    let pull := if d.pullInPs < 0 then d.pullInPs + step else d.pullInPs - step
    let frequencyInput := d.selected.isSome && d.code != some 3 && d.code != some 4
    Dpll.showWtr { d with
      inputs := d.inputs.map fun x => { x with wtrLeftS := x.wtrLeftS - 1 }, holdoverS := if d.state = .holdover then d.holdoverS + 1 else d.holdoverS
      sinceAcceptedS := d.sinceAcceptedS + 1, pullInPs := pull, phaseErrPs := if frequencyInput then pull else d.phaseErrPs, startPpt := d.startRate }

end Sys2Proof.Machine
end

