-- ==== Sys2Proof/Machine/Calendar.lean ====
section
/-! DEFINITION. The calendar domain (R312 to R315) and the data-path second (R310, R313). -/

namespace Sys2Proof.Machine

/-- Changes the calendar. -/
def State.modCal (s : State) (f : Calendar → Calendar) : State := { s with cal := f s.cal }

/-- UTC_OFFSET as a signed number of seconds. -/
def Calendar.offset (c : Calendar) : Int := c.utcOffset.toInt

/-- CAL_LEAP (R314). -/
def Calendar.leap (c : Calendar) : Nat := c.leapHi.toNat * 2 ^ 32 + c.leapLo.toNat

/-- A leap year of the Gregorian calendar. -/
def leapYear (y : Nat) : Bool := y % 4 == 0 && (y % 100 != 0 || y % 400 == 0)

/-- Days of a month. -/
def monthDays (y m : Nat) : Nat := if m = 2 then (if leapYear y then 29 else 28) else if m = 4 ∨ m = 6 ∨ m = 9 ∨ m = 11 then 30 else 31

/-- Year and day of the year (from 0) for a day counted from 1970-01-01, walking `n` years from `y`. -/
def yearOf : Nat → Nat → Nat → Nat × Nat
  | 0, y, d => (y, d)
  | n + 1, y, d => let len := if leapYear y then 366 else 365; if d < len then (y, d) else yearOf n (y + 1) (d - len)

/-- Month and day of the month for a day of the year. -/
def monthOf : Nat → Nat → Nat → Nat → Nat × Nat
  | 0, _, m, d => (m, d + 1)
  | n + 1, y, m, d => if d < monthDays y m then (m, d + 1) else monthOf n y (m + 1) (d - monthDays y m)

/-- The UTC second shown, and whether it is 23:59:60: the second before a positive leap (R314). -/
def Calendar.shown (c : Calendar) : Int × Bool :=
  let u := (c.count : Int) - c.offset
  if c.leapArm ∧ c.utcNext.toInt = c.offset + 1 ∧ c.count + 1 = c.leap then (u - 1, true) else (u, false)

/-- CAL_DATE and CAL_TIME (R315): zero until the count is set; none outside the years 2000 to 2199 (R312). Log 88 [DEDUCED]. -/
def Calendar.fields (c : Calendar) : Option (Nat × Nat) :=
  if !c.set then some (0, 0)
  else
    let (u, sixty) := c.shown
    if u < 946684800 then none
    else
      let t := u.toNat
      let (y, yd) := yearOf 400 1970 (t / 86400)
      if 2199 < y then none
      else
        let (m, d) := monthOf 12 y 1 yd
        let weekday := (t / 86400 + 3) % 7 + 1
        some (y * 65536 + m * 256 + d,
          weekday * 2 ^ 24 + t % 86400 / 3600 * 65536 + t % 3600 / 60 * 256 + (if sixty then 60 else t % 60))

/-- CAL_SEC_LO_READ: it latches CAL_SEC_HI, CAL_DATE and CAL_TIME of the same second and returns SEC_LO (R315). Outside 2000 to 2199 the calendar shows
what the spec does not say (log 1 [DESIGN CHOICE]). Log 88 [DEDUCED]. -/
def State.readCalSec (s : State) : Word × State :=
  let (a, s1) := s.fresh
  let (b, s2) := s1.fresh
  let (date, time, s3) : Nat × Nat × State := match s.cal.fields with
    | some (x, y) => (x, y, s)
    | none => (a, b, s2)
  (BitVec.ofNat 32 s.cal.count,
   s3.modCal fun c => { c with latchHi := BitVec.ofNat 32 (c.count / 2 ^ 32), latchDate := BitVec.ofNat 32 date, latchTime := BitVec.ofNat 32 time })

/-- CAL_SEC_LO_READ (R315). -/
def execCalSecLoRead (s : State) : Host.Outcome State Fault Refusal :=
  let (v, s1) := s.readCalSec
  .next (s1.emit (.readValue 0x50000 v))

/-- The cores run, so that an event can be raised: in OFF only the calendar runs (R311). -/
def State.coresRun (s : State) : Bool := s.clocksRun

/-- An event of the calendar domain. -/
def State.raiseCal (s : State) (code : Nat) (detail : List Byte) : State := if s.coresRun then s.raise code 0xFF detail else s

/-- The count takes a new value; an armed leap that it reaches is done, and what the PTP master announced before it is of the past (R313, R314). Log 173 [DEDUCED]. -/
def State.calCount (s : State) (n : Nat) : State :=
  let c := s.cal
  if c.leapArm ∧ c.leap ≤ n then
    let s1 := s.modCal fun c => { c with count := n, utcOffset := c.utcNext, leapArm := false, leapDone := true }
    let s2 := { s1 with clocks := { s1.clocks with ptp := { s1.clocks.ptp with leapPassed := true } } }
    s2.raiseCal 0x040E (leBytes 2 c.utcNext.toNat)
  else s.modCal fun c => { c with count := n }

/-- CALENDAR_SECOND: the count advances; log time starts at the first second edge after reset (R305, R312, R314). -/
def execCalendarSecond (s : State) : Host.Outcome State Fault Refusal :=
  let s1 := s.calCount ((s.cal.count + 1) % 2 ^ 48)
  .next (if s1.clocks.log.started || !s1.coresRun then s1
  else { s1 with clocks := { s1.clocks with log := { s1.clocks.log with started := true, sec := s1.cal.count, ns := 0, frac := 0 } } })

/-- VBAT_MEASURE: VBAT_LEVEL in units of 20 mV and VBAT_LOW below 2.0 V, while VDD_AUX is present (R315). Log 8 [DESIGN CHOICE]. -/
def execVbatMeasure (mv : Nat) (s : State) : Host.Outcome State Fault Refusal :=
  let level := min (mv / 20) 255
  .next (if s.cal.fromVbat then s
  else
    let s1 := s.modCal fun c => { c with vbatLevel := level, vbatLow := decide (mv < 2000) }
    if mv < 2000 ∧ !s.cal.vbatLow then s1.raiseCal 0x040D (leBytes 1 level) else s1)

/-- VDD_AUX_LOSS: the domain runs from VBAT without losing a count (R312). -/
def execVddAuxLoss (s : State) : Host.Outcome State Fault Refusal := .next (s.modCal fun c => { c with fromVbat := true, onVbat := true })

/-- VDD_AUX_RETURN: the domain runs from VDD_AUX again (R312). -/
def execVddAuxReturn (s : State) : Host.Outcome State Fault Refusal := .next (s.modCal fun c => { c with fromVbat := false })

/-- CAL_OSC_STOP_DETECT: OSC_STOP sets (R315). -/
def execCalOscStopDetect (s : State) : Host.Outcome State Fault Refusal := .next (s.modCal fun c => { c with oscStop := true })

/-- CALENDAR_DOMAIN_POWER_ON: power-on values; the backup SRAM holds what nobody chose (R315, log 1 [DESIGN CHOICE]). -/
def execCalendarDomainPowerOn (s : State) : Host.Outcome State Fault Refusal :=
  let bytes := (List.range 256).map fun i => BitVec.ofNat 8 (Config.freeValue (s.free + i)).toNat
  .next { s with cal := { backup := bytes }, free := s.free + 256 }

/-- The write of CAL_CTRL: SYNC_EN, LEAP_ARM and CAL_TRIM take the bits written, LOAD sets on 1 (R315). -/
def State.writeCalCtrl (s : State) (v : Word) : State :=
  s.modCal fun c => { c with load := c.load || v.getLsbD 0, syncEn := v.getLsbD 1, leapArm := v.getLsbD 2, trim := BitVec.ofNat 8 (v.toNat / 256) }

/-- CAL_LOAD: a write of the control register (R315). -/
def execCalLoad (v : Word) (s : State) : Host.Outcome State Fault Refusal := .next (s.writeCalCtrl v)

/-- CAL_LOAD_DONE: the count takes SET_HI:SET_LO and LOAD clears (R315). -/
def execCalLoadDone (s : State) : Host.Outcome State Fault Refusal :=
  .next (if s.cal.load then s.modCal fun c => { c with count := c.setHi.toNat * 2 ^ 32 + c.setLo.toNat, set := true, load := false } else s)

/-- PTP is selected and its master gives a valid UTC offset: UTC_OFFSET follows it, and a leap flag arms a leap at the end of this UTC day, to which its
second 23:59:60 belongs (R313, R314). An Announce from before a leap says nothing after it (log 173 [DEDUCED]). -/
def State.calFromPtp (s : State) : State :=
  match s.clocks.ptp.best with
  | some a =>
    if s.clocks.dpll.code = some 4 ∧ a.utcOffsetValid ∧ !s.clocks.ptp.leapPassed then
      let s1 := s.modCal fun c => { c with utcOffset := BitVec.ofInt 16 a.utcOffset }
      if a.leap59 || a.leap61 then
        s1.modCal fun c =>
          let next := if a.leap61 then a.utcOffset + 1 else a.utcOffset - 1
          let day := c.shown.1 / 86400
          let at_ := ((day + 1) * 86400 + next).toNat
          { c with utcNext := BitVec.ofInt 16 next, leapLo := BitVec.ofNat 32 at_, leapHi := BitVec.ofNat 16 (at_ / 2 ^ 32), leapArm := true }
      else s1
    else s
  | none => s

/-- The calendar at a data-path second (R313). -/
def State.calSync (s : State) : State :=
  if s.cal.syncEn && s.clocks.time.valid then
    ((s.calCount s.clocks.time.sec).modCal fun c => { c with set := true, synced := true }).calFromPtp
  else s.modCal fun c => { c with synced := false }

/-- TDC taps chosen by a kiln pass take effect (R431). -/
def State.applyTdc (s : State) : State :=
  let ks := s.clocks.tdcNext.foldl (fun l x => updateAll (·.element == x.1) (fun k => { k with chosen := x.2 }) l) s.health.kiln
  { s with health := { s.health with kiln := ks }, clocks := { s.clocks with tdcNext := [] } }

/-- The next data-path second whose row has not run. -/
def State.nextSecond (s : State) : Nat :=
  if s.clocks.time.ns = 0 ∧ s.clocks.lastSecond ≠ some s.clocks.time.sec then s.clocks.time.sec else s.clocks.time.sec + 1

/-- DATAPATH_SECOND: pulses (R310, R323), calendar synchronisation (R313), TDC taps (R431), and the DPLL's seconds. Log 6 [DESIGN CHOICE]. -/
def execDatapathSecond (s : State) : Host.Outcome State Fault Refusal :=
  let sec := s.nextSecond
  let s1 := if s.clocks.time.valid then (s.setTimeNs (sec * nsPerSec)).refreshPipes else s
  let s2 := { s1 with clocks := { s1.clocks with lastSecond := some sec } }
  .next (if !s.clocksRun then s else (((s2.modPulses fun p => p.second s2.clocks.time.valid).calSync).applyTdc).dpllSecond)

end Sys2Proof.Machine
end

