-- ==== Sys2Proof/Machine/Sparge.lean ====
section
/-! DEFINITION. Sparge: scopes and their records (R222 to R235), the Ethernet frames that carry them (R236), ports (R240), losses (R225, R226), the bank
swap with its time-split merge (R171, R176), tun repair (R179), and SINK_STATS (R245). -/

namespace Sys2Proof.Machine

/-! ### Ports (R240) -/

/-- A port works: none of its four TX lanes has left service (R240). -/
def State.portWorks (s : State) (port : Nat) : Bool :=
  (List.range 4).all fun k =>
    let x := s.tx (portLane port + k)
    !x.failed && !x.inPass && x.test == .service

/-- The SINK that holds a port. -/
def State.portSink (s : State) (port : Nat) : Option Nat :=
  (s.cfg.indices [4]).find? fun i => (s.cfg.pipes.getD i {}).sinkDests.any (·.port == port)

/-- A port works in its role: formed of four ETHERNET lanes, all in service (R35, R240). -/
def State.portServes (s : State) (port : Nat) : Bool :=
  s.portWorks port && (List.range 4).all fun k => (s.tx (portLane port + k)).role == .ethernet

/-- Scopes in progress leave out a port that is down, and take it back only with the next scope (R224, R240). -/
def State.dropPort (s : State) (port : Nat) : State :=
  { s with data := { s.data with scopes := s.data.scopes.map fun sc => { sc with ports := sc.ports.filter (·.port != port) } } }

/-- Ports whose lanes left service go down, also for the scopes that still use them, and those whose lanes came back wait for the next scope (R240). -/
def State.portsUpdate (s : State) : State :=
  (List.range (4 * s.dies)).foldl (fun s port =>
    let s0 := if s.portServes port then s else s.dropPort port
    match s0.portSink port with
    | none => { s0 with data := { s0.data with portsDown := s0.data.portsDown.filter (· != port), portsReturned := s0.data.portsReturned.filter (· != port) } }
    | some i =>
      let down := s0.data.portsDown.contains port
      if s0.portWorks port then
        if down then { s0 with data := { s0.data with portsDown := s0.data.portsDown.filter (· != port), portsReturned := s0.data.portsReturned ++ [port] } } else s0
      else if down then s0
      else
        State.raise { s0 with data := { s0.data with portsDown := s0.data.portsDown ++ [port], portsReturned := s0.data.portsReturned.filter (· != port) } }
          0x0222 (port / 4) (leBytes 4 (s.cfg.handle i) ++ leBytes 1 port)) s

/-- Entries of a destination table whose ports are up (R224, R240). -/
def State.portsUp (s : State) (ds : List SinkDest) : List SinkDest := ds.filter fun d => !s.data.portsDown.contains d.port && s.portServes d.port

/-- Ports of a SINK that came back rejoin at the start of a scope (R240, R246). -/
def State.rejoin (s : State) (sink : Nat) : State :=
  ((s.cfg.pipes.getD sink {}).sinkDests.map (·.port)).foldl (fun s port =>
    if s.data.portsReturned.contains port then
      State.raise { s with data := { s.data with portsReturned := s.data.portsReturned.filter (· != port) } } 0x0223 (port / 4)
        (leBytes 4 (s.cfg.handle sink) ++ leBytes 1 port)
    else s) s

/-! ### Counters -/

/-- A SINK's counters. -/
def State.sinkCount (s : State) (i : Nat) : SinkCount := (s.data.sinks.find? (·.pipe == i)).getD { pipe := i }

/-- Changes them. -/
def State.modSink (s : State) (i : Nat) (f : SinkCount → SinkCount) : State :=
  let l := upsert (·.pipe == i) { pipe := i } f s.data.sinks
  { s with data := { s.data with sinks := l } }

/-! ### Records of a scope (R223, R228) -/

/-- A record: the die that sends it, its kind, its channel, and what tells it from others of the kind: TP (VIS), mash (BEAM_SUMMARY), mash, sample
block and beam group (VOLT), run block and beam group (DET). -/
structure SpargeRec where
  die : Nat := 0
  kind : Nat := 1
  channel : Nat := 0
  a : Nat := 0
  b : Nat := 0
  c : Nat := 0
  deriving DecidableEq, Repr

/-- The die that owns a channel of a scope's pipe and reads it for sparge (R222). -/
def Scope.owner (sc : Scope) (ch : Nat) : Nat :=
  match sc.cfg with
  | .corr p => (ownerDie p.dieCh p.chFirst ch).getD 0
  | .beam p => if p.source = 2 then sc.finisher else (ownerDie p.dieCh p.chFirst ch).getD 0
  | _ => 0

/-- Runs of detected output per mash. -/
def BeamCfg.runsPerMash (b : BeamCfg) : Nat := 2 ^ b.tLog2 / 2 ^ b.detLog2

/-- The records of a scope in order of RECORD_INDEX, without END (R223). -/
def Scope.list (sc : Scope) : List SpargeRec :=
  match sc.cfg with
  | .corr p => (List.range p.chCount).flatMap fun l =>
      let ch := p.chFirst + l
      { die := sc.owner ch, kind := 2, channel := ch } ::
        (List.range p.pCorr).map fun q => { die := sc.owner ch, kind := 1, channel := ch, a := q }
  | .beam p => (List.range p.chCount).flatMap fun l =>
      let ch := p.chFirst + l
      if sc.tickScope then (List.range p.m).flatMap fun mash =>
        { die := sc.owner ch, kind := 6, channel := ch, a := mash } ::
          if p.voltage then
            (List.range (ceilDiv (2 ^ p.tLog2) (2 ^ (min sc.sinkCfg.voltSamplesLog2 p.tLog2)))).flatMap fun i =>
              (List.range (ceilDiv p.beams (2 ^ sc.sinkCfg.voltBeamsLog2))).map fun j =>
                { die := sc.owner ch, kind := 4, channel := ch, a := mash, b := i, c := j }
          else []
      else (List.range (ceilDiv (p.m * p.k * p.runsPerMash) (2 ^ sc.sinkCfg.detRunsLog2))).flatMap fun i =>
        (List.range (ceilDiv p.beams (2 ^ sc.sinkCfg.detBeamsLog2))).map fun j => { die := sc.owner ch, kind := 5, channel := ch, b := i, c := j }
  | _ => []

/-- The dies that send records of a scope, lowest first. -/
def Scope.dies (sc : Scope) : List Nat := (List.range 8).filter fun d => sc.list.any (·.die == d)

/-- The next record of a die at or after index `n`. -/
def Scope.nextOf (sc : Scope) (die n : Nat) : Option Nat :=
  (List.range sc.list.length).find? fun i => decide (n ≤ i) && ((sc.list[i]?).map (·.die)) == some die

/-- Fragments of a record (R230, R231, R232, R233, R234). -/
def Scope.fragments (sc : Scope) (r : SpargeRec) (plane : Bool) : Nat :=
  if plane then 2
  else match r.kind with
    | 1 => 64 / 2 ^ sc.sinkCfg.rowsLog2
    | 2 => max 1 (ceilDiv sc.cfg.corrCfg.inputs 256)
    | 6 => max 1 (ceilDiv sc.cfg.beamCfg.beams 1020)
    | _ => 1

/-! ### Data and flags of a record -/

/-- The counts of an input and channel in a bank (R231). -/
def State.inputCount (s : State) (pipe bank ch input : Nat) : InputCount :=
  (s.data.counts.find? fun c => c.pipe == pipe && c.bank == bank && c.channel == ch && c.input == input).getD
    { pipe := pipe, bank := bank, channel := ch, input := input }

/-- Every input of the pipe's groups that is not padding, in ascending order (R231). -/
def CorrCfg.inputList (c : CorrCfg) : List Nat := (List.range 16).flatMap fun g => (List.range (c.groupSize.getD g 0)).map fun m => g * 4096 + m

/-- MISSING_ANY, TAINTED_ANY and UNSETTLED_ANY of a list of counts (R229). -/
def anyFlags (cs : List InputCount) : Nat :=
  8 * nat01 (cs.any fun c => c.missing != 0) + 16 * nat01 (cs.any fun c => c.tainted != 0) + 32 * nat01 (cs.any fun c => c.unsettled != 0)

/-- The entry of a scope's pipe with the configuration of the scope. -/
def State.scopeEntry (s : State) (sc : Scope) : PipeEntry := { s.cfg.pipes.getD sc.pipe {} with cfg := sc.cfg, areas := sc.areas }

/-- The record of a tile position in the bank of a scope. -/
def State.scopeTile (s : State) (sc : Scope) (r : SpargeRec) : TilePos := s.tilePos sc.pipe r.die sc.bank r.channel r.a

/-- MISS_INEXACT of a tile position (R229, R232). Log 104 [DEDUCED]. -/
def missInexact (tp : TilePos) (flags : Nat) : Bool := tp.planeInexact || (flags.testBit 3 && tp.plane.isNone)

/-- FLAGS of a VIS or MISS_PLANE record (R229). Log 104 [DEDUCED]. -/
def State.visFlags (s : State) (sc : Scope) (r : SpargeRec) : Nat :=
  let tp := s.scopeTile sc r
  let (ri, ci) := sc.cfg.corrCfg.tileInputs r.a
  let any := anyFlags ((ri ++ ci).filterMap fun i => i.map (s.inputCount sc.pipe sc.bank r.channel))
  nat01 tp.replayed + 2 * nat01 tp.saturated + 4 * nat01 tp.corrupt + any + 64 * nat01 (missInexact tp any) + 512 * nat01 sc.cfg.corrCfg.deepTun

/-- The beam mashes that a record of a scope covers. -/
def Scope.covered (sc : Scope) (r : SpargeRec) : List BeamMash :=
  let ms := sc.beams.filter (·.channel == r.channel)
  if r.kind = 5 then
    let per := max sc.cfg.beamCfg.runsPerMash 1
    let n := 2 ^ sc.sinkCfg.detRunsLog2
    (ms.zipIdx).filterMap fun (m, i) => if r.b * n < (i + 1) * per ∧ i * per < (r.b + 1) * n then some m else none
  else ms.filter (·.mash == r.a)

/-- FLAGS of a beam record (R229); `bad` says that a value could not be read (R410). -/
def Scope.beamFlags (sc : Scope) (r : SpargeRec) (bad : Bool) : Nat :=
  let ms := sc.covered r
  2 * nat01 (bad || ms.any (·.saturated)) + 8 * nat01 (ms.any fun m => m.missing != 0) + 16 * nat01 (ms.any fun m => m.tainted != 0)
    + 32 * nat01 (ms.any fun m => m.unsettled != 0) + 128 * nat01 (ms.any (·.weightMixed)) + 1024 * nat01 (ms.any fun m => m.contribMissing != 0)

/-- A beam mash of a tick scope. -/
def Scope.mash (sc : Scope) (ch mash : Nat) : BeamMash := (sc.beams.find? fun m => m.channel == ch && m.mash == mash).getD {}

/-- A coded voltage sample (R211). -/
def voltCode (b : BeamCfg) (v : Int × Int) : List Byte := leInt (voltBytes b / 2) v.1 ++ leInt (voltBytes b / 2) v.2

/-- The value of a detected run and beam, and whether its word could not be read (R212, R410). -/
def State.detValue (s : State) (sc : Scope) (r : SpargeRec) (run beam : Nat) : Nat × Bool :=
  let b := sc.cfg.beamCfg
  if s.itemBad (s.scopeEntry sc) r.die .detected [r.channel, run, beam] then (2 ^ 32 - 1, true)
  else
    let per := max b.runsPerMash 1
    let m := ((sc.beams.filter (·.channel == r.channel))[run / per]?).getD {}
    (m.dets.getD (run % per * b.beams + beam) 0, false)

/-- The keys of the detected values of a record. -/
def Scope.detKeys (sc : Scope) (r : SpargeRec) : List (List Nat) :=
  let b := sc.cfg.beamCfg
  let first := r.b * 2 ^ sc.sinkCfg.detRunsLog2
  let fb := r.c * 2 ^ sc.sinkCfg.detBeamsLog2
  (List.range (min (2 ^ sc.sinkCfg.detRunsLog2) (b.m * b.k * b.runsPerMash - first))).flatMap fun k =>
    (List.range (min (2 ^ sc.sinkCfg.detBeamsLog2) (b.beams - fb))).map fun u => [r.channel, first + k, fb + u]

/-- What the reading of a record meets in a detected bank counts (R405, R410). -/
def State.meetDetected (s : State) (sc : Scope) (r : SpargeRec) : State :=
  if r.kind = 5 ∧ s.anyBad then s.meetBad r.die (s.badItems (s.scopeEntry sc) r.die .detected (sc.detKeys r)) else s

/-- Detail bytes 44 to 55, data and FLAGS of one datagram (R228 to R234). A tile position that nothing was added to holds zero (R44). -/
def State.recordBody (s : State) (sc : Scope) (r : SpargeRec) (plane : Bool) (frag : Nat) : List Byte × List Byte × Nat :=
  let c := sc.cfg.corrCfg
  let b := sc.cfg.beamCfg
  if r.kind = 1 then
    let rows := if plane then 32 else 2 ^ sc.sinkCfg.rowsLog2
    let first := frag * rows
    let (col, row, i, j) := match c.place r.a with
      | some (job, i, j) => (job.col, job.row, i, j)
      | none => (0, 0, 0, 0)
    let detail := leBytes 4 r.a ++ leBytes 1 col ++ leBytes 1 row ++ leBytes 1 i ++ leBytes 1 j ++ leBytes 1 first ++ leBytes 1 rows ++ leBytes 2 0
    let size := 2 * c.compBytes
    let data :=
      if plane then (List.range (rows * 64)).flatMap fun k => leBytes 4 (((s.scopeTile sc r).plane.getD []).getD (64 * first + k) 0)
      else
        let cells := if (s.scopeTile sc r).fresh then List.replicate (rows * 64 * size) 0
          else s.memRead ((s.scopeEntry sc).tunAddr r.die sc.bank r.channel r.a + first * 64 * size) (rows * 64 * size)
        (List.range (rows * 64)).flatMap fun k =>
          if c.paddingCell r.a (first + k / 64) (k % 64) then List.replicate size 0 else (cells.drop (k * size)).take size
    (detail, data, s.visFlags sc r)
  else if r.kind = 2 then
    let es := (c.inputList.drop (256 * frag)).take 256
    let cs := c.inputList.map (s.inputCount sc.pipe sc.bank r.channel)
    (leBytes 4 (256 * frag) ++ leBytes 2 es.length ++ leBytes 6 0,
     es.flatMap fun i =>
       let k := s.inputCount sc.pipe sc.bank r.channel i
       leBytes 2 i ++ leBytes 6 0 ++ leBytes 8 k.tainted ++ leBytes 8 k.unsettled ++ leBytes 8 k.missing,
     anyFlags cs)
  else if r.kind = 6 then
    let m := sc.mash r.channel r.a
    let first := 1020 * frag
    let n := min 1020 (b.beams - first)
    (leBytes 2 r.a ++ leBytes 2 first ++ leBytes 2 n ++ leBytes 6 0,
     leBytes 8 m.tainted ++ leBytes 8 m.unsettled ++ leBytes 8 m.missing ++ leBytes 2 m.contribMissing ++ leBytes 2 m.version ++ leBytes 4 m.cellsMissing
       ++ (List.range n).flatMap fun u => leBytes 4 (m.voltClip.getD (first + u) 0) ++ leBytes 4 (m.detClip.getD (first + u) 0),
     sc.beamFlags r false)
  else if r.kind = 4 then
    let m := sc.mash r.channel r.a
    let ns := 2 ^ (min sc.sinkCfg.voltSamplesLog2 b.tLog2)
    let fb := r.c * 2 ^ sc.sinkCfg.voltBeamsLog2
    let nb := min (2 ^ sc.sinkCfg.voltBeamsLog2) (b.beams - fb)
    (leBytes 4 (r.a * 2 ^ b.tLog2 + r.b * ns) ++ leBytes 2 fb ++ leBytes 2 nb ++ leBytes 2 ns ++ leBytes 1 b.voltMode ++ leBytes 1 0,
     (List.range ns).flatMap fun k => (List.range nb).flatMap fun u => voltCode b (m.volts.getD ((r.b * ns + k) * b.beams + fb + u) (0, 0)),
     sc.beamFlags r false)
  else
    let total := b.m * b.k * b.runsPerMash
    let first := r.b * 2 ^ sc.sinkCfg.detRunsLog2
    let nr := min (2 ^ sc.sinkCfg.detRunsLog2) (total - first)
    let fb := r.c * 2 ^ sc.sinkCfg.detBeamsLog2
    let nb := min (2 ^ sc.sinkCfg.detBeamsLog2) (b.beams - fb)
    let vs := (List.range nr).flatMap fun k => (List.range nb).map fun u => s.detValue sc r (first + k) (fb + u)
    (leBytes 4 first ++ leBytes 2 fb ++ leBytes 2 nb ++ leBytes 2 nr ++ leBytes 2 0, vs.flatMap fun v => leBytes 4 v.1,
     sc.beamFlags r (vs.any (·.2)))

/-! ### Datagrams and their Ethernet frames (R227, R236) -/

/-- The sparge header with its CRC, and the data (R227). -/
def State.spargeDatagram (s : State) (sc : Scope) (kind flags index frag frags channel dropped : Nat) (detail data : List Byte) : List Byte :=
  let h := leBytes 1 1 ++ leBytes 1 kind ++ leBytes 2 s.source.toNat ++ leBytes 4 s.ownClaim.toNat ++ leBytes 4 sc.handle ++ leBytes 2 sc.sink
    ++ leBytes 2 flags ++ leBytes 8 sc.tick ++ leBytes 4 index ++ leBytes 2 frag ++ leBytes 2 frags ++ leBytes 2 channel ++ leBytes 2 data.length
    ++ leBytes 4 dropped ++ leBytes 4 sc.records ++ padTo 12 detail ++ leBytes 4 0
  h ++ leBytes 4 (crc32c (h ++ data)).toNat ++ data

/-- One's-complement sum of big-endian 16-bit words, folded (RFC 1071). -/
def onesSum (l : List Byte) : Nat :=
  let total := ((List.range ((l.length + 1) / 2)).map fun i => fieldBE (padTo (l.length + 1) l) (2 * i) 2).sum
  let f1 := total % 65536 + total / 65536
  f1 % 65536 + f1 / 65536

/-- A frame with its FCS, least significant byte first (R236, log 140 [PRESUMED]). -/
def withFcs (l : List Byte) : List Byte := l ++ leBytes 4 (crc32 l).toNat

/-- The Ethernet frame of a datagram, from destination address to FCS (R236). Log 162 [DESIGN CHOICE]. -/
def ethernetFrame (k : SinkCfg) (twinB : Bool) (d : SinkDest) (data : List Byte) : List Byte :=
  let v4 := k.ipVersion == 4
  let srcIp := if v4 then k.srcIp.take 4 else padTo 16 k.srcIp
  let dstIp := if v4 then d.dstIp.take 4 else padTo 16 d.dstIp
  let ulen := 8 + data.length
  let udp0 := beBytes 2 k.udpSrcPort ++ beBytes 2 d.udpPort ++ beBytes 2 ulen
  let pseudo := srcIp ++ dstIp ++ (if v4 then beBytes 2 17 ++ beBytes 2 ulen else beBytes 4 ulen ++ beBytes 4 17)
  let ck := 65535 - onesSum (pseudo ++ udp0 ++ beBytes 2 0 ++ data)
  let udp := udp0 ++ beBytes 2 (if ck = 0 then 65535 else ck) ++ data
  let ip :=
    if v4 then
      let h0 := beBytes 1 0x45 ++ beBytes 1 k.trafficClass ++ beBytes 2 (20 + ulen) ++ beBytes 2 0 ++ beBytes 2 0x4000 ++ beBytes 1 k.hopLimit ++ beBytes 1 17
      let ck := 65535 - onesSum (h0 ++ beBytes 2 0 ++ srcIp ++ dstIp)
      h0 ++ beBytes 2 ck ++ srcIp ++ dstIp
    else beBytes 4 (6 * 2 ^ 28 + k.trafficClass * 2 ^ 20 + k.flowLabel) ++ beBytes 2 ulen ++ beBytes 1 17 ++ beBytes 1 k.hopLimit ++ srcIp ++ dstIp
  withFcs (padTo 6 d.dstMac ++ padTo 6 (if twinB then k.srcMacB else k.srcMacA)
    ++ (if k.vlanEn then beBytes 2 0x8100 ++ beBytes 2 k.vlanTci.toNat else []) ++ beBytes 2 (if v4 then 0x0800 else 0x86DD) ++ ip ++ udp)

/-- Sends a datagram on its port; a package that does not send discards it there (R41, R327, R337). -/
def State.sendRecord (s : State) (sc : Scope) (d : SinkDest) (bytes : List Byte) : State :=
  if s.transmits then
    let twinB := s.twinB
    let s1 := s.emit (.ethernet d.port (ethernetFrame sc.sinkCfg twinB d bytes))
    let s2 := { s1 with data := { s1.data with carry := s1.data.carry.filter (·.1 != sc.pipe) } }
    s2.modSink sc.sink fun c =>
      { c with datagrams := rcAdd 64 c.datagrams 1, bytes := rcAdd 64 c.bytes (wireBytes sc.sinkCfg (bytes.length - 64)) }
  else s

/-- DROPPED of the next datagram of a pipe (R225). -/
def State.carried (s : State) (sc : Scope) : Nat := lookupD s.data.carry sc.pipe 0

/-! ### Scopes -/

/-- The open scope of a pipe. -/
def State.scopeOf (s : State) (pipe : Nat) (tickScope : Bool) : Option Scope :=
  s.data.scopes.find? fun x => x.pipe == pipe && x.tickScope == tickScope

/-- Replaces the open scope of a pipe. -/
def State.setScope (s : State) (sc : Scope) : State :=
  { s with data := { s.data with scopes := updateAll (fun x => x.pipe == sc.pipe && x.tickScope == sc.tickScope) (fun _ => sc) s.data.scopes } }

/-- MISS_PLANE records of a scope not yet sent (R225, R232). -/
def State.planesLeft (s : State) (sc : Scope) : Nat :=
  if !sc.sinkCfg.missPlanes then 0
  else ((sc.list.zipIdx).filter fun (r, i) =>
    r.kind == 1 && (s.scopeTile sc r).plane.isSome &&
      sc.readers.any fun rd => rd.die == r.die && !rd.done && decide (rd.next ≤ i)).length

/-- Records of a scope that have not left whole, MISS_PLANE records among them (R225). -/
def State.unsent (s : State) (sc : Scope) : Nat := sc.records - sc.sent + s.planesLeft sc + sc.planesLost

/-- `n` records of a scope are dropped: counted, reported once, and carried to the pipe's next datagram (R225, R226). On a STANDBY a scope ends silently. -/
def State.dropRecords (s : State) (sc : Scope) (n : Nat) : State :=
  if n = 0 ∨ s.twin.role = .standby then s
  else
    let s1 := s.modSink sc.sink fun c => { c with dropped := rcAdd 64 c.dropped n, overruns := rcAdd 32 c.overruns 1 }
    State.raise { s1 with data := { s1.data with carry := assign s1.data.carry sc.pipe (lookupD s1.data.carry sc.pipe 0 + n) } } 0x0221 0xFF
      (leBytes 4 (s.cfg.handle sc.sink) ++ leBytes 4 sc.handle ++ leBytes 6 sc.tick ++ leBytes 4 n)

/-- A pipe has no open scope of the kind any more. -/
def State.removeScope (s : State) (pipe : Nat) (tickScope : Bool) : State :=
  { s with data := { s.data with scopes := s.data.scopes.filter fun x => !(x.pipe == pipe && x.tickScope == tickScope) } }

/-- Closes a scope; records not sent are dropped (R225, R226). -/
def State.closeScope (s : State) (pipe : Nat) (tickScope : Bool) : State :=
  match s.scopeOf pipe tickScope with
  | none => s
  | some sc => (s.removeScope pipe tickScope).dropRecords sc (s.unsent sc)

/-- Opens a scope in place of what the pipe has open: the SINK's block and its ports that are up are those of this moment (R224, R240, R243). -/
def State.startScope (s : State) (pipe handle : Nat) (old : PipeEntry) (tickScope : Bool) (tick bank : Nat) (beams : List BeamMash) : State :=
  let sink := bits old.cfg.sinkHandle 0 16
  let s0 := (s.removeScope pipe tickScope).rejoin sink
  let e := s0.cfg.pipes.getD sink {}
  let sc0 : Scope := { pipe := pipe, handle := handle, sink := sink, tickScope := tickScope, tick := tick, bank := bank, cfg := old.cfg, areas := old.areas, beams := beams
                       ports := s0.portsUp e.sinkDests, sinkCfg := e.cfg.sinkCfg, startUs := s0.timeNs / 1000, opened := (s0.data.boundary.map (· + 1)).getD 0
                       finisher := ((beams.head?).map (·.die)).getD (tapFinisher (s0.cfgAt tick) old) }
  let sc := { sc0 with records := sc0.list.length + 1, readers := sc0.dies.map fun d => { die := d, next := (sc0.nextOf d 0).getD 0 } }
  { s0 with data := { s0.data with scopes := s0.data.scopes ++ [sc] } }

/-- Closes the scope that a pipe has open and opens the next (R225, R226). -/
def State.openScope (s : State) (pipe handle : Nat) (old : PipeEntry) (tickScope : Bool) (tick bank : Nat) (beams : List BeamMash) : State :=
  (s.closeScope pipe tickScope).startScope pipe handle old tickScope tick bank beams

/-- Words of the record's tile position that need repair: poisoned, or with an uncorrectable error, and not given up (R179). -/
def State.wordsToRepair (s : State) (sc : Scope) (r : SpargeRec) : List Nat :=
  let e := s.scopeEntry sc
  let a := e.tunAddr r.die sc.bank r.channel r.a
  let tp := s.scopeTile sc r
  if tp.fresh then []
  else (List.range (sc.cfg.corrCfg.v / 32)).filter fun w => (tp.poison.contains w || s.badWord (a + 32 * w)) && !tp.lost.contains w

/-- Repairs of the tile position that wait for a reply. -/
def State.repairsOf (s : State) (pipe die bank ch q : Nat) : List Repair :=
  s.data.repairs.filter fun x => x.pipe == pipe && (x.die == die || x.owner == some die) && x.bank == bank && x.channel == ch && x.tp == q

/-- Words of a tile position that no repair mends: they are delivered as stored, and the tile position is CORRUPT (R179 to R181). -/
def State.giveUpWords (s : State) (pipe die bank ch q : Nat) (ws : List Nat) : State :=
  (s.modTile pipe die bank ch q fun x => { x with lost := x.lost ++ ws }).markCorrupt pipe die bank ch q

/-- Before a VIS record is read: its bad words are asked for, or the tile position is marked CORRUPT (R179, R180). True while replies are awaited. -/
def State.repairFirst (s : State) (sc : Scope) (r : SpargeRec) : Bool × State :=
  if r.kind ≠ 1 then (false, s)
  else if !(s.repairsOf sc.pipe r.die sc.bank r.channel r.a).isEmpty then (true, s)
  else
    let ws := s.wordsToRepair sc r
    let a := (s.scopeEntry sc).tunAddr r.die sc.bank r.channel r.a
    let s0 := s.meetBad r.die (ws.filter fun w => s.badWord (a + 32 * w)).length
    if ws.isEmpty then (false, s)
    else if s.mayAsk then
      (true, ws.foldl (fun s w => s.askRepair { pipe := sc.pipe, die := r.die, bank := sc.bank, channel := r.channel, tp := r.a, word := w }) s0)
    else (false, s0.giveUpWords sc.pipe r.die sc.bank r.channel r.a ws)

/-- A time-split merge into the scope's bank still waits for repairs of partials (R176, R222). Log 103 [DEDUCED]. -/
def State.mergeWaits (s : State) (sc : Scope) : Bool :=
  !sc.tickScope && s.data.repairs.any fun x => x.pipe == sc.pipe && x.bank == sc.bank && x.owner.isSome

/-- A record as it stands when its first datagram is formed: all its fragments, with one FLAGS, for one port (R224, R229). Log 133 [DEDUCED]. -/
def State.readRecord (s : State) (sc : Scope) (rd : Reader) (r : SpargeRec) : OpenRecord :=
  { port := sc.ports.getD (rd.next % sc.ports.length) {}
    flags := (s.recordBody sc r rd.plane 0).2.2 + 256 * nat01 sc.resent
    parts := (List.range (sc.fragments r rd.plane)).map fun f => let b := s.recordBody sc r rd.plane f; (b.1, b.2.1) }

/-- A reader leaves its record for the record's MISS_PLANE, or for the next record (R223, R232). Log 133 [DEDUCED]. -/
def Scope.leave (sc : Scope) (rd : Reader) (hasPlane : Bool) : Reader :=
  let rd0 := { rd with fragment := 0, record := none, spoiled := false }
  if !rd.plane && hasPlane then { rd0 with plane := true }
  else match sc.nextOf rd.die (rd.next + 1) with
    | some n => { rd0 with next := n, plane := false }
    | none => { rd0 with done := true, plane := false }

/-- Counters of a record that has left whole (R245). -/
def SinkCount.sentWhole (c : SinkCount) (resent plane inexact : Bool) : SinkCount :=
  { c with resent := if resent then rcAdd 32 c.resent 1 else c.resent, planes := if plane then rcAdd 32 c.planes 1 else c.planes
           inexact := if inexact then rcAdd 32 c.inexact 1 else c.inexact }

/-- A reader gives up its record: its port went down, or a datagram could not be read. The record counts as dropped (R224, R225, R412). -/
def State.giveUpRecord (s : State) (sc : Scope) (rd : Reader) (hasPlane : Bool) : State :=
  s.setScope { sc with readers := updateAll (·.die == rd.die) (fun _ => sc.leave rd hasPlane) sc.readers, lossy := true
                       planesLost := sc.planesLost + nat01 rd.plane }

/-- The next datagram of a reader's record leaves on the record's port (R224, R227). -/
def State.sendFragment (s : State) (sc : Scope) (rd : Reader) (r : SpargeRec) (o : OpenRecord) (hasPlane : Bool) : State :=
  let part := o.parts.headD ([], [])
  let bytes := s.spargeDatagram sc (if rd.plane then 3 else r.kind) o.flags rd.next rd.fragment (sc.fragments r rd.plane) r.channel (s.carried sc) part.1 part.2
  let last := decide (o.parts.length ≤ 1)
  let rd1 := if last then sc.leave rd hasPlane else { rd with fragment := rd.fragment + 1, record := some { o with parts := o.parts.drop 1 } }
  let whole := last && !rd.plane
  let s1 := (s.sendRecord sc o.port bytes).setScope
    { sc with readers := updateAll (·.die == rd.die) (fun _ => rd1) sc.readers, sent := sc.sent + nat01 whole }
  if last && s.transmits then s1.modSink sc.sink fun c => c.sentWhole sc.resent rd.plane (whole && r.kind == 1 && o.flags.testBit 6) else s1

/-- A reader's turn: the record it has begun goes on, or is given up; a new one is read once its words are repaired (R179, R222 to R224). -/
def State.readerTurn (s : State) (sc : Scope) (rd : Reader) (r : SpargeRec) : State :=
  let hasPlane := r.kind == 1 && sc.sinkCfg.missPlanes && (s.scopeTile sc r).plane.isSome
  match rd.record with
  | some o => if rd.spoiled || !sc.ports.contains o.port then s.giveUpRecord sc rd hasPlane else s.sendFragment sc rd r o hasPlane
  | none =>
    let (waits, s1) := s.repairFirst sc r
    if waits then s1
    else if rd.spoiled then s1.giveUpRecord sc rd hasPlane
    else (s1.meetDetected sc r).sendFragment sc rd r (s1.readRecord sc rd r) hasPlane

/-- SPARGE_DATAGRAM_SEND: a die's reader sends its next datagram on the record's port (R222 to R224). Log 104 [DEDUCED]. Log 133 [DEDUCED]. -/
def execSpargeDatagramSend (pipe die : Nat) (tickScope : Bool) (s : State) : Host.Outcome State Fault Refusal :=
  .next (match s.scopeOf pipe tickScope with
    | none => s
    | some sc =>
      match sc.readers.find? (·.die == die) with
      | none => s
      | some rd =>
        match sc.list[rd.next]? with
        | none => s
        | some r => if rd.done || sc.ports.isEmpty || s.mergeWaits sc then s else s.readerTurn sc rd r)

/-- Everything the data path holds of table index `i` goes: a new pipe, or none, stands there. -/
def State.clearPipe (s : State) (i : Nat) : State :=
  let d := s.data
  { s with data := { d with
      chains := d.chains.filter (·.pipe != i), windows := d.windows.filter (·.1 != i), windowWritten := d.windowWritten.filter (·.1 != i)
      delayVersions := d.delayVersions.filter (·.1 != i), staleRuns := d.staleRuns.filter (· != i), rotations := d.rotations.filter (·.1 != i)
      turn := d.turn.filter (·.pipe != i), counts := d.counts.filter (·.pipe != i), tiles := d.tiles.filter (·.pipe != i)
      held := d.held.filter (·.ref.pipe != i), corr := d.corr.filter (·.pipe != i), satRaised := d.satRaised.filter (·.1 != i)
      repairs := d.repairs.filter (·.pipe != i), weights := d.weights.filter (·.pipe != i), cells := d.cells.filter (·.pipe != i)
      contribs := d.contribs.filter (·.pipe != i), finished := d.finished.filter (·.pipe != i), detBank := d.detBank.filter (·.pipe != i)
      beams := d.beams.filter (·.pipe != i), beamCounts := d.beamCounts.filter (·.pipe != i), sinks := d.sinks.filter (·.pipe != i)
      scopes := d.scopes.filter (·.pipe != i), carry := d.carry.filter (·.1 != i) } }

/-- Boundaries after its last tick at which a pipe has done its work but for its sparge (R54, R117, R212, R214, R222). Log 29 [DEDUCED]. -/
def PipeEntry.drainTicks (e : PipeEntry) : Nat :=
  match (e.atTick e.endTick).cfg with
  | .ingest _ => 1
  | .beam b => if b.partialPipe then 2 else if b.contribCount = 0 then 3 else 4
  | _ => 2

/-- DRAINING ends at boundary `n` or after, with the sparge of the last scope: the entry is FREE (R372, R117). Log 29 [DEDUCED]. -/
def State.freeDrained (s : State) (i n : Nat) : State :=
  let e := s.cfg.pipes.getD i {}
  if e.state = .draining ∧ e.endTick + e.drainTicks ≤ n ∧ !s.data.scopes.any (·.pipe == i) then
    State.clearPipe { s with cfg := { s.cfg with pipes := s.cfg.pipes.set i { gen := e.gen } } } i
  else s

/-- SCOPE_END_RECORD: END is sent once every die of the pipe has finished, and the scope closes (R235). A STANDBY sends nothing and keeps the scope, from which it may
have to resume (R241, R327, R344). Log 139 [DEDUCED]. -/
def execScopeEndRecord (pipe : Nat) (tickScope : Bool) (s : State) : Host.Outcome State Fault Refusal :=
  .next (match s.scopeOf pipe tickScope with
    | none => s
    | some sc =>
      let up := sc.ports
      if up.isEmpty || !sc.readers.all (·.done) then s
      else if s.twin.role = .standby then s.setScope { sc with ended := true }
      else
        let index := sc.records - 1
        let detail := leBytes 1 (nat01 tickScope) ++ leBytes 3 0 ++ leBytes 4 (sc.sent + 1)
        let bytes := s.spargeDatagram sc 7 (256 * nat01 sc.resent) index 0 1 0 (s.carried sc) detail []
        let s1 := s.sendRecord sc (up.getD (index % up.length) {}) bytes
        let whole := !sc.lossy && !tickScope && sc.sent + 1 == sc.records
        let s2 := if whole && s.transmits then s1.modSink sc.sink fun c => { c with lastUs := s.timeNs / 1000 - sc.startUs } else s1
        let lost := sc.records - (sc.sent + 1) + sc.planesLost
        let s3 := ((if sc.resent && s.transmits then s2.modSink sc.sink fun c => c.sentWhole true false false else s2).removeScope pipe tickScope).dropRecords sc lost
        s3.freeDrained pipe (s3.data.boundary.getD 0))

/-! ### Tun repair (R179) -/

/-- The entry under which a tun word that is being repaired was formed: that of the open scope. -/
def State.repairEntry (s : State) (pipe : Nat) : PipeEntry :=
  match s.scopeOf pipe false with
  | some sc => s.scopeEntry sc
  | none => s.cfg.pipes.getD pipe {}

/-- A word of a partial is added into the owner's bank, as the tun adder adds (R172, R176, R178). -/
def State.addToOwner (s : State) (e : PipeEntry) (r : Repair) (owner : Nat) (vs : List Int) : State :=
  let broken := s.badWord (e.tunAddr owner r.bank r.channel r.tp + 32 * r.word)
  (s.meetBad owner (nat01 broken)).addWord e r.pipe owner r.bank r.channel r.tp r.word vs broken

/-- A repair no longer waits. -/
def State.endRepair (s : State) (r : Repair) : State :=
  { s with data := { s.data with repairs := s.data.repairs.filter (·.transaction != r.transaction) } }

/-- The word of a waiting repair has come: it is stored, or added to the owner's bank when it was a partial's (R172, R176, R179). Log 103 [DEDUCED]. -/
def State.repairWith (s : State) (r : Repair) (word : List Byte) : State :=
  let e := s.repairEntry r.pipe
  let a := e.tunAddr r.die r.bank r.channel r.tp + 32 * r.word
  let s0 := s.endRepair r
  let s1 : State := match r.owner with
    | none => ((s0.memWrite a word).healWords a 32).modTile r.pipe r.die r.bank r.channel r.tp fun x => { x with poison := x.poison.filter (· != r.word) }
    | some owner => s0.addToOwner e r owner (componentsOf e.cfg.corrCfg.compBytes word)
  (s1.modCorr r.pipe r.die fun c => { c with tunRepaired := rcAdd 32 c.tunRepaired 1 }).raise 0x0206 r.die
    (leBytes 1 r.die ++ leBytes 1 r.bank ++ leBytes 5 a)

/-- The word is unavailable: the tile position is marked CORRUPT, and a partial's stored word is added as it stands (R172, R179, R181). Log 103 [DEDUCED]. -/
def State.repairFails (s : State) (r : Repair) : State :=
  let e := s.repairEntry r.pipe
  let s0 := s.endRepair r
  match r.owner with
  | none => s0.giveUpWords r.pipe r.die r.bank r.channel r.tp [r.word]
  | some owner =>
    let stored := s0.memRead (e.tunAddr r.die r.bank r.channel r.tp + 32 * r.word) 32
    (s0.addToOwner e r owner (componentsOf e.cfg.corrCfg.compBytes stored)).markCorrupt r.pipe owner r.bank r.channel r.tp

/-- TUN_REPAIR_TIMEOUT: 200 us without a reply (R179). Log 86 [DESIGN CHOICE]. -/
def execTunRepairTimeout (transaction : Nat) (s : State) : Host.Outcome State Fault Refusal :=
  .next (match s.data.repairs.find? (·.transaction.toNat == transaction) with
    | some r => s.repairFails r
    | none => s)

/-! ### The bank swap (R171, R176, R222) -/

/-- One partial's tile position merged into the owner's (R176): bad words wait for repair or are added as stored, saturated components make the owner's
saturated, flags are ORed, planes are added. Log 103 [DEDUCED]. -/
def State.mergeTile (s : State) (e : PipeEntry) (pipe owner die bank ch q : Nat) : State :=
  let c := e.cfg.corrCfg
  let n := c.compBytes
  let per := 32 / n
  let tp := s.tilePos pipe die bank ch q
  if tp.fresh then s
  else
    let a := e.tunAddr die bank ch q
    let badWs := (List.range (c.v / 32)).filter fun w => tp.poison.contains w || s.badWord (a + 32 * w)
    let ask := s.mayAsk
    let vs := componentsOf n (s.memRead a c.v)
    let held (k : Nat) : Bool := tp.full || tp.satMarks.contains k
    let given := (vs.zipIdx).map fun (v, k) => if held k || (ask && badWs.contains (k / per)) then 0 else v
    let s1 := (s.meetBad die ((List.range (c.v / 32)).filter fun w => s.badWord (a + 32 * w)).length).tunAdd e pipe owner bank ch q given
    let oa := e.tunAddr owner bank ch q
    let bounds := (vs.zipIdx).filter fun (_, k) => held k
    let s2 := bounds.foldl (fun s (v, k) =>
      (s.memWrite (oa + n * k) (leInt n (fullScale n v))).modTile pipe owner bank ch q fun x => { x with satMarks := x.satMarks ++ [k] }) s1
    let s3 := s2.modTile pipe owner bank ch q fun x =>
      { x with saturated := x.saturated || tp.saturated, replayed := x.replayed || tp.replayed, planeInexact := x.planeInexact || tp.planeInexact }
    let s4 := s3.addMisses pipe owner bank ch q (tp.plane.getD [])
    let s5 := if ask then badWs.foldl (fun s w => s.askRepair { pipe := pipe, die := die, bank := bank, channel := ch, tp := q, word := w, owner := some owner }) s4
      else s4
    if tp.corrupt || (!ask && !badWs.isEmpty) then s5.markCorrupt pipe owner bank ch q else s5

/-- The merge of a finished bank from its time-split partials, channel by channel (R176). -/
def State.mergeBank (s : State) (e : PipeEntry) (pipe bank : Nat) : State :=
  let c := e.cfg.corrCfg
  if c.splitD ≤ 1 then s
  else (List.range c.chCount).foldl (fun s l =>
    let ch := c.chFirst + l
    let owner := (ownerDie c.dieCh c.chFirst ch).getD 0
    (List.range (c.splitD - 1)).foldl (fun s k => (List.range c.pCorr).foldl (fun s q => s.mergeTile e pipe owner (owner + k + 1) bank ch q) s) s) s

/-- A bank of a pipe becomes fresh: flags, marks, poison and planes go (R171, R172, R232). -/
def State.freshBank (s : State) (pipe bank : Nat) : State :=
  { s with data := { s.data with
      tiles := s.data.tiles.filter fun x => !(x.pipe == pipe && x.bank == bank)
      repairs := s.data.repairs.filter fun x => !(x.pipe == pipe && x.bank == bank)
      satRaised := s.data.satRaised.filter (· != (pipe, bank)) } }

/-- Scopes that end at a boundary, each with its records not sent, which step 4 of R59 drops. -/
abbrev Ending := List (Scope × Nat)

/-- The open integration scope of a pipe, with what of it was not sent. -/
def State.ending (s : State) (pipe : Nat) : Ending := ((s.scopeOf pipe false).map fun sc => (sc, s.unsent sc)).toList

/-- Step 3 of R59 for a CORR pipe at boundary n: when tick n - 1 begins an integration, or the pipe has finished its last tick, the finished bank is
merged and sparged and the other becomes fresh; the scope that ends is left to step 4. Log 25 [DEDUCED]. Log 29 [DEDUCED]. -/
def State.swapBank (s : State) (pipe n : Nat) : Ending × State :=
  let old := if 2 ≤ n then s.pipeAt pipe (n - 2) else none
  let new := s.pipeAt pipe (n - 1)
  let begins : Bool := match new with
    | some e => e.cfg.kind == 2 && (n - 1 - e.startTick) % max e.cfg.k 1 == 0
    | none => true
  let (ends, s1) : Ending × State := match old with
    | some e =>
      if e.cfg.kind = 2 ∧ begins then
        let bank := e.bankAt (n - 2)
        let first := e.startTick + e.integration (n - 2) * max e.cfg.k 1
        (s.ending pipe, (s.mergeBank e pipe bank).startScope pipe (s.cfg.dataHandle pipe) e false first bank [])
      else ([], s)
    | none => ([], s)
  (ends, match new with
    | some e => if e.cfg.kind = 2 ∧ begins then s1.freshBank pipe (e.bankAt (n - 1)) else s1
    | none => s1)

/-- The tick whose beam output a pipe releases at boundary n, with the pipe as it stood (R214). -/
def State.releaseDue (s : State) (pipe n lag : Nat) : Option (Nat × PipeEntry) :=
  if n < lag then none
  else (s.pipeAt pipe (n - lag)).bind fun e =>
    let b := e.cfg.beamCfg
    if e.cfg.kind = 3 ∧ !b.partialPipe ∧ (if b.contribCount = 0 then lag = 3 else lag = 4) then some (n - lag, e) else none

/-- The detected values of a tick that are written to the bank make their words good (R405). Log 2 [DESIGN CHOICE]. -/
def State.healDetected (s : State) (e : PipeEntry) (tick : Nat) (ms : List BeamMash) : State :=
  let b := e.cfg.beamCfg
  let per := max b.runsPerMash 1
  if !s.anyBad ∨ !b.detected then s
  else ms.foldl (fun s m => s.healItems e m.die .detected ((List.range per).flatMap fun x => (List.range b.beams).map fun u =>
    [m.channel, ((tick - e.startTick) % max b.k 1 * b.m + m.mash) * per + x, u])) s

/-- One release: the tick is finished, its slot freed, its tick scope opened in place of the last, and after the integration's last tick its detected bank
is sparged (R212, R214, R226). Log 29 [DEDUCED]. -/
def State.releaseTick (s : State) (pipe r : Nat) (e : PipeEntry) : Ending × State :=
  let b := e.cfg.beamCfg
  let handle := s.cfg.dataHandle pipe
  let s1 := s.finishTick e pipe r
  let ms := sortBy (fun m => m.channel * 1024 + m.mash) (s1.data.finished.filter fun x => x.pipe == pipe && x.tick == r)
  let s2 := ((s1.freeSlot pipe r).openScope pipe handle e true r 0 ms).healDetected e r ms
  if !b.detected then ([], s2)
  else
    let bank := s2.data.detBank ++ ms.map fun m => { m with volts := [] }
    if (r + 1 - e.startTick) % max b.k 1 = 0 ∨ (e.state = .draining ∧ r = e.endTick) then
      let mine := sortBy (·.channel) (bank.filter (·.pipe == pipe))
      let s3 := { s2 with data := { s2.data with detBank := bank.filter (·.pipe != pipe) } }
      (s2.ending pipe, s3.startScope pipe handle e false (e.startTick + e.integration r * b.k) 0 mine)
    else ([], { s2 with data := { s2.data with detBank := bank } })

/-- Step 3 of R59 for a BEAM pipe at boundary n (R212, R214, R226). Log 29 [DEDUCED]. -/
def State.releaseBeam (s : State) (pipe n : Nat) : Ending × State :=
  [4, 3].foldl (fun acc lag => match acc.2.releaseDue pipe n lag with
    | none => acc
    | some (r, e) => let x := acc.2.releaseTick pipe r e; (acc.1 ++ x.1, x.2)) ([], s)

/-- Step 3 of R59 for every pipe of a kind. Log 125 [DEDUCED]. Log 134 [DEDUCED]. -/
def State.stepThree (s : State) (kind : Nat) (f : State → Nat → Ending × State) : Ending × State :=
  (s.cfg.indices [kind]).foldl (fun acc i => let x := f acc.2 i; (acc.1 ++ x.1, x.2)) ([], s)

/-- Steps 3 and 4 of R59: every bank is merged, sparged and swapped, then every beam output due is released, and only then are the unsent records of the
scopes that ended dropped and counted. -/
def State.swapAndRelease (s : State) (n : Nat) : State :=
  let (a, s1) := s.stepThree 2 fun s i => s.swapBank i n
  let (b, s2) := s1.stepThree 3 fun s i => s.releaseBeam i n
  (a ++ b).foldl (fun s x => s.dropRecords x.1 x.2) s2

/-- The keys of the samples of a half that a die's loader reads; none while no word is bad. -/
def CorrCfg.halfKeys (c : CorrCfg) (any : Bool) (die tick : Nat) : List (List Nat) :=
  if !any then []
  else (List.range c.chCount).flatMap fun k => c.inputList.flatMap fun i =>
    ((List.range (c.m * 2 ^ c.tLog2)).filter fun x => c.worksMash die (c.chFirst + k) (x / 2 ^ c.tLog2)).map fun x => [tick % 2, i, c.chFirst + k, x]

/-- Step 1 of R59 for a CORR pipe: marks of the half that closes are counted per input and channel, those not received as MISSING, and those of a word that the
loader cannot read (R59, R231, R410). That the loader's reads of a bad word count once for a half is log 2 [DESIGN CHOICE]. -/
def State.countHalf (s : State) (pipe n : Nat) : State :=
  match s.pipeAt pipe (n - 1) with
  | none => s
  | some e =>
    if e.cfg.kind ≠ 2 then s
    else
      let c := e.cfg.corrCfg
      let bank := e.bankAt (n - 1)
      let old := if (n - 1 - e.startTick) % max e.cfg.k 1 = 0 then s.data.counts.filter fun x => !(x.pipe == pipe && x.bank == bank) else s.data.counts
      let dieOf (ch index : Nat) : Option Nat := (List.range s.dies).find? fun d => c.worksMash d ch (index / 2 ^ c.tLog2)
      let unread (x : TurnSample) : Bool := s.anyBad &&
        (dieOf x.channel x.index).any fun d => s.itemBad (s.cfg.pipes.getD pipe {}) d .turn [x.tick % 2, x.input, x.channel, x.index]
      let mine := s.data.turn.filter fun x => x.pipe == pipe && x.tick == n - 1 && !unread x
      let total := c.m * 2 ^ c.tLog2
      let new := (List.range c.chCount).foldl (fun l k => c.inputList.foldl (fun l i =>
        let ch := c.chFirst + k
        let xs := mine.filter fun x => x.input == i && x.channel == ch
        let got := (xs.filter fun x => !x.missing).length
        upsert (fun x => x.pipe == pipe && x.bank == bank && x.channel == ch && x.input == i) { pipe := pipe, bank := bank, channel := ch, input := i }
          (fun x => { x with tainted := x.tainted + (xs.filter (·.tainted)).length, unsettled := x.unsettled + (xs.filter (·.unsettled)).length
                             missing := x.missing + (total - got) }) l) l) old
      (List.range s.dies).foldl (fun t d => t.meetBad d (s.badItems (s.cfg.pipes.getD pipe {}) d .turn (c.halfKeys s.anyBad d (n - 1))))
        { s with data := { s.data with counts := new } }

/-! ### SINK_STATS (R245) -/

/-- A port is down: four ETHERNET lanes form it, and one has left service, or it went down and has not come back (R35, R240). Log 105 [DEDUCED]. -/
def State.portDown (s : State) (port : Nat) : Bool :=
  s.data.portsDown.contains port || (!s.portWorks port && (List.range 4).all fun k => (s.tx (portLane port + k)).role == .ethernet)

/-- PORT_DOWN_MASK (R245). Log 105 [DEDUCED]. -/
def State.portMask (s : State) : Nat := (((List.range (4 * s.dies)).filter s.portDown).map fun p => 2 ^ p).sum

/-- SINK_STATS (R245). Log 105 [DEDUCED]. -/
def cmdSinkStats : Cmd := fun o args s =>
  let h := field args 0 4
  let i := field args 0 2
  checked (s.pipeChecks o args 0 [4] ++ [s.stagedRead o h]) s fun s =>
    let c := s.sinkCount i
    let reply := leBytes 8 c.datagrams ++ leBytes 8 c.bytes ++ leBytes 8 c.dropped ++ leBytes 4 c.overruns ++ leBytes 4 c.resent ++ leBytes 4 c.planes
      ++ leBytes 4 c.inexact ++ leBytes 4 s.portMask ++ leBytes 4 c.lastUs
    .done .ok 0 reply (s.modSink i fun c => { pipe := i, lastUs := c.lastUs })

/-- SINK_STATS (R245). -/
def execSinkStats (o : Origin) (args : List Byte) (s : State) : Host.Outcome State Fault Refusal :=
  .next (s.row o 0x0321 args (fixedLen 4) cmdSinkStats)

end Sys2Proof.Machine
end

