-- ==== Sys2Proof/Machine/CrateLink.lean ====
section
/-! DEFINITION. The crate bus as a node uses it: frames and their CRC (R479), the state block (R483), and the queueing of frames to send (R481, R482). -/

namespace Sys2Proof.Machine

/-- One bit step of CRC-16 with polynomial 0x1021, most significant bit first (R479). Log 36 [DESIGN CHOICE]. -/
def crc16Step (c : Nat) : Nat := if 32768 ≤ c then (2 * c) % 65536 ^^^ 0x1021 else 2 * c

/-- One byte of it. Log 36 [DESIGN CHOICE]. -/
def crc16Byte (c : Nat) (b : Byte) : Nat :=
  crc16Step (crc16Step (crc16Step (crc16Step (crc16Step (crc16Step (crc16Step (crc16Step (c ^^^ (b.toNat * 256)))))))))

/-- CRC-16, initial value 0xFFFF, no final XOR (R479; the bit order within a byte is the model's, log 36 [DESIGN CHOICE]). -/
def crc16 (l : List Byte) : BitVec 16 := BitVec.ofNat 16 (l.foldl crc16Byte 0xFFFF)

/-- Header and payload of a crate frame (R479). -/
def crateBytes (type : Nat) (f : CrateFrame) : List Byte :=
  [BitVec.ofNat 8 type, f.src, f.dest, f.acker, f.seq, BitVec.ofNat 8 f.payload.length] ++ f.payload

/-- A frame with its CRC. Log 36 [DESIGN CHOICE]. -/
def sealCrate (type : Nat) (f : CrateFrame) : CrateFrame := { f with crc := crc16 (crateBytes type f) }

/-- Payload length of each frame type (R483). -/
def crateLen : Nat → Nat
  | 0x01 => 0
  | 0x02 => 8
  | 0x03 => 8
  | 0x04 => 8
  | 0x14 => 2
  | _ => 4

/-- Bytes in Manchester code, least significant bit first, as the levels of half bits: a 1 is low then high, a 0 high then low (R479). -/
def manchester (l : List Byte) : List Bool :=
  l.flatMap fun b => (List.range 8).flatMap fun k => [!b.getLsbD k, b.getLsbD k]

/-- A frame on the bus: two preamble bytes, the start delimiter, header and payload, and the CRC, little-endian (R479). -/
def crateLine (type : Nat) (f : CrateFrame) : List Bool := manchester ([0x55, 0x55, 0xD5] ++ crateBytes type f ++ leBytes 2 f.crc.toNat)

/-- A frame is valid: it carries the TYPE of its row, its CRC matches and its payload is whole (R480, R483). Log 52 [DEDUCED]. -/
def crateValid (type : Nat) (f : CrateFrame) : Bool := f.type.all (·.toNat == type) && f.crc == crc16 (crateBytes type f) && f.payload.length == crateLen type

/-- ROLE as heartbeats code it (R333). -/
def TwinRole.code : TwinRole → Nat
  | .alone => 0
  | .active => 1
  | .standby => 2

/-- NOT_READY of R328, computed whatever the role. -/
def State.readyBits (s : State) : Nat :=
  nat01 (s.linkLanes == 0) + 2 * nat01 (!s.twin.inSync) + 4 * nat01 (!(s.twin.copyOk.1 && s.twin.copyOk.2)) + 8 * nat01 s.twin.diverged
    + 16 * nat01 (decide ((s.clocks.dpll.jumpThreshNs * 1000 : Nat) < s.twin.offsetPs.natAbs)) + 32 * nat01 (s.twin.mode != .hot)
    + 64 * nat01 (!s.twin.shadowed)

/-- The standby is standby-ready (R328). -/
def State.standbyReady (s : State) : Bool := s.twin.role == .standby && s.twin.partner.isSome && s.readyBits == 0

/-- TWIN_READY or TWIN_NOT_READY when the condition of R328 has changed (R357). -/
def State.readyCheck (s : State) : State :=
  let now := s.standbyReady
  if now = s.twin.wasReady then s
  else
    let s1 := { s with twin := { s.twin with wasReady := now } }
    if now then s1.raise 0x0503 0xFF [] else s1.raise 0x0504 0xFF (leBytes 4 s.readyBits)

/-- ROLE as heartbeats and TWIN_STATUS show it: a detached standby reads ALONE (R351, log 35 [DEDUCED]). -/
def State.shownRole (s : State) : Nat := if s.twin.detached then 0 else s.twin.role.code

/-- HB_FLAGS (R333). -/
def State.hbFlags (s : State) : Nat :=
  nat01 s.twin.fault.isSome + 2 * nat01 s.standbyReady + 4 * nat01 (s.twin.mode == .hot) + 8 * nat01 s.twin.diverged

/-- POSITION as the state block and BOOT give it (R483). -/
def State.positionField (s : State) : Nat :=
  s.cfg.position % 1024 + 1024 * nat01 s.ident.twinBit + 2048 * nat01 s.cfg.positionValid

/-- The state block (R483). -/
def State.stateBlock (s : State) : List Byte :=
  leBytes 2 s.positionField ++ leBytes 1 s.shownRole ++ leBytes 1 s.hbFlags ++ leBytes 4 s.twin.claim

/-- Changes the crate node. -/
def State.modCrate (s : State) (f : Crate → Crate) : State := { s with crate := f s.crate }

/-- A frame to be sent: HEARTBEAT, and in crate state ALONE any frame, needs no acknowledgement and goes once; others queue behind the one in progress
(R481, R482). Log 51 [DESIGN CHOICE]. -/
def State.crateSend (s : State) (type dest : Nat) (payload : List Byte) : State :=
  let x : CrateTx := { type := type, dest := dest, payload := payload }
  s.modCrate fun c => if type = 2 ∨ c.alone then { c with plain := c.plain ++ [x] } else { c with queue := c.queue ++ [x] }

/-- An ANNOUNCE to every node (R484). -/
def State.announce (s : State) : State := s.crateSend 3 0xFF s.stateBlock

/-- ACKER of a frame that this node sends (R481). -/
def State.ackerFor (s : State) (x : CrateTx) : Nat :=
  if x.type = 2 ∨ s.crate.alone then 0xFF
  else if x.dest ≠ 0xFF then x.dest
  else
    let above := sortBy id (s.crate.heard.filter (s.ident.nodeId < ·))
    (above ++ sortBy id s.crate.heard).headD 0xFF

end Sys2Proof.Machine
end

