-- ==== Sys2Proof/Machine/Lease.lean ====
section
/-! DEFINITION. The lease and the commit: CONFIG_LOCK, CONFIG_COMMIT, CONFIG_ABORT, LOCK_STATUS, NOP (R374 to R378, R393), placement of areas (R400), the
end of a lease, and the reset of an owner (R377). -/

namespace Sys2Proof.Machine

/-! ### Placement (R400) -/

/-- Granules of 2 MiB that a stack gives to pipes: its lower 62 GiB (R400). -/
def stackGranules : Nat := 31744

/-- The lowest place of `n` contiguous granules among used ranges (first granule, length), first fit (R400). -/
def firstFit (used : List (Nat × Nat)) (n : Nat) : Option Nat :=
  (sortBy id (0 :: used.map fun u => u.1 + u.2)).find? fun a => decide (a + n ≤ stackGranules) && used.all fun u => decide (a + n ≤ u.1 ∨ u.1 + u.2 ≤ a)

/-- Every area that occupies granules: those of entries, of changes that wait, and of open scopes. -/
def usedAreas (c : PackageCfg) (scopes : List Scope) : List Area :=
  (c.pipes.flatMap fun e => e.areas ++ e.changes.flatMap (·.areas)) ++ scopes.flatMap (·.areas)

/-- Areas for the kinds whose size those at hand do not have, in order; none when one cannot be placed. -/
def placeWants (used atHand : List Area) (die : Nat) : List (AreaKind × Nat) → Option (List Area)
  | [] => some []
  | (k, bytes) :: l =>
    let n := ceilDiv bytes (2 ^ 21)
    if n = 0 ∨ atHand.any (fun a => a.die == die && a.kind == k && a.granules == n) then placeWants used atHand die l
    else match firstFit ((used.filter (·.die == die)).map fun a => (a.first, a.granules)) n with
      | none => none
      | some f =>
        let x : Area := { die := die, kind := k, first := f, granules := n }
        (placeWants (x :: used) atHand die l).map (x :: ·)

/-- The areas that an entry needs beyond those at hand, over its dies; the die that has no room otherwise. -/
def placeDies (c : PackageCfg) (used atHand : List Area) (e : PipeEntry) : List Nat → Except Nat (List Area)
  | [] => .ok []
  | d :: l =>
    match placeWants used atHand d (areasOf c d e) with
    | none => .error d
    | some xs => match placeDies c (xs ++ used) atHand e l with
      | .ok ys => .ok (xs ++ ys)
      | .error d' => .error d'

/-- Areas at hand that an entry does not need in that size. -/
def surplus (c : PackageCfg) (atHand : List Area) (e : PipeEntry) : List Area :=
  atHand.filter fun a => !(areasOf c a.die e).any fun (k, bytes) => k == a.kind && ceilDiv bytes (2 ^ 21) == a.granules

/-- Replaces entry `i`. -/
def PackageCfg.setEntry (c : PackageCfg) (i : Nat) (e : PipeEntry) : PackageCfg := { c with pipes := c.pipes.set i e }

/-- Places the areas of a change of entry `i`, the `k`-th; `e` is the entry as the changes before it leave it. -/
def placeChange (c : PackageCfg) (dies : Nat) (scopes : List Scope) (i k : Nat) (e : PipeEntry) (g : PipeChange) : Except Nat (PackageCfg × PipeEntry) :=
  let after := e.applyChange { g with areas := [] }
  let now := mergeAreas e.areas g.areas
  let gone := (surplus c now after).map fun a => { a with granules := 0 }
  match placeDies c (usedAreas c scopes) now after (List.range dies) with
  | .error d => .error d
  | .ok xs =>
    let replacing := (gone.filter fun a => !xs.any fun b => b.die == a.die && b.kind == a.kind) ++ xs
    let all := (g.areas.filter fun a => !replacing.any fun b => b.die == a.die && b.kind == a.kind) ++ replacing
    let whole := c.pipes.getD i {}
    .ok (c.setEntry i { whole with changes := whole.changes.modify k fun x => { x with areas := all } }, e.applyChange { g with areas := all })

/-- Places the areas of the changes of entry `i` from the `k`-th on. -/
def placeChanges (dies : Nat) (scopes : List Scope) (i : Nat) : List PipeChange → Nat → PipeEntry → PackageCfg → Except Nat PackageCfg
  | [], _, _, c => .ok c
  | g :: l, k, e, c =>
    match placeChange c dies scopes i k e g with
    | .error d => .error d
    | .ok (c', e') => placeChanges dies scopes i l (k + 1) e' c'

/-- Places the areas of an entry that a staging touched: of a STAGED or PENDING entry itself, then of its changes (R400). -/
def placeEntry (dies : Nat) (scopes : List Scope) (i : Nat) (c : PackageCfg) : Except Nat PackageCfg :=
  let e := c.pipes.getD i {}
  if e.state == .free then .ok (c.setEntry i { e with areas := [] })
  else if e.state == .staged || e.state == .pending then
    let kept := e.areas.filter fun a => !(surplus c e.areas e).contains a
    let c1 := c.setEntry i { e with areas := kept }
    match placeDies c1 (usedAreas c1 scopes) kept e (List.range dies) with
    | .error d => .error d
    | .ok xs =>
      let e1 := { e with areas := kept ++ xs }
      placeChanges dies scopes i e1.changes 0 e1 (c1.setEntry i e1)
  else placeChanges dies scopes i e.changes 0 e c

/-- Places the areas of several entries, in order. -/
def placeAll (dies : Nat) (scopes : List Scope) : List Nat → PackageCfg → Except Nat PackageCfg
  | [], c => .ok c
  | i :: l, c => match placeEntry dies scopes i c with
    | .error d => .error d
    | .ok c' => placeAll dies scopes l c'

/-! ### Applying a staging (R376) -/

/-- The table index that a staged command is about, if it is one of a pipe. -/
def stagedIndex (x : Staged) : Option Nat :=
  match x.opcode with
  | 0x0100 => some (bits x.handle 0 16)
  | 0x0101 => some (field x.args 4 2)
  | 0x0102 => some (field x.args 0 2)
  | 0x0200 => some (field x.args 0 2)
  | 0x0310 => some (field x.args 0 2)
  | 0x0311 => some (field x.args 0 2)
  | _ => none

/-- Table indices in the order in which a staging first touches them. -/
def touched (xs : List Staged) : List Nat := dedup (xs.filterMap stagedIndex)

/-- The chains of an INGEST pipe that a commit touched (R86, R107, R114). -/
def State.commitChains (s : State) (i : Nat) : State :=
  let e := s.cfg.pipes.getD i {}
  if e.cfg.kind ≠ 1 then s
  else if e.state = .pending then (s.makeChains i e.startTick).makeChangeChains i
  else if e.state = .running then s.makeChangeChains i
  else s

/-- The effect of a T command that was staged with its pipe (R374). -/
def applyTable (x : Staged) (s : State) : State :=
  match x.opcode with
  | 0x0201 => applyOffsetFreeze x.args s
  | 0x0211 => applyDelayLoad x.args s
  | 0x0212 => applyGainLoad x.args s
  | 0x0214 => applyWindowLoad x.args s
  | 0x0312 => applyWeights x.args x.mem s
  | _ => s

/-- Makes `c` the running configuration after the commands `xs`, in their order, as one change (R376). -/
def State.enact (s : State) (c : PackageCfg) (xs : List Staged) : State :=
  let old := s.cfg
  let idx := touched xs
  let s1 := { s with cfg := { c with pipes := c.pipes.map PipeEntry.commit, clearClaims := false } }
  let s2 : State := if c.clearClaims then
      { s1 with lanes := { s1.lanes with claims := List.replicate 1024 0 }, twin := { s1.twin with claim := 0, claimKnown := 0, exhausted := false, copy := s1.twin.copy.map fun c => { c with claim := 0 } }
                data := { s1.data with boundary := none } }
    else s1
  let s3 := idx.foldl (fun s i => if (old.pipes.getD i {}).gen = (s.cfg.pipes.getD i {}).gen ∧ (old.pipes.getD i {}).state ≠ .free then s
    else if (s.cfg.pipes.getD i {}).state = .draining then s else s.clearPipe i) s2
  let s4 := (idx.foldl (fun s i => s.commitChains i) s3).assignChains
  let s5 := xs.foldl (fun s x => applyTable x s) s4
  let s6 := idx.foldl (fun s i =>
    let ws := newWindows (old.pipes.getD i {}) (s.cfg.pipes.getD i {})
    { s with data := { s.data with windowWritten := s.data.windowWritten.filter fun k => !(k.1 == i && ws.contains k.2.1) } }) s5
  s6.portsUpdate

/-! ### CONFIG_COMMIT -/

/-- The tick that a staged command names (R376). -/
def stagedTick (x : Staged) : Option Nat :=
  match x.opcode with
  | 0x0100 => if field x.args 0 1 = 4 then none else some (blockTick x.args)
  | 0x0101 => if field x.args 0 1 = 4 then none else some (blockTick x.args)
  | 0x0102 => if bits (field x.args 0 4) 28 4 = 4 then none else some (field x.args 8 8)
  | 0x0210 => some (field x.args 8 8)
  | 0x0201 => some (field x.args 12 8)
  | 0x0211 => some (field x.args 4 8)
  | 0x0212 => some (field x.args 12 8)
  | 0x0312 => some (field x.args 4 8)
  | _ => none

/-- The earliest tick that a staging names. -/
def earliestTick (xs : List Staged) : Option Nat :=
  (xs.filterMap stagedTick).foldl (fun m t => match m with
    | none => some t
    | some u => some (min u t)) none

/-- Data-path time has passed the start of tick `t - 1` (R376). -/
def passedStart (c : TickCfg) (timeNs t : Nat) : Bool :=
  decide (((c.epochSec * nsPerSec + c.epochNs : Nat) : Int) * c.den + ((t : Int) - 1) * c.num * nsPerSec < ((timeNs * c.den : Nat) : Int))

/-- The commit comes too late for the earliest tick named (R376). Log 100 [DEDUCED]. -/
def State.commitLate (s : State) : Bool × Reason × Nat :=
  match s.candidate.tick, earliestTick s.lease.staged with
  | some c, some t => (passedStart c s.timeNs t, .tooLate, t % 2 ^ 32)
  | _, _ => (false, .tooLate, 0)

/-- An entry holds fewer inputs or contributors than its block asks for, where `old` did not ask for as many; or an owner of SOURCE 0 or 1 does not list
every set index (R114, R217, R218). -/
def holdsTooLittle (old new : PipeEntry) : Bool :=
  match new.cfg with
  | .ingest c => decide (old.cfg.ingestCfg.inputCount < c.inputCount ∨ old.cfg.kind ≠ 1) && decide (new.inputs.length < c.inputCount)
  | .beam c =>
    (decide (old.cfg.beamCfg.contribCount < c.contribCount ∨ old.cfg.kind ≠ 3) && decide (new.contribs.length < c.contribCount)) ||
      (!c.partialPipe && c.source != 2 && new.state != .draining && !(List.range c.inputCount).all fun k => new.beamInputs.any (·.index == k))
  | _ => false

/-- An entry as it is created or stands, and as each of its changes leaves it, holds too little: each is judged against the one before it (R114, R376). -/
def fallsShort (old new : PipeEntry) : Bool :=
  let base := if new.state = .staged then {} else old
  (new.changes.foldl (fun (acc : PipeEntry × Bool) g =>
    let e := acc.1.applyChange g
    (e, acc.2 || holdsTooLittle acc.1 e)) (new, holdsTooLittle base new)).2

/-- Some pipe would hold too little after the commit. -/
def State.shortPipes (s : State) : Bool :=
  let c := s.candidate
  (c.indices [1, 3]).any fun i => fallsShort (s.cfg.pipes.getD i {}) (c.pipes.getD i {})

/-- The staged commands become journal entries (R339). -/
def State.journalStaged (s : State) (xs : List Staged) : State := xs.foldl (fun s x => s.journal x.opcode x.args x.mem x.handle) s

/-- CONFIG_COMMIT (R376). -/
def cmdConfigCommit : Cmd := fun o _ s =>
  let xs := s.lease.staged
  let placed := placeAll s.dies s.data.scopes (touched xs) s.candidate
  let room : Bool × Reason × Nat := match placed with
    | .error d => (true, .noBudget, budgetDetail (4, d))
    | .ok _ => (false, .noBudget, 0)
  checked (s.lockChecks o ++ [s.commitLate, bad 0 s.shortPipes, room]) s fun s =>
    match placed with
    | .error _ => okay s
    | .ok c => okay ((State.enact { s with lease := { s.lease with staged := [] } } c xs).journalStaged xs)

/-- CONFIG_COMMIT (R376). -/
def execConfigCommit (o : Origin) (args : List Byte) (s : State) : Host.Outcome State Fault Refusal :=
  .next ((s.row o 0x0011 args (fixedLen 0) cmdConfigCommit).keepSettings s)

/-! ### The lease -/

/-- Discards the staging; the generation of each staged create's entry rises by 1 (R371, R376). -/
def State.abortStaging (s : State) : State :=
  let made := s.lease.staged.filter (·.opcode == 0x0100)
  { s with lease := { s.lease with staged := [] }
           cfg := made.foldl (fun c x => c.modEntry x.handle fun e => { e with gen := nextGen e.gen }) s.cfg }

/-- CONFIG_ABORT (R376). -/
def cmdConfigAbort : Cmd := fun o _ s => checked (s.lockChecks o) s fun s => okay s.abortStaging

/-- CONFIG_ABORT (R376). -/
def execConfigAbort (o : Origin) (args : List Byte) (s : State) : Host.Outcome State Fault Refusal :=
  .next (s.row o 0x0012 args (fixedLen 0) cmdConfigAbort)

/-- The lease is free, nothing staged. -/
def State.freeLease (s : State) : State :=
  { s with lease := { s.lease with owner := none, address := 0, leftMs := 0, fullMs := 0, inherited := false } }

/-- CONFIG_LOCK (R375). -/
def cmdConfigLock : Cmd := fun o args s =>
  let action := field args 0 1
  let ms := orDefault (field args 2 2) 5000
  let lock : Checks :=
    if action = 1 then [(s.lease.owner.isSome && !s.holds o, .lockHeld, s.holderDetail)] else if action = 2 then s.lockChecks o else []
  checked (lock ++ [inRange args 0 1 1 2, bad 1 (field args 1 1 != 0), zeroOrRange args 2 2 1000 60000] ++
      [refusedIf (action == 2 && !s.lease.staged.isEmpty)]) s fun s =>
    if action = 2 then okay s.freeLease
    else
      let address := ((s.mgmt.sessions.find? (·.number == o.id)).map (·.address)).getD 0
      okay { s with lease := { s.lease with owner := some (o.ethernet, o.id), address := if o.ethernet then address else 0, leftMs := ms, fullMs := ms } }

/-- CONFIG_LOCK (R375). -/
def execConfigLock (o : Origin) (args : List Byte) (s : State) : Host.Outcome State Fault Refusal :=
  .next (s.row o 0x0010 args (fixedLen 4) cmdConfigLock)

/-- LOCK_STATUS (R375). -/
def cmdLockStatus : Cmd := fun _ _ s =>
  let (eth, id) := s.lease.owner.getD (false, 0)
  .done .ok 0 (leBytes 2 id ++ leBytes 1 (nat01 s.lease.owner.isSome + 2 * nat01 eth) ++ leBytes 1 0 ++ leBytes 4 s.lease.leftMs
    ++ leBytes 4 s.lease.staged.length ++ leBytes 4 (s.lease.staged.map (·.args.length)).sum) s

/-- LOCK_STATUS (R375). -/
def execLockStatus (o : Origin) (args : List Byte) (s : State) : Host.Outcome State Fault Refusal :=
  .next (s.row o 0x0013 args (fixedLen 0) cmdLockStatus)

/-- NOP (R393). -/
def cmdNop : Cmd := fun _ _ s => .done .ok 0 (leBytes 4 s.ident.fwVersion.toNat ++ leBytes 4 s.regs.alive.toNat) s

/-- NOP (R393). -/
def execNop (o : Origin) (args : List Byte) (s : State) : Host.Outcome State Fault Refusal := .next (s.row o 0x0001 args (fixedLen 0) cmdNop)

/-- The lease ends by expiry (cause 1) or by a reset of its holder (cause 2): the staging goes, the lease is free, LOCK_BROKEN is raised (R377). -/
def State.breakLease (s : State) (cause : Nat) : State :=
  match s.lease.owner with
  | none => s
  | some (eth, id) =>
    s.abortStaging.freeLease.raise 0x0002 0xFF (leBytes 2 id ++ leBytes 1 (nat01 eth) ++ leBytes 1 cause ++ leBytes 4 s.lease.staged.length)

/-- LEASE_EXPIRY: the lease has run out (R377). Log 86 [DESIGN CHOICE]. -/
def execLeaseExpiry (s : State) : Host.Outcome State Fault Refusal := .next (if s.lease.leftMs = 0 then s.breakLease 1 else s)

/-! ### The reset of an owner (R363, R377) -/

/-- Ownership of a mailbox ends, at once or with the command in progress (R363). -/
def Mailbox.endOwner (b : Mailbox) : Mailbox :=
  if b.busy then { b with ending := true } else { b with owned := false, ownerId := 0, ethernet := false }

/-- OWNER_RESET: the PCIe owner of a lease or mailbox is reset (R363, R377). -/
def execOwnerReset (kind : OwnerResetKind) (s : State) : Host.Outcome State Fault Refusal :=
  let s1 := { s with mail := { s.mail with boxes := updateAll (fun b => b.owned && !b.ethernet) Mailbox.endOwner s.mail.boxes } }
  .next (match kind with
    | .functionLevelReset | .hotReset | .linkDown | .busMasterOff =>
      match s.lease.owner with
      | some (false, _) => s1.breakLease 2
      | _ => s1)

end Sys2Proof.Machine
end

