-- ==== Sys2Proof/Machine/Reset.lean ====
section
/-! DEFINITION. Entering reset (R468, R469, R503): what a reset keeps is what the NOR store, the MRAM, the calendar domain and the VDD_AUX domain hold
(R312, R399, R442, R469). -/

namespace Sys2Proof.Machine

/-- A NOR operation takes effect: a sector erase or a page program (R448, R452). -/
def State.norApply (s : State) (op : NorOp) : State :=
  if op.erase then s.setMem (Memory.clear s.fabric.mem (norBase + op.addr) 65536)
  else s.memWrite (norBase + op.addr) op.data

/-- What a reset keeps of health, calibration and firmware: kiln sets, unit record, policy and seal in the NOR store, the log in the MRAM (R399, R433, R437,
R442, R456, R461). Log 41 [DEDUCED]. Log 73 [DEDUCED]. -/
def Health.kept (h : Health) : Health :=
  { kiln := h.norKiln.map fun k => { element := k.element, sets := k.sets }
    units := h.norUnits, norKiln := h.norKiln, norUnits := h.norUnits, norConfig := h.norConfig, policy := h.norConfig.policy, holdupMv := h.holdupMv
    log := { slots := h.log.slots, nextSeq := h.log.nextSeq, badMedia := h.log.badMedia }
    fw := { bankStates := h.fw.bankStates, bootPointer := h.norConfig.bootPointer, staged := h.fw.staged, written := h.fw.written, erased := h.fw.erased
            bytesWritten := h.fw.bytesWritten, ownerSeal := h.norConfig.ownerSeal } }

/-- The package enters reset; OFF it leaves through start-up only (R472). A NOR operation that has started completes (R448, R469); every other register takes its reset value, and HBM and SRAM hold
nothing that a rule names (log 41 [DEDUCED]). Log 55 [DEDUCED]. Log 64 [DEDUCED]. -/
def State.enterReset (s : State) (activation : Bool) : State :=
  let s0 := match s.health.fw.opStarted, s.health.fw.ops with
    | true, op :: _ => s.norApply op
    | _, _ => s
  let c := s.health.norConfig
  { (State.reset : State) with
    pending := s.pending, free := s.free, out := s.out
    ident := { s.ident with fellBack := false, scratch := 0 }
    cfg := { position := c.position, positionValid := c.positionValid, rxCfg := c.rxCfg, txCfg := c.txCfg, peers := c.peers }
    mgmt := c.mgmt
    clocks := { dpll := c.dpll, pulses := { ppsOut := .highZ, tickOut := .highZ, driven := false } }
    cal := s.cal
    twin := { mode := c.mode, attachWaitMs := c.attachWaitMs, history := c.history }
    fabric := { mem := Memory.clear s0.fabric.mem 0 norBase }
    health := s.health.kept
    power := { mode := if s.power.mode = .off then .off else .run, pwrFault := s.power.pwrFault, thermTrip := s.power.thermTrip, activation := activation }
    crate := { aloneSleepOk := c.aloneSleepOk, wakeCrate := c.wakeCrate } }

/-- A reset that FW_ACTIVATE or PACKAGE_RESET has made due (R453, R503). -/
def State.resetIfDue (s : State) : State := if s.health.fw.resetDue then s.enterReset true else s

end Sys2Proof.Machine
end

