-- ==== Sys2Proof/Machine/Twin.lean ====
section
/-! DEFINITION. The twin pair: claims and roles (R338, R353), attachment (R349), heartbeats and the declaration of a failure (R332 to R337), the journal's
acknowledgements (R339), state copies (R340 to R343), tun repair (R348), and the twin commands (R350, R351, R354 to R356). -/

namespace Sys2Proof.Machine

/-- Changes the twin subsystem. -/
def State.modTwin (s : State) (f : Twin → Twin) : State := { s with twin := f s.twin }

/-- The largest claim, which no package goes beyond (R338). -/
def lastClaim : Nat := 2 ^ 32 - 1

/-- The highest claim known for the own position (R338). -/
def State.highestClaim (s : State) : Nat :=
  max (max (s.claimOf s.cfg.position) s.twin.claimKnown) (max s.twin.claim ((s.twin.copy.map (·.claim)).getD 0))

/-- PPS_OUT and TICK_OUT are driven, or released to high impedance (R327, R347). -/
def State.drivePins (s : State) (on : Bool) : State :=
  s.modPulses fun p => { p with driven := on, ppsOut := if on then .low else .highZ, tickOut := if on then .low else .highZ }

/-- The package becomes ACTIVE or ALONE with 1 + the highest claim known, which it announces before a haul frame leaves; at the largest claim it does not
(R338, R484). -/
def State.takeRole (s : State) (role : TwinRole) : Bool × State :=
  if lastClaim ≤ s.highestClaim then
    (false, if s.twin.exhausted then s
      else (s.modTwin fun t => { t with exhausted := true }).raise 0x050C 0xFF (leBytes 2 s.cfg.position ++ leBytes 4 s.twin.claim))
  else
    let c := s.highestClaim + 1
    (true, (s.modTwin fun t => { t with role := role, claim := c, claimKnown := c, announceDue := true, fault := none, exhausted := false }).announce)

/-- A starting or waiting package becomes ALONE (R326, R349 step 4); where it may take no claim it stays STANDBY and sends nothing (R338). Log 174 [DEDUCED]. -/
def State.becomeAlone (s : State) : State :=
  let (ok, s1) := s.takeRole .alone
  if ok then s1.drivePins true else s1.modTwin fun t => { t with role := .standby }

/-- SOURCE of the twin partner. -/
def State.partnerSource (s : State) : Nat := s.cfg.position % 1024 + 1024 * nat01 (!s.ident.twinBit)

/-- The record of the role follows the data path: STATE_RECONCILED for a unit that R440 gives no kind, whose fields but the die are free (R353, log 1 [DESIGN CHOICE]). Log 130 [DEDUCED]. -/
def State.roleReconciled (s : State) : State :=
  let (v, s1) := s.fresh
  State.raise { s1 with health := { s1.health with reconciles := rcAdd 32 s1.health.reconciles 1 } } 0x0704 0xFF
    (leBytes 1 v ++ [0xFF] ++ leBytes 3 (v / 256))

/-- The step out of service: transmitters idle, shared outputs released, sparge stopped; STANDBY with NOT_READY [6] set (R353). A
reset that FW_ACTIVATE or PACKAGE_RESET made due follows (R453). Log 61 [DEDUCED]. -/
def State.demote (s : State) (claim source : Nat) : State :=
  let s1 := (s.drivePins false).modTwin fun t =>
    { t with role := .standby, claim := claim, claimKnown := max claim t.claimKnown, shadowed := false, shadowFrom := s.eventTick + 1, fault := none
             announceDue := false, takeoverWait := none, switchAt := none, driveDue := false, declared := none, windows := [], seen := {}
             copyOk := (false, false), copyDue := false
             partner := if t.mode = .untwinned then t.partner else some { (t.partner.getD {}) with role := .active } }
  let s2 := { s1 with data := { s1.data with scopes := [] } }
  (s2.raise 0x0506 0xFF (leBytes 4 claim ++ leBytes 2 source)).roleReconciled.resetIfDue

/-- A frame's SOURCE names the own position (R338, R18). -/
def State.ownPosition (s : State) (f : Frame) : Bool := f.source.toNat % 1024 == s.cfg.position % 1024

/-- A HEARTBEAT, STATE_COPY or claim announcement for the own position was accepted: a package that sends gives way to a higher claim, and twin B to an
equal one announced as ACTIVE; a STANDBY holds the claim of its active (R338). -/
def State.seeClaim (s : State) (claim : Nat) (role source : Nat) : State :=
  let s1 := s.modTwin fun t => { t with claimKnown := max claim t.claimKnown }
  if s.twin.role ≠ .standby then
    if s.twin.claim < claim ∨ (claim = s.twin.claim ∧ role = 1 ∧ s.twin.role = .active ∧ s.ident.twinBit) then s1.demote claim source else s1
  else if role = 1 then s1.modTwin fun t => { t with claim := max claim t.claim } else s1

/-! ### Frames on the twin link (R264, R329) -/

/-- A frame on a lane that carries twin frames breaks its layout (R264, R329). -/
def State.twinMalformed (s : State) (lane : LaneRef) : State := s.modReceiver lane fun x => { x with headerMalformed := rcAdd 32 x.headerMalformed 1 }

/-- The twin link is in use: twinned with a compatible partner, not held down by wide steering (R298, R349). -/
def State.twinUsed (s : State) : Bool := s.twin.mode != .untwinned && !s.twin.incompatible && !s.clocks.dpll.wide && !s.power.inReset

/-- The checks of R264 on a TWINSTATE frame, then PIPE, MSG and the payload's length (R329). A haul lane takes none (check 4 of R264). -/
def State.twinAccept (s : State) (lane : LaneRef) (msg : Nat) (lenOk : Nat → Bool) (f : Frame) : Bool × State :=
  match lane with
  | .haul n => (false, (s.receive n 5 f).2)
  | .twin _ =>
    if !s.twinUsed then (false, s)
    else
      let (ok, s1) := s.receiveOn lane 5 f
      if !ok then (false, s1)
      else if f.pipe ≠ 0 ∨ f.layout.toNat ≠ msg ∨ !lenOk f.payload.length then (false, s1.twinMalformed lane)
      else (true, s1.modReceiver lane fun x => { x with framesOk := rcAdd 64 x.framesOk 1 })

/-- A TWINSTATE message of one frame, whose payload has a fixed length (R329). -/
def State.twinReceive (s : State) (lane : LaneRef) (msg len : Nat) (f : Frame) : Bool × State := s.twinAccept lane msg (· == len) f

/-- The frames of a message that spans several, as they arrive: those that pass every check, in order. -/
def State.twinFrames (s : State) (msg : Nat) (lenOk : Nat → Bool) : List (LaneRef × Frame) → List Frame × State
  | [] => ([], s)
  | (lane, f) :: rest =>
    let (ok, s1) := s.twinAccept lane msg lenOk f
    let (fs, s2) := State.twinFrames s1 msg lenOk rest
    (if ok then f :: fs else fs, s2)

/-- TRANSACTION of a TWINSTATE frame (R329). -/
def twinTransaction (f : Frame) : Nat := f.spec.toNat / 2 ^ 32

/-- HEARTBEAT of a window (R333); `role` is the role it shows. -/
def State.sendHeartbeat (s : State) (window role : Nat) : State :=
  s.sendTwin 1 0 (leBytes 1 window ++ leBytes 1 role ++ leBytes 2 s.hbFlags ++ leBytes 4 s.twin.journalSeq ++ leBytes 1 (s.twin.fault.getD 0) ++ leBytes 7 0)

/-- The heartbeat window that is running at data-path time (R332). -/
def State.windowNow (s : State) : Nat :=
  match s.cfg.tick with
  | none => 0
  | some t => (s.timeNs - (t.epochSec * nsPerSec + t.epochNs + t.closeNs)) * 8 * t.den / (t.num * nsPerSec) % 8

/-! ### The journal (R339, R349 step 5) -/

/-- The active sends its whole journalled configuration, numbered afresh; firmware updates are no part of it (R349 step 5). TWIN_ATTACHED follows its last
acknowledgement. -/
def State.sendJournal (s : State) : State :=
  let kept := s.twin.history.filter fun e => !decide (e.opcode ∈ [0x0806, 0x0808, 0x0809])
  let es := (kept.zipIdx).map fun (e, i) => { e with seq := i + 1 }
  let s1 := s.modTwin fun t =>
    { t with journalSeq := es.length, journalCrc := es.foldl (fun c e => crc64From c (journalBytes e)) 0, history := es, inSync := es.isEmpty, reloading := true }
  es.foldl (fun s e => s.sendEntry e) s1

/-- Both raise TWIN_ATTACHED once the configuration is whole at the standby (R349 step 6). -/
def State.attached (s : State) : State :=
  if s.twin.reloading then
    let p := s.twin.partner.getD {}
    (s.modTwin fun t => { t with reloading := false }).raise 0x0501 0xFF (leBytes 1 p.role.code ++ leBytes 1 p.variant)
  else s

/-- A standby before its configuration comes: no pipe, journal at its start (R343, R349 step 5). Log 58 [DEDUCED]. -/
def State.clearConfig (s : State) : State :=
  let s1 := (List.range 512).foldl (fun s i => if (s.cfg.pipes.getD i {}).state = .free then s else s.clearPipe i) s
  let s2 := { s1 with cfg := { s1.cfg with pipes := s1.cfg.pipes.map fun (e : PipeEntry) => ({ gen := e.gen } : PipeEntry) }, lease := {} }
  s2.modTwin fun t => { t with journalSeq := 0, journalCrc := 0, history := [], inSync := false, crcBad := false, reloading := true, shadowed := false }

/-- Commands that wait for acknowledgements of entries up to `seq` complete (R339). -/
def State.journalDone (s : State) (seq : Nat) : State :=
  ((s.mail.running.filter fun r => match r.waits with
    | .journal q => decide (q ≤ seq)
    | _ => false).foldl (fun s r => s.finishRunning r) s).keepSettings s

/-- JOURNAL_ACK at the active (R339). -/
def execJournalAck (lane : LaneRef) (f : Frame) (s : State) : Host.Outcome State Fault Refusal :=
  let (ok, s1) := s.twinReceive lane 4 8 f
  let seq := field f.payload 0 4
  .next (if ok && s1.twin.role == .active then
    let s2 := s1.journalDone seq
    if seq = s2.twin.journalSeq then (s2.modTwin fun t => { t with inSync := true }).attached else s2
  else s1)

/-- JOURNAL_ACK_TIMEOUT: 2 ms without the acknowledgement complete the command; the whole configuration is sent again (R339). -/
def execJournalAckTimeout (seq : Nat) (s : State) : Host.Outcome State Fault Refusal :=
  .next (if s.mail.running.any (fun r => r.waits == .journal seq) then
    let s1 := s.journalDone seq
    if s1.twin.role = .active ∧ s1.twin.partner.isSome then s1.sendJournal else s1
  else s)

/-! ### Attachment (R349) -/

/-- An ATTACH frame, with the time stamp of its sending (R349 step 1). Log 56 [DEDUCED]. -/
def State.attachFrame (s : State) (transaction : Nat) : State :=
  s.sendTwin 7 transaction (leBytes 1 s.dies ++ leBytes 1 (s.ident.twinWindow.toNat % 16) ++ leBytes 1 (s.ident.twinWindow.toNat / 16) ++ leBytes 1 s.shownRole
    ++ leBytes 4 s.highestClaim ++ leBytes 8 s.timeNs)

/-- ATTACH of this package's own, by whose echo the round trip is measured (R349 steps 1 and 3). Its TRANSACTION is one that the partner's own never has. Log 56 [DEDUCED]. -/
def State.sendAttach (s : State) : State :=
  let t := (s.twin.attachTransaction + 2) / 2 % 2 ^ 31 * 2 + nat01 s.ident.twinBit
  (s.modTwin fun x => { x with attachSent := true, attachSentNs := s.timeNs, attachTransaction := t }).attachFrame t

/-- A package that is up sends ATTACH when the link locks and no partner is attached; a link that is lost before locks anew (R349 step 1). -/
def State.linkUp (s : State) : State :=
  if s.linkLanes = 0 ∧ s.twin.partner.isNone then s.modTwin fun t => { t with attachSent := false }
  else if s.twinUsed && s.linkLanes != 0 && s.twin.partner.isNone && !s.twin.attachSent && !s.twin.detached && decide (7 ≤ s.power.stage) then s.sendAttach else s

/-- The partner is lost or leaves: TWIN_DETACHED, and an active goes on as ALONE (R335, R351). Log 59 [DEDUCED]. -/
def State.detachPartner (s : State) (cause : Nat) : State :=
  let s1 := s.modTwin fun t =>
    { t with partner := none, attachSent := false, windows := [], seen := {}, inSync := false, reloading := false, diverged := false
             role := if t.role = .active then .alone else t.role }
  (s1.journalDone s1.twin.journalSeq).raise 0x0502 0xFF (leBytes 1 cause)

/-- Roles are settled with a partner whose ATTACH shows `pr` and whose frames carry `claim` (R349 step 4). Log 59 [DEDUCED]. -/
def State.settle (s : State) (p : Partner) (claim : Nat) : State :=
  let s1 := s.modTwin fun t => { t with partner := some p, windows := [], seen := {}, claimKnown := max claim t.claimKnown, copy := none, copyOk := (false, false)
                                        diverged := false, offsetPs := 0, skewRaised := false, copyDue := false }
  let sends := p.role != .standby
  let asActive (s : State) : State := (s.modTwin fun t => { t with role := .active, partner := some { p with role := .standby } }).sendJournal
  let asStandby (s : State) : State :=
    ((s.drivePins false).modTwin fun t =>
      { t with role := .standby, claim := max claim t.claim, partner := some { p with role := .active }, announceDue := false }).clearConfig
  if s.twin.role ≠ .standby ∧ !sends then asActive s1
  else if s.twin.role = .standby ∧ sends then asStandby s1
  else if s.twin.role ≠ .standby then
    if claim < s.twin.claim ∨ (claim = s.twin.claim ∧ !s.ident.twinBit) then asActive s1 else asStandby (s1.demote claim s.partnerSource)
  else if s.ident.twinBit then asStandby s1
  else
    let (ok, s2) := s1.takeRole .active
    if ok then (asActive s2).drivePins true else s2

/-- A step of the journal's end at either side with nothing to send (R349 step 6). -/
def State.settleDone (s : State) : State := if s.twin.role = .active ∧ s.twin.history.isEmpty then s.attached else s

/-- Step 8 of start-up ends with the roles settled (R475, R476). -/
def State.stepEight (s : State) : State := if s.power.stage = 7 then { s with power := { s.power with stage := 8 } } else s

/-- ATTACH: compatibility, delay and roles (R349). An ATTACH that echoes the TRANSACTION of this package's own is its reply, and sets the delay; any other is
answered. The first from a partner that is not attached settles the roles, and so does one that is no reply. Log 56 [DEDUCED]. -/
def execAttach (lane : LaneRef) (f : Frame) (rxNs : Nat) (s : State) : Host.Outcome State Fault Refusal :=
  let (ok, s1) := s.twinReceive lane 7 16 f
  let v := field f.payload 0 1
  let lo := field f.payload 1 1
  let hi := field f.payload 2 1
  let role := field f.payload 3 1
  let reply := s1.twin.attachSent && twinTransaction f == s1.twin.attachTransaction
  .next (if !ok || s1.twin.detached || decide (s1.power.stage < 7) then s1
    else if v ≠ s.dies ∨ hi < s.ident.twinWindow.toNat % 16 ∨ s.ident.twinWindow.toNat / 16 < lo then
      let s2 := if reply then s1 else s1.attachFrame (twinTransaction f)
      (s2.modTwin fun t => { t with incompatible := true }).raise 0x050A 0xFF (leBytes 1 v ++ leBytes 1 lo ++ leBytes 1 hi)
    else
      let s2 := if reply then s1.modTwin fun t => { t with delayPs := (((rxNs : Int) - (t.attachSentNs : Int)) * 1000) / 2 }
        else (if s1.twin.attachSent then s1 else s1.sendAttach).attachFrame (twinTransaction f)
      if reply && s1.twin.partner.isSome then s2
      else
        let p : Partner := { role := if role = 2 then .standby else if role = 1 then .active else .alone, variant := v, versionLo := lo, versionHi := hi }
        ((s2.settle p (max f.claim.toNat (field f.payload 4 4))).settleDone).readyCheck.stepEight)

/-- ATTACH_WAIT_EXPIRY: a package with no partner after ATTACH_WAIT_MS becomes ALONE (R349 step 4). -/
def execAttachWaitExpiry (s : State) : Host.Outcome State Fault Refusal :=
  .next (if 7 ≤ s.power.stage ∧ s.twin.mode ≠ .untwinned ∧ s.twin.role = .standby ∧ s.twin.partner.isNone ∧ !s.twin.detached then s.becomeAlone.stepEight else s)

/-- COMMA_PERIOD: a comma is found or tested at its expected position (R256, R257, R261, R274); the twin link is held down during wide steering (R298), and
its locking starts attachment (R349); in DORMANT the lanes are powered down (R471). Log 8 [DESIGN CHOICE]. -/
def execCommaPeriod (lane : LaneRef) (seen : CommaSeen) (s : State) : Host.Outcome State Fault Refusal :=
  .next (State.refCheck (match lane with
    | .haul n =>
      let s1 := if (s.rx n).inPass || s.power.mode == .dormant then s else s.comma lane seen
      if 128 ≤ n ∧ (s.rx n).lock = .locked ∧ (s1.rx n).lock ≠ .locked then s1.spareLost (n - 128) else s1
    | .twin k => if s.clocks.dpll.wide || (s.lanes.twinRx.getD k {}).inPass || s.power.mode == .dormant then s else ((s.comma lane seen).linkUp).readyCheck))

/-! ### Heartbeats (R332 to R337) -/

/-- The standby declares its active failed, with whether it is standby-ready then; an earlier declaration stands (R335, R345). -/
def State.declare (s : State) (cause boundary : Nat) : State :=
  if s.twin.declared.isSome then s
  else
    let ready := s.standbyReady
    s.modTwin fun t => { t with declared := some (cause, boundary), declaredReady := ready }

/-- HEARTBEAT from the partner (R333, R335, R338, R343, R351). One with DIVERGED that is no scheduled one tells of a further mismatch, which the active raises too.
Log 57 [DEDUCED]. Log 60 [DEDUCED]. -/
def execHeartbeat (lane : LaneRef) (f : Frame) (s : State) : Host.Outcome State Fault Refusal :=
  let (ok, s1) := s.twinReceive lane 1 16 f
  let role := field f.payload 1 1
  let flags := field f.payload 2 2
  let seq := field f.payload 4 4
  let cause := field f.payload 8 1
  .next (if !ok then s1
    else if 2 < role then s1.twinMalformed lane
    else
      let s2 := if s1.ownPosition f then s1.seeClaim f.claim.toNat role f.source.toNat else s1
      let window := field f.payload 0 1 % 8
      let further := (s1.twin.partner.bind (·.window)) == some window
      if s2.twin.partner.isNone then s2.modTwin fun t => { t with seen := { t.seen with any := true } }
      else
        let s3 := s2.modTwin fun t =>
          { t with seen := { t.seen with any := true, active := t.seen.active || role == 1 }
                   partner := t.partner.map fun p => { p with role := if role = 0 then .alone else if role = 1 then .active else .standby
                                                              ready := flags.testBit 1, hot := flags.testBit 2, diverged := flags.testBit 3
                                                              window := some window } }
        if s3.twin.role = .standby then
          let s4 := if flags.testBit 0 then s3.declare cause s3.nextBoundary else s3
          let s5 := s4.modTwin fun t => { t with inSync := seq == t.journalSeq && !t.crcBad }
          (if s5.twin.inSync then s5.attached else s5).readyCheck
        else if role = 0 then s3.detachPartner 1
        else if flags.testBit 3 ∧ (!s3.twin.diverged ∨ further) then
          let (v, s4) := s3.fresh
          let tick := s.eventTick - 2
          let own := ((s.data.digests.find? (·.1 == tick)).map (·.2)).getD 0
          (s4.modTwin fun t => { t with diverged := true, mismatchTick := tick }).raise 0x0507 0xFF (leBytes 6 tick ++ leBytes 8 own.toNat ++ leBytes 8 v)
        else s3.modTwin fun t => { t with diverged := flags.testBit 3 })

/-- Windows that make up 3 x P_b (R334, R335): three, or more when a window is shorter than 1 ms. -/
def TickCfg.backupWindows (t : TickCfg) : Nat := max 3 (ceilDiv (24 * t.den) (1000 * t.num))

/-- At the end of a window: a standby declares its active failed, and an active finds its standby gone, in the same way (R335, R351). Log 33 [DESIGN CHOICE]. -/
def State.judgeWindows (s : State) (t : TickCfg) (n : Nat) : State :=
  let standby := s.twin.role == .standby
  let ws := s.twin.windows
  let shown (w : HbWindow) : Bool := if standby then w.active else w.any
  let backup (w : HbWindow) : Bool := if standby then w.backupActive else w.backupAny
  let fails (s : State) : State :=
    if standby then s.declare 0 (n + 1) else s.detachPartner 2
  if s.linkLanes ≠ 0 then
    if 3 ≤ ws.length ∧ (ws.take 3).all (fun w => !shown w) then
      if (ws.take 3).any backup then s.modTwin fun x => { x with windows := [] } else fails s
    else s
  else if t.backupWindows ≤ ws.length ∧ (ws.take t.backupWindows).all (fun w => !backup w) then fails s
  else s

/-- HEARTBEAT_WINDOW: window w of tick n begins and the one before ends (R332, R335). A twinned package sends its HEARTBEAT whether or not a partner is attached.
Log 6 [DESIGN CHOICE]. -/
def execHeartbeatWindow (n w : Nat) (s : State) : Host.Outcome State Fault Refusal :=
  .next (match s.cfg.tick with
    | none => s
    | some t =>
      let s0 := s.advanceTo (t.windowNs n w)
      if s0.twin.mode == .untwinned || s0.twin.detached then s0
      else
        let s1 := s0.modTwin fun x => { x with seen := {}, hbMissed := rcAdd 32 x.hbMissed (nat01 (!x.seen.any)) }
        let s2 := if s0.twin.partner.isNone then s1
          else (s1.modTwin fun x => { x with windows := (s0.twin.seen :: x.windows).take 32 }).judgeWindows t n
        (s2.sendHeartbeat (w % 8) s2.shownRole).readyCheck)

/-- HEARTBEAT_WATCHDOG: the transmitters and shared outputs fall silent (R337). Log 86 [DESIGN CHOICE]. -/
def execHeartbeatWatchdog (s : State) : Host.Outcome State Fault Refusal := .next ((s.modTwin fun t => { t with silenced := true }).drivePins false)

/-- A package heard its partner's backup heartbeat on the crate bus (R335, R484). A FAULT bit declares at once; it carries no cause (log 33 [DESIGN CHOICE]). -/
def State.backupHeartbeat (s : State) (role flags : Nat) : State :=
  let s1 := s.modTwin fun t => { t with seen := { t.seen with backupAny := true, backupActive := t.seen.backupActive || role == 1 } }
  if s1.twin.role = .standby ∧ flags.testBit 0 ∧ role = 1 then s1.declare 0 s1.nextBoundary else s1

/-- The active sets FAULT with a cause of R336; without a partner it has no effect. -/
def State.setFault (s : State) (cause : Nat) : State :=
  if s.twin.role = .active ∧ s.twin.partner.isSome ∧ s.twin.fault.isNone then s.modTwin fun t => { t with fault := some cause } else s

/-! ### State copies (R340 to R343) -/

/-- Every CORR pipe has had one whole integration after the last mismatched tick by tick `t` (R343). -/
def State.wholeSince (s : State) (bad t : Nat) : Bool :=
  (s.cfg.indices [2]).all fun i =>
    let e := s.cfg.pipes.getD i {}
    let k := max e.cfg.k 1
    let f := if bad < e.startTick then e.startTick else e.startTick + ceilDiv (bad + 1 - e.startTick) k * k
    decide (f + k ≤ t + 1)

/-- DIGEST and JOURNAL_CRC compared at a hot standby (R343). A tick that is not compared has not matched: what is left of a divergence begins after it. Log 57
[DEDUCED]. Log 57 [DEDUCED]. -/
def State.compareCopy (s : State) (c : StateCopy) : State :=
  let tick := c.tick - 2
  let own := ((s.data.digests.find? (·.1 == tick)).map (·.2))
  let digestBad := decide (2 ≤ c.tick) && own.elim false (· != c.digest)
  let journalBad := c.journalSeq == s.twin.journalSeq && c.journalCrc != s.twin.journalCrc && !s.twin.reloading
  let s1 := if 2 ≤ c.tick ∧ own.isSome then
      s.modTwin fun t => { t with lastDigestTick := tick, mismatchTick := if t.lastDigestTick + 1 = tick then t.mismatchTick else max t.mismatchTick (tick - 1) }
    else s
  if digestBad || journalBad then
    let s2 := s1.modTwin fun t => { t with diverged := true, mismatchTick := tick, digestMismatches := rcAdd 32 t.digestMismatches (nat01 digestBad) }
    let s3 := (s2.raise 0x0507 0xFF (leBytes 6 tick ++ leBytes 8 (own.getD 0).toNat ++ leBytes 8 c.digest.toNat)).sendHeartbeat s.windowNow s.shownRole
    if journalBad then (s3.modTwin fun t => { t with inSync := false, crcBad := true }).sendAttach else s3
  else if s1.twin.diverged && decide (2 ≤ c.tick) && own.isSome && s1.wholeSince s1.twin.mismatchTick tick then s1.modTwin fun t => { t with diverged := false }
  else s1

/-- TWIN_OFFSET_PS: the boundary time that the copy carries against this package's own time at that boundary, which the copy left at; its first segment arrives the
link's delay after that. TWIN_TIME_SKEW once per excursion (R304, R340, R342, log 34 [DEDUCED]). -/
def State.twinOffset (s : State) (c : StateCopy) (rxNs : Nat) : State :=
  let off : Int := (rxNs : Int) * 1000 - s.twin.delayPs - ((c.boundarySec * nsPerSec + c.boundaryNs : Nat) : Int) * 1000
  let out := decide ((s.clocks.dpll.jumpThreshNs * 1000 : Nat) < off.natAbs)
  let s1 := s.modTwin fun t => { t with offsetPs := off, skewRaised := out }
  if out && !s.twin.skewRaised then s1.raise 0x0409 0xFF (leInt 4 off) else s1

/-- Gain words as last copied (R340). -/
def mergeGains (old new : List GainItem) : List GainItem :=
  (old.filter fun a => !new.any fun b => b.pipe == a.pipe && b.input == a.input && b.channel == a.channel) ++ new

/-- The active had not finished a scope when it sent the copy: the copy lists it, or it opened later. Log 139 [DEDUCED]. -/
def inProgress (c : StateCopy) (sc : Scope) : Bool := decide (c.tick < sc.opened) || c.progress.any fun p => p.pipe == sc.pipe && p.tickScope == sc.tickScope && p.tick == sc.tick

/-- A standby gives up the shadow scopes that have ended here and that the active had finished too (R241, R344). Log 139 [DEDUCED]. -/
def State.dropEnded (s : State) (c : StateCopy) : State :=
  { s with data := { s.data with scopes := s.data.scopes.filter fun sc => !sc.ended || inProgress c sc } }

/-- The segments of a copy of boundary `tick` are whole: their indexes run from 0, LAST stands on the last, and each names the boundary (R329, R342). -/
def wholeCopy (tick : Nat) (fs : List Frame) : Bool :=
  decide (fs ≠ []) && fs.zipIdx.all fun (f, i) => f.spec.toNat % 2 ^ 32 == segmentField i fs.length && f.tick.toNat == tick

/-- The copy of tick `n` is late or not whole: it counts once in COPIES_LATE (R342). -/
def State.copyLate (s : State) (n : Nat) : State :=
  if s.twin.lateTick = some n then s else s.modTwin fun t => { t with copiesLate := rcAdd 32 t.copiesLate 1, lateTick := some n }

/-- STATE_COPY: the frames of a state copy arrive, the first at `rxNs`; `c` is what their segments spell (R329, R340, R342, R343; the layout of the bytes is not the
spec's, log 17 [DESIGN CHOICE]). A copy that is late or not whole is discarded and counts once. Log 34 [DEDUCED]. -/
def execStateCopy (frames : List (LaneRef × Frame)) (c : StateCopy) (rxNs : Nat) (s : State) : Host.Outcome State Fault Refusal :=
  let (fs, s1) := s.twinFrames 2 (fun n => decide (n ≤ 8192)) frames
  .next (match fs.getLast? with
    | none => s1
    | some f =>
      let s2 := if s1.ownPosition f then s1.seeClaim (max f.claim.toNat c.claim) 1 f.source.toNat else s1
      if s2.twin.role ≠ .standby ∨ s2.twin.partner.isNone then s2
      else if !wholeCopy c.tick fs || decide (c.tick + 1 ≤ s2.data.boundary.getD 0) then s2.copyLate c.tick
      else
        let s3 := s2.modTwin fun t =>
          { t with copy := some c, lastCopyBytes := (fs.map (·.payload.length)).sum, gainWords := mergeGains t.gainWords c.gains }
        let s4 := (s3.dropEnded c).twinOffset c rxNs
        (if s4.twin.mode = .hot then s4.compareCopy c else s4).refCheck.readyCheck)

/-! ### Tun repair (R179, R180, R348) -/

/-- STATUS and word of the answer to a repair read (R180, R348). A name that this package's table does not have answers 5 (log 37 [DEDUCED]). -/
def State.repairAnswer (s : State) (h die bank ch tp word : Nat) : Nat × List Byte :=
  let i := bits h 0 16
  let e := s.repairEntry i
  let c := e.cfg.corrCfg
  let hot := s.twin.mode == .hot && !s.twin.detached && (s.twin.role == .standby || (s.twin.role == .active && ((s.twin.partner.map (·.hot)).getD false)))
  let p := s.tilePos i die bank ch tp
  let a := e.tunAddr die bank ch tp + 32 * word
  if !hot then (1, [])
  else if s.twin.diverged then (2, [])
  else if e.cfg.kind ≠ 2 ∨ s.cfg.dataHandle i ≠ h ∨ !c.worksChannel die ch ∨ c.pCorr ≤ tp ∨ c.v ≤ 32 * word ∨ 2 ≤ bank
      ∨ ((s.pipeAt i ((s.data.boundary.getD 0) - 1)).map (·.bankAt ((s.data.boundary.getD 0) - 1))) = some bank then (5, [])
  else if p.saturated then (3, [])
  else if p.poison.contains word || s.badWord a then (4, [])
  else (0, s.memRead a 32)

/-- REPAIR_REQ: a tun repair read is answered (R180, R348). -/
def execRepairReq (lane : LaneRef) (f : Frame) (s : State) : Host.Outcome State Fault Refusal :=
  let (ok, s1) := s.twinReceive lane 5 16 f
  let g (off n : Nat) : Nat := field f.payload off n
  let (st, word) := s1.repairAnswer (g 0 4) (g 4 1) (g 5 1) (g 6 2) (g 8 4) (g 12 4)
  .next (if !ok then s1
    else
      let s2 := s1.sendTwin 6 (twinTransaction f) (leBytes 1 st ++ leBytes 3 0 ++ padTo 32 word)
      s2.modTwin fun t => if st = 0 then { t with repairsServed := rcAdd 32 t.repairsServed 1 } else { t with repairsRefused := rcAdd 32 t.repairsRefused 1 })

/-- REPAIR_REPLY (R179, R348). -/
def execRepairReply (lane : LaneRef) (f : Frame) (s : State) : Host.Outcome State Fault Refusal :=
  let (ok, s1) := s.twinReceive lane 6 36 f
  .next (if !ok then s1
    else match s1.data.repairs.find? (·.transaction.toNat == twinTransaction f) with
    | some r => if field f.payload 0 1 = 0 then s1.repairWith r (f.payload.drop 4) else s1.repairFails r
    | none => s1)

/-! ### Switch and detach (R350, R351, R355) -/

/-- SWITCH at the standby: answered with SWITCH_ACK (R350). -/
def execSwitch (lane : LaneRef) (f : Frame) (s : State) : Host.Outcome State Fault Refusal :=
  let (ok, s1) := s.twinReceive lane 8 8 f
  let at_ := field f.payload 0 6
  .next (if ok && s1.twin.role == .standby then
    let yes := s1.standbyReady
    let s2 := s1.sendTwin 9 (twinTransaction f) (leBytes 6 at_ ++ leBytes 2 (nat01 (!yes)))
    if yes then s2.modTwin fun t => { t with switchAt := some at_ } else s2
  else s1)

/-- The TWIN_SWITCH that waits for its acknowledgement. Log 114 [DEDUCED]. -/
def State.switchWaiting (s : State) : Option Running := s.mail.running.find? (·.waits == .switchAck)

/-- The end of a TWIN_SWITCH that the standby cannot take: refused, or with FORCE cause 5 (R350). -/
def State.switchRefused (s : State) (r : Running) : State :=
  if (field r.args 8 1).testBit 0 then (s.setFault 5).finishWith r .ok else s.finishWith r .refusedState

/-- SWITCH_ACK at the active (R350). -/
def execSwitchAck (lane : LaneRef) (f : Frame) (s : State) : Host.Outcome State Fault Refusal :=
  let (ok, s1) := s.twinReceive lane 9 8 f
  .next (if !ok then s1
    else match s1.switchWaiting with
    | some r =>
      if field r.args 0 6 ≠ field f.payload 0 6 then s1
      else if field f.payload 6 2 = 0 then (s1.finishWith r .ok).modTwin fun t => { t with switchAt := some (field r.args 0 8) }
      else s1.switchRefused r
    | none => s1)

/-- SWITCH_OUTPUT_DRIVE: the new active drives the shared outputs 0.5 us after the old active's boundary (R347). -/
def execSwitchOutputDrive (s : State) : Host.Outcome State Fault Refusal :=
  .next (if s.twin.driveDue then (s.modTwin fun t => { t with driveDue := false }).drivePins true else s)

/-- Tick boundary AT_TICK - 1 has passed (R355). -/
def State.switchLate (s : State) (t : Nat) : Bool :=
  match s.cfg.tick with
  | some c => t == 0 || c.reached s.timeNs (t - 1) c.closeNs
  | none => false

/-- TWIN_SWITCH (R350, R355). -/
def cmdTwinSwitch : Cmd := fun _ args s =>
  let t := field args 0 8
  checked ([tickField args 0, reservedHigh args 8 1] ++ reserved args 9 3 ++
      [refusedIf (s.twin.role != .active || s.twin.partner.isNone || s.cfg.tick.isNone || (s.linkLanes == 0 && !(field args 8 1).testBit 0)),
       (s.switchLate t, .tooLate, t % 2 ^ 32)]) s fun s =>
    if s.linkLanes = 0 then okay (s.setFault 5)
    else .wait .switchAck .ok 0 [] (s.sendTwin 8 0 (leBytes 6 t ++ leBytes 2 (field args 8 1)))

/-- TWIN_SWITCH (R350). -/
def execTwinSwitch (o : Origin) (args : List Byte) (s : State) : Host.Outcome State Fault Refusal :=
  .next (s.row o 0x0601 args (fixedLen 12) cmdTwinSwitch)

/-- TWIN_DETACH (R351). -/
def cmdTwinDetach : Cmd := fun _ _ s =>
  checked [refusedIf (s.twin.role != .standby || s.twin.partner.isNone)] s fun s => okay (s.modTwin fun t => { t with detachDue := true })

/-- TWIN_DETACH (R351). -/
def execTwinDetach (o : Origin) (args : List Byte) (s : State) : Host.Outcome State Fault Refusal :=
  .next (s.row o 0x0602 args (fixedLen 0) cmdTwinDetach)

/-- MODE as TWIN_CONFIG codes it (R354). -/
def twinMode : Nat → TwinMode
  | 1 => .hot
  | 2 => .warm
  | _ => .untwinned

/-- A change of MODE takes effect at the boundary after the last: untwinned, the package is ALONE (R326), and one that waited at step 8 of start-up for a partner
waits no longer (R475); from warm to hot, shadowing starts (R354). Log 38 [DEDUCED]. -/
def State.setMode (s : State) (m : TwinMode) : State :=
  let s1 := s.modTwin fun t => { t with mode := m, nextMode := none }
  match m with
  | .untwinned =>
    let s2 := s1.modTwin fun t => { t with partner := none, attachSent := false, incompatible := false, detached := false }
    if s.twin.role = .standby then s2.becomeAlone.stepEight else s2.modTwin fun t => { t with role := .alone }
  | _ =>
    let s2 := if s.twin.mode = .warm ∧ m = .hot then s1.modTwin fun t => { t with shadowed := false, shadowFrom := (s.data.boundary.map (· + 1)).getD 0 } else s1
    s2.linkUp.readyCheck

/-- TWIN_CONFIG (R354): at the next tick boundary, or at once when no TICK_CONFIG is in force (log 38 [DEDUCED]). -/
def cmdTwinConfig : Cmd := fun _ args s =>
  let m := twinMode (field args 0 1)
  checked ([inRange args 0 1 0 2, bad 1 (field args 1 1 != 0), zeroOrRange args 2 2 100 60000] ++ reserved args 4 4 ++
      [refusedIf (s.clocks.dpll.wide && m != .untwinned)]) s fun s =>
    let s1 := s.modTwin fun t => { t with attachWaitMs := orDefault (field args 2 2) 2000 }
    if m = s.twin.mode then okay (s1.modTwin fun t => { t with nextMode := none })
    else if s.cfg.tick.isNone then okay (s1.setMode m)
    else okay (s1.modTwin fun t => { t with nextMode := some m })

/-- TWIN_CONFIG (R354). -/
def execTwinConfig (o : Origin) (args : List Byte) (s : State) : Host.Outcome State Fault Refusal :=
  .next ((s.row o 0x0600 args (fixedLen 8) cmdTwinConfig).keepSettings s)

/-- MODE code (R354). -/
def TwinMode.code : TwinMode → Nat
  | .untwinned => 0
  | .hot => 1
  | .warm => 2

/-- TWIN_STATUS (R356). -/
def cmdTwinStatus : Cmd := fun _ _ s =>
  let t := s.twin
  let bitsShown := if t.role = .standby ∧ !t.detached then s.readyBits else 0
  .done .ok 0 (leBytes 1 s.shownRole ++ leBytes 1 t.mode.code ++ leBytes 1 ((t.partner.map (·.role.code)).getD 0xFF) ++ leBytes 1 s.linkLanes
      ++ leBytes 4 bitsShown ++ leBytes 4 t.claim ++ leBytes 4 t.journalSeq ++ leBytes 8 t.lastDigestTick ++ leBytes 4 t.digestMismatches
      ++ leBytes 4 t.copiesLate ++ leBytes 4 t.hbMissed ++ leBytes 4 t.takeovers ++ leBytes 4 t.repairsServed ++ leBytes 4 t.repairsRefused
      ++ leBytes 4 t.lastCopyBytes ++ leBytes 4 0)
    (s.modTwin fun t => { t with digestMismatches := 0, copiesLate := 0, hbMissed := 0, takeovers := 0, repairsServed := 0, repairsRefused := 0 })

/-- TWIN_STATUS (R356). -/
def execTwinStatus (o : Origin) (args : List Byte) (s : State) : Host.Outcome State Fault Refusal :=
  .next (s.row o 0x0603 args (fixedLen 0) cmdTwinStatus)

end Sys2Proof.Machine
end

