-- ==== Sys2Proof/Machine/Takeover.lean ====
section
/-! DEFINITION. The takeover at a tick boundary (R344 to R347): resumed sparge of a ready standby, and the fresh start of one that is not ready. -/

namespace Sys2Proof.Machine

/-- The record index at which a die of a scope resumes, from the copied progress; the start for a scope that opened after the copy (R340, R344). Log 139 [DEDUCED]. -/
def progressOf (c : StateCopy) (sc : Scope) (die : Nat) : Option Nat :=
  if c.tick < sc.opened then some 0
  else (c.progress.find? fun p => p.pipe == sc.pipe && p.tickScope == sc.tickScope && p.tick == sc.tick && p.die == die).map (·.next)

/-- A scope with its readers at the copied progress: a die that is not listed has finished. Records before it count as sent (R235, R241). Log 139 [DEDUCED]. -/
def Scope.resume (c : StateCopy) (sc : Scope) : Scope :=
  let at_ (d : Nat) : Nat := (progressOf c sc d).getD sc.list.length
  let readers : List Reader := sc.readers.map fun rd => match sc.nextOf rd.die (at_ rd.die) with
    | some n => { die := rd.die, next := n }
    | none => { die := rd.die, done := true }
  let sent := ((sc.list.zipIdx).filter fun (r, i) => decide (i < at_ r.die)).length
  { sc with readers := readers, sent := sent, resent := true, ended := false }

/-- Sparge resumes from SPARGE_PROGRESS; scopes that the active had finished are closed (R241, R344 step 5). -/
def State.resumeSparge (s : State) (c : StateCopy) : State :=
  { s with data := { s.data with scopes := (s.data.scopes.filter (inProgress c)).map (Scope.resume c) } }

/-- Unsent records of the scopes in progress are dropped and counted (R241, R345). -/
def State.dropSparge (s : State) (c : StateCopy) : State :=
  let later := s.data.scopes.filter fun sc => decide (c.tick < sc.opened)
  let keys := dedup ((c.progress.map fun p => (p.pipe, p.tickScope, p.tick)) ++ later.map fun sc => (sc.pipe, sc.tickScope, sc.tick))
  keys.foldl (fun s (pipe, tickScope, tick) =>
    let e := (s.pipeAt pipe tick).getD (s.cfg.pipes.getD pipe {})
    let s1 := s.openScope pipe (s.cfg.dataHandle pipe) e tickScope tick (e.bankAt tick) []
    match s1.scopeOf pipe tickScope with
    | some sc =>
      let listed := c.progress.any fun p => p.pipe == pipe && p.tickScope == tickScope && p.tick == tick
      (s1.setScope (Scope.resume c (if listed then { sc with opened := 0 } else sc))).closeScope pipe tickScope
    | none => s1) { s with data := { s.data with scopes := [] } }

/-- The gain word with which an input's channel goes on: the latest copied, or GAIN_INIT (R345). -/
def State.copiedGain (s : State) (pipe input ch : Nat) (c : IngestCfg) : Word :=
  ((s.twin.gainWords.find? fun g => g.pipe == pipe && g.input == input && g.channel == ch).map (·.word)).getD c.gainInit

/-- The chain with which an input starts at grain `g` for tick `t`: the tables loaded for it and the changes to come stay (R345). -/
def coldChain (cs : List Chain) (pipe : Nat) (c : IngestCfg) (x : InputEntry) (t g : Nat) (gains : List GainState) : Chain :=
  let old := match cs.find? fun k => k.pipe == pipe && k.input == x.input && k.finish.isNone with
    | some k => k.move t
    | none => newChain pipe c x t
  Chain.restart { old with die := x.die, cfg := c, prior := [], start := g, next := g, startTick := t, gains := gains, buffer := [], ahead := [], outs := []
                           stopped := false, gapStart := none, silent := false } g

/-- The chains of an INGEST pipe restart at the first grain boundary after `m`; their TURN frames begin with tick m + 1 (R345, log 39 [DEDUCED]). -/
def State.coldChains (s : State) (m i : Nat) : State :=
  let e := (s.pipeAt i m).getD (s.cfg.pipes.getD i {})
  match e.cfg with
  | .ingest c =>
    if m < e.startTick then s
    else
      let g := m * c.samplesPerTick + c.gristPerOut
      let cs := e.inputs.foldl (fun cs x =>
        let gains : List GainState := (List.range c.chCount).map fun ch => { word := s.copiedGain i x.input (c.chFirst + ch) c, loads := [m + 1] }
        cs ++ [coldChain s.data.chains i c x (m + 1) g gains]) (s.data.chains.filter (·.pipe != i))
      { s with data := { s.data with chains := cs } }
  | _ => s

/-- The ticks up to `t` of the integration that a CORR pipe accumulates at tick `t` count as MISSING for every input and channel (R44, R345). -/
def State.coldCounts (s : State) (i t : Nat) : State :=
  match s.pipeAt i t with
  | none => s
  | some e =>
    let c := e.cfg.corrCfg
    if e.cfg.kind ≠ 2 then s
    else
      let bank := e.bankAt t
      let first := e.startTick + e.integration t * max e.cfg.k 1
      let lost := (t + 1 - first) * c.m * 2 ^ c.tLog2
      let new : List InputCount := (List.range c.chCount).flatMap fun k => c.inputList.map fun x =>
        { pipe := i, bank := bank, channel := c.chFirst + k, input := x, missing := lost }
      { s with data := { s.data with counts := (s.data.counts.filter fun x => !(x.pipe == i && x.bank == bank)) ++ new } }

/-- The mashes of the ticks `first` to `last` of a detected BEAM pipe, all MISSING (R345). -/
def State.lostMashes (s : State) (e : PipeEntry) (pipe first last : Nat) : List BeamMash :=
  let b := e.cfg.beamCfg
  (List.range (last + 1 - first)).flatMap fun k => (List.range b.chCount).flatMap fun l => (List.range b.m).map fun mash =>
    { pipe := pipe, die := finishDie (s.cfgAt (first + k)) e (b.chFirst + l) mash, tick := first + k, channel := b.chFirst + l, mash := mash
      missing := b.inputCount * 2 ^ b.tLog2, dets := List.replicate (b.runsPerMash * b.beams) 0 }

/-- What a BEAM pipe holds at a takeover that was not ready: nothing but the missing ticks of its open integration. -/
def State.coldBeam (s : State) (m i : Nat) : State :=
  match s.pipeAt i (m - 1) with
  | none => s
  | some e =>
    let b := e.cfg.beamCfg
    if e.cfg.kind ≠ 3 then s
    else
      let released := m - (if b.contribCount = 0 then 3 else 4)
      let first := e.startTick + e.integration released * max b.k 1
      let bank := if b.detected ∧ e.startTick + 1 ≤ released then s.lostMashes e i first (released - 1) else []
      { s with data := { s.data with
          cells := s.data.cells.filter (·.pipe != i), contribs := s.data.contribs.filter (·.pipe != i), finished := s.data.finished.filter (·.pipe != i)
          detBank := (s.data.detBank.filter (·.pipe != i)) ++ bank } }

/-- Ingest, turn writer and tiles start at `m`: ticks m and earlier are not accumulated (R345). Log 39 [DEDUCED]. -/
def State.coldStart (s : State) (m : Nat) : State :=
  let live := s.cfg.indices [1, 2, 3]
  let s1 := { s with data := { s.data with turn := [], tiles := [], held := [], repairs := [], digests := [] } }
  let s2 := live.foldl (fun s i => ((s.coldChains m i).coldCounts i (m - 2)).coldCounts i (m - 1)) s1
  (live.foldl (fun s i => s.coldBeam m i) s2).modTwin fun t => { t with accumulateFrom := m + 1 }

/-- Lane sparing copies that the active had confirmed go on, for those that held them there and those that this package heard (R274, R344 step 4). -/
def State.resumeCopies (s : State) (c : StateCopy) : State :=
  c.spareCopies.foldl (fun s (l, hs) => s.modSpareTx (dieOfLane l) fun y =>
    let own := if y.lane = some l then y.holders else []
    { y with lane := some l, copying := true, confirmed := true, holders := own ++ hs.filter fun h => !own.any (·.1 == h.1) }) s

/-- The configuration lease as it came with the copy (R340, R378). -/
def State.inheritLease (s : State) (c : StateCopy) : State :=
  { s with lease := { owner := c.lockOwner, address := c.lockAddress, leftMs := c.leaseLeftMs, fullMs := c.leaseLeftMs, staged := c.staged
                      inherited := c.lockOwner.isSome } }

/-- Causes of TWIN_TAKEOVER beside those of R336: 0 missing heartbeats, 6 a switch (log 33 [DESIGN CHOICE]). -/
def switchCause : Nat := 6

/-- The takeover at step 2 of boundary `m` by a standby that was `ready` when it was declared or agreed (R344, R345): the claim is taken and announced; the rest that
waits for the ANNOUNCE follows it. Log 33 [DESIGN CHOICE]. -/
def State.takeover (s : State) (cause m : Nat) (ready : Bool) : State :=
  let copy := s.twin.copy.getD {}
  let (ok, s1) := s.takeRole .active
  let cleared (t : Twin) : Twin := { t with declared := none, switchAt := none, windows := [], seen := {}, wasReady := false, inSync := true, reloading := false }
  if !ok then s1.modTwin cleared
  else
    let s2 := s1.modTwin fun t => { cleared t with takeovers := rcAdd 32 t.takeovers 1, takeoverWait := some (cause, m, ready), driveDue := decide (cause = switchCause) }
    let s3 := (s2.inheritLease copy).resumeCopies copy
    if ready then s3.resumeSparge copy else (s3.dropSparge copy).coldStart m

/-- The ANNOUNCE of a claim has been sent whole: the outputs are driven, frames may leave, and a takeover is reported (R344 steps 2 to 6). After a switch the
outputs wait for the old active's boundary (R347). -/
def State.announced (s : State) : State :=
  let s1 := s.modTwin fun t => { t with announceDue := false, takeoverWait := none }
  match s.twin.takeoverWait with
  | none => s1
  | some (cause, m, ready) =>
    (if s.twin.driveDue then s1 else s1.drivePins true).raise 0x0505 0xFF
      (leBytes 1 cause ++ leBytes 6 m ++ leBytes 4 s.twin.claim ++ leBytes 1 (nat01 ready))

end Sys2Proof.Machine
end

