-- ==== Sys2Proof/Machine/Crate.lean ====
section
/-! DEFINITION. The crate bus (R478 to R488): sending and acknowledging, heartbeats and announcements, BOOT, the sleep agreement, CRATE_CONFIG and
CRATE_STATUS (R500, R501). -/

namespace Sys2Proof.Machine

/-- The node sends from step 3 of start-up onward, and in recovery mode (R481, R485). Log 50 [DEDUCED]. -/
def State.crateUp (s : State) : Bool := !s.power.inReset && (decide (3 ≤ s.power.stage) || s.health.fw.recovery)

/-- A power-state transition begins (R472). -/
def State.beginPower (s : State) (target : PowerMode) (cause : Nat) : State := { s with power := { s.power with target := some (target, cause) } }

/-- DORMANT is entered: a package that is leaving it comes back once it has left (R472, R498). Log 53 [DEDUCED]. -/
def State.sleepNow (s : State) (cause : Nat) : State :=
  if s.power.mode ≠ .dormant then s.beginPower .dormant cause
  else if s.power.target.isNone then s
  else { s with power := { s.power with exitAfter := some (.dormant, cause) } }

/-- Changes the sleep agreement's state. -/
def State.modSleep (s : State) (f : Sleep → Sleep) : State := s.modCrate fun c => { c with sleep := f c.sleep }

/-! ### Sending (R480 to R482) -/

/-- A frame leaves: FRAMES_TX counts it and SEQ advances for a new frame; an ANNOUNCE to every node that carries the present claim announces it (R338, R479,
R484). -/
def State.crateTransmit (s : State) (x : CrateTx) (acker : Nat) : State :=
  let seq := x.seq.getD s.crate.nextSeq
  let f := sealCrate x.type { src := BitVec.ofNat 8 s.ident.nodeId, dest := BitVec.ofNat 8 x.dest, acker := BitVec.ofNat 8 acker, seq := seq, payload := x.payload }
  let s1 := (s.modCrate fun c => { c with framesTx := rcAdd 32 c.framesTx 1, nextSeq := if x.seq.isNone then c.nextSeq + 1 else c.nextSeq }).emit (.crate x.type f (crateLine x.type f))
  if x.type = 3 ∧ x.dest = 0xFF ∧ field x.payload 4 4 = s.twin.claim then s1.announced else s1

/-- The frame in progress leaves the queue: acknowledged, or discarded. A SLEEP_COMMIT that has gone takes the proposer with it, last (R486 step 4). Log 54 [DEDUCED]. -/
def State.crateGone (s : State) (x : CrateTx) : State :=
  if x.type = 0x12 ∧ s.crate.sleep.committed then
    (s.modSleep fun y => { y with proposal := none, waiting := [], committed := false }).sleepNow 2
  else s

/-- An attempt has failed: retries, waits, and after attempt 8 crate state ALONE (R482). Log 54 [DEDUCED]. -/
def State.crateFail (s : State) : State :=
  match s.crate.queue with
  | [] => s
  | x :: l =>
    let k := s.crate.attempts + 1
    let s1 := s.modCrate fun c => { c with attempts := k, retries := rcAdd 32 c.retries 1, awaiting := none, retryWait := decide (4 ≤ k) }
    if k < 8 then s1
    else
      let s2 := s1.modCrate fun c => { c with queue := [], attempts := 0, retryWait := false, alone := true, aloneEntries := rcAdd 32 c.aloneEntries 1 }
      ((x :: l).foldl State.crateGone s2).raise 0x0803 0xFF (leBytes 1 x.type)

/-- CRATE_TX_OPPORTUNITY: the node may send one frame: the one in progress, else one that needs no acknowledgement (R480 to R482). Log 51 [DESIGN CHOICE]. -/
def execCrateTxOpportunity (s : State) : Host.Outcome State Fault Refusal :=
  .next (if !s.crateUp || s.crate.awaiting.isSome then s
    else match (if s.crate.retryWait then [] else s.crate.queue), s.crate.plain with
    | x :: _, _ =>
      let acker := s.ackerFor x
      let seq := x.seq.getD s.crate.nextSeq
      let s1 := (s.crateTransmit x acker).modCrate fun c => { c with queue := c.queue.modify 0 fun y => { y with seq := some seq } }
      if acker = 0xFF then s1.crateFail else s1.modCrate fun c => { c with awaiting := some (acker, seq) }
    | [], x :: l => (s.modCrate fun c => { c with plain := l }).crateTransmit x 0xFF
    | [], [] => s)

/-- CRATE_ACK_TIMEOUT: no ACK began 2.0 us after the frame (R482). -/
def execCrateAckTimeout (s : State) : Host.Outcome State Fault Refusal := .next (if s.crate.awaiting.isSome then s.crateFail else s)

/-- CRATE_RETRY_WAIT: the wait before the next attempt ends (R482). -/
def execCrateRetryWait (s : State) : Host.Outcome State Fault Refusal := .next (s.modCrate fun c => { c with retryWait := false })

/-- CRATE_HEARTBEAT_PERIOD: a HEARTBEAT every P_b, or every second before TICK_CONFIG is in force (R334, R484). -/
def execCrateHeartbeatPeriod (s : State) : Host.Outcome State Fault Refusal := .next (if s.crateUp then s.crateSend 2 0xFF s.stateBlock else s)

/-- CRATE_ALONE_ANNOUNCE: ANNOUNCE once a second in crate state ALONE (R482). -/
def execCrateAloneAnnounce (s : State) : Host.Outcome State Fault Refusal := .next (if s.crateUp && s.crate.alone then s.announce else s)

/-! ### Receiving (R480, R481, R483) -/

/-- A node's frame of a type has come before with its SEQ: it is acknowledged again and not acted on (R481). Log 52 [DEDUCED]. -/
def State.repeated (s : State) (type : Nat) (f : CrateFrame) : Bool :=
  type != 1 && s.crate.lastSeq.contains (f.src.toNat % 32 + 32 * type, f.seq)

/-- The node is heard again after ALONE: frames that wait, but for HEARTBEATs, are acknowledged frames again (R481, R482). Log 50 [DEDUCED]. -/
def Crate.rejoin (c : Crate) : Crate :=
  if c.alone then { c with alone := false, queue := c.queue ++ c.plain.filter (·.type != 2), plain := c.plain.filter (·.type == 2) } else c

/-- A frame arrives: a bad one is counted, a valid one notes its sender as heard, ends ALONE and is acknowledged when this node is its ACKER. True when it
is to be acted on: not a repetition, and addressed to this node or to every node. Log 50 [DEDUCED]. Log 52 [DEDUCED]. -/
def State.crateReceive (s : State) (type : Nat) (f : CrateFrame) : Bool × State :=
  let src := f.src.toNat % 32
  if s.power.inReset then (false, s)
  else if !crateValid type f then (false, s.modCrate fun c => { c with crcErrors := rcAdd 32 c.crcErrors 1 })
  else
    let again := s.repeated type f
    let s1 := s.modCrate fun c => Crate.rejoin
      { c with framesRx := rcAdd 32 c.framesRx 1, heard := if src ∈ c.heard then c.heard else c.heard ++ [src]
               lastSeq := if type = 1 then c.lastSeq else assign c.lastSeq (src + 32 * type) f.seq }
    let s2 := if s.crate.alone then s1.raise 0x0804 0xFF (leBytes 1 src) else s1
    let s3 := if f.acker.toNat = s.ident.nodeId ∧ s.crateUp then
        let ack := sealCrate 1 { src := BitVec.ofNat 8 s.ident.nodeId, dest := f.src, acker := 0xFF, seq := f.seq }
        (s2.modCrate fun c => { c with framesTx := rcAdd 32 c.framesTx 1 }).emit (.crate 1 ack (crateLine 1 ack))
      else s2
    (!again && (f.dest = 0xFF || f.dest.toNat == s.ident.nodeId), s3)

/-- ACK of the frame in progress (R481). -/
def execAck (f : CrateFrame) (s : State) : Host.Outcome State Fault Refusal :=
  let (_, s1) := s.crateReceive 1 f
  .next (if crateValid 1 f ∧ s1.crate.awaiting = some (f.src.toNat % 32, f.seq) then
    match s1.crate.queue with
    | x :: l => (s1.modCrate fun c => { c with queue := l, attempts := 0, awaiting := none, retryWait := false }).crateGone x
    | [] => s1.modCrate fun c => { c with awaiting := none }
  else s1)

/-- A node's latest state block is kept. One that shows ALONE where it showed STANDBY under the same claim tells that the standby has detached, since a takeover
takes a new claim (R338, R351): it holds no copy any more (R274). Log 98 [DEDUCED]. -/
def State.noteBlock (s : State) (node source role claim : Nat) : State :=
  let left := s.crate.blocks.any fun b => b.2.1 == source && b.2.2.1 == 2 && role == 0 && b.2.2.2 == claim
  let s1 := s.modCrate fun c => { c with blocks := (node, source, role, claim) :: c.blocks.filter (·.1 != node) }
  if left then s1.dropRequester (BitVec.ofNat 16 source) else s1

/-- A node that is no longer heard: where it was a standby, it counts as detached (R274, R351, R481). Log 98 [DEDUCED]. -/
def State.loseNode (s : State) (node : Nat) : State :=
  let s1 := s.modCrate fun c => { c with heard := c.heard.filter (· != node), blocks := c.blocks.filter (·.1 != node) }
  (s.crate.blocks.filter fun b => b.1 == node && b.2.2.1 == 2).foldl (fun s b => s.dropRequester (BitVec.ofNat 16 b.2.1)) s1

/-- HEARTBEAT or ANNOUNCE: its claim enters the claim table in hardware, whether or not its POSITION is valid; one of the own position whose claim is not below
the one known counts for R338, and of the other twin for R335 (R484, R485). -/
def State.stateBlockIn (s : State) (type : Nat) (f : CrateFrame) : State :=
  let (_, s1) := s.crateReceive type f
  let p := field f.payload 0 2
  let role := field f.payload 2 1
  let claim := field f.payload 4 4
  let own := s.cfg.positionValid && p % 1024 == s.cfg.position && p.testBit 11
  if s.power.inReset ∨ !crateValid type f ∨ s.repeated type f then s1
  else
    let known := s1.claimOf (p % 1024)
    let s2 := (if p.testBit 11 then s1.noteBlock (f.src.toNat % 32) (p % 2048) role claim else s1).enterClaim (p % 1024) claim
    if !own ∨ !s1.crateUp then s2
    else
      let s3 := if claim < known then s2 else s2.seeClaim claim role (p % 2048)
      if s3.twin.mode ≠ .untwinned ∧ p.testBit 10 ≠ s.ident.twinBit then s3.backupHeartbeat role (field f.payload 3 1) else s3

/-- HEARTBEAT on the crate bus. -/
def execCrateHeartbeat (f : CrateFrame) (s : State) : Host.Outcome State Fault Refusal := .next (s.stateBlockIn 2 f)

/-- ANNOUNCE on the crate bus. -/
def execAnnounce (f : CrateFrame) (s : State) : Host.Outcome State Fault Refusal := .next (s.stateBlockIn 3 f)

/-- BOOT: answered with an ANNOUNCE to its sender; ACTIVATION holds it as activating until STAGE 9 or RECOVERY (R485). -/
def execBoot (f : CrateFrame) (s : State) : Host.Outcome State Fault Refusal :=
  let (ok, s1) := s.crateReceive 4 f
  let k := f.src.toNat % 32
  let flags := field f.payload 1 1
  let ends := decide (field f.payload 0 1 = 9) || flags.testBit 1
  .next (if ok && s1.crateUp then
    let s2 := s1.modCrate fun c =>
      { c with activating := if ends then c.activating.filter (· != k) else if flags.testBit 0 ∧ k ∉ c.activating then c.activating ++ [k] else c.activating }
    s2.crateSend 3 k s2.stateBlock
  else s1)

/-- NODE_HEARD_EXPIRY: 2 s without a frame from a node (R481). -/
def execNodeHeardExpiry (node : Nat) (s : State) : Host.Outcome State Fault Refusal :=
  .next (s.loseNode node)

/-- ACTIVATING_TIMEOUT: 10 s (R485). -/
def execActivatingTimeout (node : Nat) (s : State) : Host.Outcome State Fault Refusal :=
  .next (s.modCrate fun c => { c with activating := c.activating.filter (· != node) })

/-- BOOT of this node (R483, R485). -/
def State.sendBoot (s : State) : State :=
  s.crateSend 4 0xFF (leBytes 1 s.power.stage ++ leBytes 1 (nat01 s.power.activation + 2 * nat01 s.health.fw.recovery) ++ leBytes 2 s.positionField
    ++ leBytes 4 s.ident.fwVersion.toNat)

/-! ### The sleep agreement (R486 to R488) -/

/-- R473 allows IDLE and DORMANT: no INGEST, CORR or BEAM pipe that is not FREE. -/
def State.sleepAllowed (s : State) : Bool := !s.cfg.dataPipes && !s.candidate.dataPipes

/-- SLEEP_ABORTED (R504), counted (R501). -/
def State.sleepAborted (s : State) (proposal cause node : Nat) : State :=
  (s.modCrate fun c => { c with sleepAborts := rcAdd 32 c.sleepAborts 1 }).raise 0x0805 0xFF (leBytes 2 proposal ++ leBytes 1 cause ++ leBytes 1 node)

/-- The proposer gives up: SLEEP_ABORT, the command refused, SLEEP_ABORTED (R486 step 5). -/
def State.abortProposal (s : State) (cause node : Nat) : State :=
  match s.crate.sleep.proposal with
  | none => s
  | some p =>
    let s1 := (s.modSleep fun y => { y with proposal := none, waiting := [] }).crateSend 0x13 0xFF (leBytes 2 p ++ leBytes 1 cause ++ leBytes 1 0)
    let s2 := match s1.mail.running.find? (·.waits == .sleep) with
      | some r => s1.finishWith r .refusedState
      | none => s1
    s2.sleepAborted p cause node

/-- SLEEP_PROPOSE: the node votes, on the proposal of the lower node number (R486, R488). Log 53 [DEDUCED]. -/
def execSleepPropose (f : CrateFrame) (s : State) : Host.Outcome State Fault Refusal :=
  let (ok, s1) := s.crateReceive 0x10 f
  let p := field f.payload 0 2
  let k := p % 32
  .next (if !ok || !s1.crateUp then s1
    else
      let s2 := match s1.crate.sleep.proposal with
        | some _ => if k < s1.ident.nodeId ∧ !s1.crate.sleep.committed then s1.abortProposal 4 k else s1
        | none => s1
      let sl := s2.crate.sleep
      let other := sl.proposal.isSome || (match sl.voted with
        | some (q, _, j) => q != p && decide (j < k)
        | none => false)
      let yes := !other && s2.sleepAllowed && !sl.wakeHeld && !s2.health.fw.activated && !s2.health.fw.resetDue && !s2.health.fw.recovery && !s2.crate.alone
      let s3 := s2.crateSend 0x11 k (leBytes 2 p ++ leBytes 1 (nat01 yes) ++ leBytes 1 0)
      if other then s3 else s3.modSleep fun y => { y with voted := some (p, yes, k), wakeHeld := false })

/-- SLEEP_VOTE at the proposer (R486 steps 4 and 5). -/
def execSleepVote (f : CrateFrame) (s : State) : Host.Outcome State Fault Refusal :=
  let (ok, s1) := s.crateReceive 0x11 f
  let p := field f.payload 0 2
  let k := f.src.toNat % 32
  .next (if !ok || s1.crate.sleep.proposal != some p || s1.crate.sleep.committed then s1
    else if field f.payload 2 1 ≠ 1 then s1.abortProposal 1 k
    else
      let left := s1.crate.sleep.waiting.filter (· != k)
      let s2 := s1.modSleep fun y => { y with waiting := left, committed := left.isEmpty }
      if left.isEmpty then
        let s3 := s2.crateSend 0x12 0xFF (leBytes 2 p ++ leBytes 2 0)
        match s3.mail.running.find? (·.waits == .sleep) with
        | some r => s3.finishRunning r
        | none => s3
      else s2)

/-- SLEEP_COMMIT: a node that voted yes enters DORMANT, and with a wake request held leaves it at once; one that the request has found in DORMANT is leaving
already (R486 step 4, R487). Log 53 [DEDUCED]. -/
def execSleepCommit (f : CrateFrame) (s : State) : Host.Outcome State Fault Refusal :=
  let (ok, s1) := s.crateReceive 0x12 f
  .next (match s1.crate.sleep.voted with
    | some (p, true, _) =>
      if ok ∧ p = field f.payload 0 2 then
        let held := s1.crate.sleep.wakeHeld
        let s2 := s1.modSleep fun y => { y with voted := none, wakeHeld := false }
        if !held then s2.sleepNow 2
        else if s2.power.mode = .dormant then s2
        else State.beginPower { s2 with power := { s2.power with exitAfter := some (s2.power.mode, 3) } } .dormant 2
      else s1
    | _ => s1)

/-- SLEEP_ABORT: the node stays awake (R486). -/
def execSleepAbort (f : CrateFrame) (s : State) : Host.Outcome State Fault Refusal :=
  let (ok, s1) := s.crateReceive 0x13 f
  .next (match s1.crate.sleep.voted with
    | some (p, _, _) =>
      if ok ∧ p = field f.payload 0 2 then
        (s1.modSleep fun y => { y with voted := none, wakeHeld := false }).sleepAborted p (field f.payload 2 1) (f.src.toNat % 32)
      else s1
    | none => s1)

/-- A wake request takes the package out of DORMANT, for the state it held or the one that is named; named while it leaves, that becomes its target (R474). Log 53 [DEDUCED]. -/
def State.leaveDormant (s : State) (named : Option PowerMode) : State :=
  let s1 := { s with power := { s.power with exitAfter := none } }
  if s.power.target.isNone || named.isSome then s1.beginPower (named.getD s.power.before) (if named.isSome then 1 else 3) else s1

/-- A wake request (R474, R487). `local_`: from WAKE_N or POWER_STATE, which WAKE_CRATE broadcasts; `named`: the state that POWER_STATE names. A node that has
voted tells the proposer; a proposer that has not committed aborts. Log 53 [DEDUCED]. -/
def State.wakeRequest (s : State) (named : Option PowerMode) (local_ : Bool) : State :=
  let s1 := if local_ && s.crate.wakeCrate then s.crateSend 0x14 0xFF (leBytes 2 0) else s
  let sl := s.crate.sleep
  let s2 := match sl.voted with
    | some (p, _, k) => (s1.modSleep fun y => { y with wakeHeld := true }).crateSend 0x14 k (leBytes 2 p)
    | none => if sl.proposal.isSome && !sl.committed then s1.abortProposal 3 s.ident.nodeId else s1
  let entering : Bool := match s.power.target with
    | some (.dormant, _) => true
    | _ => false
  if entering then { s2 with power := { s2.power with exitAfter := some (named.getD s.power.mode, 3) } }
  else if s.power.mode = .dormant then s2.leaveDormant named
  else if sl.voted.isSome then s2
  else if sl.committed then { s2 with power := { s2.power with exitAfter := some (named.getD s.power.mode, 3) } }
  else if sl.proposal.isSome then s2
  else s2.modSleep fun y => { y with wakeHeld := true }

/-- WAKE on the crate bus (R474); at the proposer of its PROPOSAL it aborts the agreement with CAUSE 3 (R487). -/
def execWake (f : CrateFrame) (s : State) : Host.Outcome State Fault Refusal :=
  let (ok, s1) := s.crateReceive 0x14 f
  let p := field f.payload 0 2
  .next (if !ok then s1
    else if s1.crate.sleep.proposal = some p ∧ !s1.crate.sleep.committed then s1.abortProposal 3 (f.src.toNat % 32)
    else s1.wakeRequest none false)

/-- SLEEP_VOTE_TIMEOUT: a vote is missing 10 ms after the proposal (R486 step 5). -/
def execSleepVoteTimeout (s : State) : Host.Outcome State Fault Refusal :=
  .next (if s.crate.sleep.committed then s else s.abortProposal 2 (s.crate.sleep.waiting.headD s.ident.nodeId))

/-- SLEEP_OUTCOME_TIMEOUT: neither commit nor abort within 20 ms of the vote (R486). -/
def execSleepOutcomeTimeout (s : State) : Host.Outcome State Fault Refusal :=
  .next (match s.crate.sleep.voted with
    | some (p, _, k) => (s.modSleep fun y => { y with voted := none, wakeHeld := false }).sleepAborted p 2 k
    | none => s)

/-! ### Commands -/

/-- CRATE_CONFIG (R500). -/
def cmdCrateConfig : Cmd := fun _ args s =>
  checked ([reservedHigh args 0 2] ++ reserved args 1 3) s fun s =>
    okay (s.modCrate fun c => { c with aloneSleepOk := (field args 0 1).testBit 0, wakeCrate := (field args 0 1).testBit 1 })

/-- CRATE_CONFIG (R500). -/
def execCrateConfig (o : Origin) (args : List Byte) (s : State) : Host.Outcome State Fault Refusal :=
  .next ((s.row o 0x0902 args (fixedLen 4) cmdCrateConfig).keepSettings s)

/-- A node list as bits. -/
def nodeBits (l : List Nat) : Nat := ((dedup l).map fun n => 2 ^ n).sum

/-- CRATE_STATUS (R501). -/
def cmdCrateStatus : Cmd := fun _ _ s =>
  let c := s.crate
  .done .ok 0 (leBytes 1 s.ident.nodeId ++ leBytes 1 (nat01 c.alone) ++ leBytes 2 0 ++ leBytes 4 (nodeBits c.heard) ++ leBytes 4 (nodeBits c.activating)
      ++ leBytes 4 c.framesTx ++ leBytes 4 c.framesRx ++ leBytes 4 c.crcErrors ++ leBytes 4 c.retries ++ leBytes 4 c.aloneEntries ++ leBytes 4 c.sleepAborts)
    (s.modCrate fun c => { c with framesTx := 0, framesRx := 0, crcErrors := 0, retries := 0, aloneEntries := 0, sleepAborts := 0 })

/-- CRATE_STATUS (R501). -/
def execCrateStatus (o : Origin) (args : List Byte) (s : State) : Host.Outcome State Fault Refusal :=
  .next (s.row o 0x0903 args (fixedLen 0) cmdCrateStatus)

end Sys2Proof.Machine
end

