-- ==== Sys2Proof/Machine/Matrix.lean ====
section
/-! DEFINITION. Masters, targets and the default target of the package matrix (R397, R398, R413, R418), and what a read of a stack meets (R405). -/

namespace Sys2Proof.Machine

/-- The stack of a die. -/
def State.stack (s : State) (die : Nat) : HbmStack := s.fabric.hbm.getD die {}

/-- Changes it. -/
def State.modStack (s : State) (die : Nat) (f : HbmStack → HbmStack) : State :=
  { s with fabric := { s.fabric with hbm := s.fabric.hbm.modify die f } }

/-- The address of the 256-bit word that holds an address. -/
def wordOf (a : Nat) : Nat := a / 32 * 32

/-- What a read of a word meets is counted; an uncorrectable word is noted as such (R405). -/
def State.eccRead (s : State) (die a : Nat) (ecc : EccSeen) : State :=
  match ecc with
  | .clean | .sram _ => s
  | .corrected => s.modStack die fun h => { h with eccCorrected := rcAdd 32 h.eccCorrected 1 }
  | .uncorrectable => s.modStack die fun h =>
      { h with eccUncorrectable := rcAdd 32 h.eccUncorrectable 1, badWords := if wordOf a ∈ h.badWords then h.badWords else h.badWords ++ [wordOf a] }

/-! ### The default target (R397, R398, R413, R418) -/

/-- Master codes of R413. -/
def masterCode : Master → Nat
  | .laneReceive => 0
  | .tileWriteback => 1
  | .stagingLoader => 2
  | .spargeReader => 3
  | .beamPartial => 4
  | .dma => 5
  | .zwiter => 6
  | .pcie => 7

/-- Credit classes of the masters (R413). Log 9 [DESIGN CHOICE]. -/
def masterClass : Master → Nat
  | .laneReceive => 3
  | .tileWriteback => 1
  | .stagingLoader => 2
  | .spargeReader => 5
  | .beamPartial => 4
  | _ => 6

/-- Targets that a master may reach (R413), by code. -/
def targetsOf : Nat → List Nat
  | 0 => [0, 1, 5]
  | 1 => [0, 1]
  | 2 => [0, 2]
  | 3 => [0, 2, 5]
  | 4 => [0, 2, 5]
  | _ => [0, 1, 2, 3, 4, 5]

/-- The target code of an address for a master of `die`; none where it is unpopulated (R396, R397, R413). The log, the NOR store and the registers are
reached through the register space (log 40 [DEDUCED]). -/
def State.targetOf (s : State) (die a : Nat) : Option Nat :=
  if s.inHbm a then some (if a / 2 ^ 36 = die then 0 else 1)
  else if s.inSram a then some (if (a - sramBase) / 2 ^ 28 = die then 2 else 3)
  else if inLog a || inNor a || inRegs a || inPrivate a then some 4
  else none

/-- Only the Zwiter cores may write the log and the NOR store, and that only when the hold-up check passes, and reach the private registers and their SRAM
partition (R398, R448). Log 123 [DESIGN CHOICE]. -/
def State.limited (s : State) (m : Master) (write : Bool) (a : Nat) : Bool :=
  if m = .zwiter then write && ((inLog a && !s.holdOk .log) || (inNor a && !s.holdOk .page))
  else (write && (inLog a || inNor a)) || inPrivate a || s.inZwiter a

/-- Tile writeback reaches remote HBM for merge reads only (R413). -/
def wrongWay (m : Master) (write : Bool) (target : Nat) : Bool := m == .tileWriteback && write && target == 1

/-- A request reaches a populated target that its master may use. Log 40 [DEDUCED]. -/
def State.reaches (s : State) (m : Master) (die : Nat) (write : Bool) (a n : Nat) : Bool :=
  rangeIn (fun x => ((s.targetOf die x).map fun t =>
    (targetsOf (masterCode m)).contains t && !wrongWay m write t && !s.limited m write x).getD false) a n

/-- An access that reached the default target: counted, reported at most once per master, die and second of log time, and for a master that cannot handle it
a fault of cause 3 (R418). Log 97 [DEDUCED]. -/
def State.defaultTarget (s : State) (m : Master) (die a : Nat) : State :=
  let mine (x : DefaultHits) : Bool := x.master == masterCode m && x.die == die
  let old := (s.fabric.hits.find? mine).getD {}
  let n := old.count + 1
  let due := old.lastSec != some s.clocks.log.sec
  let x : DefaultHits := { master := masterCode m, die := die, count := if due then 0 else n, lastSec := if due then some s.clocks.log.sec else old.lastSec }
  let s1 := { s with fabric := { s.fabric with hits := upsert mine x (fun _ => x) s.fabric.hits } }
  let s2 := if due then s1.raise 0x0604 die (leBytes 1 (masterCode m) ++ leBytes 1 die ++ leBytes 5 a ++ leBytes 4 n) else s1
  match m with
  | .pcie => s2.setDefaultTarget a
  | .dma => s2
  | .zwiter => s2
  | _ => s2.setFault 3

end Sys2Proof.Machine
end

