-- ==== Sys2Proof/Machine/HostRegs.lean ====
section
/-! DEFINITION. The registers of BAR0 and of the calendar mirror (R315, R359 to R363, R380, R385, R386, R390): reading, writing, and what a write of each
does. -/

namespace Sys2Proof.Machine

/-- Changes the host registers that no other group holds. -/
def State.modRegs (s : State) (f : HostRegs → HostRegs) : State := { s with regs := f s.regs }

/-- Changes the event queue. -/
def State.modEvents (s : State) (f : EventQueue → EventQueue) : State := { s with events := f s.events }

/-- Changes the interrupt page. -/
def State.modIntr (s : State) (f : Interrupts → Interrupts) : State := { s with intr := f s.intr }

/-- ALARM_N, an open-drain land: low while the alarm latch is set; high impedance otherwise, and from reset until the lead core starts (R346, R441). -/
def State.alarmPin (s : State) : PinLevel :=
  if s.health.alarm && !s.power.inReset && (decide (3 ≤ s.power.stage) || s.health.fw.recovery) then .low else .highZ

/-- Changes DMA channel h. -/
def State.modDma (s : State) (h : Nat) (f : DmaChannel → DmaChannel) : State := { s with dma := s.dma.modify h f }

/-- DMA channel h. -/
def State.dmaChannel (s : State) (h : Nat) : DmaChannel := s.dma.getD h {}

/-! ### Reading -/

/-- VARIANT (R360). -/
def Variant.code : Variant → Nat
  | .s2 => 2
  | .s4 => 4
  | .s8 => 8

/-- POWER_STATE of the identity page (R360). -/
def PowerMode.shown : PowerMode → Nat
  | .run => 0
  | .idle => 1
  | .dormant => 2
  | .off => 3

/-- The global status register (R360). -/
def State.globalStatus (s : State) : Nat :=
  nat01 s.power.ready + 2 * nat01 s.clocks.time.valid + 4 * s.shownRole + 16 * s.power.mode.shown + 64 * nat01 s.health.alarm
    + 128 * nat01 s.lease.owner.isSome + 256 * nat01 (!s.lease.staged.isEmpty) + 512 * nat01 s.health.fw.ownerSeal.isSome + 4096 * s.power.stage

/-- A register of the identity page; unlisted offsets read zero (R359, R360). -/
def State.identityReg (s : State) (off : Nat) : Nat :=
  let i := s.ident
  let (eth, owner) := s.lease.owner.getD (false, 0)
  if off = 0x000 then s.dies + 256 * i.variant.code + 65536 * 0xA1 + 2 ^ 24 * 0x45
  else if off = 0x004 then i.fwVersion.toNat
  else if off = 0x008 then nat01 i.fwBank + 2 * nat01 i.fellBack + 65536 * (i.bootCount % 65536)
  else if off = 0x00C then i.haulWindow.toNat + 256 * i.twinWindow.toNat + 65536
  else if off = 0x010 then i.serial.toNat % 2 ^ 32
  else if off = 0x014 then i.serial.toNat / 2 ^ 32
  else if off = 0x018 then s.cfg.position % 1024 + 1024 * nat01 i.twinBit + 2048 * nat01 s.cfg.positionValid
  else if off = 0x020 then s.globalStatus
  else if off = 0x024 then s.regs.globalErr.toNat
  else if off = 0x028 then s.regs.defaultAddr.toNat % 2 ^ 32
  else if off = 0x02C then s.regs.defaultAddr.toNat / 2 ^ 32
  else if off = 0x030 then owner + 65536 * nat01 eth
  else if off = 0x034 then s.lease.leftMs
  else if off = 0x038 then s.regs.alive.toNat
  else if off = 0x03C then i.scratch.toNat
  else 0

/-- A register of the interrupt page (R390). -/
def State.interruptReg (s : State) (off : Nat) : Nat :=
  if off < 0x200 then (s.intr.table.getD (off / 4) 0).toNat
  else if off = 0x800 then s.intr.pending.toNat
  else if off = 0xC00 then s.intr.cause.toNat
  else if off = 0xC04 then s.intr.mask.toNat
  else if 0xC08 ≤ off ∧ off ≤ 0xC14 then (s.intr.maps.getD ((off - 0xC08) / 4) 0).toNat
  else 0

/-- A word of a mailbox page (R362). -/
def Mailbox.reg (b : Mailbox) (off : Nat) : Nat :=
  if off < 0x400 then field b.message off 4
  else if off = 0x400 then (if b.owned then b.ownerId % 65536 + 65536 + 131072 * nat01 b.ethernet else 0)
  else if off = 0x404 then b.opcode.toNat + 65536 * b.tag.toNat
  else if off = 0x408 then b.argLen.toNat + 4096 * b.cqSel.toNat
  else if off = 0x410 then nat01 b.busy + 2 * nat01 b.done + 256 * (b.status % 256) + 65536 * (b.replyLen % 2048)
  else if off = 0x414 then b.detail.toNat
  else 0

/-- A completion entry of 16 bytes (R365). -/
def Completion.encode (e : Completion) : List Byte :=
  leBytes 1 e.mailbox ++ leBytes 1 e.status ++ leBytes 2 e.tag.toNat ++ leBytes 2 e.opcode.toNat ++ leBytes 2 e.replyLen ++ leBytes 4 e.detail.toNat
    ++ leBytes 4 e.seq.toNat

/-- A register of the queue page (R385). -/
def State.queueReg (s : State) (off : Nat) : Nat :=
  let q := s.events
  if off = 0x000 then q.prod
  else if off = 0x004 then q.cons
  else if off = 0x008 then q.depth
  else if off = 0x00C then q.lost
  else if off = 0x010 then q.dropped
  else if off = 0x014 then q.irqThresh + 65536 * q.minSeverity + 2 ^ 20 * q.irqDelayUs
  else if 0x100 ≤ off ∧ off < 0x140 then
    let c := s.mail.queues.getD ((off - 0x100) / 16) {}
    if off % 16 = 0 then c.prod else if off % 16 = 4 then c.cons else if off % 16 = 8 then c.depth else 0
  else if 0x1000 ≤ off ∧ off < 0x1400 then
    let c := s.mail.queues.getD ((off - 0x1000) / 256) {}
    field (Completion.encode (c.slots.getD (off % 256 / 16) {})) (off % 16) 4
  else if 0x8000 ≤ off ∧ off < 0x10000 then field (EventEntry.encode (q.slots.getD ((off - 0x8000) / 32) {})) (off % 32) 4
  else 0

/-- A register of a DMA channel (R386). -/
def DmaChannel.reg (c : DmaChannel) (off : Nat) : Nat :=
  if off = 0x00 then c.src.toNat % 2 ^ 32
  else if off = 0x04 then c.src.toNat / 2 ^ 32
  else if off = 0x08 then c.dst.toNat % 2 ^ 32
  else if off = 0x0C then c.dst.toNat / 2 ^ 32
  else if off = 0x10 then c.count.toNat
  else if off = 0x14 then c.fill.toNat % 2 ^ 32
  else if off = 0x18 then c.fill.toNat / 2 ^ 32
  else if off = 0x20 then c.mode.toNat
  else if off = 0x24 then nat01 c.busy + 2 * nat01 c.done + 4 * nat01 c.error + 8 * nat01 c.mismatch + 16 * nat01 c.startIgnored + 256 * c.errCode
  else if off = 0x28 then c.mismatchOffset.toNat
  else 0

/-- A register of the calendar mirror (R315). SEC_LO is the count's; its latch is the read's own effect. -/
def Calendar.reg (c : Calendar) (off : Nat) : Nat :=
  if off = 0x000 then c.count % 2 ^ 32
  else if off = 0x004 then c.latchHi.toNat
  else if off = 0x008 then c.latchDate.toNat
  else if off = 0x00C then c.latchTime.toNat
  else if off = 0x010 then c.setLo.toNat
  else if off = 0x014 then c.setHi.toNat
  else if off = 0x018 then c.utcOffset.toNat + 65536 * c.utcNext.toNat
  else if off = 0x01C then c.leapLo.toNat
  else if off = 0x020 then c.leapHi.toNat
  else if off = 0x024 then nat01 c.load + 2 * nat01 c.syncEn + 4 * nat01 c.leapArm + 256 * c.trim.toNat
  else if off = 0x028 then
    nat01 c.oscStop + 2 * nat01 c.vbatLow + 4 * nat01 c.onVbat + 8 * nat01 c.synced + 16 * nat01 c.leapDone + 256 * (c.vbatLevel % 256)
  else if 0x100 ≤ off ∧ off < 0x200 then field c.backup (off - 0x100) 4
  else 0

/-- The value that a read of a BAR0 offset returns; an offset that is not listed reads zero (R359). -/
def State.regValue (s : State) (off : Nat) : Nat :=
  if off % 4 ≠ 0 then 0
  else if off < 0x1000 then s.identityReg off
  else if off < 0x2000 then s.interruptReg (off - 0x1000)
  else if 0x10000 ≤ off ∧ off < 0x20000 then (s.box ((off - 0x10000) / 0x1000)).reg (off % 0x1000)
  else if 0x20000 ≤ off ∧ off < 0x30000 then s.queueReg (off - 0x20000)
  else if 0x30000 ≤ off ∧ off < 0x30800 then (s.dmaChannel ((off - 0x30000) / 0x100)).reg (off % 0x100)
  else if off = 0x40000 then s.regs.winSel.toNat
  else if 0x50000 ≤ off ∧ off < 0x51000 then s.cal.reg (off - 0x50000)
  else 0

/-- A read of a BAR0 offset with what it does: EQ_DROPPED clears, CAL_SEC_LO latches (R10, R315, R385). -/
def State.readReg (s : State) (off : Nat) : Word × State :=
  if off = 0x50000 then s.readCalSec
  else
    let v := BitVec.ofNat 32 (s.regValue off)
    (v, if off = 0x20010 then s.modEvents fun q => { q with dropped := 0 } else s)

/-- An offset that BAR0's tables list (R359). Log 107 [DEDUCED]. -/
def regListed (off : Nat) : Bool :=
  off % 4 == 0 &&
    (if off < 0x1000 then decide (off ∈ [0x000, 0x004, 0x008, 0x00C, 0x010, 0x014, 0x018, 0x020, 0x024, 0x028, 0x02C, 0x030, 0x034, 0x038, 0x03C])
     else if off < 0x2000 then decide (off < 0x1200 ∨ off = 0x1800) || decide (0x1C00 ≤ off ∧ off ≤ 0x1C14)
     else if off < 0x10000 then false
     else if off < 0x20000 then decide (off % 0x1000 ≤ 0x414)
     else if off < 0x30000 then decide (off ≤ 0x20014) || (decide (0x20100 ≤ off ∧ off < 0x20140) && off % 16 != 12) ||
       decide (0x21000 ≤ off ∧ off < 0x21400) || decide (0x28000 ≤ off)
     else if off < 0x30800 then decide (off % 0x100 ≤ 0x18) || decide (off % 0x100 ∈ [0x20, 0x24, 0x28])
     else if off = 0x40000 then true
     else decide (0x50000 ≤ off ∧ off ≤ 0x50028) || decide (0x50100 ≤ off ∧ off < 0x50200))

/-! ### Mailbox registers (R362, R363, R364) -/

/-- PCIe requester `who` owns the mailbox. Log 43 [DEDUCED]. -/
def Mailbox.ownedBy (b : Mailbox) (who : Option Nat) : Bool := b.owned && !b.ethernet && who == some b.ownerId

/-- A mailbox write that is dropped: MB_DENIED (R363). Log 43 [DEDUCED]. -/
def State.mbDenied (s : State) : State := s.setGlobalErr 1

/-- CLAIM (R363). A master of the package has no requester ID and claims nothing (log 43 [DEDUCED]). -/
def State.claimBox (s : State) (who : Option Nat) (m : Nat) : State :=
  let b := s.box m
  match who with
  | some w => if !b.owned then s.modBox m fun b => { b with owned := true, ownerId := w % 65536, ethernet := false }
      else if b.ownedBy who then s else s.mbDenied
  | none => s.mbDenied

/-- RELEASE (R363). -/
def State.releaseBox (s : State) (who : Option Nat) (m : Nat) : State :=
  if (s.box m).ownedBy who then s.modBox m Mailbox.endOwner else s.mbDenied

/-- RING: DONE clears, BUSY sets, and the command waits for the lead core; a second RING is ignored (R363, R364). -/
def State.ringBox (s : State) (who : Option Nat) (m : Nat) : State :=
  let b := s.box m
  if !b.ownedBy who then s.mbDenied
  else if b.busy then s
  else s.modBox m fun b => { b with busy := true, done := false, waiting := some { ethernet := false, id := b.ownerId, mailbox := m } }

/-- A write to the message area, 0x404 or 0x408: from the owner, and not while BUSY (R363, R364). -/
def State.ownerWrite (s : State) (who : Option Nat) (m : Nat) (f : Mailbox → Mailbox) : State :=
  let b := s.box m
  if !b.ownedBy who then s.mbDenied else if b.busy then s.setGlobalErr 2 else s.modBox m f

/-- A write of a mailbox register (R362). -/
def State.writeBox (s : State) (who : Option Nat) (m off : Nat) (v : Word) : State :=
  if off < 0x400 then s.ownerWrite who m fun b => { b with message := overwrite b.message off (leBytes 4 v.toNat) }
  else if off = 0x400 then
    if v.getLsbD 24 && v.getLsbD 25 then s
    else if v.getLsbD 24 then s.claimBox who m
    else if v.getLsbD 25 then s.releaseBox who m
    else s
  else if off = 0x404 then
    s.ownerWrite who m fun b => { b with opcode := BitVec.ofNat 16 v.toNat, tag := BitVec.ofNat 16 (v.toNat / 65536) }
  else if off = 0x408 then
    s.ownerWrite who m fun b => { b with argLen := BitVec.ofNat 11 v.toNat, cqSel := BitVec.ofNat 2 (v.toNat / 4096) }
  else if off = 0x40C then (if v.getLsbD 0 then s.ringBox who m else if (s.box m).ownedBy who then s else s.mbDenied)
  else s

/-! ### Queue registers (R380, R384, R385, R391) -/

/-- A write of EQ_CONS: not taken where the depth would become negative (R380). -/
def State.writeEqCons (s : State) (v : Word) : State :=
  let q := s.events
  let n := v.toNat % 2048
  if q.depth < (n + 2048 - q.cons) % 2048 then s.setGlobalErr 3
  else s.modEvents fun q =>
    let q1 := { q with cons := n }
    { q1 with delayed := q1.delayed && q1.depth != 0 }

/-- A write of CQ_CONS of queue c: held completions then enter (R380, R384). -/
def State.writeCqCons (s : State) (c : Nat) (v : Word) : State :=
  let q := s.mail.queues.getD c {}
  let n := v.toNat % 32
  if q.depth < (n + 32 - q.cons) % 32 then s.setGlobalErr 3
  else State.releaseHeld 16 c { s with mail := { s.mail with queues := s.mail.queues.modify c fun q => { q with cons := n } } }

/-- A write of IRQ_THRESH, MIN_SEVERITY and IRQ_DELAY_US (R385). Log 122 [DEDUCED]. -/
def State.writeIrqThresh (s : State) (v : Word) : State :=
  let t := v.toNat % 2048
  (s.modEvents fun q =>
    { q with irqThresh := if t = 0 then 1 else min t 1024, minSeverity := bits v.toNat 16 2, irqDelayUs := bits v.toNat 20 12 }).setHolding [0]

/-- A write of the queue page (R385). -/
def State.writeQueue (s : State) (off : Nat) (v : Word) : State :=
  if off = 0x004 then s.writeEqCons v
  else if off = 0x014 then s.writeIrqThresh v
  else if 0x100 ≤ off ∧ off < 0x140 ∧ off % 16 = 4 then s.writeCqCons ((off - 0x100) / 16) v
  else s

/-! ### Interrupt registers (R390, R391) -/

/-- INT_CAUSE: 1 clears; a cause whose condition still holds sets again (R391). -/
def State.clearCauses (s : State) (v : Word) : State :=
  let c := BitVec.ofNat 16 v.toNat
  (s.modIntr fun i => { i with cause := i.cause &&& ~~~c }).setHolding ((List.range 16).filter c.getLsbD)

/-- INT_MASK: a set cause that is unmasked sends one message (R391). -/
def State.writeMask (s : State) (v : Word) : State :=
  let m := BitVec.ofNat 16 v.toNat
  let freed := (List.range 16).filter fun k => s.intr.mask.getLsbD k && !m.getLsbD k && s.intr.cause.getLsbD k
  freed.foldl State.sendMessage (s.modIntr fun i => { i with mask := m })

/-- A write of the MSI-X table: a vector that its control word no longer masks sends the message that waits (R390). Log 93 [DEDUCED]. -/
def State.writeTable (s : State) (k : Nat) (v : Word) : State :=
  let s1 := s.modIntr fun i => { i with table := i.table.set k v }
  let vec := k / 4
  if s1.intr.pending.getLsbD vec && !s1.intr.vectorMasked vec then
    (s1.modIntr fun i => { i with pending := i.pending &&& ~~~(BitVec.ofNat 32 (2 ^ vec)) }).emit (.msix vec)
  else s1

/-- A write of the interrupt page (R390). -/
def State.writeInterrupt (s : State) (off : Nat) (v : Word) : State :=
  if off < 0x200 then s.writeTable (off / 4) v
  else if off = 0xC00 then s.clearCauses v
  else if off = 0xC04 then s.writeMask v
  else if 0xC08 ≤ off ∧ off ≤ 0xC14 then s.modIntr fun i => { i with maps := i.maps.set ((off - 0xC08) / 4) v }
  else s

/-! ### DMA registers (R386, R387, R389) -/

/-- A cause of a channel sets when DONE or ERROR sets with IRQ_EN set (R391). -/
def State.dmaCause (s : State) (h : Nat) : State := if (s.dmaChannel h).mode.getLsbD 5 then s.setCause (5 + h) else s

/-- A channel completes (R387, R388). -/
def State.dmaDone (s : State) (h : Nat) : State := (s.modDma h fun c => { c with busy := false, done := true }).dmaCause h

/-- A channel stops with an error code (R389). -/
def State.dmaError (s : State) (h code : Nat) : State := (s.modDma h fun c => { c with busy := false, error := true, errCode := code }).dmaCause h

/-- MODE of a channel (R386). -/
def DmaChannel.op (c : DmaChannel) : Nat := c.mode.toNat % 4

/-- A fixed address is not a multiple of 4, or COUNT is not (R387). -/
def DmaChannel.misaligned (c : DmaChannel) : Bool :=
  let fixedSrc := c.mode.getLsbD 2 && c.op != 1
  let fixedDst := c.mode.getLsbD 3
  (fixedSrc && c.src.toNat % 4 != 0) || (fixedDst && c.dst.toNat % 4 != 0) || ((fixedSrc || fixedDst) && c.count.toNat % 4 != 0)

/-- START: ignored while BUSY, done at once with a COUNT of 0, stopped by a wrong alignment, or begun (R387). -/
def State.dmaBegin (s : State) (h : Nat) : State :=
  let c := s.dmaChannel h
  if c.busy then (s.modDma h fun c => { c with startIgnored := true }).setGlobalErr 4
  else if c.misaligned then s.dmaError h 2
  else if c.count = 0 then s.dmaDone h
  else s.modDma h fun c => { c with busy := true, waits := none }

/-- `n` bytes that nobody chose (log 46 [DESIGN CHOICE]). -/
def State.freshBytes (s : State) (n : Nat) : List Byte × State :=
  ((List.range n).map fun i => BitVec.ofNat 8 (Config.freeValue (s.free + i)).toNat, { s with free := s.free + n })

/-- A host address (R387). -/
def isHost (a : Dword) : Bool := a.getLsbD 63

/-- Address of byte `i` of a range, 4-byte accesses repeating at a fixed one (R387). -/
def dmaAddr (base : Dword) (fixed : Bool) (i : Nat) : Nat := base.toNat + (if fixed then i % 4 else i)

/-- A DMA access to package address `a` reaches a listed target; a package address has bits [62:40] zero (R359, R387, R418). -/
def State.dmaReaches (s : State) (write : Bool) (a : Nat) : Bool :=
  decide (a < 2 ^ 40) && s.reaches .dma 0 write a 1 && (!write || !inRegs a || regListed ((a - regBase) / 4 * 4))

/-- The first of `n` bytes that reaches no target, or `n` (R387, R389). -/
def State.dmaStop (s : State) (base : Dword) (fixed write : Bool) (n : Nat) : Nat :=
  if isHost base then n else ((List.range n).find? fun i => !s.dmaReaches write (dmaAddr base fixed i)).getD n

/-- A copy onto itself, forward: what the later bytes read depends on the size of an access, which the spec does not give (log 47 [DESIGN CHOICE]). -/
def State.overlapped (s : State) (c : DmaChannel) (d : List Byte) : List Byte × State :=
  let gap := c.dst.toNat - c.src.toNat
  if isHost c.src || isHost c.dst || c.mode.getLsbD 2 || c.mode.getLsbD 3 || gap = 0 || d.length ≤ gap then (d, s)
  else
    let (x, s1) := s.freshBytes (d.length - gap)
    (d.take gap ++ x, s1)

/-- The operation of a channel; the reserved MODE 3 does one of the three, nobody chose which (R386, log 46 [DESIGN CHOICE]). -/
def State.dmaOp (s : State) (c : DmaChannel) : Nat × State :=
  if c.op < 3 then (c.op, s)
  else
    let (v, s1) := s.fresh
    (v % 3, s1)

/-- Bytes of the fill pattern (R387). -/
def DmaChannel.fillBytes (c : DmaChannel) (n : Nat) : List Byte := (List.range n).map fun i => BitVec.ofNat 8 (c.fill.toNat / 2 ^ (8 * (i % 8)))

/-- As many of `n` bytes as nobody chose, whole accesses of 4 bytes at a fixed address (R387). Log 165 [DESIGN CHOICE]. -/
def State.someOf (s : State) (fixed : Bool) (n : Nat) : Nat × State :=
  let (v, s1) := s.fresh
  (if fixed then v % (n + 1) / 4 * 4 else v % (n + 1), s1)

/-- Bytes written to package memory, at a fixed address 4 at a time (R387). -/
def State.dmaPut (s : State) (a : Nat) (fixed : Bool) (d : List Byte) : State :=
  if fixed then (List.range (d.length / 4)).foldl (fun s k => s.pkgWrite a ((d.drop (4 * k)).take 4)) s else s.pkgWrite a d

/-- What a transfer that ABORT stops has written by then: as many of its first bytes as nobody chose (R389). Host memory's bytes are no operand, so those it
copies are free; of a destination in the registers none. Log 165 [DESIGN CHOICE]. -/
def State.dmaPartial (s : State) (c : DmaChannel) : State :=
  let (op, s0) := s.dmaOp c
  let n := c.count.toNat
  let fs := c.mode.getLsbD 2
  let fd := c.mode.getLsbD 3
  if op = 2 || inRegs c.dst.toNat then s0
  else
    let (k, s1) := s0.someOf (fd || (fs && op == 0)) (min (if op = 0 then s0.dmaStop c.src fs false n else n) (s0.dmaStop c.dst fd true n))
    let (d, s2) :=
      if op = 1 then (c.fillBytes k, s1)
      else if isHost c.src || inRegs c.src.toNat || fs then s1.freshBytes k
      else
        let (a, t) := s1.pkgRead c.src.toNat k
        t.overlapped c a
    if isHost c.dst then s2.emit (.hostWrite (c.dst.toNat % 2 ^ 63) d) else s2.dmaPut c.dst.toNat fd d

/-- The writes that a channel issued before its DONE reach memory (R388). Log 164 [DESIGN CHOICE]. -/
def State.landWrites (s : State) : State :=
  (List.range s.dma.length).foldl (fun s h =>
    ((s.dmaChannel h).late.foldl (fun s x => s.pkgWrite x.1 x.2) s).modDma h fun c => { c with late := [] }) s

/-- A write of offset 0x20: mode bits, then ABORT of a transfer in progress, or START (R386, R389). -/
def State.dmaControl (s : State) (h : Nat) (v : Word) : State :=
  let c := s.dmaChannel h
  let s1 := s.modDma h fun c => { c with mode := BitVec.ofNat 6 v.toNat }
  let s2 := if v.getLsbD 31 then s1.dmaBegin h else s1
  if v.getLsbD 30 && c.busy then (s2.dmaPartial c).dmaError h 5 else s2

/-- The low or high half of a 64-bit register replaced. -/
def setHalf (d : Dword) (high : Bool) (v : Word) : Dword :=
  if high then BitVec.ofNat 64 (v.toNat * 2 ^ 32 + d.toNat % 2 ^ 32) else BitVec.ofNat 64 (d.toNat / 2 ^ 32 * 2 ^ 32 + v.toNat)

/-- A write of a channel's register (R386); offsets 0x00 to 0x18 are dropped while BUSY (R387). -/
def State.writeDma (s : State) (h off : Nat) (v : Word) : State :=
  if off ≤ 0x18 then
    if (s.dmaChannel h).busy then s
    else s.modDma h fun c =>
      if off = 0x00 then { c with src := setHalf c.src false v }
      else if off = 0x04 then { c with src := setHalf c.src true v }
      else if off = 0x08 then { c with dst := setHalf c.dst false v }
      else if off = 0x0C then { c with dst := setHalf c.dst true v }
      else if off = 0x10 then { c with count := v }
      else if off = 0x14 then { c with fill := setHalf c.fill false v }
      else { c with fill := setHalf c.fill true v }
  else if off = 0x20 then s.dmaControl h v
  else if off = 0x24 then s.modDma h fun c =>
    { c with done := c.done && !v.getLsbD 1, error := c.error && !v.getLsbD 2, mismatch := c.mismatch && !v.getLsbD 3
             startIgnored := c.startIgnored && !v.getLsbD 4 }
  else s

/-! ### Calendar and identity -/

/-- A write of the calendar mirror (R315). -/
def State.writeCal (s : State) (off : Nat) (v : Word) : State :=
  if off = 0x010 then s.modCal fun c => { c with setLo := v }
  else if off = 0x014 then s.modCal fun c => { c with setHi := BitVec.ofNat 16 v.toNat }
  else if off = 0x018 then s.modCal fun c => { c with utcOffset := BitVec.ofNat 16 v.toNat, utcNext := BitVec.ofNat 16 (v.toNat / 65536) }
  else if off = 0x01C then s.modCal fun c => { c with leapLo := v }
  else if off = 0x020 then s.modCal fun c => { c with leapHi := BitVec.ofNat 16 v.toNat }
  else if off = 0x024 then s.writeCalCtrl v
  else if off = 0x028 then s.modCal fun c =>
    { c with oscStop := c.oscStop && !v.getLsbD 0, onVbat := c.onVbat && !v.getLsbD 2, leapDone := c.leapDone && !v.getLsbD 4 }
  else s

/-- A write of the identity page: GLOBAL_ERR and SCRATCH (R360). -/
def State.writeIdentity (s : State) (off : Nat) (v : Word) : State :=
  if off = 0x024 then s.modRegs fun r => { r with globalErr := r.globalErr &&& ~~~(BitVec.ofNat 5 v.toNat) }
  else if off = 0x03C then { s with ident := { s.ident with scratch := v } }
  else s

/-- A write of a BAR0 offset by a master: a listed register takes it as its access code says; any other offset is an access to the default target (R10,
R359). `who` is the PCIe requester; a master of the package has none (log 43 [DEDUCED]). Log 107 [DEDUCED]. -/
def State.writeReg (s : State) (m : Master) (who : Option Nat) (off : Nat) (v : Word) : State :=
  if !regListed off then s.defaultTarget m 0 (regBase + off)
  else if off < 0x1000 then s.writeIdentity off v
  else if off < 0x2000 then s.writeInterrupt (off - 0x1000) v
  else if off < 0x20000 then s.writeBox who ((off - 0x10000) / 0x1000) (off % 0x1000) v
  else if off < 0x30000 then s.writeQueue (off - 0x20000) v
  else if off < 0x40000 then s.writeDma ((off - 0x30000) / 0x100) (off % 0x100) v
  else if off = 0x40000 then s.modRegs fun r => { r with winSel := BitVec.ofNat 4 v.toNat }
  else s.writeCal (off - 0x50000) v

/-! ### Accesses of several bytes through the package address space (R361, R387, R396) -/

/-- Registers whose written bits act one by one: a byte that a narrow write does not carry is zero for them, and for the others what stands there
(log 44 [DEDUCED]). -/
def actsByBit (off : Nat) : Bool :=
  decide (off = 0x024 ∨ off = 0x1C00 ∨ off = 0x50024 ∨ off = 0x50028) ||
    (decide (0x10000 ≤ off ∧ off < 0x20000) && decide (off % 0x1000 = 0x400 ∨ off % 0x1000 = 0x40C)) ||
    (decide (0x30000 ≤ off ∧ off < 0x30800) && decide (off % 0x100 = 0x20 ∨ off % 0x100 = 0x24))

/-- The word that a write of `d` from `off` leaves for the register at `k`. Log 44 [DEDUCED]. -/
def State.wordWritten (s : State) (off : Nat) (d : List Byte) (k : Nat) : Word :=
  let old := if actsByBit k then [] else leBytes 4 (s.regValue k)
  BitVec.ofNat 32 (field ((List.range 4).map fun i => if off ≤ k + i ∧ k + i < off + d.length then d.getD (k + i - off) 0 else old.getD i 0) 0 4)

/-- Offsets of the registers that a range touches. -/
def regsOf (off n : Nat) : List Nat := if n = 0 then [] else (List.range ((off + n - 1) / 4 + 1 - off / 4)).map fun k => 4 * (off / 4 + k)

/-- A write into the BAR0 image, register by register. -/
def State.regsWrite (s : State) (m : Master) (who : Option Nat) (off : Nat) (d : List Byte) : State :=
  (regsOf off d.length).foldl (fun s k => s.writeReg m who k (s.wordWritten off d k)) s

/-- A read of the BAR0 image, register by register. -/
def State.regsRead (s : State) (off n : Nat) : List Byte × State :=
  let (bs, s1) := (regsOf off n).foldl (fun (acc : List Byte × State) k =>
    let (v, s') := acc.2.readReg k
    (acc.1 ++ leBytes 4 v.toNat, s')) ([], s)
  ((bs.drop (off % 4)).take n, s1)

/-- A read of populated addresses by a master. -/
def State.busRead (s : State) (a n : Nat) : List Byte × State := if inRegs a then s.regsRead (a - regBase) n else s.pkgRead a n

/-- A write of populated addresses by a master. Log 43 [DEDUCED]. Log 44 [DEDUCED]. -/
def State.busWrite (s : State) (m : Master) (who : Option Nat) (a : Nat) (d : List Byte) : State :=
  if inRegs a then s.regsWrite m who (a - regBase) d else s.pkgWrite a d

/-- The die whose stack an address belongs to. -/
def dieOfAddr (a : Nat) : Nat := a / 2 ^ 36

end Sys2Proof.Machine
end

