-- ==== Sys2Proof/Machine/Schedule.lean ====
section
/-! DEFINITION. The tile scheduler: what a work window owes and the order in which it is dealt (R59 step 6, R158, R193), column slots and the replay row
buffer (R67, R164, R411), the replay reserve (R62, R63), dumps, replays and strips (R161 to R169, R195), and the end of the window (R64). -/

namespace Sys2Proof.Machine

/-! ### What a window owes, in order (R158, R193) -/

/-- The pipes of a kind that the present window works, each as it stands for the tick in work (R57). -/
def State.workPipes (s : State) (kind : Nat) : List (Nat × PipeEntry) :=
  (s.cfg.indices [kind]).filterMap fun i => (s.pipeAt i s.workTick).map fun e => (i, e)

/-- Tile positions of a channel mash on a die (R158). -/
def dumpItems (die ch mash : Nat) (x : Nat × PipeEntry) : List WorkItem :=
  let c := x.2.cfg.corrCfg
  if c.worksMash die ch mash then (List.range c.pCorr).map fun q => .dump { pipe := x.1, die := die, channel := ch, mash := mash, tp := q } else []

/-- Strips of a channel mash on a die: ascending beam block, then ascending strip (R193). -/
def stripItems (cfg : PackageCfg) (die ch mash : Nat) (x : Nat × PipeEntry) : List WorkItem :=
  let b := x.2.cfg.beamCfg
  if formsOn cfg x.2 die ch mash then
    (List.range b.blocks).flatMap fun k => (List.range b.strips).map fun t =>
      .strip { pipe := x.1, die := die, channel := ch, mash := mash, block := k, strip := t }
  else []

/-- Everything the present window owes on a die: channels ascending, their mashes ascending, in each the block jobs' tile positions and then the strips
(R158, R193). Pipes that share a channel take turns by pipe. Log 147 [DESIGN CHOICE]. -/
def State.workOrder (s : State) (die : Nat) : List WorkItem :=
  if s.noWindow then []
  else
    let corr := s.workPipes 2
    let beam := s.workPipes 3
    let chans := sortBy id (dedup ((corr.flatMap fun x => (List.range x.2.cfg.corrCfg.chCount).map (x.2.cfg.corrCfg.chFirst + ·)) ++
      beam.flatMap fun x => (List.range x.2.cfg.beamCfg.chCount).map (x.2.cfg.beamCfg.chFirst + ·)))
    let mashes := ((corr ++ beam).map fun x => x.2.cfg.m).foldl max 0
    chans.flatMap fun ch => (List.range mashes).flatMap fun j =>
      corr.flatMap (dumpItems die ch j) ++ beam.flatMap (stripItems (s.cfgAt s.workTick) die ch j)

/-- The item has reached the tun, or its strip is written, sent or lost. -/
def State.finishedItem (s : State) : WorkItem → Bool
  | .dump d => (s.die d.die).done.contains (DumpRef.key d)
  | .strip d =>
    let r := (s.contrib d.pipe ownStrips d.die s.workSlot d.channel d.mash).getD {}
    r.cells.contains (StripRef.number d) || r.lost.contains (StripRef.number d)

/-- What the present window still owes on a die. -/
def State.owed (s : State) (die : Nat) : List WorkItem := (s.workOrder die).filter fun x => !s.finishedItem x

/-! ### Replays and the reserve (R62, R63, R195) -/

/-- The item that a queued replay runs again. -/
def Replay.item (r : Replay) : WorkItem :=
  match r.strip with
  | some d => .strip d
  | none => .dump r.ref

/-- Cost of a strip's replay in tile-cycles (R193, R195). -/
def State.stripCost (s : State) (e : PipeEntry) (die : Nat) : Nat :=
  wOf e.cfg.beamCfg.sampleMode * gBeam (s.cfgAt s.workTick) e e.cfg.beamCfg die * 256

/-- Cost of a piece of work in tile-cycles, replayed (R62, R195). -/
def State.itemCost (s : State) : WorkItem → Nat
  | .dump d => ((s.corrAt d).map fun e => e.cfg.corrCfg.replayCost).getD 0
  | .strip d => ((s.beamAt d.pipe d.die d.channel d.mash).map fun e => s.stripCost e d.die).getD 0

/-- The reserve cannot take a replay: the tile position is written to full scale, a strip is not written (R63, R169, R195). -/
def State.shortOf (s : State) : WorkItem → State
  | .dump d => match s.corrAt d with
    | some e => s.writeFull e d
    | none => s
  | .strip d => match s.beamAt d.pipe d.die d.channel d.mash with
    | some e => s.stripLost e d
    | none => s

/-! ### Column slots and the replay row buffer (R67, R164, R411) -/

/-- The column group and the row group of a tile position, and its row tile. -/
def CorrCfg.groupsAt (c : CorrCfg) (d : DumpRef) : Option (StagedGroup × StagedGroup × Nat) :=
  (c.place d.tp).map fun (job, i, _) =>
    let g : StagedGroup := { pipe := d.pipe, channel := d.channel, mash := d.mash }
    ({ g with group := job.col }, { g with group := job.row }, i)

/-- The column group that an item reads from its slot. -/
def State.columnOf (s : State) : WorkItem → Option StagedGroup
  | .dump d => (s.corrAt d).bind fun e => (e.cfg.corrCfg.groupsAt d).map (·.1)
  | .strip _ => none

/-- Groups that stand in the column slots. -/
def Slots.groups (x : Slots) : List StagedGroup := x.col.toList ++ x.row.toList

/-- A new job may take its slots: none of the groups that leave is the column group of a replay that has not started, or of a position in work, which may
still come to be replayed (R164). Log 163 [DEDUCED]. -/
def State.slotFree (s : State) (die : Nat) (new : Slots) : Bool :=
  let w := s.die die
  let held := (w.replays.map Replay.item ++ w.busy.map (·.item)).filterMap s.columnOf
  w.slots.groups.all fun g => new.groups.contains g || !held.contains g

/-- Row tiles that the replay row buffer of 4 MiB holds (R411). -/
def CorrCfg.rowTileCount (c : CorrCfg) : Nat := 2 ^ 22 / (64 * 2 ^ c.tLog2 * modeBytes c.sampleMode)

/-- A row tile enters the replay row buffer; of a full one, a row tile leaves that the spec does not name: a free value (R164, log 1 [DESIGN CHOICE]). -/
def State.keepRow (s : State) (die cap : Nat) (r : RowTile) : State :=
  let l := (s.die die).rowTiles
  if l.contains r || cap == 0 then s
  else if l.length < cap then s.modDie die fun w => { w with rowTiles := w.rowTiles ++ [r] }
  else
    let (v, s1) := s.fresh
    s1.modDie die fun w => { w with rowTiles := w.rowTiles.eraseIdx (v % w.rowTiles.length) ++ [r] }

/-- What a tile position takes from staging as it starts: a new one its job's slots, with its row tile kept for replays; a replay its row tile, fetched
again when the buffer no longer holds it (R67, R164). -/
def State.stageFor (s : State) (d : DumpRef) (replay : Bool) : State :=
  match s.corrAt d with
  | none => s
  | some e =>
    let c := e.cfg.corrCfg
    match c.groupsAt d with
    | none => s
    | some (col, row, i) =>
      let r : RowTile := { group := row, row := i }
      let s1 :=
        if !replay then s.modDie d.die fun w => { w with slots := (w.slots.stage c.whole col row).1 }
        else if (s.die d.die).rowTiles.contains r then s
        else s.modCorr d.pipe d.die fun k => { k with replayRefetch := rcAdd 32 k.replayRefetch 1 }
      s1.keepRow d.die c.rowTileCount r

/-! ### Dealing (R158, R162 to R164) -/

/-- A logical tile is free: mapped, not found faulty in this window, and without work (R158, R162, R163). -/
def DieWork.tileFree (w : DieWork) (tile : Nat) : Bool := w.tileRuns tile && !w.busy.any (·.tile == tile)

/-- The lowest-numbered free logical tile (R158). -/
def DieWork.freeTile (w : DieWork) : Option Nat := (List.range 128).find? w.tileFree

/-- The logical tile that PIN_TILES gives a tile position (R158). Log 147 [DESIGN CHOICE]. -/
def State.pinnedTile (s : State) : WorkItem → Option Nat
  | .dump d => (s.corrAt d).bind fun e => if e.cfg.corrCfg.pinTiles then some (d.tp % 128) else none
  | .strip _ => none

/-- Puts an item to work on a tile; `r` is the replay it comes from. -/
def State.startItem (s : State) (die tile : Nat) (x : WorkItem) (r : Option Replay) : State :=
  let s1 := match x with
    | .dump d => s.stageFor d r.isSome
    | .strip _ => s
  s1.modDie die fun w => { w with busy := w.busy ++ [{ tile := tile, item := x, replay := r }] }

/-- Serves the head of the replay queue: paid from the reserve and put on the next free tile; one that the reserve cannot take is written to full scale or
lost (R62 to R64, R164). None while no tile is free. Log 24 [DEDUCED]. -/
def State.serveReplay (s : State) (die : Nat) (r : Replay) : Option State :=
  let cost : Int := (s.itemCost r.item : Nat)
  if (s.die die).reserve < cost then some ((s.modDie die fun w => { w with replays := w.replays.erase r }).shortOf r.item)
  else (s.die die).freeTile.map fun t =>
    (s.modDie die fun w => { w with replays := w.replays.erase r, reserve := w.reserve - cost }).startItem die t r.item (some r)

/-- The slots once a new item is dealt. -/
def State.slotsAfter (s : State) (die : Nat) : WorkItem → Slots
  | .dump d => ((s.corrAt d).bind fun e => (e.cfg.corrCfg.groupsAt d).map fun (col, row, _) =>
      ((s.die die).slots.stage e.cfg.corrCfg.whole col row).1).getD (s.die die).slots
  | .strip _ => (s.die die).slots

/-- Deals the next new item: to the lowest-numbered free tile, or to its pinned tile, for which it waits; a position pinned to a tile that takes no work in
this window is passed over (R158, R162, R163). It waits for its job's column slot (R164). Log 147 [DESIGN CHOICE]. Log 163 [DEDUCED]. -/
def State.dealNew (s : State) (die : Nat) (x : WorkItem) : Option State :=
  let w := s.die die
  let rest := s.modDie die fun w => { w with todo := w.todo.drop 1 }
  if (s.pinnedTile x).any fun t => !w.tileRuns t then some rest
  else if !s.slotFree die (s.slotsAfter die x) then none
  else (match s.pinnedTile x with
    | some t => if w.tileFree t then some t else none
    | none => w.freeTile).map fun t => rest.startItem die t x none

/-- One dealing of a die's scheduler: a waiting replay before any new item (R164). -/
def State.dealOne (s : State) (die : Nat) : Option State :=
  match (s.die die).replays, (s.die die).todo with
  | r :: _, _ => s.serveReplay die r
  | [], x :: _ => s.dealNew die x
  | [], [] => none

/-- Deals while something can be dealt; `n` bounds the number of dealings. -/
def State.dealUpTo (die : Nat) : Nat → State → State
  | 0, s => s
  | n + 1, s => match s.dealOne die with
    | some t => State.dealUpTo die n t
    | none => s

/-- The scheduler of a die deals to every tile it can (R158). -/
def State.deal (s : State) (die : Nat) : State := State.dealUpTo die ((s.die die).replays.length + (s.die die).todo.length) s

/-- Work on the tick begins: the window's items wait in order, with empty tiles, slots and row buffer, and the first are dealt (R59 step 6, R158). -/
def State.openWork (s : State) (die : Nat) : State :=
  (s.modDie die fun w => { w with todo := s.workOrder die, busy := [], slots := {}, rowTiles := [] }).deal die

/-! ### TILE_DUMP and REPLAY_DUMP (R161, R162, R166, R168) -/

/-- The tile of a reference works this item: dealt as new (`replay` false) or as a replay. -/
def DieWork.working (w : DieWork) (tile : Nat) (x : WorkItem) (replay : Bool) : Option TileWork :=
  w.busy.find? fun b => b.tile == tile && b.item == x && b.replay.isSome == replay

/-- A tile has finished and is free. -/
def State.freeUp (s : State) (die : Nat) (b : TileWork) : State := s.modDie die fun w => { w with busy := w.busy.erase b }

/-- A verified dump with overflow bits is held and queued as an overflow replay (R166). -/
def State.holdDump (s : State) (d : DumpRef) (cells : List (Int × Int)) : State :=
  State.requestReplay { s with data := { s.data with held := s.data.held ++ [{ ref := DumpRef.key d, values := cells }] } } d false

/-- What becomes of a tile's run at full scale: fault, hold, or add (R161, R162, R166, R171). -/
def State.takeRun (s : State) (e : PipeEntry) (d : DumpRef) (r : TileRun) (misses : List Nat) : State :=
  if !r.verified then s.tileFault d
  else if r.overflow then s.holdDump d r.cells
  else s.dumpAdd e d r.cells false misses

/-- TILE_DUMP: a tile finishes a tile position for one mash (R161, R162, R166, R171). -/
def State.tileDump (s : State) (d : DumpRef) (errs : List TileError) : State :=
  match s.corrAt d, (s.die d.die).working d.tile (.dump (DumpRef.key d)) false with
  | some e, some b =>
    let (r, misses) := s.runTile e.cfg.corrCfg d false errs
    ((s.freeUp d.die b).takeRun e d r misses).deal d.die
  | _, _ => s

/-- Tiles run and dump: the package works, and they are not gated (R471, R492). -/
def State.tilesRun (s : State) : Bool := s.works && !s.power.gated

/-- TILE_DUMP (R161). A tile dumps only what it was dealt (R158). Log 8 [DESIGN CHOICE]. -/
def execTileDump (d : DumpRef) (errs : List TileError) (s : State) : Host.Outcome State Fault Refusal :=
  .next (if s.tilesRun then s.tileDump d errs else s)

/-- A replay that completes counts by its kind (R186). -/
def State.countReplay (s : State) (d : DumpRef) (fault overflow : Bool) : State :=
  s.modCorr d.pipe d.die fun c =>
    { c with faultReplays := if fault then rcAdd 64 c.faultReplays 1 else c.faultReplays
             ovfReplays := if overflow then rcAdd 64 c.ovfReplays 1 else c.ovfReplays }

/-- What becomes of a replay: verified again; with a held dump, combined with it and added (R165, R168). -/
def State.takeReplay (s : State) (e : PipeEntry) (d : DumpRef) (fault : Bool) (r : TileRun) (misses : List Nat) : State :=
  match s.data.held.find? fun h => h.ref == DumpRef.key d with
  | some h =>
    if !r.verified then s.tileFault d
    else
      let s1 := s.countReplay d fault true
      let cells := (h.values.zip r.cells).map fun p => (recombine p.1.1 p.2.1, recombine p.1.2 p.2.2)
      State.dumpAdd { s1 with data := { s1.data with held := s1.data.held.filter fun h => h.ref != DumpRef.key d } } e d cells true misses
  | none => (if r.verified then s.countReplay d fault false else s).takeRun e d r misses

/-- REPLAY_DUMP: a replay of a tile position completes, at half scale when its dump is held (R164, R165, R167, R168). -/
def State.replayDump (s : State) (d : DumpRef) (errs : List TileError) : State :=
  match s.corrAt d, (s.die d.die).working d.tile (.dump (DumpRef.key d)) true with
  | some e, some b =>
    let (r, misses) := s.runTile e.cfg.corrCfg d (s.data.held.any fun h => h.ref == DumpRef.key d) errs
    ((s.freeUp d.die b).takeReplay e d (b.replay.any (·.fault)) r misses).deal d.die
  | _, _ => s

/-- REPLAY_DUMP (R168). -/
def execReplayDump (d : DumpRef) (errs : List TileError) (s : State) : Host.Outcome State Fault Refusal :=
  .next (if s.tilesRun then s.replayDump d errs else s)

/-! ### STRIP_DONE (R193, R195) -/

/-- A strip fails its check: handled as a tile fault, with a replay (R162, R195). Log 102 [DEDUCED]. -/
def State.stripFault (s : State) (e : PipeEntry) (d : StripRef) : State :=
  let p := ((s.die d.die).physical d.tile).getD 255
  let s1 := (s.noteFault d.die p d.channel (d.block * e.cfg.beamCfg.strips + d.strip)).modBeamCount d.pipe d.die fun c =>
    { c with stripFaults := rcAdd 32 c.stripFaults 1 }
  (s1.modDie d.die fun w => { w with replays := queueReplay w.replays { fault := true, strip := some (StripRef.key d) } }).tileOut d.die p

/-- What becomes of a strip: not written when a weight it needs cannot be read, written or sent when verified, else a fault (R195, R410). -/
def State.takeStrip (s : State) (e : PipeEntry) (d : StripRef) (errs : List TileError) : State :=
  if s.weightsBad e d ≠ 0 then (s.meetBad d.die (s.weightsBad e d)).stripSettle e d false
  else
    let (ws, xs) := s.stripData e d
    let (ys, ck) := stripRun ws xs errs
    if stripVerified ys ck then (s.stripOut e d ys).stripSettle e d true else s.stripFault e d

/-- A beam strip completes, dealt as new or as a replay (R193, R195). -/
def State.stripDone (s : State) (d : StripRef) (errs : List TileError) : State :=
  match s.beamAt d.pipe d.die d.channel d.mash, (s.die d.die).busy.find? fun b => b.tile == d.tile && b.item == .strip (StripRef.key d) with
  | some e, some b => ((s.freeUp d.die b).takeStrip e d errs).deal d.die
  | _, _ => s

/-- STRIP_DONE (R195). -/
def execStripDone (d : StripRef) (errs : List TileError) (s : State) : Host.Outcome State Fault Refusal :=
  .next (if s.tilesRun then s.stripDone d errs else s)

/-! ### The end of the window (R54, R64) -/

/-- The window ends on an item it still owes: a tile position is written to full scale; a strip is not written, and counts as lost when it waited for its
replay (R64, R195). Log 102 [DEDUCED]. -/
def State.closeItem (s : State) (x : WorkItem) : State :=
  match x with
  | .dump _ => s.shortOf x
  | .strip d =>
    if (s.die d.die).replays.any (·.item == x) || (s.die d.die).busy.any (fun b => b.item == x && b.replay.isSome) then s.shortOf x
    else match s.beamAt d.pipe d.die d.channel d.mash with
      | some e => s.stripSettle e d false
      | none => s

/-- The end of the window on one die: what it still owes is closed, the reserve is noted, the first such writes are reported, and its tiles have no more work
(R54, R64, R186, R188). REPLAY_RESERVE_EXHAUSTED comes here, where the count in its details is known. Log 171 [DEDUCED]. -/
def State.closeDie (s : State) (die : Nat) : State :=
  let s1 := (s.owed die).foldl State.closeItem s
  let w := s1.die die
  let s2 := s1.modDie die fun w =>
    { w with replays := [], todo := [], busy := [], reserveLast := max 0 w.reserve, exhausted := false, exhaustedCount := 0 }
  if w.exhausted then s2.raise 0x0204 die (leBytes 1 die ++ leBytes 6 s.workTick ++ leBytes 4 w.exhaustedCount) else s2

end Sys2Proof.Machine
end

