-- ==== Sys2Proof/Machine/Fabric.lean ====
section
/-! DEFINITION. Package memory and the package matrix (R401 to R425): refresh, row-hammer protection, error codes, scrubbing, the real-time port, the tun
adder as an operation, requests and credits, the default target, and the memory commands. -/

namespace Sys2Proof.Machine

/-! ### Training (R401) -/

/-- The widest passing run of a sweep, the lowest of equal ones: its first tap and its length (R401). Log 175 [DESIGN CHOICE]. -/
def widestRun (x : BitVec 128) : Nat × Nat :=
  ((List.range 129).foldl (fun (acc : (Nat × Nat) × Nat) k =>
    if k < 128 ∧ x.getLsbD k then acc else (if acc.1.2 < k - acc.2 then (acc.2, k - acc.2) else acc.1, k + 1)) ((0, 0), 0)).1

/-- The midpoint of it, rounded down (R401). -/
def runMiddle (x : BitVec 128) : Nat := (widestRun x).1 + ((widestRun x).2 - 1) / 2

/-- The passing run of a byte lane: the narrower of its two (R401, R423). Log 175 [DESIGN CHOICE]. -/
def LaneSweep.run (w : LaneSweep) : Nat := min (widestRun w.read).2 (widestRun w.write).2

/-- WORST_LANE and WORST_EYE_TAPS (R423). Log 175 [DESIGN CHOICE]. -/
def TrainReading.worst (r : TrainReading) : Nat × Nat :=
  if r.lanes.isEmpty then (r.worstLane, r.worstTaps)
  else (r.lanes.zipIdx).foldl (fun b (w, k) => if LaneSweep.run w < b.2 then (k, LaneSweep.run w) else b) (0, LaneSweep.run (r.lanes.headD {}))

/-- A byte lane whose widest run is still shorter than 20 taps, with that run (R401). Log 175 [DESIGN CHOICE]. -/
def TrainReading.short (r : TrainReading) : Option (Nat × Nat) :=
  if r.lanes.isEmpty then r.shortLane else if (TrainReading.worst r).2 < 20 then some (TrainReading.worst r) else none

/-- A stack trained: each delay stands at the midpoint of its widest passing run, or where no sweep is listed for the lane at a place that nobody chose (R401, R423,
log 1 [DESIGN CHOICE]). -/
def HbmStack.train (h : HbmStack) (r : TrainReading) (held : Bool) (free : Nat → Nat) : HbmStack :=
  let delay (k fresh : Nat) (f : LaneSweep → BitVec 128) : Nat := ((r.lanes[k]?).map fun w => runMiddle (f w)).getD (free fresh % 128)
  { h with trainState := if held then 2 else if r.repairs = 0 then 0 else 1, repairs := r.repairs, worstLane := (TrainReading.worst r).1, worstTaps := (TrainReading.worst r).2
           taps := (List.range 256).map fun k => delay k k (·.read), writeTaps := (List.range 256).map fun k => delay k (256 + k) (·.write) }

/-! ### Refresh and row hammer (R402 to R404) -/

/-- HBM_REFRESH: all banks are refreshed and one byte lane moves by at most one tap toward the centre (R402, R403); a stack in self-refresh takes none. -/
def execHbmRefresh (die : Nat) (eyeOffset : Int) (s : State) : Host.Outcome State Fault Refusal :=
  .next (if (s.stack die).selfRefresh then s
    else s.modStack die fun h =>
      { h with refreshes := rcAdd 64 h.refreshes 1, nextLane := (h.nextLane + 1) % 256
               taps := h.taps.modify h.nextLane fun t => if 0 < eyeOffset then min 127 (t + 1) else if eyeOffset < 0 then t - 1 else t })

/-- The lowest count of a table, 0 while it has a free entry (R404). -/
def leastCount (l : List ActEntry) (size : Nat) : Nat :=
  if l.length < size then 0 else l.foldl (fun m e => min m e.count) ((l.headD {}).count)

/-- The entry of an activate table that takes row `r`: its own, a free one, or the one with the least count, which it keeps (R404). -/
def actTake (l : List ActEntry) (r : Nat) : ActEntry × List ActEntry :=
  match l.find? (·.row == r) with
  | some e => (e, l.erase e)
  | none =>
    if l.length < 16 then ({ row := r, count := 0 }, l)
    else match l.find? (·.count == leastCount l 16) with
      | some e => ({ e with row := r }, l.erase e)
      | none => ({ row := r, count := 0 }, l)

/-- HBM_ACTIVATE: the activate table of the bank, and a refresh of the neighbours at the threshold (R404). -/
def execHbmActivate (die bank row : Nat) (s : State) : Host.Outcome State Fault Refusal :=
  let h := s.stack die
  let l := ((h.tables.find? (·.1 == bank)).map (·.2)).getD []
  let (e0, rest) := actTake l row
  let e := { e0 with count := e0.count + 1 }
  let hits := decide (h.thresh ≤ e.count)
  let kept := if hits then { e with count := leastCount rest 15 } else e
  let near := ((List.range (2 * h.radius + 1)).filter fun k => k != h.radius && decide (h.radius ≤ row + k)).map fun k => row + k - h.radius
  .next (s.modStack die fun h =>
    let h1 := { h with tables := assign h.tables bank (rest ++ [kept]) }
    if hits then { h1 with neighbours := h.neighbours ++ near.map fun r => (bank, r), nbrRefreshes := rcAdd 32 h.nbrRefreshes 1, nbrSecond := h.nbrSecond + 1 } else h1)

/-- REFRESH_WINDOW_END: every activate table is cleared, and a new threshold and radius take effect (R404, R422). -/
def execRefreshWindowEnd (die : Nat) (s : State) : Host.Outcome State Fault Refusal :=
  .next (s.modStack die fun h =>
    let h1 := { h with tables := [] }
    match h.nextHammer with
    | some (t, r) => { h1 with thresh := t, radius := r, nextHammer := none }
    | none => h1)

/-- NEIGHBOUR_REFRESH_SECOND: HBM_NEIGHBOUR_REFRESH for each die that had any in the second (R425). -/
def execNeighbourRefreshSecond (s : State) : Host.Outcome State Fault Refusal :=
  .next ((List.range s.dies).foldl (fun s d =>
    let n := (s.stack d).nbrSecond
    if n = 0 then s else (s.modStack d fun h => { h with nbrSecond := 0 }).raise 0x0603 d (leBytes 1 d ++ leBytes 4 n)) s)

/-! ### Error codes and scrubbing (R405, R406) -/

/-- What the scrubber of a die reads, as die offsets from and to: the allocated areas and the reserve (R400, R406). Log 108 [DEDUCED]. -/
def State.scrubbed (s : State) (die : Nat) : List (Nat × Nat) :=
  (((usedAreas s.cfg s.data.scopes).filter (·.die == die)).map fun x => (x.first * 2 ^ 21, (x.first + x.granules) * 2 ^ 21)) ++ [(0xF80000000, 2 ^ 36)]

/-- The scrubber reads the word at a die offset. -/
def State.scrubs (s : State) (die off : Nat) : Bool := (s.scrubbed die).any fun x => decide (x.1 ≤ off ∧ off < x.2)

/-- The word at a die offset comes next in the pass: none of those that the scrubber reads lies between its place and it (R406). Log 108 [DEDUCED]. -/
def State.scrubDue (s : State) (die off : Nat) : Bool :=
  let next := (s.stack die).scrubNext
  decide (next ≤ off) && !(s.scrubbed die).any fun x => decide (max x.1 next < min x.2 (off / 32 * 32))

/-- SCRUB_READ: a word of the allocated areas or the reserve is read; a corrected one is written back, an uncorrectable one is left and counted. A pass goes
up through the stack; its last word ends it (R406). Log 108 [DEDUCED]. -/
def execScrubRead (die addr : Nat) (ecc : EccSeen) (s : State) : Host.Outcome State Fault Refusal :=
  let off := addr % 2 ^ 36
  let s1 := match ecc with
    | .uncorrectable => s.modStack die fun h =>
        { h with scrubUncorrectable := rcAdd 32 h.scrubUncorrectable 1, badWords := if wordOf addr ∈ h.badWords then h.badWords else h.badWords ++ [wordOf addr] }
    | e => s.eccRead die addr e
  .next (if !s.scrubs die off then s
    else if !s.scrubDue die off then s1
    else s1.modStack die fun h =>
      if 2 ^ 36 - 32 ≤ off then { h with scrubPasses := rcAdd 32 h.scrubPasses 1, scrubNext := 0 } else { h with scrubNext := off / 32 * 32 + 32 })

/-! ### Requests, credits and order (R409, R414 to R417) -/

/-- What holds credits: the HBM of a die, the SRAM of a die, or the register space. -/
def State.creditKey (s : State) (a : Nat) : Nat := if s.inHbm a then a / 2 ^ 36 else if s.inSram a then 16 + (a - sramBase) / 2 ^ 28 else 32

/-- The priority of a master-target pair of a die (R414, R420). Log 109 [DEDUCED]. -/
def State.pairPriority (s : State) (die : Nat) (m : Master) (target : Nat) : Nat :=
  ((s.fabric.priorities.find? fun p => p.die == die && p.master == masterCode m && p.target == target).map (·.priority)).getD (7 - masterClass m)

/-- Bytes that a request covers; an operation of the tun adder covers its word. -/
def MatrixRequest.span (r : MatrixRequest) : Nat := if r.op.isSome then 32 else max 1 (if r.write then r.data.length else r.len)

/-- Two requests concern a common 256-bit word (R409, R416). -/
def overlaps (a b : MatrixRequest) : Bool :=
  decide (wordOf a.addr < b.addr + MatrixRequest.span b) && decide (wordOf b.addr < a.addr + MatrixRequest.span a)

/-- Two requests come from one master. -/
def sameMaster (a b : MatrixRequest) : Bool := a.master == b.master && a.die == b.die

/-- A request that must not pass an earlier one of its master: to the same word, or a write behind a write to the same target (R416, R417). -/
def State.mustFollow (s : State) (r x : MatrixRequest) : Bool :=
  sameMaster x r && (overlaps x r || (x.write && r.write && s.creditKey x.addr == s.creditKey r.addr))

/-- The matrix holds a request back (R416, R417); `earlier` are the requests held before it. Log 9 [DESIGN CHOICE]. -/
def State.holdsBack (s : State) (earlier : List MatrixRequest) (r : MatrixRequest) : Bool :=
  let key := s.creditKey r.addr
  let used := (s.fabric.inFlight.filter fun x => masterClass x.1.master == masterClass r.master && s.creditKey x.1.addr == key).length
  earlier.any (s.mustFollow r) || decide (Config.creditsOf (masterClass r.master) key < used)
    || (!r.write && !r.responseSpace)

/-- A position that reads unreadable column data: the loader reloads it, and the dump is discarded and queued as a checksum-fault replay; no tile is at fault
(R162 steps 1 and 3, R412). -/
def State.columnLost (s : State) (die tile : Nat) : State :=
  match (s.die die).busy.find? (·.tile == tile) with
  | some b => match b.item with
    | .dump d => ((s.freeUp die b).requestReplay d true).deal die
    | .strip _ => s
  | none => s

/-- What an uncorrectable word of a partition does, by the partition's code and what the word holds (R411, R412). Log 159 [DESIGN CHOICE]. -/
def State.sramLost (s : State) (die code : Nat) : SramHolds → State
  | .unused => if code = 8 ∧ die = 0 then s.setFault 4 else s
  | .column tile => if code = 1 ∨ code = 2 then s.columnLost die tile else s
  | .bits pipe position contributor slot ch mash cells =>
    if code = 3 then
      s.modContrib { pipe := pipe, position := position, die := contributor, slot := slot, channel := ch, mash := mash } fun r => { r with spoilt := r.spoilt ++ cells }
    else s
  | .plane pipe bank ch tp => if code = 4 then s.modTile pipe die bank ch tp fun x => { x with planeInexact := true } else s
  | .rowTile k =>
    match (s.die die).rowTiles[k]? with
    | some r => if code = 5 then s.modCorr r.group.pipe die fun c => { c with replayRefetch := rcAdd 32 c.replayRefetch 1 } else s
    | none => s
  | .samples pipe tick input ch first count =>
    if code = 6 then
      { s with data := { s.data with turn := s.data.turn.filter fun x =>
        !(x.pipe == pipe && x.tick == tick && x.input == input && x.channel == ch && decide (first ≤ x.index ∧ x.index < first + count)) } }
    else s
  | .datagram pipe tickScope =>
    if code = 7 then
      let spoil (sc : Scope) : Scope := { sc with readers := updateAll (·.die == die) (fun r => { r with spoiled := true }) sc.readers }
      { s with data := { s.data with scopes := updateAll (fun sc => sc.pipe == pipe && sc.tickScope == tickScope) spoil s.data.scopes } }
    else s

/-- The SRAM partitions: code, offset, size (R411). -/
def sramPartitions : List (Nat × Nat × Nat) :=
  [(1, 0x0000000, 0x4000000), (2, 0x4000000, 0x4000000), (3, 0x8000000, 0x800000), (4, 0x8800000, 0x800000), (5, 0x9000000, 0x400000), (6, 0x9400000, 0x200000),
   (7, 0x9600000, 0x200000), (8, 0x9800000, 0x800000)]

/-- The partition of an SRAM address (R411). -/
def sramPartition (a : Nat) : Nat :=
  let o := (a - sramBase) % 2 ^ 28
  ((sramPartitions.find? fun x => decide (x.2.1 ≤ o ∧ o < x.2.1 + x.2.2)).map (·.1)).getD 0

/-- What a read meets where it reads SRAM (R412). -/
def sramMet : EccSeen → SramSeen
  | .clean => .clean
  | .corrected => .corrected
  | .uncorrectable => .uncorrectable .unused
  | .sram x => x

/-- What a read of SRAM meets is counted, and an uncorrectable word acts by its partition (R412). Log 159 [DESIGN CHOICE]. -/
def State.sramRead (s : State) (a : Nat) (seen : SramSeen) : State :=
  if !s.inSram a then s
  else
    let die := (a - sramBase) / 2 ^ 28
    match seen with
    | .clean => s
    | .corrected => s.modStack die fun h => { h with sramCorrected := rcAdd 32 h.sramCorrected 1 }
    | .uncorrectable x => (s.modStack die fun h => { h with sramUncorrectable := rcAdd 32 h.sramUncorrectable 1 }).sramLost die (sramPartition a) x

/-- A target has served a master, for the round robin among equal priorities (R414). -/
def State.noteServed (s : State) (r : MatrixRequest) : State :=
  { s with fabric := { s.fabric with lastMaster := assign s.fabric.lastMaster (s.creditKey r.addr) (masterCode r.master) } }

/-- A forwarded request: at an HBM controller it waits to be served, SRAM, the NOR store and the registers answer at once. What a core's own access to its
private registers does is the firmware's, which the events and commands stand for. -/
def State.forward (s0 : State) (r : MatrixRequest) : State :=
  let s := s0.noteServed r
  if s.inHbm r.addr then { s0 with fabric := { s0.fabric with inFlight := s0.fabric.inFlight ++ [(r, s0.timeNs)] } }
  else if r.write then
    if inPrivate r.addr then s else if inLog r.addr then s.pokeLogs r.addr r.data else s.busWrite r.master none r.addr r.data
  else
    let (data, s1) := if inPrivate r.addr then ([], s) else s.busRead r.addr r.len
    let s2 := s1.sramRead r.addr r.sram
    if r.master = .pcie then s2.emit (.pcieData data false) else s2

/-- MATRIX_REQUEST: to the default target, held back, or forwarded (R413, R417, R418). Log 9 [DESIGN CHOICE]. -/
def State.matrixRequest (s : State) (r : MatrixRequest) : State :=
  let n := if r.write then r.data.length else r.len
  (if !s.reaches r.master r.die r.write r.addr n then
      let t := s.defaultTarget r.master r.die r.addr
      if r.master = .pcie ∧ r.write = false then t.emit (.pcieData (List.replicate r.len 0xFF) false) else t
    else if s.holdsBack (s.fabric.held.map (·.1)) r then { s with fabric := { s.fabric with held := s.fabric.held ++ [(r, s.timeNs)] } }
    else s.forward r)

/-- Held requests with those before each. Log 109 [DEDUCED]. -/
def withEarlier : List MatrixRequest → List (MatrixRequest × Nat) → List ((MatrixRequest × Nat) × List MatrixRequest)
  | _, [] => []
  | acc, x :: l => (x, acc) :: withEarlier (acc ++ [x.1]) l

/-- Of two held requests, the one served first at a target: 4 us of waiting, then priority, then round robin in ascending master code (R414). Log 109 [DEDUCED]. -/
def State.servedFirst (s : State) (a b : MatrixRequest × Nat) : Bool :=
  let old (x : MatrixRequest × Nat) : Bool := decide (x.2 + 4000 ≤ s.timeNs)
  let pri (x : MatrixRequest × Nat) : Nat := s.pairPriority x.1.die x.1.master ((s.targetOf x.1.die x.1.addr).getD 6)
  let turn (x : MatrixRequest × Nat) : Nat := (masterCode x.1.master + 7 - lookupD s.fabric.lastMaster (s.creditKey x.1.addr) 7) % 8
  if old a ∧ old b then decide (a.2 ≤ b.2)
  else if old a ∨ old b then old a
  else if pri a ≠ pri b then decide (pri b < pri a)
  else decide (turn a ≤ turn b)

/-- The held request that a freed credit lets through. -/
def State.nextHeld (s : State) : Option (MatrixRequest × Nat) :=
  ((withEarlier [] s.fabric.held).filter fun x => !s.holdsBack x.2 x.1.1).foldl (fun best x =>
    match best with
    | none => some x.1
    | some b => if s.servedFirst b x.1 then some b else some x.1) none

/-- Forwards held requests while one may go; `n` bounds their number. -/
def State.releaseUpTo : Nat → State → State
  | 0, s => s
  | n + 1, s =>
    match s.nextHeld with
    | none => s
    | some x =>
      State.releaseUpTo n (State.forward { s with fabric := { s.fabric with held := s.fabric.held.erase x } } x.1)

/-- A master with no read in flight has taken its responses, so a read of it that waits for response space has space (R77, R417). Log 160 [DESIGN CHOICE]. -/
def State.giveSpace (s : State) : State :=
  let reading (x : MatrixRequest) : Bool := s.fabric.inFlight.any fun y => !y.1.write && sameMaster y.1 x
  let held := s.fabric.held.map fun x => if reading x.1 then x else ({ x.1 with responseSpace := true }, x.2)
  { s with fabric := { s.fabric with held := held } }

/-- Forwards every held request that may go (R77, R417). Log 160 [DESIGN CHOICE]. -/
def State.releaseRequests (s : State) : State := State.releaseUpTo s.fabric.held.length s.giveSpace

/-- The turn write buffer's fill and the panic of the real-time port (R407). -/
def State.fillBuffer (s : State) (die fill : Nat) : State :=
  let h := s.stack die
  if !h.panic && decide (3 * 2 ^ 19 < fill) then
    s.modStack die fun h => { h with turnBuffer := fill, panic := true, panicSinceNs := s.timeNs, panics := rcAdd 32 h.panics 1, tickPanics := h.tickPanics + 1 }
  else if h.panic && decide (fill < 2 ^ 20) then
    s.modStack die fun h =>
      { h with turnBuffer := fill, panic := false, panicLongestNs := max h.panicLongestNs (min (s.timeNs - h.panicSinceNs) (2 ^ 32 - 1)) }
  else s.modStack die fun h => { h with turnBuffer := fill }

/-- HBM_PANIC of the tick that ends, with its episodes (R407). -/
def State.reportPanics (s : State) (tick : Nat) : State :=
  (List.range s.dies).foldl (fun s d =>
    let n := (s.stack d).tickPanics
    if n = 0 then s else (s.modStack d fun h => { h with tickPanics := 0 }).raise 0x0601 d (leBytes 1 d ++ leBytes 6 tick ++ leBytes 4 n)) s

/-! ### The tun adder on one word (R172, R178, R197, R408) -/

/-- The entry whose banks the tun adder works: that of the tick in work, else as it stands (R57). -/
def State.bankEntry (s : State) (pipe : Nat) : PipeEntry := (s.pipeAt pipe s.workTick).getD (s.cfg.pipes.getD pipe {})

/-- The tile position and word within it that an address of a CORR pipe's bank names: channel, position, word (R170). -/
def PipeEntry.tunWord (e : PipeEntry) (die bank addr : Nat) : Option (Nat × Nat × Nat) :=
  match e.areaBase die (bankKind bank), e.cfg with
  | some base, .corr c =>
    let rel := addr - base
    let l := rel / (c.pCorr * c.v)
    let ch := c.chFirst + dieChOffset c.dieCh c.splitD die + l
    if base ≤ addr ∧ 0 < c.pCorr ∧ c.worksChannel die ch then some (ch, rel / c.v % c.pCorr, rel % c.v / 32) else none
  | _, _ => none

/-- Where a value of a beam slot lies in a word, in components of 4 bytes; the slot has no layout of its own. Log 2 [DESIGN CHOICE]. -/
def State.slotPlace (s : State) (pipe die addr : Nat) (key : List Nat) : Option Nat :=
  ((s.cfg.pipes.getD pipe {}).itemAddr die .partialArea key).bind fun p =>
    if wordOf addr ≤ p ∧ p < wordOf addr + 32 then some ((p - wordOf addr) / 4) else none

/-- The values that cells of a BEAM pipe's slots hold in a word, each component changed by `f` of its place and whether it holds a bound (R197, R408). -/
def State.onSlotWord (s : State) (pipe die addr : Nat) (f : Nat → Bool → Int → Int × Bool) : State :=
  let change (x : BeamCell) : BeamCell := ((List.range x.values.length).foldl (fun x k =>
    match s.slotPlace pipe die addr [x.channel, x.slot, x.mash, x.cell, k], x.values[k]? with
    | some i, some v =>
      let a := f i (x.marks.contains (2 * k)) v.1
      let b := f (i + 1) (x.marks.contains (2 * k + 1)) v.2
      { x with values := x.values.set k (a.1, b.1), marks := x.marks ++ (if a.2 then [2 * k] else []) ++ (if b.2 then [2 * k + 1] else []) }
    | _, _ => x) x)
  { s with data := { s.data with cells := updateAll (fun x => x.pipe == pipe && x.die == die) change s.data.cells } }

/-- The cells of a pipe's slots on a die of which a word holds a value, where none of them has been written yet (R197). Log 176 [DEDUCED]. -/
def State.freshCells (s : State) (pipe die addr : Nat) : List BeamCell :=
  match (s.bankEntry pipe).cfg, (s.cfg.pipes.getD pipe {}).areaBase die .partialArea with
  | .beam b, some base =>
    if wordOf addr + 32 ≤ base then []
    else (List.range b.chCount).flatMap fun c => (List.range 3).flatMap fun slot => (List.range b.m).flatMap fun mash => (List.range b.cellCount).filterMap fun cell =>
      let ch := b.chFirst + c
      let n := b.cellSamples * b.cellWidth (cell % ceilDiv b.beams b.cellBeams * b.cellBeams)
      if (s.data.cells.any fun x => x.pipe == pipe && x.die == die && x.slot == slot && x.channel == ch && x.mash == mash && x.cell == cell) ||
          !((List.range n).any fun k => (s.slotPlace pipe die addr [ch, slot, mash, cell, k]).isSome) then none
      else some { pipe := pipe, die := die, slot := slot, channel := ch, mash := mash, cell := cell, values := List.replicate n (0, 0) }
  | _, _ => []

/-- One add of components of `n` bytes into a word as it stands, from zero where its read is uncorrectable (R178, R408): the sums, and which left the range. -/
def State.rawSums (s : State) (addr n : Nat) (vs : List Int) (broken : Bool) : List (Int × Bool) :=
  let old := componentsOf n (s.memRead addr 32)
  (vs.zipIdx).map fun (v, k) => if broken then (v, false) else addComponent n false (old.getD k 0) v

/-- One add of components of `n` bytes into a word, with saturation and poison where it lies in a bank (R172, R178), and into the cells of a beam slot (R197).
In a bank of the other width a component that leaves the range marks each of the bank's components that it covers. Log 176 [DEDUCED]. -/
def State.wordAdd (s : State) (pipe die bank addr n : Nat) (parts : List Int) (ecc : EccSeen) : State :=
  let e := s.bankEntry pipe
  let broken := ecc == .uncorrectable
  let s1 := s.eccRead die addr ecc
  let vs := (List.range (32 / n)).map fun k => parts.getD k 0
  let res := s1.rawSums addr n vs broken
  let raw := (s1.memWrite addr (res.flatMap fun r => leInt n r.1)).healWords addr 32
  match e.tunWord die bank addr with
  | some (ch, q, w) =>
    let k := e.cfg.corrCfg.compBytes
    if n = k then s1.addWord e pipe die bank ch q w vs broken
    else
      let outOf := ((res.zipIdx).filter (·.1.2)).flatMap fun x => (List.range (max 1 (n / k))).map fun j => w * (32 / k) + x.2 * n / k + j
      let s2 := raw.poisonWords pipe die bank ch q (if broken then [w] else [])
      if outOf.isEmpty || (s.tilePos pipe die bank ch q).poison.contains w then s2
      else (s2.modTile pipe die bank ch q fun x => { x with satMarks := x.satMarks ++ outOf }).noteSaturation pipe die bank ch q
  | none => raw.onSlotWord pipe die addr fun i marked old =>
      if n = 4 then (if broken then (vs.getD i 0, false) else addComponent 4 marked old (vs.getD i 0))
      else (fieldS (res.flatMap fun r => leInt n r.1) (4 * i) 4, false)

/-- WRITE_FRESH: the word is written without a read; of a position or cell that is fresh it is then no longer (R171, R197, R408). Log 176 [DEDUCED]. -/
def State.wordFresh (s : State) (pipe die bank addr : Nat) (word : List Byte) : State :=
  let s1 := (s.memWrite addr (padTo 32 word)).healWords addr 32
  match (s.bankEntry pipe).tunWord die bank addr with
  | some (ch, q, w) =>
    let all := (s.bankEntry pipe).cfg.corrCfg.v / 32
    s1.modTile pipe die bank ch q fun x =>
      if !x.fresh || x.written.contains w then x
      else if all ≤ x.written.length + 1 then { x with fresh := false, written := [] }
      else { x with written := x.written ++ [w] }
  | none =>
    let fresh := s1.freshCells pipe die addr
    State.onSlotWord { s1 with data := { s1.data with cells := s1.data.cells ++ fresh } } pipe die addr fun i _ _ => (fieldS (padTo 32 word) (4 * i) 4, false)

/-- SAT_WRITE: full scale by sign in a word, from zero where it is fresh or its read is uncorrectable (R63, R64, R178, R408). Log 90 [DEDUCED]. Log 176 [DEDUCED]. -/
def State.wordFull (s : State) (pipe die bank addr : Nat) (deep : Bool) (ecc : EccSeen) : State :=
  let n := if deep then 8 else 4
  let s1 := s.eccRead die addr ecc
  let broken := ecc == .uncorrectable
  match (s.bankEntry pipe).tunWord die bank addr with
  | some (ch, q, w) =>
    let x0 := s.tilePos pipe die bank ch q
    let k := (s.bankEntry pipe).cfg.corrCfg.compBytes
    let unread := x0.fresh && !x0.written.contains w
    let old := if broken || unread then List.replicate (32 / n) 0 else componentsOf n (s.memRead addr 32)
    let s2 := (s1.memWrite addr (old.flatMap fun v => leInt n (fullScale n v))).healWords addr 32
    (s2.modTile pipe die bank ch q fun x =>
      { x with written := if unread then x.written ++ [w] else x.written, saturated := true
               satMarks := x.satMarks ++ (List.range (32 / k)).map fun j => w * (32 / k) + j }).poisonWords pipe die bank ch q (if broken && !unread then [w] else [])
  | none =>
    let old := if broken then List.replicate (32 / n) 0 else componentsOf n (s.memRead addr 32)
    (s1.memWrite addr (old.flatMap fun v => leInt n (fullScale n v))).healWords addr 32

/-- An operation of the tun adder on a word of a die's stack (R408). -/
def State.adderOp (s : State) (die addr : Nat) (o : AdderOp) (ecc : EccSeen) : State :=
  match o.op with
  | .add32 parts => s.wordAdd o.pipe die o.bank addr 4 parts ecc
  | .add64 parts => s.wordAdd o.pipe die o.bank addr 8 parts ecc
  | .writeFresh word => s.wordFresh o.pipe die o.bank addr word
  | .satWrite deep => s.wordFull o.pipe die o.bank addr deep ecc

/-! ### The controller (R405, R407, R409, R410, R414) -/

/-- A write of less than whole words reads the word first (R405). -/
def partialWrite (r : MatrixRequest) : Bool := r.addr % 32 != 0 || r.data.length % 32 != 0

/-- A request is served at the controller of a die, or dropped at a full turn write buffer (R405, R407, R408, R410); its credit is freed. -/
def State.hbmServe (s : State) (die : Nat) (x : MatrixRequest × Nat) (full : Bool) (ecc : EccSeen) : State :=
  let r := x.1
  let s1 := State.noteServed { s with fabric := { s.fabric with inFlight := s.fabric.inFlight.erase x } } r
  if let some o := r.op then s1.adderOp die r.addr o ecc
  else if r.write then
    if full then s1.modStack die fun h => { h with rtDrops := rcAdd 32 h.rtDrops 1 }
    else if partialWrite r then
      let t := s1.eccRead die r.addr ecc
      if ecc = .uncorrectable then t.emit (.writeError (masterCode r.master) r.die r.addr) else t.pkgWrite r.addr r.data
    else s1.pkgWrite r.addr r.data
  else
    let t := s1.eccRead die r.addr ecc
    let (data, u) := t.pkgRead r.addr r.len
    if r.master = .pcie then u.emit (.pcieData data (ecc == .uncorrectable))
    else if r.master = .zwiter ∧ ecc = .uncorrectable ∧ r.die = 0 ∧ 0xF80000000 ≤ r.addr % 2 ^ 36 then t.setFault 4
    else t

/-- The place of a master in the order of requests of one cycle (R409). -/
def sameCycle (r : MatrixRequest) : Nat := 8 * masterClass r.master + masterCode r.master

/-- Of the requests at a controller, the `j`-th is applied before the `i`-th: both concern one word, or both are writes of one master (R409, R416). Requests that
arrived in the same nanosecond are of one cycle. Log 109 [DEDUCED]. -/
def blocks (l : List (MatrixRequest × Nat)) (j i : Nat) : Bool :=
  match l[j]?, l[i]? with
  | some y, some x =>
    if sameMaster y.1 x.1 then decide (j < i) && (overlaps y.1 x.1 || (y.1.write && x.1.write))
    else overlaps y.1 x.1 &&
      (if y.2 = x.2 then decide (sameCycle y.1 < sameCycle x.1) || (sameCycle y.1 == sameCycle x.1 && decide (j < i)) else decide (j < i))
  | _, _ => false

/-- Nothing at the controller is applied before the `i`-th request. -/
def servable (l : List (MatrixRequest × Nat)) (i : Nat) : Bool := !(List.range l.length).any fun j => j != i && blocks l j i

/-- A request is the next that its controller serves (R409, R414, R416). Log 109 [DEDUCED]. -/
def State.atHead (s : State) (x : MatrixRequest × Nat) : Bool :=
  let l := s.fabric.inFlight.filter fun y => dieOfAddr y.1.addr == dieOfAddr x.1.addr
  let i := l.idxOf x
  servable l i && (l.zipIdx).all fun (y, j) => j == i || !servable l j || s.servedFirst x y

/-- The request that a row named and that a controller serves next, if there is one: in panic only the real-time port's (R76, R407), in
self-refresh none (R403). Log 161 [DEDUCED]. -/
def State.nextNamed (s : State) (die : Nat) : Option NamedRequest :=
  let h := s.stack die
  if h.selfRefresh then none
  else if h.panic then h.behind.find? (·.realTime) else h.behind.find? fun w => s.atHead w.req

/-- The controller of a die serves what it may of the requests that rows named; `n` bounds their number. Log 161 [DEDUCED]. Log 109 [DEDUCED]. -/
def State.serveNamed (die : Nat) : Nat → State → State
  | 0, s => s
  | n + 1, s =>
    match s.nextNamed die with
    | none => s
    | some w => State.serveNamed die n ((s.modStack die fun h => { h with behind := h.behind.erase w }).hbmServe die w.req false w.ecc)

/-- The entry of a request at its controller: where it has none, it arrives now. -/
def State.hbmArrive (s : State) (r : MatrixRequest) : (MatrixRequest × Nat) × State :=
  match s.fabric.inFlight.find? (·.1 == r) with
  | some x => (x, s)
  | none => ((r, s.timeNs), { s with fabric := { s.fabric with inFlight := s.fabric.inFlight ++ [(r, s.timeNs)] } })

/-- A request is named at the controller of a die: served once its turn has come (R407, R409, R414), and held requests go as credits are freed (R77). Log 161 [DEDUCED]. -/
def State.name (s : State) (die : Nat) (r : MatrixRequest) (realTime : Bool) (ecc : EccSeen) : State :=
  let (x, s1) := s.hbmArrive r
  let s2 := s1.modStack die fun h => { h with behind := h.behind ++ [{ req := x, ecc := ecc, realTime := realTime }] }
  (State.serveNamed die (s2.stack die).behind.length s2).releaseRequests

/-- HBM_REQUEST: a request reaches the controller (R405, R407, R409, R410). In panic the real-time port goes before every other master: their requests wait until
it has left panic (R76, R407); a frame at a full turn write buffer is dropped. Log 161 [DEDUCED]. -/
def State.hbmRequest (s : State) (die : Nat) (r : MatrixRequest) (realTime : Bool) (fill : Nat) (ecc : EccSeen) : State :=
  if realTime then
    let s1 := s.fillBuffer die fill
    if r.write && decide (2 ^ 21 ≤ fill) then (s1.hbmServe die (s1.hbmArrive r).1 true ecc).releaseRequests else s1.name die r true ecc
  else s.name die r false ecc

/-- TUN_ADDER_OP: ADD32, ADD64, WRITE_FRESH or SAT_WRITE on one 256-bit word, in its turn at the controller (R407 to R409). -/
def execTunAdderOp (pipe die bank addr : Nat) (op : TunOp) (ecc : EccSeen) (s : State) : Host.Outcome State Fault Refusal :=
  let master := if (s.bankEntry pipe).cfg.kind = 3 then Master.beamPartial else .tileWriteback
  .next (s.name die { master := master, die := die, write := true, addr := addr, op := some { pipe := pipe, bank := bank, op := op } } false ecc)

/-! ### Commands (R420 to R424) -/

/-- A die of the variant, or 0xFF for all. -/
def State.dieOrAll (s : State) (args : List Byte) (off : Nat) : Bool × Reason × Nat := bad off (field args off 1 != 0xFF && decide (s.dies ≤ field args off 1))

/-- The dies that a DIE field names. -/
def State.diesNamed (s : State) (d : Nat) : List Nat := if d = 0xFF then List.range s.dies else [d]

/-- MATRIX_PRIORITY (R420). -/
def cmdMatrixPriority : Cmd := fun _ args s =>
  let m := field args 1 1
  let t := field args 2 1
  checked [s.dieOrAll args 0, inRange args 1 1 0 7, bad 2 (!(targetsOf m).contains t), inRange args 3 1 0 7] s fun s =>
    let ds := s.diesNamed (field args 0 1)
    let new : List PairPriority := ds.map fun d => { die := d, master := m, target := t, priority := field args 3 1 }
    let kept := s.fabric.priorities.filter fun p => !(ds.contains p.die && p.master == m && p.target == t)
    okay { s with fabric := { s.fabric with priorities := kept ++ new } }

/-- MATRIX_PRIORITY (R420). -/
def execMatrixPriority (o : Origin) (args : List Byte) (s : State) : Host.Outcome State Fault Refusal :=
  .next (s.row o 0x0700 args (fixedLen 4) cmdMatrixPriority)

/-- MATRIX_SLICES (R421). -/
def cmdMatrixSlices : Cmd := fun _ args s =>
  let src := field args 0 1
  let dst := field args 1 1
  checked [bad 0 (decide (s.dies ≤ src)), bad 1 (dst != 0xFF && (decide (s.dies ≤ dst) || dst == src)), inRange args 2 1 0 3, bad 3 (field args 3 1 != 0),
      refusedIf (s.cfg.dataPipes || s.candidate.dataPipes)] s fun s =>
    let ds := (s.diesNamed dst).filter (· != src)
    let new : List LinkSlices := ds.map fun d => { src := src, dst := d, slices := field args 2 1 }
    okay { s with fabric := { s.fabric with slices := (s.fabric.slices.filter fun x => !(x.src == src && ds.contains x.dst)) ++ new } }

/-- MATRIX_SLICES (R421). -/
def execMatrixSlices (o : Origin) (args : List Byte) (s : State) : Host.Outcome State Fault Refusal :=
  .next (s.row o 0x0701 args (fixedLen 4) cmdMatrixSlices)

/-- GRANULES_USED of a die (R423). -/
def State.granulesUsed (s : State) (die : Nat) : Nat := (((dedup (usedAreas s.cfg s.data.scopes)).filter (·.die == die)).map (·.granules)).sum

/-- HBM_STATUS (R423). TEMP_C is a reading that no command carries: a free value (log 1 [DESIGN CHOICE]). -/
def cmdHbmStatus : Cmd := fun _ args s =>
  let d := field args 0 1
  checked (bad 0 (decide (s.dies ≤ d)) :: reserved args 1 3) s fun s =>
    let h := s.stack d
    let (t, s1) := s.fresh
    .done .ok 0 (leBytes 1 h.trainState ++ leBytes 1 h.worstLane ++ leBytes 1 h.worstTaps ++ leBytes 1 h.repairs ++ leBytes 2 t ++ leBytes 2 h.thresh
        ++ leBytes 8 h.refreshes ++ leBytes 4 h.panics ++ leBytes 4 h.panicLongestNs ++ leBytes 4 h.nbrRefreshes ++ leBytes 4 h.eccCorrected
        ++ leBytes 4 h.eccUncorrectable ++ leBytes 4 h.rtDrops ++ leBytes 4 h.scrubPasses ++ leBytes 4 h.scrubUncorrectable ++ leBytes 4 h.sramCorrected
        ++ leBytes 4 h.sramUncorrectable ++ leBytes 4 (s.granulesUsed d) ++ leBytes 1 h.radius ++ leBytes 3 0)
      (s1.modStack d fun h => { h with refreshes := 0, panics := 0, panicLongestNs := 0, nbrRefreshes := 0, eccCorrected := 0, eccUncorrectable := 0, rtDrops := 0
                                       scrubPasses := 0, scrubUncorrectable := 0, sramCorrected := 0, sramUncorrectable := 0 })

/-- HBM_STATUS (R423). -/
def execHbmStatus (o : Origin) (args : List Byte) (s : State) : Host.Outcome State Fault Refusal :=
  .next (s.row o 0x0702 args (fixedLen 4) cmdHbmStatus)

/-- HBM_HAMMER_CONFIG (R422): the protection may be tightened, never loosened. -/
def cmdHbmHammerConfig : Cmd := fun _ args s =>
  checked [s.dieOrAll args 0, inRange args 1 1 1 2, zeroOrRange args 2 2 256 2048] s fun s =>
    okay ((s.diesNamed (field args 0 1)).foldl (fun s d =>
      s.modStack d fun h => { h with nextHammer := some (orDefault (field args 2 2) 2048, field args 1 1) }) s)

/-- HBM_HAMMER_CONFIG (R422). -/
def execHbmHammerConfig (o : Origin) (args : List Byte) (s : State) : Host.Outcome State Fault Refusal :=
  .next (s.row o 0x0703 args (fixedLen 4) cmdHbmHammerConfig)

/-- SRAM_MAP (R424). -/
def cmdSramMap : Cmd := fun _ args s =>
  checked (bad 0 (decide (s.dies ≤ field args 0 1)) :: reserved args 1 3) s fun s =>
    .done .ok 0 (sramPartitions.flatMap fun (c, o, n) => leBytes 1 c ++ leBytes 3 0 ++ leBytes 4 o ++ leBytes 4 n) s

/-- SRAM_MAP (R424). -/
def execSramMap (o : Origin) (args : List Byte) (s : State) : Host.Outcome State Fault Refusal :=
  .next (s.row o 0x0704 args (fixedLen 4) cmdSramMap)

end Sys2Proof.Machine
end

