-- ==== Sys2Proof/Machine/Kiln.lean ====
section
/-! DEFINITION. The kiln: calibration by choice (R426 to R434), KILN_RUN and KILN_STATUS (R458, R459). -/

namespace Sys2Proof.Machine

/-! ### Kiln sets (R433, R434) -/

/-- Set points in sixteenths of a degree (R433). -/
def kilnPoints : List Int := [-640, -160, 400, 960, 1520]

/-- Set point k. -/
def kilnPoint (k : Nat) : Int := kilnPoints.getD k 0

/-- t as the choice takes it (R433). -/
def kilnClamp (t : Int) : Int := clampInt (-640) 1520 t

/-- i of R433: the largest index, at most 3, whose set point is not above t. -/
def kilnIndex (t : Int) : Nat := if 960 ≤ t then 3 else if 400 ≤ t then 2 else if -160 ≤ t then 1 else 0

/-- The denominator that every element of a slicer shares (R433). -/
def kilnSpan (t : Int) : Int := kilnPoint (kilnIndex (kilnClamp t) + 1) - kilnPoint (kilnIndex (kilnClamp t))

/-- n of an element: its interpolated offset times the span (R433). -/
def kilnNum (o : List Int) (t : Int) : Int :=
  let u := kilnClamp t
  let i := kilnIndex u
  o.getD i 0 * (kilnPoint (i + 1) - u) + o.getD (i + 1) 0 * (u - kilnPoint i)

/-- The interpolated offset, rounded half to even (R459). -/
def kilnOffset (o : List Int) (t : Int) : Int := rndDiv (kilnNum o t) (kilnSpan t).toNat

/-- The element with the least magnitude, the lowest of equal ones (R426, R433). -/
def kilnChoose (copies : List (List Int)) (t : Int) : Nat :=
  (List.range copies.length).foldl (fun best k => if (kilnNum (copies.getD k []) t).natAbs < (kilnNum (copies.getD best []) t).natAbs then k else best) 0

/-- An element's offsets after a measurement m at t: near a set point that point takes it; elsewhere a difference above 8 shifts both bracketing points
(R434; the shift is the difference rounded half to even). Log 65 [DEDUCED]. -/
def kilnUpdate (o : List Int) (m t : Int) : List Int :=
  let five := (List.range 5).map fun k => o.getD k 0
  match kilnPoints.findIdx? fun p => decide ((t - p).natAbs ≤ 40) with
  | some k => five.set k m
  | none =>
    let span := kilnSpan t
    let d := m * span - kilnNum five t
    let i := kilnIndex (kilnClamp t)
    if 8 * span < d.natAbs then
      let by_ := rndDiv d span.toNat
      (five.set i (five.getD i 0 + by_)).set (i + 1) (five.getD (i + 1) 0 + by_)
    else five

/-- Slicers or levels of an element, and copies of each (R426): a TDC has as many taps as were measured. Log 67 [DEDUCED]. -/
def kilnShape (e : KilnElement) (measured : Nat) : Nat × Nat :=
  match e.kind with
  | 1 => (3, 16)
  | 2 => (3, 8)
  | 3 => (1, if e.index < 4 then 16 else 8)
  | 5 => (measured, 4)
  | _ => (0, 0)

/-- The kiln sets of an element after a measurement (R434). -/
def kilnSets (e : KilnElement) (sets : List (List (List Int))) (r : KilnReading) : List (List (List Int)) :=
  let shape := kilnShape e (max sets.length r.offsets.length)
  (List.range shape.1).map fun l => (List.range shape.2).map fun c =>
    let o := (sets.getD l []).getD c []
    match (r.offsets.getD l [])[c]? with
    | some m => kilnUpdate o m r.temp
    | none => (List.range 5).map fun k => o.getD k 0

/-- No slicer or level is without an element within ±48 (R428). -/
def kilnWithin (sets : List (List (List Int))) (t : Int) : Bool :=
  sets.all fun copies => decide ((kilnNum (copies.getD (kilnChoose copies t) []) t).natAbs ≤ 48 * kilnSpan t)

/-- The worst of the chosen elements' interpolated offsets. -/
def kilnWorst (sets : List (List (List Int))) (t : Int) : Int :=
  sets.foldl (fun w copies =>
    let v := kilnOffset (copies.getD (kilnChoose copies t) []) t
    if w.natAbs < v.natAbs then v else w) 0

/-! ### Elements and units -/

/-- The unit kind of R440 that a kiln element is. -/
def unitKind (e : KilnElement) : Nat := [0, 2, 3, 7, 1, 6].getD e.kind 0

/-- The lane or tile of an element is marked failed or retired, and the evidence noted (R428, R432, R437). -/
def State.kilnOut (s : State) (e : KilnElement) : State :=
  let d := KilnElement.norm e
  let s1 := match e.kind with
    | 1 => s.modRx e.index fun x => { x with failed := true }
    | 2 => s.modTx e.index fun x => { x with failed := true }
    | 3 => if e.index < 4 then s.modTwinRx e.index fun x => { x with failed := true }
        else { s with lanes := { s.lanes with twinTx := s.lanes.twinTx.modify (e.index - 4) fun x => { x with failed := true } } }
    | 4 => s.modDie e.die fun w => { w with tiles := w.tiles.set e.index 2 }
    | _ => s
  s1.evident (unitKind e) d.die e.index (if e.kind = 4 then 2 else 1)

/-- KILN_FAIL: unit kind, die, index, worst offset; a tile has no such offset, and its value is nobody's (R466, log 1 [DESIGN CHOICE]). Log 68 [DEDUCED]. -/
def State.kilnFail (s : State) (e : KilnElement) (worst : Int) : State :=
  let d := KilnElement.norm e
  let (v, s1) := s.fresh
  let w : Nat := if e.kind = 4 then v else toBits 16 worst
  s1.raise 0x0702 d.die (leBytes 1 (unitKind e) ++ leBytes 1 d.die ++ leBytes 1 e.index ++ leBytes 2 w)

/-- The verdict of a pass: its levels all have an element, or its test passed (R427, R428). -/
def kilnPassed (e : KilnElement) (sets : List (List (List Int))) (r : KilnReading) : Bool :=
  if e.kind = 4 ∨ e.kind = 5 then r.passed else kilnWithin sets r.temp

/-- What a pass leaves in the record: sets, choice, counters (R434, R459). The taps of a TDC change at the next data-path second (R431). Log 67 [DEDUCED]. -/
def State.kilnMeasured (s : State) (e : KilnElement) (r : KilnReading) (now : Bool) : State :=
  let sets := kilnSets e (s.kilnRecord e).sets r
  let chosen := sets.map fun copies => kilnChoose copies r.temp
  let passed := kilnPassed e sets r
  let later := e.kind = 5 ∧ ¬now
  let s1 := s.modKiln e fun k =>
    { k with sets := sets, chosen := if later then k.chosen else chosen, temp := r.temp, passSec := s.clocks.log.sec, lastTest := if passed then 1 else 2
             due := false, inPass := false, refused := false, passes := rcAdd 32 k.passes (nat01 passed), fails := rcAdd 32 k.fails (nat01 !passed) }
  if later then { s1 with clocks := { s1.clocks with tdcNext := s1.clocks.tdcNext ++ [(KilnElement.norm e, chosen)] } } else s1

/-! ### In-service passes (R429 to R432) -/

/-- Another lane receiver of the same die is in a pass, or another twin-link lane (R429, R431). -/
def State.passRuns (s : State) (e : KilnElement) : Bool :=
  s.health.kiln.any fun k => k.inPass && k.element.kind == e.kind && (e.kind == 3 || (e.kind == 1 && k.element.die == (KilnElement.norm e).die))

/-- The twin-link lane number of an element of kind 3. -/
def linkLane (index : Nat) : Nat := if index < 4 then index else index - 4

/-- An element that is due may be measured now (R429 to R431). -/
def State.mayMeasure (s : State) (e : KilnElement) : Bool :=
  match e.kind with
  | 1 =>
    let x := s.spareRx (dieOfLane e.index)
    !s.passRuns e && (if 128 ≤ e.index then x.isFree
      else if (s.rx e.index).role = .off then true
      else (s.rx e.index).carried && x.lane == e.index && x.step == .carrying && x.reason == 2 && !x.releaseAsked)
  | 2 =>
    let y := s.spareTx (dieOfLane e.index)
    if 128 ≤ e.index then y.lane.isNone
    else match (s.tx e.index).role with
      | .off => true
      | .haul => y.lane == some e.index && y.window && !y.passed
      | _ => false
  | 3 =>
    let k := linkLane e.index
    !s.passRuns e && (!s.twinCarries k || s.lockedLanes.any (· != k))
  | 4 => (s.die e.die).tiles.getD e.index 2 == 1
  | 5 => true
  | _ => false

/-- A pass begins: the lane or tile is out for its 55 us or its test (R429 to R431). Log 110 [DEDUCED]. -/
def State.beginPass (s : State) (e : KilnElement) : State :=
  let s1 := s.modKiln e fun k => { k with inPass := true }
  match e.kind with
  | 1 => (s1.modRx e.index fun x => { x.unlock with inPass := true }).refCheck
  | 2 =>
    (s1.modTx e.index fun x => { x with inPass := true }).modSpareTx (dieOfLane e.index) fun y =>
      if y.lane = some e.index then { y with passed := true } else y
  | 3 =>
    if e.index < 4 then (s1.modTwinRx e.index fun x => { x.unlock with inPass := true, quiet := true }).refCheck
    else { s1 with lanes := { s1.lanes with twinTx := s1.lanes.twinTx.modify (e.index - 4) fun x => { x with inPass := true } } }
  | 4 => s1.modDie e.die fun w => { w with tiles := w.tiles.set e.index 3 }
  | _ => s1

/-- An RX lane in service asks for its spare with REASON 2: it has a spare peer, and the spare is free (R269, R429, R274). Log 69 [DEDUCED]. -/
def State.asksSpare (s : State) (e : KilnElement) : Bool :=
  let d := dieOfLane e.index
  let x := s.rx e.index
  e.kind == 1 && decide (e.index < 128) && x.role != .off && !x.carried && decide (128 ≤ (s.peer d).peerSpare) && (s.spareRx d).isFree
    && x.lock == .locked && x.inTolerance && !s.passRuns e && !(s.kilnRecord e).refused

/-- An element that is due takes its pass when it can. -/
def State.tryPass (s : State) (e : KilnElement) : State :=
  let k := s.kilnRecord e
  if !k.due || k.inPass then s
  else if s.mayMeasure e then s.beginPass e
  else if s.asksSpare e then s.startSpare e.index 2
  else s

/-- Every element that is due takes its pass when it can. -/
def State.tryPasses (s : State) : State := (s.health.kiln.map (·.element)).foldl State.tryPass s

/-- LANE_SPARE_SWITCH: the switch at the first comma after the boundary, or with no boundary when the lane has lost lock (R272 step 4, R274);
a lane that was spared for its kiln pass is then measured (R429). -/
def execLaneSpareSwitch (die : Nat) (s : State) : Host.Outcome State Fault Refusal :=
  let x := s.spareRx die
  let emergency := (s.rx x.lane).lock != .locked
  .next (if x.step = .switching ∨ (x.step = .confirmed ∧ emergency) then
    let s1 := s.modRx x.lane fun y => { y with carried := true }
    let s2 := s1.modSpareRx die fun y => { y with step := .carrying, lost := emergency }
    let s3 := s2.sendAsReceiver die 0x12 0 s.eventTick
    let s4 := s3.raise 0x0304 die (leBytes 1 x.lane ++ leBytes 1 (128 + die) ++ leBytes 1 x.reason ++ leBytes 1 (nat01 emergency) ++ leBytes 6 s.eventTick)
    if x.reason = 2 then s4.tryPass { kind := 1, index := x.lane } else s4
  else s)

/-- An element that the package has (R1, R3, R159, R426). -/
def State.hasElement (s : State) (e : KilnElement) : Bool :=
  match e.kind with
  | 1 => s.hasLane e.index
  | 2 => s.hasLane e.index
  | 3 => decide (e.index < 8)
  | 4 => decide (e.die < s.dies ∧ e.index < 136)
  | 5 => decide (e.index = 0 ∨ (e.index = 1 ∧ s.ident.variant = .s8))
  | _ => false

/-- An element becomes due (R429 to R431): a tile only while it is a free spare. Log 69 [DEDUCED]. -/
def State.makeDue (s : State) (e : KilnElement) : State :=
  if !s.hasElement e || (e.kind == 4 && (s.die e.die).tiles.getD e.index 2 != 1) then s
  else (s.modKiln e fun k => { k with due := true, refused := false }).tryPass e

/-- KILN_DUE: due by temperature or period (R429). -/
def execKilnDue (e : KilnElement) (s : State) : Host.Outcome State Fault Refusal := .next (s.makeDue e)

/-- The lane or tile comes back from a pass that it passed: a carried lane is asked back (R429). -/
def State.passEnds (s : State) (e : KilnElement) : State :=
  match e.kind with
  | 1 =>
    let s1 := s.modRx e.index fun x => { x with inPass := false }
    if (s.rx e.index).carried ∧ !(s.rx e.index).failed then s1.modSpareRx (dieOfLane e.index) fun y => { y with releaseAsked := true } else s1
  | 2 => s.modTx e.index fun x => { x with inPass := false }
  | 3 =>
    if e.index < 4 then s.modTwinRx e.index fun x => { x with inPass := false }
    else { s with lanes := { s.lanes with twinTx := s.lanes.twinTx.modify (e.index - 4) fun x => { x with inPass := false } } }
  | 4 => s.modDie e.die fun w => if w.tiles.getD e.index 2 = 3 then { w with tiles := w.tiles.set e.index 1 } else w
  | _ => s

/-- KILN_DONE: unit kind, die, index, t (R466). Log 68 [DEDUCED]. -/
def State.kilnDone (s : State) (e : KilnElement) (t : Int) : State :=
  let d := KilnElement.norm e
  s.raise 0x0701 d.die (leBytes 1 (unitKind e) ++ leBytes 1 d.die ++ leBytes 1 e.index ++ leInt 2 t)

/-- KILN_PASS_DONE: the measurement of an element in a pass ends (R429 to R434). Log 8 [DESIGN CHOICE]. -/
def execKilnPassDone (e : KilnElement) (r : KilnReading) (s : State) : Host.Outcome State Fault Refusal :=
  .next (if !(s.kilnRecord e).inPass then s
    else
      let s1 := (s.kilnMeasured e r false).storeNor
      let k := s1.kilnRecord e
      let s2 := if k.lastTest = 1 then (s1.passEnds e).kilnDone e r.temp
        else (((s1.kilnOut e).passEnds e).kilnFail e (kilnWorst k.sets r.temp))
      s2.tryPasses)

/-! ### The start-up pass (R427, R428) -/

/-- Logical tiles of a die whose physical tile is retired go to the lowest-numbered free spares in ascending order; one that finds none is left unmapped
(R163, R428). -/
def State.mapRetired (s : State) (die : Nat) : State :=
  (List.range 128).foldl (fun s l =>
    let w := s.die die
    match w.tileMap.getD l none with
    | some p =>
      if w.tiles.getD p 0 ≠ 2 then s
      else
        let spare := w.freeSpare
        let s1 := s.modDie die fun w => { w with tileMap := w.tileMap.set l spare, tiles := match spare with
          | some q => w.tiles.set q 0
          | none => w.tiles }
        if spare.isNone then s1.raise 0x0203 die (leBytes 1 die ++ leBytes 4 (((s1.die die).tileMap.filter (·.isNone)).length)) else s1
    | none => s) s

/-- The start-up pass: every element is measured and chosen; those that fail are out of service; KILN_DONE for the pass as a whole, whose unit fields
nobody chose (R427, R428, log 1 [DESIGN CHOICE]). Log 66 [DEDUCED]. -/
def State.startupKiln (s : State) (r : List (KilnElement × KilnReading)) : State :=
  let s1 := r.foldl (fun s x => if s.hasElement x.1 then s.kilnMeasured x.1 x.2 true else s) s
  let s2 := r.foldl (fun s x =>
    if !s.hasElement x.1 ∨ (s.kilnRecord x.1).lastTest = 1 then s
    else (s.kilnOut x.1).kilnFail x.1 (kilnWorst (s.kilnRecord x.1).sets x.2.temp)) s1
  let s3 := (List.range s.dies).foldl State.mapRetired s2
  let (v, s4) := s3.storeNor.fresh
  s4.raise 0x0701 0xFF (leBytes 5 v)

/-! ### Commands -/

/-- The element that KILN_RUN and KILN_STATUS name. -/
def elementArg (args : List Byte) : KilnElement := { kind := field args 0 1, die := field args 1 1, index := field args 2 1 }

/-- Tests of KIND, DIE and INDEX (R458, R459): DETAIL at the field that names nothing. -/
def State.elementChecks (s : State) (args : List Byte) (byIndex : Bool) : Checks :=
  let e := elementArg args
  [inRange args 0 1 1 5, bad 1 (e.kind == 4 && decide (s.dies ≤ e.die)), bad 2 ((e.kind != 4 || byIndex) && !s.hasElement e), bad 3 (field args 3 1 != 0)]

/-- KILN_RUN (R458): a TX lane in role ETHERNET has no in-service pass (R430). -/
def cmdKilnRun : Cmd := fun _ args s =>
  let e := elementArg args
  checked (s.elementChecks args false ++ [refusedIf (e.kind == 2 && (s.tx e.index).role == .ethernet)]) s fun s =>
    if e.kind = 4 then okay ((List.range 136).foldl (fun s p => s.makeDue { e with index := p }) s)
    else okay (s.makeDue e)

/-- KILN_RUN (R458). -/
def execKilnRun (o : Origin) (args : List Byte) (s : State) : Host.Outcome State Fault Refusal :=
  .next (s.row o 0x0800 args (fixedLen 4) cmdKilnRun)

/-- STATE of KILN_STATUS (R459). Log 67 [DEDUCED]. -/
def State.kilnState (s : State) (e : KilnElement) : Nat :=
  let k := s.kilnRecord e
  let out : Nat := match e.kind with
    | 1 => nat01 (s.rx e.index).failed
    | 2 => nat01 (s.tx e.index).failed
    | 3 => nat01 (if e.index < 4 then (s.lanes.twinRx.getD e.index {}).failed else (s.lanes.twinTx.getD (e.index - 4) {}).failed)
    | 4 => if (s.die e.die).tiles.getD e.index 0 = 2 then 2 else 0
    | _ => nat01 (s.outOfService 6 0xFF e.index)
  if k.inPass then 4 else if out ≠ 0 then out else if k.due then 3 else 0

/-- The junction temperature that an element is judged by at present: that of its die, the lead die for the whole package (R433). Log 68 [DEDUCED]. -/
def State.presentTemp (s : State) (e : KilnElement) : Int :=
  let d := (KilnElement.norm e).die
  (s.health.guards.getD (if d = 0xFF then 0 else d) {}).temp

/-- KILN_STATUS (R459). -/
def cmdKilnStatus : Cmd := fun _ args s =>
  let e := elementArg args
  checked (s.elementChecks args true) s fun s =>
    let k := s.kilnRecord e
    let laneKind : Bool := decide (e.kind ≤ 3)
    let chosen := (List.range 3).flatMap fun l => leBytes 1 (if laneKind then k.chosen.getD l 0xFF else 0xFF)
    let offs := (List.range 3).flatMap fun l => leInt 2 (if laneKind then
        ((k.chosen[l]?).map fun c => kilnOffset ((k.sets.getD l []).getD c []) (s.presentTemp e)).getD 0 else 0)
    let reply := leBytes 1 (s.kilnState e) ++ chosen ++ leInt 2 k.temp ++ leBytes 2 0 ++ leBytes 4 ((s.clocks.log.sec : Int) - k.passSec).toNat ++ offs
      ++ leBytes 1 k.lastTest ++ leBytes 1 0 ++ leBytes 4 k.passes ++ leBytes 4 k.fails
    .done .ok 0 reply (s.modKiln e fun k => { k with passes := 0, fails := 0 })

/-- KILN_STATUS (R459). -/
def execKilnStatus (o : Origin) (args : List Byte) (s : State) : Host.Outcome State Fault Refusal :=
  .next (s.row o 0x0801 args (fixedLen 4) cmdKilnStatus)

end Sys2Proof.Machine
end

