-- ==== Sys2Proof/Machine/Health.lean ====
section
/-! DEFINITION. Health: the thermal guard (R435, R436), units and UNIT_RESTORE (R437 to R440, R460), POLICY_SET, HEALTH_STATUS, the log's readers and
retries (R446, R447, R449, R461 to R463, R465). -/

namespace Sys2Proof.Machine

/-! ### Thermal guard (R435, R492) -/

/-- Guard of a die. -/
def State.guard (s : State) (die : Nat) : Guard := s.health.guards.getD die {}

/-- Changes it. -/
def State.modGuard (s : State) (die : Nat) (f : Guard → Guard) : State :=
  { s with health := { s.health with guards := s.health.guards.modify die f } }

/-- A junction temperature, in sixteenths, is at or above a level in degrees. -/
def atLevel (temp : Int) (c : Nat) : Bool := decide ((16 * c : Nat) ≤ temp)

/-- A guard level of a die is entered: THERMAL_GUARD, POLICY_OVERRIDDEN, and at level 2 FAULT with cause 2 (R435, R436). -/
def State.enterLevel (s : State) (die level : Nat) (temp : Int) : State :=
  let s1 := (s.modGuard die fun g => { g with level := level }).raise 0x0703 die (leBytes 1 die ++ leBytes 1 level ++ leInt 2 temp)
  let s2 := s1.override 4 (die + 100 * level) die s.eventTick
  if level = 2 then s2.setFault 2 else s2

/-- The lane receivers of a die whose junction temperature has moved by KILN_DELTA_C or more since their last pass become due (R429). -/
def State.tempDue (s : State) (die : Nat) (temp : Int) : State :=
  (s.health.kiln.filter fun k => k.element.kind == 1 && k.element.die == die && k.lastTest != 0 && !k.due && !k.inPass &&
    decide (16 * s.health.policy.kilnDeltaC ≤ (temp - k.temp).natAbs)).foldl (fun s k => s.makeDue k.element) s

/-- Level 1 lasts until a boundary ends it; below GUARD_TAKEOVER_C level 2 is level 1 again (R435). Log 71 [DEDUCED]. -/
def State.thermal (s : State) (die : Nat) (temp : Int) : State :=
  let p := s.health.policy
  let g := s.guard die
  let s1 := s.modGuard die fun g =>
    { g with temp := temp, level := if g.level = 2 ∧ !atLevel temp p.takeoverC then 1 else g.level, cool := g.cool && !atLevel temp (p.withdrawC - 3) }
  let s2 := if g.level = 0 ∧ atLevel temp p.withdrawC then s1.enterLevel die 1 temp else s1
  (if g.level < 2 ∧ atLevel temp p.takeoverC then s2.enterLevel die 2 temp else s2).tempDue die temp

/-- THERMAL_READING: the hottest junction sensor of a die (R429, R435). Log 8 [DESIGN CHOICE]. -/
def execThermalReading (die : Nat) (temp : Int) (s : State) : Host.Outcome State Fault Refusal :=
  .next (if die < s.dies then s.thermal die temp else s)

/-- The thermal guard of a die at a tick boundary: level 1 ends after a whole tick below GUARD_WITHDRAW_C - 3, and the reserve is withdrawn or returns
(R435). -/
def State.guardBoundary (s : State) (die : Nat) : State :=
  let p := s.health.policy
  s.modGuard die fun g =>
    let ends := g.level == 1 && g.cool
    let level := if ends then 0 else g.level
    { g with level := level, withdrawn := decide (1 ≤ level), cool := decide (1 ≤ level) && !atLevel g.temp (p.withdrawC - 3) }

/-- An override that was reported still lasts: a thermal guard level of a die, or VCORE_OVERRIDE below the floor (R436). Log 12 [DEDUCED]. -/
def State.overrideLasts (s : State) (loop key : Nat) : Bool :=
  if loop = 4 then decide (key / 100 ≤ (s.guard (key % 100)).level)
  else s.power.overrideMv != 0 && decide (s.power.overrideMv < s.power.floorMv)

/-- At a tick boundary an override that was absent for a whole tick may be reported again (R436). -/
def State.overridesBoundary (s : State) : State :=
  let l := s.health.overriding.filterMap fun x =>
    if s.overrideLasts x.1 x.2.1 then some (x.1, x.2.1, false) else if x.2.2 then none else some (x.1, x.2.1, true)
  { s with health := { s.health with overriding := l } }

/-- THERMAL_TRIP: tiles gated, haul lanes out as a supply monitor takes them, THERMTRIP_N low, until the next start-up (R492). Log 79 [DEDUCED]. -/
def execThermalTrip (s : State) : Host.Outcome State Fault Refusal :=
  let s1 := { s with power := { s.power with thermTrip := true, gated := true } }
  .next (((s1.modTwin fun t => { t with silenced := true }).drivePins false).emit .thermTripLow)

/-! ### The log's retries (R447, R449) -/

/-- Deferred entries are written while the check passes and entries wait; `n` bounds their number. Log 135 [DEDUCED]. -/
def State.flushLog : Nat → State → State
  | 0, s => s
  | n + 1, s =>
    match s.health.log.deferred with
    | [] => s
    | e :: l =>
      if s.health.log.dead then State.flushLog n (State.ringPut { s with health := { s.health with log := { s.health.log with deferred := l } } } e)
      else if s.holdOk .log then
        State.flushLog n (State.logWrite { s with health := { s.health with log := { s.health.log with deferred := l } } } e)
      else s

/-- LOG_DEFER_RETRY: every 1 ms the deferred entries are tried again (R447). -/
def execLogDeferRetry (holdupMv : Nat) (s : State) : Host.Outcome State Fault Refusal :=
  let s1 := (State.flushLog 1024 { s with health := { s.health with holdupMv := holdupMv } }).noteDeath s
  .next (if s1.cfg.tick.isNone then s1.reconcile else s1)

/-- The first operation of the queue starts when the check passes; otherwise it waits for the retry (R448, R449). -/
def State.startOp (s : State) : State :=
  match s.health.fw.ops with
  | [] => s
  | op :: _ =>
    if s.health.fw.opStarted then s
    else
      let kind : HoldOp := if op.erase then .erase else .page
      if s.holdOk kind then
        let s1 := s.endEpisode
        { s1 with health := { s1.health with fw := { s1.health.fw with opStarted := true } } }
      else (s.deferEpisode kind).noteDeath s

/-- HOLDUP_RETRY: every 1 ms a deferred NOR operation is tried again (R449). Log 86 [DESIGN CHOICE]. Log 64 [DEDUCED]. -/
def execHoldupRetry (holdupMv : Nat) (s : State) : Host.Outcome State Fault Refusal :=
  let s1 := { s with health := { s.health with holdupMv := holdupMv } }
  let s2 := if s1.health.norDue then s1.storeNor else s1
  .next (State.startOp (if s2.health.configDue then s2.storeConfig else s2))

/-! ### UNIT_RESTORE (R438, R439, R460) -/

/-- A retired tile that passed comes back: it maps the lowest-numbered unmapped logical tile, or is a free spare (R439). -/
def State.restoreTile (s : State) (die p : Nat) : State :=
  s.modDie die fun w =>
    if w.tiles.getD p 0 ≠ 2 then w
    else match w.tileMap.findIdx? (·.isNone) with
      | some l => { w with tiles := w.tiles.set p 0, tileMap := w.tileMap.set l (some p) }
      | none => { w with tiles := w.tiles.set p 1 }

/-- A unit is out of service on the data path or by its record. Log 73 [DEDUCED]. -/
def State.unitOut (s : State) (kind die index : Nat) : Bool :=
  let record (d : Nat) : Bool := s.outOfService kind d index
  match kind with
  | 1 => (s.die die).tiles.getD index 0 == 2 && !s.health.restoreTiles.contains (die, index)
  | 2 => (s.rx index).failed || record (dieOfLane index)
  | 3 => (s.tx index).failed || record (dieOfLane index)
  | 4 => ((s.fabric.hbm.getD die {}).trainState == 2) || record die
  | 5 => s.health.log.dead || record 0xFF
  | _ => record 0xFF

/-- A pipe holds area on a die (R439). -/
def State.areaOn (s : State) (die : Nat) : Bool := (usedAreas s.cfg s.data.scopes).any (·.die == die)

/-- The die that names a unit in events and in the record (R440). -/
def unitDie (kind die index : Nat) : Nat := if kind = 1 ∨ kind = 4 then die else if kind ≤ 3 then dieOfLane index else 0xFF

/-- The record returns to in service, and evidence that waited is void (R437). -/
def State.recordIn (s : State) (kind die index : Nat) : State :=
  let same (u : UnitRecord) : Bool := u.kind == kind && u.die == die && u.index == index
  State.storeNor { s with health := { s.health with units := s.health.units.filter fun u => !same u, evidence := s.health.evidence.filter fun u => !same u } }

/-- UNIT_RESTORED: unit kind, die, index (R466). -/
def State.unitRestored (s : State) (kind die index : Nat) : State :=
  let d := unitDie kind die index
  (s.recordIn kind d index).raise 0x0705 d (leBytes 1 kind ++ leBytes 1 d ++ leBytes 1 index)

/-- The kiln element of a unit that a kiln pass or its self-test measures. -/
def unitElement (kind die index : Nat) : Option KilnElement :=
  match kind with
  | 1 => some { kind := 4, die := die, index := index }
  | 2 => some { kind := 1, index := index }
  | 3 => some { kind := 2, index := index }
  | 6 => some { kind := 5, index := index }
  | _ => none

/-- The unit is back (R439): a lane under its role, a carried one by R273; a stack trained again, with results of a training that passed and that nobody chose (R401, R423, log 1 [DESIGN CHOICE]). Log 72 [DEDUCED]. -/
def State.unitIn (s : State) (kind die index : Nat) : State :=
  match kind with
  | 1 =>
    if s.cfg.tick.isNone then s.restoreTile die index
    else { s with health := { s.health with restoreTiles := s.health.restoreTiles ++ [(die, index)] } }
  | 2 =>
    let s1 := s.modRx index fun x => { x with failed := false }
    if (s.rx index).carried then s1.modSpareRx (dieOfLane index) fun y => { y with releaseAsked := true } else s1
  | 3 => s.modTx index fun x => { x with failed := false }
  | 4 =>
    let v (k : Nat) : Nat := (Config.freeValue (s.free + k)).toNat
    let r : TrainReading := { repairs := v 512 % 256, worstLane := v 513 % 256, worstTaps := 20 + v 514 % 109 }
    State.modStack { s with free := s.free + 515 } die fun h => h.train r false v
  | 5 => { s with health := { s.health with log := { s.health.log with dead := false, badRun := 0 } } }
  | _ => s

/-- The test of a unit leaves its traces: a kiln pass its record and KILN_DONE or KILN_FAIL, training that fails HBM_TRAIN_FAIL, whose lane and run nobody
chose (R439, R466, log 1 [DESIGN CHOICE]). True when it passed. Log 72 [DEDUCED]. -/
def State.unitTest (s : State) (kind die index : Nat) (r : KilnReading) : Bool × State :=
  match unitElement kind die index with
  | some e =>
    let s1 := (s.kilnMeasured e r (kind != 6)).storeNor
    let k := s1.kilnRecord e
    if k.lastTest = 1 then (true, s1.kilnDone e r.temp) else (false, s1.kilnFail e (kilnWorst k.sets r.temp))
  | none =>
    if r.passed || kind == 5 then (true, s)
    else
      let (v, s1) := s.fresh
      (false, s1.raise 0x0602 die (leBytes 1 die ++ leBytes 2 v))

/-- RESULT of UNIT_RESTORE (R460). -/
def restoreResult (n : Nat) : List Byte := leBytes 1 n ++ leBytes 3 0

/-- UNIT_RESTORE (R438, R439, R460). -/
def cmdUnitRestore (r : KilnReading) (fault : Bool) : Cmd := fun _ args s =>
  let kind := field args 0 1
  let die := field args 1 1
  let index := field args 2 1
  let named : Bool := match kind with
    | 1 => decide (index < 136)
    | 2 => s.hasLane index
    | 3 => s.hasLane index
    | 6 => decide (index = 0 ∨ (index = 1 ∧ s.ident.variant = .s8))
    | _ => index == 0
  checked [inRange args 0 1 1 6, bad 1 ((kind == 1 || kind == 4) && decide (s.dies ≤ die)), bad 2 (!named), bad 3 (field args 3 1 != 0)] s fun s =>
    if !s.unitOut kind die index then .done .ok 0 (restoreResult 3) s
    else if kind = 4 ∧ s.areaOn die then .done .ok 0 (restoreResult 4) s
    else
      let (passed, s1) := s.unitTest kind die index r
      if !passed then .done .ok 0 (restoreResult 1) s1
      else if fault then .done .ok 0 (restoreResult 2) s1
      else .done .ok 0 (restoreResult 0) ((s1.unitIn kind die index).unitRestored kind die index)

/-- UNIT_RESTORE (R439). -/
def execUnitRestore (o : Origin) (args : List Byte) (r : KilnReading) (fault : Bool) (s : State) : Host.Outcome State Fault Refusal :=
  .next (s.row o 0x0802 args (fixedLen 4) (cmdUnitRestore r fault))

/-! ### Commands -/

/-- POLICY_SET (R461): GUARD_TAKEOVER_C in force at least GUARD_WITHDRAW_C in force + 3. It takes effect when it completes: at a hot pair, with its
acknowledgement (`State.finishRunning`). Log 71 [DEDUCED]. -/
def cmdPolicySet : Cmd := fun _ args s =>
  let p := parsePolicy args
  checked [reservedHigh args 0 1, zeroOrRange args 1 1 85 100, zeroOrRange args 2 1 88 103, bad 2 (decide (p.takeoverC < p.withdrawC + 3)),
      zeroOrRange args 3 1 1 20, zeroOrRange args 4 4 600 86400, zeroOrRange args 8 4 100 1000000, zeroOrRange args 12 2 1000 15000,
      zeroOrRange args 14 2 1 1000] s fun s => okay (if s.hotPair then s else s.applyPolicy args)

/-- POLICY_SET (R461). -/
def execPolicySet (o : Origin) (args : List Byte) (s : State) : Host.Outcome State Fault Refusal :=
  .next ((s.row o 0x0803 args (fixedLen 16) cmdPolicySet).keepSettings s)

/-- LOG_STATE (R462). -/
def CellarLog.state (l : CellarLog) : Nat := if l.dead then 2 else if l.badSeen then 1 else 0

/-- HEALTH_STATUS (R462). -/
def cmdHealthStatus : Cmd := fun _ _ s =>
  let h := s.health
  let present := List.range s.dies
  let temps := (List.range 8).flatMap fun d => leInt 2 (if d ∈ present then (s.guard d).temp else 0)
  let levels := (List.range 8).flatMap fun d => leBytes 1 (if d ∈ present then (s.guard d).level else 0)
  let retired := (present.map fun d => ((s.die d).tiles.filter (· == 2)).length).sum
  let lanes := s.lanes
  let failed := ((lanes.rx ++ lanes.twinRx).filter (·.failed)).length + ((lanes.tx ++ lanes.twinTx).filter (·.failed)).length
  .done .ok 0 (temps ++ levels ++ leBytes 1 (nat01 h.alarm) ++ leBytes 1 h.log.state ++ leBytes 2 retired ++ leBytes 4 h.log.badSlots
      ++ leBytes 8 h.log.nextSeq ++ leBytes 2 failed ++ leBytes 2 0 ++ leBytes 4 h.overrides ++ leBytes 4 h.reconciles)
    { s with health := { h with log := { h.log with badSlots := 0 }, overrides := 0, reconciles := 0 } }

/-- HEALTH_STATUS (R462). -/
def execHealthStatus (o : Origin) (args : List Byte) (s : State) : Host.Outcome State Fault Refusal :=
  .next (s.row o 0x0804 args (fixedLen 0) cmdHealthStatus)

/-- Valid entries of a source of LOG_READ as bytes, with their LOG_SEQ (R442, R445, R463). -/
def State.logEntries (s : State) (source : Nat) : List (Nat × List Byte) :=
  if source = 0 then (s.health.log.slots.filter s.health.log.valid).map fun x => (slotSeq x.2, slotBytes x.2)
  else ((List.range 4).filter (ringValid s.cal.backup)).map fun k => (ringSeq s.cal.backup k, (s.cal.backup.drop (64 * k)).take 64)

/-- LOG_READ (R463). -/
def cmdLogRead : Cmd := fun _ args s =>
  checked ([inRange args 0 1 0 1] ++ reserved args 1 3 ++ [inRange args 12 1 1 15]) s fun s =>
    let first := field args 4 8
    let l := ((sortBy (·.1) ((s.logEntries (field args 0 1)).filter fun x => decide (first ≤ x.1))).take (field args 12 1))
    .done .ok 0 (leBytes 8 s.health.log.nextSeq ++ leBytes 1 l.length ++ leBytes 1 s.health.log.state ++ leBytes 6 0 ++ l.flatMap (·.2)) s

/-- LOG_READ (R463). -/
def execLogRead (o : Origin) (args : List Byte) (s : State) : Host.Outcome State Fault Refusal :=
  .next (s.row o 0x0805 args (fixedLen 13) cmdLogRead)

/-- Operations that wait for the hold-up check (R447, R449, R465). -/
def State.deferredOps (s : State) : Nat :=
  s.health.log.deferred.length + nat01 s.health.norDue + nat01 s.health.configDue + nat01 (!s.health.fw.ops.isEmpty && !s.health.fw.opStarted)

/-- HOLDUP_STATUS (R465). Log 74 [DEDUCED]. -/
def cmdHoldupStatus : Cmd := fun _ _ s =>
  let need (op : HoldOp) : List Byte := leBytes 4 (s.holdNeed op / 1000000)
  .done .ok 0 (leBytes 4 s.health.holdupMv ++ leInt 4 (s.holdEnergy2 / 2000000) ++ need .erase ++ need .page ++ need .log ++ leBytes 4 s.deferredOps
      ++ leBytes 4 s.health.episodes) { s with health := { s.health with episodes := 0 } }

/-- HOLDUP_STATUS (R465). -/
def execHoldupStatus (o : Origin) (args : List Byte) (s : State) : Host.Outcome State Fault Refusal :=
  .next (s.row o 0x080A args (fixedLen 0) cmdHoldupStatus)

end Sys2Proof.Machine
end

