-- ==== Sys2Proof/Machine/Firmware.lean ====
section
/-! DEFINITION. Firmware images, staging, activation and the owner seal (R450 to R457, R464). -/

namespace Sys2Proof.Machine

/-! ### Images in the NOR store (R399, R450) -/

/-- Offset of a firmware bank in the NOR store (R399). -/
def bankBase (bank : Nat) : Nat := bank * 0x4000000

/-- A field of the header of a bank's image (R450). -/
def State.imageField (s : State) (bank off n : Nat) : Nat := field (s.memRead (norBase + bankBase bank + off) n) 0 n

/-- The bit of VARIANT_MASK for a variant (R450). -/
def Variant.maskBit : Variant → Nat
  | .s2 => 0
  | .s4 => 1
  | .s8 => 2

/-- The checks of a bank in the order of R451: the reason of the first that fails, 0 when it passes. `keys` are the populated keys; `signature` is the
Ed25519 verdict, whose public keys the spec does not give. -/
def State.bankReason (s : State) (bank : Nat) (keys : BitVec 4) (signature : Bool) : Nat :=
  let f := s.imageField bank
  let zero (off n : Nat) : Bool := f off n == 0
  let len := f 8 4
  if f 0 4 ≠ 0x48544541 ∨ f 4 2 ≠ 1 ∨ f 7 1 / 8 ≠ 0 ∨ !zero 19 13 ∨ !zero 96 96 then 1
  else if len < 1 ∨ 67108608 < len then 2
  else if !(f 7 1).testBit s.ident.variant.maskBit then 3
  else if 4 ≤ f 6 1 ∨ !keys.getLsbD (f 6 1) then 4
  else if sha512 (s.memRead (norBase + bankBase bank + 256) len) ≠ BitVec.ofNat 512 (fieldBE (s.memRead (norBase + bankBase bank + 32) 64) 0 64) then 5
  else if !signature then 6
  else 0

/-- The inactive bank: the one not booted (R452). Log 78 [DEDUCED]. -/
def State.otherBank (s : State) : Nat := if s.ident.fwBank then 0 else 1

/-! ### Gates (R454, R455) -/

/-- A CORR pipe with PROTECT has an integration running (R454, R503). -/
def State.protectRuns (s : State) : Bool :=
  s.cfg.pipes.any fun e => e.cfg.kind == 2 && e.cfg.corrCfg.protect && (match s.tickNow with
    | some t => decide (e.startTick ≤ t) && (e.state == .running || e.state == .pending || (e.state == .draining && decide (t < e.endTick)))
    | none => false)

/-- The standby of an attached pair is ready, as this package sees it (R328, R333). -/
def State.partnerReady (s : State) : Bool := (s.twin.partner.map (·.ready)).getD false

/-- REFUSED_STATE of FW_STAGE and FW_ACTIVATE for the package that is updated (R454); of a relayed command the active has checked PROTECT (R455). -/
def State.updateRefused (s : State) (here : Bool) : Bool :=
  (here && s.protectRuns) || s.cal.vbatLow || (s.health.fw.ownerSeal.isSome && !s.health.fw.recovery)
    || (s.twin.role == .active && s.twin.partner.isSome && !s.partnerReady)

/-- Two windows ([3:0] lowest, [7:4] highest) overlap. Log 76 [DEDUCED]. -/
def windowsMeet (a b : Nat) : Bool := decide (a % 16 ≤ b / 16 % 16) && decide (b % 16 ≤ a / 16 % 16)

/-- FW_ACTIVATE is refused for the staged image or the crate (R453, R454). A lane whose far end has sent no HELLO excludes nothing. Log 76 [DEDUCED]. -/
def State.activateRefused (s : State) (reset : Bool) : Bool :=
  match s.health.fw.staged with
  | none => true
  | some b =>
    let twin := s.imageField b 17 1
    let haul := s.imageField b 16 1
    let partner : Bool := match s.twin.partner with
      | some p => !windowsMeet twin (p.versionLo % 16 + 16 * (p.versionHi % 16))
      | none => false
    let lanes := s.lanes.rx.any fun x => x.lock == .locked && (x.role == .grist || x.role == .haul) && x.versionHi != 0
      && !windowsMeet haul (x.versionLo % 16 + 16 * (x.versionHi % 16))
    partner || lanes || (reset && !s.crate.activating.isEmpty)

/-! ### FW_STAGE (R452) -/

/-- Changes the firmware state. -/
def State.modFw (s : State) (f : Firmware → Firmware) : State := { s with health := { s.health with fw := f s.health.fw } }

/-- Sectors of a range of an image. -/
def sectorsOf (off len : Nat) : List Nat := (List.range ((off + len - 1) / 65536 + 1 - off / 65536)).map (· + off / 65536)

/-- Page programs of a range that starts on a page. -/
def pagesOf (base off : Nat) (data : List Byte) : List NorOp :=
  (List.range (ceilDiv data.length 256)).map fun k => { addr := base + off + 256 * k, data := (data.drop (256 * k)).take 256 }

/-- The last operation of a list ends the FW_STAGE and completes a range. Log 75 [DEDUCED]. -/
def endOps (here : Bool) (range : Nat × Nat) (l : List NorOp) : List NorOp :=
  l.modify (l.length - 1) fun op => { op with ends := some here, range := range }

/-- The operations of WRITE: an erase of each sector first touched since BEGIN, then the pages (R452). Log 75 [DEDUCED]. -/
def State.writeOps (s : State) (off : Nat) (data : List Byte) (here : Bool) : List NorOp :=
  let base := bankBase s.otherBank
  let fresh := (sectorsOf off data.length).filter fun k => !s.health.fw.erased.contains k
  endOps here (off, data.length) ((fresh.map fun k => { erase := true, addr := base + 65536 * k }) ++ pagesOf base off data)

/-- The first operation of an FW_STAGE fails the hold-up check (R449, R454). -/
def State.opRefused (s : State) (ops : List NorOp) : Bool :=
  match ops with
  | [] => false
  | op :: _ => !s.holdOk (if op.erase then .erase else .page)

/-- Operations are queued; the first starts when nothing runs before it. -/
def State.queueOps (s : State) (ops : List NorOp) : State := (s.modFw fun f => { f with ops := f.ops ++ ops }).startOp

/-- The furthest offset to which the ranges cover an image without a gap, from `pos`; `n` bounds the rounds. -/
def covered : Nat → List (Nat × Nat) → Nat → Nat
  | 0, _, pos => pos
  | n + 1, l, pos => covered n l (l.foldl (fun p x => if x.1 ≤ p then max p (x.1 + x.2) else p) pos)

/-- Bytes 0 to 255 + IMAGE_LEN have all been written since BEGIN (R452). Log 42 [PRESUMED]. -/
def State.imageWhole (s : State) : Bool :=
  let len := s.imageField s.otherBank 8 4
  let l := s.health.fw.written
  decide (256 ≤ covered l.length l 0) && decide (1 ≤ len ∧ len ≤ 67108608) && decide (256 + len ≤ covered l.length l 0)

/-- FW_STAGE acting on this package: refused with a status, or the state and whether the command waits for its operations (R452). `data` are the bytes of
WRITE; `here`: the command came through a mailbox of this package. Log 75 [DEDUCED]. -/
def State.stageImage (s : State) (args data : List Byte) (here : Bool) : Except (Status × Nat) (State × Bool) :=
  let b := s.otherBank
  if s.updateRefused here then .error (.refusedState, 0)
  else match field args 0 1 with
    | 1 =>
      let ops := endOps here (0, 0) [{ erase := true, addr := bankBase b }]
      if s.opRefused ops then .error (.refusedState, 0)
      else
        let s1 := s.modFw fun f => { f with written := [], erased := [0], bytesWritten := 0, staged := none, bankStates := f.bankStates.set b 1 }
        .ok (s1.queueOps ops, true)
    | 2 =>
      let ops := s.writeOps (field args 4 4) data here
      if s.opRefused ops then .error (.refusedState, 0)
      else
        let s1 := s.modFw fun f => { f with erased := dedup (f.erased ++ sectorsOf (field args 4 4) data.length) }
        .ok (s1.queueOps ops, true)
    | _ =>
      if !s.imageWhole then .error (.badArgument, 0)
      else
        let s1 := s.modFw fun f => { f with staged := some b, bankStates := f.bankStates.set b 2 }
        .ok (s1.raise 0x0709 0xFF (leBytes 1 b ++ leBytes 4 (s.imageField b 12 4)), false)

/-- Tests of FW_STAGE's own fields (R452). -/
def State.stageChecks (s : State) (args : List Byte) : Checks :=
  let write := field args 0 1 == 2
  let off := field args 4 4
  let len := field args 8 4
  let src := field args 16 8
  let host := src.testBit 63
  [inRange args 0 1 1 3, inRange args 1 1 0 1] ++ reserved args 2 2 ++
    [bad 4 (write && (off % 256 != 0 || decide (0x4000000 ≤ off))),
     bad 8 (write && (decide (len < 1) || decide (1048576 < len) || decide (0x4000000 < off + len)))] ++ reserved args 12 4 ++
    [bad 16 (write && ((host && field args 1 1 == 1) || (!host && !(decide (src < 2 ^ 40) && rangeIn s.inMemory src len))))]

/-- Tests of a relayed update at the active (R455). Log 77 [DEDUCED]. -/
def State.relayRefused (s : State) (protect : Bool) : Bool :=
  (protect && s.protectRuns) || s.twin.role != .active || !((s.twin.partner.map fun p => p.role == .standby).getD false)

/-- LAST_RESULT (R464). Log 77 [DEDUCED]. -/
def State.fwResult (s : State) (st : Status) : State := s.modFw fun f => { f with lastResult := st.code }

/-- FW_STAGE (R452, R454, R455). A command here that is refused changes nothing, LAST_RESULT included (R364). -/
def cmdFwStage (host : List Byte) : Cmd := fun _ args s =>
  checked (s.stageChecks args ++ [refusedIf (field args 1 1 == 1 && s.relayRefused true)]) s fun s =>
    if field args 1 1 = 1 then okay s
    else
      let src := field args 16 8
      let (data, s1) := if field args 0 1 ≠ 2 then ([], s) else if src.testBit 63 then (padTo (field args 8 4) host, s) else s.pkgRead src (field args 8 4)
      match s1.stageImage args data true with
      | .error (st, d) => .done st d [] s
      | .ok (s2, true) => .wait .nor .ok 0 [] s2
      | .ok (s2, false) => okay (s2.fwResult .ok)

/-- FW_STAGE (R452). -/
def execFwStage (o : Origin) (args host : List Byte) (s : State) : Host.Outcome State Fault Refusal :=
  .next (s.row o 0x0806 args (fixedLen 24) (cmdFwStage host))

/-- The end of an FW_STAGE: its range counts as written, LAST_RESULT is OK, and a command here completes (R452). -/
def State.opEnds (s : State) (here : Bool) (range : Nat × Nat) : State :=
  let s1 := (s.modFw fun f => { f with written := if range.2 = 0 then f.written else f.written ++ [range], bytesWritten := f.bytesWritten + range.2 }).fwResult .ok
  if here then
    match s1.mail.running.find? (·.waits == .nor) with
    | some r => s1.finishRunning r
    | none => s1
  else s1

/-- NOR_OPERATION_DONE: the operation that has started takes effect. Pages that do not read back equal are programmed again, since WRITE completes when they
compare equal (R448, R452). Log 75 [DEDUCED]. -/
def execNorOperationDone (compared : Bool) (s : State) : Host.Outcome State Fault Refusal :=
  .next (match s.health.fw.opStarted, s.health.fw.ops with
    | true, op :: l =>
      let s1 := (s.norApply op).modFw fun f => { f with opStarted := false }
      if !compared && !op.erase then s1.startOp
      else
        let s2 := s1.modFw fun f => { f with ops := l }
        (match op.ends with
          | some here => s2.opEnds here op.range
          | none => s2).startOp
    | _, _ => s)

/-! ### FW_ACTIVATE (R453) and PACKAGE_RESET (R503) -/

/-- The reset that FW_ACTIVATE with RESET or PACKAGE_RESET asks for: an ACTIVE with a partner sets FAULT with cause 4 and resets once it has released its
outputs; the others reset at once or at the next boundary (R453). Log 82 [DEDUCED]. -/
def State.askReset (s : State) : State :=
  let s1 := s.modFw fun f => { f with resetDue := true }
  if s.twin.role = .active then s1.setFault 4 else s1

/-- A reset that is due and waits for nothing: of a package that is ALONE, or of a standby with no tick to wait for (R453). -/
def State.resetNow (s : State) : State :=
  if s.twin.role = .alone ∨ (s.twin.role = .standby ∧ s.cfg.tick.isNone) ∨ s.health.fw.recovery then s.resetIfDue else s

/-- FW_ACTIVATE acting on this package (R453, R454). -/
def State.activateImage (s : State) (args : List Byte) (here : Bool) : Except (Status × Nat) State :=
  let reset := (field args 1 1).testBit 0
  if s.updateRefused here || s.activateRefused reset || !s.holdOk .page then .error (.refusedState, 0)
  else
    let s1 := s.modFw fun f => { f with bootPointer := f.staged.getD f.bootPointer, activated := true }
    .ok (if reset then s1.storeConfig.askReset else s1.storeConfig)

/-- FW_ACTIVATE (R453 to R455). -/
def cmdFwActivate : Cmd := fun _ args s =>
  checked ([inRange args 0 1 0 1, reservedHigh args 1 1] ++ reserved args 2 2 ++ [refusedIf (field args 0 1 == 1 && s.relayRefused true)]) s fun s =>
    if field args 0 1 = 1 then okay s
    else match s.activateImage args true with
      | .error (st, d) => .done st d [] s
      | .ok s1 => okay (s1.fwResult .ok)

/-- FW_ACTIVATE, and the reset of a package that is ALONE once the completion has been written. -/
def execFwActivate (o : Origin) (args : List Byte) (s : State) : Host.Outcome State Fault Refusal :=
  .next (s.row o 0x0808 args (fixedLen 4) cmdFwActivate).resetNow

/-! ### OWNER_SEAL (R456) -/

/-- OWNER_SEAL acting on this package: the status and the state. It is refused where the NOR write that it needs fails its check (R448, R449). Log 77 [DEDUCED]. -/
def State.applySeal (s : State) (args : List Byte) : Status × State :=
  let code := (args.drop 4).take 8
  let f := s.health.fw
  if field args 0 1 = 1 then
    if f.ownerSeal.isSome || !s.holdOk .page then (.refusedState, s) else (.ok, (s.modFw fun f => { f with ownerSeal := some (sha512 code) }).storeConfig)
  else if 8 ≤ f.sealFails then (.refusedState, s)
  else if f.ownerSeal = some (sha512 code) then if !s.holdOk .page then (.refusedState, s) else (.ok, (s.modFw fun f => { f with ownerSeal := none }).storeConfig)
  else (.badArgument, s.modFw fun f => { f with sealFails := f.sealFails + 1 })

/-- OWNER_SEAL (R455, R456). Log 77 [DEDUCED]. -/
def cmdOwnerSeal : Cmd := fun _ args s =>
  checked ([inRange args 0 1 1 2, inRange args 1 1 0 1] ++ reserved args 2 2 ++ [bad 4 (field args 4 8 == 0),
      refusedIf (field args 1 1 == 1 && s.relayRefused false)]) s fun s =>
    if field args 1 1 = 1 then okay s
    else match s.applySeal args with
      | (.ok, s1) => okay (s1.fwResult .ok)
      | (st, s1) => .done st (if st = .badArgument then 4 else 0) [] s1

/-- OWNER_SEAL (R456). -/
def execOwnerSeal (o : Origin) (args : List Byte) (s : State) : Host.Outcome State Fault Refusal :=
  .next (s.row o 0x0809 args (fixedLen 12) cmdOwnerSeal)

/-! ### FW_STATUS (R464) -/

/-- FW_STATUS (R464). Log 126 [DEDUCED]. -/
def cmdFwStatus : Cmd := fun _ _ s =>
  let f := s.health.fw
  let staged (off n : Nat) : Nat := match f.staged with
    | some b => s.imageField b off n
    | none => 0
  .done .ok 0 (leBytes 1 (nat01 s.ident.fwBank) ++ leBytes 1 (f.bankStates.getD 0 0) ++ leBytes 1 (f.bankStates.getD 1 0)
      ++ leBytes 1 (f.bootPointer % 2 + 2 * nat01 f.ownerSeal.isSome + 4 * nat01 f.recovery + 8 * nat01 f.activated) ++ leBytes 4 (staged 12 4)
      ++ leBytes 1 (staged 16 1) ++ leBytes 1 (staged 17 1) ++ leBytes 1 f.rejectReason ++ leBytes 1 f.lastResult ++ leBytes 4 f.bytesWritten
      ++ leBytes 1 f.sealFails ++ leBytes 3 0) s

/-- FW_STATUS (R464). -/
def execFwStatus (o : Origin) (args : List Byte) (s : State) : Host.Outcome State Fault Refusal :=
  .next (s.row o 0x0807 args (fixedLen 0) cmdFwStatus)

/-- A journalled update command applied by the standby alone; LAST_RESULT tells its outcome (R455). -/
def State.relayedUpdate (s : State) (op : Nat) (args mem : List Byte) : State :=
  if op = 0x0806 then
    match s.stageImage args mem false with
    | .error (st, _) => s.fwResult st
    | .ok (s1, waits) => if waits then s1 else s1.fwResult .ok
  else if op = 0x0808 then
    match s.activateImage args false with
    | .error (st, _) => s.fwResult st
    | .ok s1 => s1.fwResult .ok
  else
    let (st, s1) := s.applySeal args
    s1.fwResult st

end Sys2Proof.Machine
end

