-- ==== Sys2Proof/Machine/Power.lean ====
section
/-! DEFINITION. Power states (R471 to R474), core voltage (R470), start-up from step 3 on (R475 to R477), resets, and their commands (R498, R499, R502,
R503). -/

namespace Sys2Proof.Machine

/-! ### Lane roles in force (R37, R475) -/

/-- Lanes take their configured roles. -/
def State.takeRoles (s : State) : State :=
  { s with lanes := { s.lanes with
      rx := (s.lanes.rx.zipIdx).map fun (x, i) => { x with role := (s.cfg.rxCfg.getD i {}).role }
      tx := (s.lanes.tx.zipIdx).map fun (x, i) => { x with role := (s.cfg.txCfg.getD i {}).role } } }

/-! ### Start-up (R475, R476) -/

/-- START_STAGE. -/
def State.setStage (s : State) (n : Nat) : State := { s with power := { s.power with stage := n } }

/-- Step 7 has ended: an untwinned package is ALONE and skips step 8; a twinned one waits as STANDBY for its partner and sends ATTACH when a link is locked
(R349, R476). Log 55 [DEDUCED]. -/
def State.clocksDone (s : State) : State :=
  let s1 := s.setStage 7
  if s.twin.mode = .untwinned then s1.becomeAlone.setStage 8 else (s1.modTwin fun t => { t with role := .standby }).linkUp

/-- Step 7 ends when the DPLL is LOCKED or the priority table is empty (R476). -/
def State.stepSeven (s : State) : State :=
  let d := s.clocks.dpll
  if s.power.stage = 6 ∧ (d.state = .locked ∨ d.entries.all (· == 0)) then s.clocksDone else s

/-- DPLL_LOCK (R294), which ends step 7 of start-up (R476). -/
def execDpllLock (s : State) : Host.Outcome State Fault Refusal := .next s.dpllLock.stepSeven

/-- CLOCK_LOCK_TIMEOUT: 120 s without lock; start-up continues (R476). -/
def execClockLockTimeout (s : State) : Host.Outcome State Fault Refusal := .next (if s.power.stage = 6 then s.clocksDone else s)

/-- REF_CONFIG (R317); one that empties the priority table ends step 7 (R476). -/
def execRefConfig (o : Origin) (args : List Byte) (s : State) : Host.Outcome State Fault Refusal :=
  .next ((s.row o 0x0500 args (fixedLen 24) cmdRefConfig).keepSettings s).stepSeven

/-- What training leaves at one die: a die that still has a short lane is withheld, as is one that the record has out of service (R401, R438); a stack that an
active loses so is a fault that it cannot absorb (R336). Log 1 [DESIGN CHOICE]. -/
def State.trained (s : State) (die : Nat) (r : TrainReading) : State :=
  let held := (TrainReading.short r).isSome || s.outOfService 4 die 0
  let s1 := State.modStack { s with free := s.free + 512 } die fun h => h.train r held fun k => (Config.freeValue (s.free + k)).toNat
  match TrainReading.short r with
  | some (lane, run) => ((s1.raise 0x0602 die (leBytes 1 die ++ leBytes 1 lane ++ leBytes 1 run)).evident 4 die 0 1).setFault 3
  | none => s1

/-- HBM_TRAINING_DONE: step 4 (R401). Log 8 [DESIGN CHOICE]. -/
def execHbmTrainingDone (r : List TrainReading) (s : State) : Host.Outcome State Fault Refusal :=
  .next (if s.power.stage = 3 then
    ((List.range s.dies).foldl (fun s d => s.trained d (r.getD d {})) s).setStage 4
  else s)

/-- STARTUP_KILN_DONE: step 5; lanes then come up in their stored roles (R427, R475). -/
def execStartupKilnDone (r : List (KilnElement × KilnReading)) (s : State) : Host.Outcome State Fault Refusal :=
  .next (if s.power.stage = 4 then ((s.startupKiln r).setStage 5).takeRoles else s)

/-- LANE_BRINGUP_DONE: step 6 (R475). -/
def execLaneBringupDone (s : State) : Host.Outcome State Fault Refusal := .next (if s.power.stage = 5 then (s.setStage 6).stepSeven else s)

/-- READY: step 9; the package enters RUN and sends BOOT (R472, R475, R476). Log 81 [DEDUCED]. -/
def execReady (s : State) : Host.Outcome State Fault Refusal :=
  .next (if s.power.stage = 8 then
    State.sendBoot { s with power := { s.power with stage := 9, ready := true, mode := .run } }
  else s)

/-! ### Reset and supplies (R468, R469) -/

/-- RESET_ASSERT: RESET_N falls. -/
def execResetAssert (s : State) : Host.Outcome State Fault Refusal := .next (s.enterReset false)

/-- SUPPLY_MONITOR_TRIP: the outputs fall silent, the failed rails are latched, and the package enters reset (R469). With no rail named PGOOD_IN fell, and
the package is OFF (R472). Log 80 [DEDUCED]. -/
def execSupplyMonitorTrip (rails : BitVec 10) (s : State) : Host.Outcome State Fault Refusal :=
  let s1 := s.enterReset false
  .next { s1 with power := { s1.power with pwrFault := s1.power.pwrFault ||| rails, mode := if rails = 0 then .off else s1.power.mode } }

/-! ### Power states (R471 to R474) -/

/-- Codes of power states (R360, R498). -/
def PowerMode.code : PowerMode → Nat
  | .run => 0
  | .idle => 1
  | .dormant => 2
  | .off => 3

/-- WAKE_N_EDGE (R474). -/
def execWakeNEdge (s : State) : Host.Outcome State Fault Refusal := .next (if s.power.inReset then s else s.wakeRequest none true)

/-- The lanes are powered down in DORMANT: their receivers search afresh on exit, and a twin link that was up is lost (R331, R471, R472). -/
def State.lanesDown (s : State) : State :=
  State.linkReport s.linkLanes { s with lanes := { s.lanes with rx := s.lanes.rx.map RxLane.unlock, twinRx := s.lanes.twinRx.map RxLane.unlock } }

/-- Every byte lane of the stacks is re-centred, as self-refresh ends: its delay moves by at most one tap, toward a centre that no command carries (R402,
R403, log 1 [DESIGN CHOICE]). -/
def State.recentre (s : State) : State :=
  let near (k t : Nat) : Nat :=
    match (Config.freeValue (s.free + k)).toNat % 3 with
    | 0 => t
    | 1 => min 127 (t + 1)
    | _ => t - 1
  { s with
    fabric := { s.fabric with hbm := (s.fabric.hbm.zipIdx).map fun (h, d) => { h with taps := (h.taps.zipIdx).map fun (t, i) => near (256 * d + i) t } }
    free := s.free + 256 * s.fabric.hbm.length }

/-- A state is entered: tiles gated but in RUN, HBM in self-refresh and lanes down in DORMANT (R403, R471). -/
def State.enterMode (s : State) (m : PowerMode) : State :=
  let old := s.power.mode
  let s := if s.power.mode = .dormant ∧ m ≠ .dormant then s.recentre else s
  let s1 := { s with
    power := { s.power with mode := m, target := none, gated := m != .run || s.power.thermTrip, before := if m = .dormant ∧ old ≠ .dormant then old else s.power.before }
    fabric := { s.fabric with hbm := s.fabric.hbm.map fun h => { h with selfRefresh := m == .dormant } } }
  if m = .dormant then s1.lanesDown.refCheck.readyCheck else s1

/-- POWER_TRANSITION_DONE (R472, R487, R504). Log 54 [DEDUCED]. -/
def execPowerTransitionDone (s : State) : Host.Outcome State Fault Refusal :=
  .next (match s.power.target with
    | none => s
    | some (m, cause) =>
      let s1 := (s.enterMode m).raise 0x0801 0xFF (leBytes 1 s.power.mode.code ++ leBytes 1 m.code ++ leBytes 1 cause)
      match s1.power.exitAfter with
      | some (x, c) => State.beginPower { s1 with power := { s1.power with exitAfter := none } } x c
      | none => s1)

/-- POWER_STATE to RUN or IDLE: a wake request that names its state; between RUN and IDLE a transition of its own (R472, R474). -/
def State.powerUp (s : State) (m : PowerMode) : State :=
  let s1 := s.wakeRequest (some m) true
  let asleep : Bool := s.power.mode == .dormant || (match s.power.target with
    | some (.dormant, _) => true
    | _ => false)
  if asleep || (s.power.mode == m && s.power.target.isNone) then s1 else s1.beginPower m 1

/-- SLEEP_PROPOSE to the heard nodes, its voters (R486). -/
def State.propose (s : State) : State :=
  let p := s.ident.nodeId + 32 * (s.crate.sleep.count % 2048)
  (s.modSleep fun y => { y with proposal := some p, waiting := s.crate.heard, count := y.count + 1, committed := false }).crateSend 0x10 0xFF
    (leBytes 2 p ++ leBytes 1 2 ++ leBytes 1 0)

/-- POWER_STATE (R473, R486, R488, R498). Log 83 [DEDUCED]. -/
def cmdPowerState : Cmd := fun _ args s =>
  let st := field args 0 1
  let scope := field args 1 1
  let lone := s.crate.heard.isEmpty || s.crate.alone
  checked ([inRange args 0 1 0 2, inRange args 1 1 0 1, bad 1 (scope == 1 && st != 2)] ++ reserved args 2 2 ++
      [refusedIf (st != 0 && !s.sleepAllowed),
       refusedIf (scope == 1 && ((lone && !s.crate.aloneSleepOk) || s.crate.sleep.proposal.isSome))]) s fun s =>
    if st = 0 then okay (s.powerUp .run)
    else if st = 1 then okay (s.powerUp .idle)
    else if scope = 0 ∨ lone then okay (State.sleepNow { s with power := { s.power with exitAfter := none } } 1)
    else .wait .sleep .ok 0 [] s.propose

/-- POWER_STATE (R498). -/
def execPowerState (o : Origin) (args : List Byte) (s : State) : Host.Outcome State Fault Refusal :=
  .next (s.row o 0x0900 args (fixedLen 4) cmdPowerState)

/-! ### Core voltage (R470, R499) -/

/-- The request that the loop aims at, in millivolts (R470). -/
def Power.wanted (p : Power) : Nat :=
  min (max (if p.overrideMv = 0 then p.floorMv + 15 else max p.overrideMv p.floorMv) 650) 800

/-- POLICY_OVERRIDDEN while the override lies below the floor (R436, R470). -/
def State.avsCheck (s : State) : State :=
  if s.power.overrideMv ≠ 0 ∧ s.power.overrideMv < s.power.floorMv then s.override 8 0 0xFF s.eventTick else s

/-- The voltage loop runs: not in OFF, nor in reset, where the regulator holds its own value (R470). -/
def State.loopRuns (s : State) : Bool := !s.power.inReset && s.power.mode != .off

/-- AVS_FLOOR_UPDATE: FLOOR_MV is the highest floor of any die, rounded up to 5 mV (R470). -/
def execAvsFloorUpdate (floorsMv : List Nat) (s : State) : Host.Outcome State Fault Refusal :=
  .next (if !s.loopRuns then s else State.avsCheck { s with power := { s.power with floorMv := 5 * ceilDiv (floorsMv.foldl max 0) 5 } })

/-- AVS_REQUEST_STEP: the request moves by at most 5 mV (R470). Log 134 [DEDUCED]. -/
def execAvsRequestStep (s : State) : Host.Outcome State Fault Refusal :=
  let want := s.power.wanted
  let now := s.power.requestMv
  let next := if now < want then min want (now + 5) else max want (now - 5)
  .next (if !s.loopRuns || next == now then s else State.emit { s with power := { s.power with requestMv := next } } (.avs next))

/-- VCORE_OVERRIDE (R499). -/
def cmdVcoreOverride : Cmd := fun _ args s =>
  let v := field args 0 2
  checked ([bad 0 (v != 0 && (decide (v < 650) || decide (800 < v) || v % 5 != 0))] ++ reserved args 2 2) s fun s =>
    okay (State.avsCheck { s with power := { s.power with overrideMv := v } })

/-- VCORE_OVERRIDE (R499). -/
def execVcoreOverride (o : Origin) (args : List Byte) (s : State) : Host.Outcome State Fault Refusal :=
  .next (s.row o 0x0901 args (fixedLen 4) cmdVcoreOverride)

/-- SENSOR_READ (R502): VCORE_MV, VCORE_A and POWER_W are measured, and no command of the block carries them (log 1 [DESIGN CHOICE]). -/
def cmdSensorRead : Cmd := fun _ _ s =>
  let (a, s1) := s.fresh
  let (b, s2) := s1.fresh
  let (c, s3) := s2.fresh
  .done .ok 0 (leBytes 2 a ++ leBytes 2 b ++ leBytes 2 s.power.floorMv ++ leBytes 2 s.power.requestMv ++ leBytes 2 c ++ leBytes 2 s.power.pwrFault.toNat
    ++ leBytes 1 (nat01 s.power.thermTrip) ++ leBytes 1 0) s3

/-- SENSOR_READ (R502). -/
def execSensorRead (o : Origin) (args : List Byte) (s : State) : Host.Outcome State Fault Refusal :=
  .next (s.row o 0x0904 args (fixedLen 0) cmdSensorRead)

/-! ### PACKAGE_RESET (R503) -/

/-- PACKAGE_RESET (R503). -/
def cmdPackageReset : Cmd := fun _ args s =>
  checked ([reservedHigh args 0 1] ++ reserved args 1 3 ++ [refusedIf (s.protectRuns && !(field args 0 1).testBit 0)]) s fun s => okay s.askReset

/-- What follows the completion of a command: the reset that FW_ACTIVATE or PACKAGE_RESET made due where it waits for nothing (R453, R503), and the end
of step 7 (R476). Log 82 [DEDUCED]. -/
def State.afterCommand (s : State) (op : Nat) : State :=
  if op = 0x0905 ∧ s.twin.role ≠ .active then s.resetIfDue
  else if op = 0x0808 then s.resetNow
  else if op = 0x0500 then s.stepSeven
  else s

/-- PACKAGE_RESET, and the reset once the completion has been written. -/
def execPackageReset (o : Origin) (args : List Byte) (s : State) : Host.Outcome State Fault Refusal :=
  .next ((s.row o 0x0905 args (fixedLen 4) cmdPackageReset).afterCommand 0x0905)

end Sys2Proof.Machine
end

