-- ==== Sys2Proof/Machine/Tick.lean ====
section
/-! DEFINITION. The tick boundary (R59) and the end of the work window (R64). -/

namespace Sys2Proof.Machine

/-- Applies `f` for each of the package's dies. -/
def State.eachDie (s : State) (f : Nat → State → State) : State := (List.range s.dies).foldl (fun s d => f d s) s

/-- Applies `f` for each pipe of the kinds given. -/
def State.eachPipe (s : State) (kinds : List Nat) (f : Nat → State → State) : State := (s.cfg.indices kinds).foldl (fun s i => f i s) s

/-! ### Step 1 -/

/-- The half of a tick that a takeover does not accumulate is not taken over (R345). -/
def State.dropHalf (s : State) (n : Nat) : State :=
  if n - 1 < s.twin.accumulateFrom then { s with data := { s.data with turn := s.data.turn.filter fun x => x.tick != n - 1 } } else s

/-- Step 1: the turn half of tick n - 1 closes (R59). -/
def State.closeHalf (s : State) (n : Nat) : State := if s.works && n != 0 then (s.dropHalf n).eachPipe [2] fun i s => s.countHalf i n else s

/-! ### Step 2 -/

/-- A CORR pipe that works on a die pins its tile positions (R159, R436). Log 124 [DEDUCED]. -/
def State.pinned (s : State) (die : Nat) : Bool :=
  (s.cfg.indices [2]).any fun i =>
    let c := (s.cfg.pipes.getD i {}).cfg.corrCfg
    c.pinTiles && diesChannels c.dieCh c.splitD die != 0

/-- The faulty tiles of a die are retired, with the evidence for the unit record; one that only a spare under test could replace waits for it (R162, R428,
R436, R437). Log 112 [DEDUCED]. Log 124 [DEDUCED]. -/
def State.retireDie (s : State) (n die : Nat) : State :=
  (s.die die).faulty.foldl (fun s p =>
    let w := s.die die
    if w.freeSpare.isNone && w.tiles.contains 3 then s
    else
      let s1 := ((s.modDie die fun w => { w with faulty := w.faulty.erase p }).retireTile die p).evident 1 die p 2
      if s.pinned die then s1.policyOverridden 2 die n else s1) s

/-- Tiles that passed their restore test come back (R439). -/
def State.restoreTiles (s : State) : State :=
  s.health.restoreTiles.foldl (fun s x => s.restoreTile x.1 x.2) { s with health := { s.health with restoreTiles := [] } }

/-- What step 2 does for the twin pair: a declared takeover, an agreed switch, a TWIN_SWITCH that came too late, a detach, a change of MODE (R344, R350,
R351, R354, R355); and a package that had no claim to take has one again (R338). Log 174 [DEDUCED]. Log 35 [DEDUCED]. Log 61 [DEDUCED]. Log 114 [DEDUCED]. -/
def State.twinBoundary (s : State) (n : Nat) : State :=
  let due (b : Option Nat) : Bool := (b.map fun x => decide (x ≤ n)).getD false
  let s1 :=
    if s.twin.role = .standby ∧ due (s.twin.declared.map (·.2)) then s.takeover ((s.twin.declared.map (·.1)).getD 0) n s.twin.declaredReady
    else if due s.twin.switchAt then
      if s.twin.role = .standby then s.takeover switchCause n s.standbyReady
      else if s.twin.role = .active then s.demote s.twin.claim s.partnerSource
      else s.modTwin fun t => { t with switchAt := none }
    else s
  let s2 := match s1.switchWaiting with
    | some r => if field r.args 0 6 ≤ n + 1 then s1.finishDetail r .tooLate (field r.args 0 8 % 2 ^ 32) else s1
    | none => s1
  let s3 := if s2.twin.detachDue then
      if s2.twin.role = .standby then
        (s2.sendHeartbeat s2.windowNow 0).modTwin fun t => { t with detachDue := false, detached := true, partner := none, attachSent := false, wasReady := false }
      else s2.modTwin fun t => { t with detachDue := false }
    else s2
  let s4 : State := if s3.twin.role = .standby ∧ s3.twin.partner.isNone ∧ !s3.twin.detached ∧ !s3.twin.exhausted ∧ 8 ≤ s3.power.stage then s3.becomeAlone else s3
  match s4.twin.nextMode with
  | some m => s4.setMode m
  | none => s4

/-- Step 2: package changes due at boundary n (R37, R59, R162, R272, R437). -/
def State.packageChanges (s : State) (n : Nat) : State :=
  let s1 := s.takeRoles.eachDie fun d s => s.sparingBoundary n d
  let s2 := (s1.eachDie fun d s => s.retireDie n d).restoreTiles.reconcile
  ((s2.eachDie fun d s => s.guardBoundary d).overridesBoundary.tryPasses.portsUpdate).twinBoundary n

/-! ### Readiness (R328) -/

/-- Every CORR and BEAM pipe has begun an integration that the standby shadowed from its first tick (R328 [6]). Log 116 [DEDUCED]. -/
def State.shadowWhole (s : State) (n : Nat) : Bool :=
  (s.cfg.indices [2, 3]).all fun i =>
    match s.pipeAt i (n - 1) with
    | none => true
    | some e =>
      let k := max e.cfg.k 1
      let b := s.twin.shadowFrom
      let first := if b ≤ e.startTick then e.startTick else e.startTick + ceilDiv (b - e.startTick) k * k
      decide (first + 1 ≤ n)

/-- A standby notes whether the copy of the boundary before arrived on time, one that never came counting as late, and how far it has shadowed (R328, R342). Log 116
[DEDUCED]. Log 116 [DEDUCED]. -/
def State.readyBoundary (s : State) (n : Nat) : State :=
  if s.twin.role = .standby then
    let got := (s.twin.copy.map fun c => decide (c.tick + 1 = n)).getD false
    let s1 := if s.twin.copyDue && !got then s.copyLate (n - 1) else s
    s1.modTwin fun t => { t with copyOk := (got, t.copyOk.1), copyDue := t.partner.isSome, shadowed := t.shadowed || (t.mode == .hot && s.shadowWhole n) }
  else s

/-! ### Steps 3 to 6 -/

/-- Step 5: the replay reserve of a die; zero mapped reserve is a fault that the twin takes over (R62, R163, R336, R435). -/
def State.setReserve (s : State) (die : Nat) : State :=
  match s.cfg.tick with
  | none => s
  | some t =>
    let v := reserveOf t (s.die die).mapped
    let s1 := if v ≤ 0 then s.setFault 1 else s
    s1.modDie die fun w => { w with reserve := if (s.health.guards.getD die {}).withdrawn then 0 else max 0 v }

/-- A new work window owes everything afresh (R54, R188, R221). -/
def DieWork.newWindow (w : DieWork) : DieWork := { w with done := [], replays := [], todo := [], busy := [], exhausted := false, exhaustedCount := 0, stripLost := false }

/-- Steps 3 to 6 of a working package (R59). -/
def State.workBoundary (s : State) (n : Nat) : State :=
  if !s.works then s
  else
    let s1 := s.swapAndRelease n
    let s2 := { s1 with data := { s1.data with boundary := some n, dies := s1.data.dies.map DieWork.newWindow } }
    let s3 := s2.eachDie fun d s => s.setReserve d
    if n = 0 then s3 else (s3.eachPipe [3] fun i s => s.beamOpen i).eachDie fun d s => s.openWork d

/-! ### What follows the boundary -/

/-- Inputs of an INGEST pipe without a polynomial for tick `n` (R123). Log 113 [DEDUCED]. -/
def State.staleInputs (s : State) (i n : Nat) : List Nat :=
  match s.pipeAt i n with
  | none => []
  | some e =>
    if !e.cfg.ingestCfg.delayEnable then []
    else (s.data.chains.filter fun c => c.pipe == i && c.finish.isNone && decide (c.startTick ≤ n) && !c.polys.any (·.tick == n)).map (·.input)

/-- Tick `n` has begun: inputs without a load are counted, and the first such tick of a run is reported (R123, R506). Log 113 [DEDUCED]. -/
def State.delayStale (s : State) (i n : Nat) : State :=
  let xs := s.staleInputs i n
  if xs.isEmpty then { s with data := { s.data with staleRuns := s.data.staleRuns.filter (· != i) } }
  else
    let s1 := s.modChains (fun c => c.pipe == i && c.finish.isNone && xs.contains c.input) fun c => { c with delayStale := rcAdd 32 c.delayStale 1 }
    if s.data.staleRuns.contains i then s1
    else State.raise { s1 with data := { s1.data with staleRuns := i :: s1.data.staleRuns } } 0x0102 0xFF
      (leBytes 4 (s.cfg.dataHandle i) ++ leBytes 6 n ++ leBytes 4 xs.length)

/-- A position that was heard and then not at three boundaries in a row is reported once (R352). Log 111 [DEDUCED]. -/
def State.positionsLost (s : State) : State :=
  let s1 := { s with data := { s.data with heard := s.data.heard.map fun x => (x.1, x.2.1, x.2.2.1 + 1, x.2.2.2 || decide (3 ≤ x.2.2.1 + 1)) } }
  (s.data.heard.filter fun x => !x.2.2.2 && decide (3 ≤ x.2.2.1 + 1)).foldl (fun s x => s.raise 0x050B 0xFF (leBytes 2 x.1 ++ leBytes 6 x.2.1)) s1

/-- The oldest tick of which a chain has grist to process or outputs to frame (R57, R85). Log 170 [DESIGN CHOICE]. -/
def Chain.oldestTick (c : Chain) : Nat :=
  let out := ((c.outs.head?).map (·.index)).getD c.nextOut
  min (c.next / max c.cfg.samplesPerTick 1) (out / max c.cfg.outsPerTick 1)

/-- The latest tick to which the changes of entry `e` of index `i` are settled at boundary `n`: no window of an older tick runs any more, and no chain that
the pipe has or taps works at an older one. Grist more than 16 ticks older is judged by what has settled. Log 170 [DESIGN CHOICE]. -/
def State.settledTo (s : State) (e : PipeEntry) (i n : Nat) : Nat :=
  let src := if e.cfg.beamCfg.source = 2 ∧ e.cfg.kind = 3 then bits e.cfg.beamCfg.sourceHandle 0 16 else i
  (s.data.chains.filter (·.pipe == src)).foldl (fun t c => min t (c.oldestTick - 16)) (n - 5)

/-- Changes that no window of a tick still needs become the entry itself (R57). -/
def PipeEntry.settleChanges (e : PipeEntry) (t : Nat) : PipeEntry := if t = 0 then e else e.atTick t

/-- Settles the changes of every pipe that exists, and frees those that have drained (R57, R372). -/
def State.settlePipes (s : State) (n : Nat) : State :=
  let pipes := (s.cfg.pipes.zipIdx).map fun (e, i) => if e.exists? then e.settleChanges (s.settledTo e i n) else e
  let s1 := { s with cfg := { s.cfg with pipes := pipes } }
  s1.eachPipe [1, 2, 3] fun i s => s.freeDrained i n

/-! ### Step 7: the state copy (R340, R341) -/

/-- Sparge progress of the open scopes; for a die that has finished, the next record is END (R235, R340). Log 139 [DEDUCED]. -/
def State.spargeProgress (s : State) : List Progress :=
  s.data.scopes.flatMap fun sc => sc.readers.map fun r =>
    { pipe := sc.pipe, die := r.die, tickScope := sc.tickScope, tick := sc.tick, next := if r.done then sc.records - 1 else r.next }

/-- The gain words of every input and channel at tick `n`. -/
def State.gainItems (s : State) (n : Nat) : List GainItem :=
  (s.data.chains.filter (·.finish.isNone)).flatMap fun c =>
    let b := c.cfgFor n
    ((c.gains.take b.chCount).zipIdx).map fun (g, k) => { pipe := c.pipe, input := c.input, channel := b.chFirst + k, word := (g.atTick n).word }

/-- Words that one copy carries: 1 MiB of them (R340). -/
def gainsPerCopy : Nat := 262144

/-- At most `n` of the words, from place `start` of the rotation on (R340). Log 115 [DEDUCED]. -/
def gainRotation (l : List GainItem) (start n : Nat) : List GainItem :=
  let k := start % max l.length 1
  (l.drop k ++ l.take k).take n

/-- Bytes of a copy: at most 4 MiB (R341). -/
def copyLimit : Nat := 2 ^ 22

/-- Bytes that a cellar log entry takes in a copy: those of its slot (R442). Log 115 [DEDUCED]. -/
def tailEntryBytes : Nat := 64

/-- Log entries and gain words that go with a copy whose other items take `rest` bytes: gain words are cut first, log entries second (R341). Log 115 [DEDUCED]. -/
def copyRoom (rest logs gains : Nat) : Nat × Nat :=
  let room := copyLimit - rest
  let k := min logs (room / tailEntryBytes)
  (k, min (min gains gainsPerCopy) ((room - k * tailEntryBytes) / 4))

/-- The copy that the active sends at boundary `n` (R340), whose items beside the gain words and the log tail take `rest` bytes, as many as the spec does not lay
out (log 1 [DESIGN CHOICE]). Log 115 [DEDUCED]. -/
def State.makeCopy (s : State) (n rest ns : Nat) : StateCopy :=
  let all := s.gainItems n
  let (k, g) := copyRoom rest s.twin.logTail.length all.length
  { tick := n, claim := s.twin.claim, journalSeq := s.twin.journalSeq, journalCrc := s.twin.journalCrc
    versions := s.data.delayVersions.map (fun x => (x.1, 0, x.2)) ++ s.data.beams.map fun w => (w.pipe, 1, w.versionAt n)
    digest := ((s.data.digests.find? fun d => d.1 + 2 == n).map (·.2)).getD 0
    dpllState := match s.clocks.dpll.state with
      | .freerun => 0
      | .acquire => 1
      | .locked => 2
      | .holdover => 3
    selected := s.clocks.dpll.selected, selectedCode := s.clocks.dpll.code.getD 0, steerPpt := s.clocks.dpll.steerPpt, boundarySec := ns / nsPerSec, boundaryNs := ns % nsPerSec
    progress := s.spargeProgress, spareCopies := s.lanes.spareTx.filterMap fun x => if x.copying && x.confirmed then x.lane.map fun l => (l, x.holders) else none
    lockOwner := s.lease.owner, lockAddress := s.lease.address, leaseLeftMs := s.lease.leftMs, staged := s.lease.staged
    logTail := s.twin.logTail.take k, gains := gainRotation all s.twin.gainNext g, bytes := rest + k * tailEntryBytes + 4 * g }

/-- Step 7: an active with a partner sends its state, in segments whose bytes the spec does not lay out (R329, R340, log 17 [DESIGN CHOICE]). What was cut goes with
the next copy (R341). Log 115 [DEDUCED]. -/
def State.sendCopy (s : State) (t : TickCfg) (n : Nat) : State :=
  if s.twin.role = .active ∧ s.twin.partner.isSome then
    let (v, s1) := s.fresh
    let c := s1.makeCopy n (v % (2 ^ 22 + 1)) (t.boundaryNs n)
    ((s1.modTwin fun t => { t with lastCopyBytes := c.bytes, logTail := t.logTail.drop c.logTail.length, gainNext := (t.gainNext + c.gains.length) % max (s1.gainItems n).length 1 }).emit (.copy c)).sendSegments n ((List.range c.bytes).map (Config.copyByte s.free))
  else s

/-! ### The two rows -/

/-- Digests that no comparison still needs go (R343). -/
def State.pruneDigests (s : State) (n : Nat) : State :=
  { s with data := { s.data with digests := s.data.digests.filter fun d => decide (n ≤ d.1 + 16) } }

/-- The work window that runs ends on every die (R54, R64). Log 131 [DESIGN CHOICE]. -/
def State.endWindow (s : State) : State := if s.works then s.eachDie fun d s => s.closeDie d else s

/-- Tick boundary n, its steps in order (R59). The window before it has ended by then (R54, R64). Log 131 [DESIGN CHOICE]. -/
def State.tickBoundary (s : State) (t : TickCfg) (n : Nat) : State :=
  let s1 := (s.endWindow.advanceTo (t.boundaryNs n)).refreshPipes
  let s2 := (s1.closeHalf n).packageChanges n
  if s2.health.fw.resetDue && s2.twin.role == .standby then s2.resetIfDue
  else if s2.power.inReset then s2
  else
    let s3 := State.workBoundary (s2.readyBoundary n) n
    let s4 := { s3 with data := { s3.data with boundary := some n } }
    let s5 := ((s4.eachPipe [1] fun i s => s.delayStale i n).positionsLost.reportPanics (n - 1)).settlePipes n
    ((s5.sendCopy t n).pruneDigests n).readyCheck

/-- TICK_BOUNDARY: tick boundary n at the position; one that has passed does not come again (R53, R59). Log 6 [DESIGN CHOICE]. -/
def execTickBoundary (n : Nat) (s : State) : Host.Outcome State Fault Refusal :=
  .next (match s.cfg.tick with
    | none => s
    | some t => if (s.data.boundary.map fun b => decide (n ≤ b)).getD false then s else s.tickBoundary t n)

/-- WORK_WINDOW_END: the window that began at boundary n ends one tick length less G after it (R54, R64, R195). Log 6 [DESIGN CHOICE]. Log 131 [DESIGN CHOICE]. -/
def execWorkWindowEnd (n : Nat) (s : State) : Host.Outcome State Fault Refusal :=
  .next (match s.cfg.tick with
    | none => s
    | some t =>
      if s.data.boundary ≠ some n ∨ n = 0 then s
      else
        (s.advanceTo (t.boundaryNs (n + 1) - t.guardNs)).endWindow)

end Sys2Proof.Machine
end

