-- ==== Sys2Proof/Machine/TwinJournal.lean ====
section
/-! DEFINITION. Journal entries at the standby (R339, R349 step 5, R353, R455). -/

namespace Sys2Proof.Machine

/-- The handle that a journalled command names, with its kinds; none for a command that names no pipe, or makes one. -/
def entryHandle (op : Nat) (args : List Byte) : Option Nat :=
  if op = 0x0101 then some (field args 4 4)
  else if op ∈ [0x0102, 0x0200, 0x0201, 0x0210, 0x0211, 0x0212, 0x0214, 0x0310, 0x0311, 0x0312, 0x0320] then some (field args 0 4)
  else none

/-- The entry refers to a pipe that the standby lacks (R353). -/
def State.lacksPipe (s : State) (e : JournalEntry) : Bool :=
  (entryHandle e.opcode e.args).elim false fun h => !(s.cfg.entry h).exists? || s.cfg.handle (bits h 0 16) != h

/-- A list of inputs of a pipe that has no change waiting belongs to its creation, even where its START_TICK has passed at the standby. -/
def State.listsCreation (s : State) (x : Staged) : Bool :=
  decide (x.opcode ∈ [0x0200, 0x0310, 0x0311]) && (s.cfg.entry (field x.args 0 4)).changes.isEmpty

/-- A pipe that runs already at the active starts its chains here at the next tick, with the tables that have come for it (R349 step 5). -/
def State.lateChains (s : State) (i : Nat) : State :=
  let e := s.cfg.pipes.getD i {}
  let t := s.eventTick + 1
  if e.cfg.kind = 1 ∧ e.startTick < t then (s.makeChains i t).makeChangeChains i else s

/-- While the whole configuration comes, every pipe of it takes effect at the first tick boundary after the last entry so far (R349 step 5). -/
def State.deferChains (s : State) : State :=
  let late := (s.cfg.indices [1]).filter fun i => s.chainsFrom i < s.eventTick + 1
  if s.twin.reloading && !late.isEmpty then (late.foldl State.lateChains s).assignChains else s

/-- An S command of the journal is applied as its commit applies it (R339, R376). -/
def State.applyConfig (s : State) (x : Staged) : State :=
  let i := (stagedIndex x).getD 0
  let creates := x.opcode == 0x0100 || s.listsCreation x
  let s1 := if s.listsCreation x then
      { s with cfg := { s.cfg with pipes := s.cfg.pipes.modify i fun e => if e.state == .running then { e with state := .pending } else e } }
    else s
  match placeAll s1.dies s1.data.scopes (touched [x]) (s1.cfg.apply x) with
  | .error _ => s1
  | .ok c =>
    let s2 := s1.enact c [x]
    (if creates then (s2.lateChains i).assignChains else s2).refreshPipes

/-- One entry takes its effect (R339): an S command, a T command with its bytes of package memory, POLICY_SET, or a relayed update (R455). -/
def State.applyEntry (s : State) (e : JournalEntry) : State :=
  let x : Staged := { opcode := e.opcode, args := e.args, handle := e.handle, mem := e.mem }
  if e.opcode = 0x0803 then s.applyPolicy e.args
  else if e.opcode = 0x0806 ∨ e.opcode = 0x0808 ∨ e.opcode = 0x0809 then s.relayedUpdate e.opcode e.args e.mem
  else if classOf e.opcode = some .t then applyTable x s
  else s.applyConfig x

/-- The entry enters the journal of the standby, which acknowledges it with the TRANSACTION of its frames (R329, R339). Pipes that come with the whole
configuration are shadowed from the next boundary (R328, R349). Log 17 [DESIGN CHOICE]. -/
def State.noteEntry (s : State) (e : JournalEntry) (transaction : Nat) : State :=
  let s1 := s.modTwin fun t =>
    { t with journalSeq := e.seq, journalCrc := crc64From t.journalCrc (journalBytes e), history := t.history ++ [e]
             shadowFrom := if t.reloading then s.eventTick + 1 else t.shadowFrom }
  s1.sendTwin 4 transaction (leBytes 4 e.seq ++ leBytes 4 0)

/-- The parts of one entry, from the frames that carry it: JOURNAL_SEQ and PARTS are the same in each, and PART runs from 0 (R329). None when one is lacking. Log 58 [DEDUCED]. -/
def wholeEntry (fs : List Frame) : Option JournalEntry :=
  let n := fs.length
  let parts := (List.range n).filterMap fun i => fs.find? fun f => field f.payload 4 2 == i
  let seq := field ((fs.map (·.payload)).headD []) 0 4
  if n = 0 ∨ parts.length ≠ n ∨ !fs.all (fun f => field f.payload 0 4 == seq && field f.payload 6 2 == n) then none
  else some { journalEntry (parts.flatMap fun f => f.payload.drop 8) with seq := seq }

/-- An entry that came whole at an attached standby. The first entry of a whole configuration clears what the standby had; an entry out of its turn is not
applied. Log 57 [DEDUCED]. Log 58 [DEDUCED]. -/
def State.journalIn (s1 : State) (e : JournalEntry) (transaction : Nat) : State :=
  let s2 := if e.seq = 1 ∧ 1 ≤ s1.twin.journalSeq then s1.clearConfig else s1
  if e.seq ≠ s2.twin.journalSeq + 1 then s2.modTwin fun t => { t with inSync := false }
  else if s2.lacksPipe e then (s2.modTwin fun t => { t with inSync := false }).sendAttach
  else
    let s3 := (((s2.applyEntry e).noteEntry e transaction).keepSettings s1).deferChains
    (if e.opcode = 0x0808 then s3.resetNow else s3).readyCheck

/-- JOURNAL: the frames of one entry arrive (R329, R339). Log 57 [DEDUCED]. Log 58 [DEDUCED]. -/
def execJournal (first : LaneRef × Frame) (rest : List (LaneRef × Frame)) (s : State) : Host.Outcome State Fault Refusal :=
  let (fs, s1) := s.twinFrames 3 (fun n => decide (8 ≤ n)) (first :: rest)
  .next (if s1.twin.role != .standby || s1.twin.partner.isNone then s1
    else match wholeEntry fs with
    | some e => s1.journalIn e ((fs.map twinTransaction).headD 0)
    | none => s1)

end Sys2Proof.Machine
end

