-- ==== Sys2Proof/Machine/Mgmt.lean ====
section
/-! DEFINITION. The management port: MGMT_NET, sessions and datagrams (R367 to R369), ARP and neighbour discovery. -/

namespace Sys2Proof.Machine

/-- The cores and the PCIe endpoint run: in RUN, IDLE and DORMANT, out of reset (R358, R475). Log 121 [DEDUCED]. -/
def State.hostUp (s : State) : Bool := !s.power.inReset && s.power.mode != .off

/-- Changes the management port. -/
def State.modMgmt (s : State) (f : MgmtPort → MgmtPort) : State := { s with mgmt := f s.mgmt }

/-- An address lies within the permitted source prefix (R369). -/
def MgmtPort.allows (p : MgmtPort) (a : BitVec 128) : Bool := a.toNat / 2 ^ (128 - p.allowLen) == p.allow.toNat / 2 ^ (128 - p.allowLen)

/-- A session ends: an owner reset of its mailbox and lease (R363, R368, R377). An inherited lease is the session's only if it comes from the holder's address
(R378). -/
def State.endSession (s : State) (n : Nat) : State :=
  let s1 := { s with mail := { s.mail with boxes := updateAll (fun b => b.owned && b.ethernet && b.ownerId == n) Mailbox.endOwner s.mail.boxes } }
  let s2 := if s.holds { ethernet := true, id := n } then s1.breakLease 2 else s1
  s2.modMgmt fun p => { p with sessions := p.sessions.filter (·.number != n) }

/-- MGMT_NET: the settings take effect, and sessions whose address is no longer permitted close (R369). Log 64 [DEDUCED]. -/
def cmdMgmtNet : Cmd := fun _ args s =>
  let p : MgmtPort := { s.mgmt with
    addr4 := BitVec.ofNat 32 (fieldBE args 0 4), prefix4 := field args 4 1, prefix6 := field args 5 1, udpPort := orDefault (field args 6 2) 47120
    gateway4 := BitVec.ofNat 32 (fieldBE args 8 4), addr6 := BitVec.ofNat 128 (fieldBE args 12 16), gateway6 := BitVec.ofNat 128 (fieldBE args 28 16)
    allow := BitVec.ofNat 128 (fieldBE args 44 16), allowLen := field args 60 1, syslogPort := orDefault (field args 62 2) 514
    syslogAddr := BitVec.ofNat 128 (fieldBE args 64 16) }
  checked [inRange args 4 1 0 32, inRange args 5 1 0 128, inRange args 60 1 0 128, bad 61 (field args 61 1 != 0)] s fun s =>
    okay ((s.mgmt.sessions.filter fun x => !p.allows x.address).foldl (fun s x => s.endSession x.number)
      (s.modMgmt fun _ => p))

/-- MGMT_NET (R369). -/
def execMgmtNet (o : Origin) (args : List Byte) (s : State) : Host.Outcome State Fault Refusal := .next ((s.row o 0x0022 args (fixedLen 80) cmdMgmtNet).keepSettings s)

/-- The datagram's bytes as its sender forms them, without the CRC; TYPE is the row's (R367). -/
def datagramBytes (type : Nat) (d : Datagram) : List Byte :=
  leBytes 1 type ++ leBytes 1 d.mailbox ++ leBytes 2 d.session ++ leBytes 4 d.seq.toNat ++ leBytes 2 d.opcode.toNat ++ leBytes 2 d.tag.toNat
    ++ leBytes 2 d.body.length ++ leBytes 1 0 ++ leBytes 1 d.flags.toNat ++ leBytes 4 0 ++ leBytes 4 0 ++ d.body

/-- A datagram whose CRC is right and whose body fits reaches the lead core (R367, R368). -/
def State.datagramOk (s : State) (type : Nat) (d : Datagram) : Bool :=
  s.hostUp && d.crc == crc32c (datagramBytes type d) && decide (d.body.length ≤ 1024)

/-- The session of a datagram. Log 45 [DEDUCED]. -/
def State.sessionOf (s : State) (d : Datagram) : Option Session := s.mgmt.sessions.find? (·.number == d.session)

/-- Changes session n. -/
def State.modSession (s : State) (n : Nat) (f : Session → Session) : State :=
  s.modMgmt fun p => { p with sessions := updateAll (·.number == n) f p.sessions }

/-- OPEN: a session claims its mailbox, or is refused (R368). SEQ of the OPEN counts as the last one seen (log 45 [DEDUCED]). Log 119 [DEDUCED]. -/
def execMgmtOpen (d : Datagram) (s : State) : Host.Outcome State Fault Refusal :=
  let reply (s : State) (n : Nat) (st : Status) : State :=
    s.emit (.mgmt d.srcAddr d.srcPort (datagram 2 d.mailbox n d.seq.toNat 0 0 st.code 0 0 []))
  .next (if !s.datagramOk 1 d || !s.mgmt.allows d.srcAddr || decide (16 ≤ d.mailbox) then s
    else if (s.box d.mailbox).owned then reply s 0 .refusedState
    else if 8 ≤ s.mgmt.sessions.length then reply s 0 .noResource
    else
      let n := s.mgmt.lastSession % 65535 + 1
      let x : Session := { number := n, mailbox := d.mailbox, address := d.srcAddr, port := d.srcPort, events := d.flags.getLsbD 0, lastSeq := d.seq }
      let s1 := s.modMgmt fun p => { p with sessions := p.sessions ++ [x], lastSession := n }
      reply (s1.modBox d.mailbox fun b => { b with owned := true, ownerId := n, ethernet := true }) n .ok)

/-- KEEPALIVE keeps its session (R368). -/
def execMgmtKeepalive (d : Datagram) (s : State) : Host.Outcome State Fault Refusal :=
  .next (if s.datagramOk 5 d then s.modSession d.session fun x => { x with quietMs := 0 } else s)

/-- CLOSE ends its session (R368). -/
def execMgmtClose (d : Datagram) (s : State) : Host.Outcome State Fault Refusal :=
  .next (if s.datagramOk 6 d && (s.sessionOf d).isSome then s.endSession d.session else s)

/-- SESSION_TIMEOUT: no datagram of the session for 3 s (R368). Log 86 [DESIGN CHOICE]. -/
def execSessionTimeout (session : Nat) (s : State) : Host.Outcome State Fault Refusal :=
  .next (if s.mgmt.sessions.any fun x => x.number == session && decide (3000 ≤ x.quietMs) then s.endSession session else s)

/-- ARP_REQUEST: the port answers for its own address (R369). -/
def execArpRequest (target : BitVec 32) (s : State) : Host.Outcome State Fault Refusal :=
  .next (if s.hostUp && target != 0 && target == s.mgmt.addr4 then s.emit (.arpReply target) else s)

/-- NEIGHBOUR_SOLICITATION: the port answers for its own address (R369). -/
def execNeighbourSolicitation (target : BitVec 128) (s : State) : Host.Outcome State Fault Refusal :=
  .next (if s.hostUp && target != 0 && target == s.mgmt.addr6 then s.emit (.neighbourAdvert target) else s)

end Sys2Proof.Machine
end

