-- ==== Sys2Proof/Machine/Ptp.lean ====
section
/-! DEFINITION. The PTP port (R307 to R309, R322): best master clock, time stamps and measurements. What R307 takes from IEEE 1588-2019 follows that standard
(log 32 [PRESUMED]). -/

namespace Sys2Proof.Machine

/-- Changes the PTP port. -/
def State.modPtp (s : State) (f : Ptp → Ptp) : State := { s with clocks := { s.clocks with ptp := f s.clocks.ptp } }

/-- A time stamp in picoseconds: FRAC is in units of 2^(-16) ns (R300). -/
def Stamp.ps (x : Stamp) : Int := x.ns * 1000 + x.frac * 1000 / 65536

/-- The port takes a message: it is on, the domain is its own, and the kind is not one that R307 discards. -/
def Ptp.takes (p : Ptp) (h : PtpHeader) : Bool := p.mode != 0 && h.domain == p.domain && h.transport == p.transport && !h.discarded

/-- A response answers this port's own request (R307). Log 32 [PRESUMED]. -/
def answersOwn (h : PtpHeader) : Bool := h.requestingId == Config.clockIdentity && h.requestingPort == 1

/-- The route of a message kind over TRANSPORT: event messages go to port 319 and general ones to 320, peer delay messages to the addresses that are not forwarded
(R307). The multicast addresses are those of IEEE 1588-2019 (log 32 [PRESUMED]). -/
def ptpRoute (transport kind : Nat) : PtpRoute :=
  let peer := decide (5 ≤ kind)
  let port := if kind ∈ [1, 3, 5, 6] then 319 else 320
  match transport with
  | 1 => { etherType := 0x0800, udpPort := some port, dest := if peer then 0xE000006B else 0xE0000181 }
  | 2 => { etherType := 0x86DD, udpPort := some port, dest := (if peer then 0xFF02 else 0xFF0E) * 2 ^ 112 + (if peer then 0x6B else 0x181) }
  | _ => { dest := if peer then 0x0180C200000E else 0x011B19000000 }

/-- Sends a PTP message. -/
def State.sendPtp (s : State) (kind : Nat) (seq : Half) (announce : Option PtpAnnounce) (stampPs : Int) (reply : Option PtpHeader) : State :=
  s.emit (.ptp kind seq announce stampPs reply (ptpRoute s.clocks.ptp.transport kind))

/-- clockClass and timeSource (R309). -/
def State.clockClass (s : State) : Nat × Nat :=
  let d := s.clocks.dpll
  match d.state with
  | .locked => if d.code = some 3 then (6, 0x20) else if d.code = some 4 then (52, 0x40) else (52, 0xA0)
  | .holdover => (if d.holdoverS < 3600 then 7 else 187, 0xA0)
  | _ => (248, 0xA0)

/-- The data set that the port announces of its own clock (R309). Log 31 [DESIGN CHOICE]. -/
def State.ownAnnounce (s : State) : PtpAnnounce :=
  let p := s.clocks.ptp
  let (cls, src) := s.clockClass
  { header := { domain := p.domain, sourceId := Config.clockIdentity, seq := p.seqAnnounce }
    priority1 := p.priority1, clockClass := cls, accuracy := Config.clockQuality.1, variance := Config.clockQuality.2, priority2 := p.priority2
    grandmaster := Config.clockIdentity, stepsRemoved := 0, utcOffset := s.cal.offset, utcOffsetValid := s.cal.set, ptpTimescale := true, timeSource := src }

/-- The order of the data set comparison: lower is better. Log 32 [PRESUMED]. -/
def announceKey (a : PtpAnnounce) : List Nat :=
  [a.priority1, a.clockClass, a.accuracy, a.variance, a.priority2, a.grandmaster.toNat, a.stepsRemoved, a.header.sourceId.toNat, a.header.sourcePort]

/-- Lexicographic order. Log 32 [PRESUMED]. -/
def lexLess : List Nat → List Nat → Bool
  | a :: l, b :: m => decide (a < b) || (a == b && lexLess l m)
  | _, _ => false

/-- A data set is better than another. Log 32 [PRESUMED]. -/
def better (a b : PtpAnnounce) : Bool := lexLess (announceKey a) (announceKey b)

/-- The same port sent both. -/
def samePort (a b : PtpAnnounce) : Bool := a.header.sourceId == b.header.sourceId && a.header.sourcePort == b.header.sourcePort

/-- PTP_MASTER_CHANGED with the new master's clockIdentity (R325). -/
def State.masterChanged (s : State) (id : Dword) : State := s.raise 0x040A 0xFF (leBytes 8 id.toNat)

/-- The port becomes master; the PTP input is then not qualified (R291, R309). -/
def State.becomeMaster (s : State) : State :=
  if s.clocks.ptp.role = .master then s
  else ((s.modPtp fun p => { p with role := .master }).masterChanged Config.clockIdentity).disqualify 4 5

/-- The window in which a foreign master must be heard twice: four announce intervals, nanoseconds (R307). Log 32 [PRESUMED]. -/
def Ptp.foreignWindow (p : Ptp) : Nat := 4 * 2 ^ p.logAnnounce.toNat * nsPerSec

/-- A foreign master is qualified: two of its Announces came within the window (R307). Log 32 [PRESUMED]. -/
def Ptp.qualifiedMaster (p : Ptp) (now : Nat) (f : ForeignMaster) : Bool :=
  match f.times with
  | _ :: earlier :: _ => decide (now ≤ earlier + p.foreignWindow)
  | _ => false

/-- An Announce is entered in the record of its sender (R307). -/
def Ptp.hear (p : Ptp) (a : PtpAnnounce) (now : Nat) : List ForeignMaster :=
  let earlier := ((p.foreign.find? fun f => samePort a f.announce).map (·.times)).getD []
  { announce := a, times := (now :: earlier).take 2 } :: p.foreign.filter fun f => !samePort a f.announce

/-- The best of the chosen master, as it last announced itself, and of every qualified foreign master (R307). Log 32 [PRESUMED]. -/
def Ptp.choose (p : Ptp) (a : PtpAnnounce) (now : Nat) : Option PtpAnnounce :=
  let chosen := p.best.map fun b => if samePort a b then a else b
  (((p.hear a now).filter (p.qualifiedMaster now)).map (·.announce)).foldl (fun b x => match b with
    | none => some x
    | some y => if better x y then some x else b) chosen

/-- The own data set that the state decision compares: a clock that follows the PTP input itself counts as one with no source (R309). Log 32 [PRESUMED]. -/
def State.decisionData (s : State) : PtpAnnounce :=
  if s.clocks.dpll.code = some 4 then { s.ownAnnounce with clockClass := 248 } else s.ownAnnounce

/-- The state decision against the best foreign master: a better own clock makes a master; a worse one of clockClass 1 to 127 leaves a master-capable port passive;
else the port is a slave, and the tests of R291 on its master apply (R307). Log 32 [PRESUMED]. -/
def State.stateDecision (s : State) (b : PtpAnnounce) (changed : Bool) : State :=
  let p := s.clocks.ptp
  let own := s.decisionData
  if p.mode = 2 ∧ better own b then s.becomeMaster
  else
    let s1 := if changed || p.role == .master then s.masterChanged b.header.sourceId else s
    if p.mode = 2 ∧ 1 ≤ own.clockClass ∧ own.clockClass ≤ 127 then (s1.modPtp fun p => { p with role := .passive, syncWait := none }).disqualify 4 2
    else
      let s2 := s1.modPtp fun p => { p with role := .slave }
      if !b.ptpTimescale then s2.disqualify 4 3 else if 187 < b.clockClass then s2.disqualify 4 4 else s2

/-- PTP_ANNOUNCE: the best master clock algorithm (R307), and the tests of R291 on the chosen master. Log 32 [PRESUMED]. Log 173 [DEDUCED]. -/
def execPtpAnnounce (a : PtpAnnounce) (s : State) : Host.Outcome State Fault Refusal :=
  let p := s.clocks.ptp
  .next (if !s.clocksRun || !p.takes a.header || a.grandmaster == Config.clockIdentity || decide (255 ≤ a.stepsRemoved) then s
  else
    let best := p.choose a s.timeNs
    let s1 := s.modPtp fun p =>
      { p with foreign := p.hear a s.timeNs, best := best, leapPassed := p.leapPassed && !(best.map (samePort a)).getD false }
    match best with
    | none => s1
    | some b => s1.stateDecision b (!(p.best.map (samePort b)).getD false))

/-- The message comes from the chosen master, and the port is a slave. -/
def Ptp.fromMaster (p : Ptp) (h : PtpHeader) : Bool :=
  p.takes h && p.role == .slave && (p.best.map fun b => b.header.sourceId == h.sourceId && b.header.sourcePort == h.sourcePort) == some true

/-- A whole Sync: t1 and t2 are noted, and the offset from the master is a measurement of PTP (R302, R307, R308). Log 32 [PRESUMED]. -/
def State.syncMeasured (s : State) (t1 t2 : Int) : State :=
  let p := s.clocks.ptp
  (s.modPtp fun p => { p with t1 := t1, t2 := t2, syncWait := none }).measure 4 (t2 - t1 - p.meanDelayPs - p.asymmetryPs)

/-- Receipt at the package lands: RX_LATENCY_PS corrects for the board (R308). -/
def Ptp.received (p : Ptp) (rx : Stamp) : Int := Stamp.ps rx - p.rxLatencyPs

/-- Sending at the package lands (R308). -/
def Ptp.sent (p : Ptp) (tx : Stamp) : Int := Stamp.ps tx + p.txLatencyPs

/-- PTP_SYNC (R307). -/
def execPtpSync (h : PtpHeader) (twoStep : Bool) (origin rx : Stamp) (s : State) : Host.Outcome State Fault Refusal :=
  let p := s.clocks.ptp
  .next (if !s.clocksRun || !p.fromMaster h then s
  else if twoStep then s.modPtp fun p => { p with syncWait := some (h.seq, p.received rx - h.correctionNs * 1000) }
  else s.syncMeasured (Stamp.ps origin + h.correctionNs * 1000) (p.received rx))

/-- PTP_FOLLOW_UP (R307). -/
def execPtpFollowUp (h : PtpHeader) (origin : Stamp) (s : State) : Host.Outcome State Fault Refusal :=
  let p := s.clocks.ptp
  .next (match p.syncWait with
    | some (seq, rx) => if s.clocksRun ∧ p.fromMaster h ∧ seq = h.seq then s.syncMeasured (Stamp.ps origin + h.correctionNs * 1000) rx else s
    | none => s)

/-- PTP_DELAY_REQ at a master port: answered with the receipt (R307). -/
def execPtpDelayReq (h : PtpHeader) (rx : Stamp) (s : State) : Host.Outcome State Fault Refusal :=
  let p := s.clocks.ptp
  .next (if s.clocksRun && p.takes h && p.role == .master && !p.peerDelay then s.sendPtp 4 h.seq none (p.received rx) (some h) else s)

/-- PTP_DELAY_RESP at a slave port: the mean path delay (R307). Log 32 [PRESUMED]. -/
def execPtpDelayResp (h : PtpHeader) (receipt : Stamp) (s : State) : Host.Outcome State Fault Refusal :=
  let p := s.clocks.ptp
  .next (if s.clocksRun && p.fromMaster h && answersOwn h && !p.peerDelay && h.seq == p.seqDelay then
    let t4 := Stamp.ps receipt - h.correctionNs * 1000
    s.modPtp fun p => { p with meanDelayPs := ((p.t2 - p.t1) + (t4 - p.t3)) / 2 }
  else s)

/-- PTP_PDELAY_REQ in the peer-to-peer profile: the answer, with its follow-up when the port is two-step (R307, R308). -/
def execPtpPdelayReq (h : PtpHeader) (rx tx : Stamp) (s : State) : Host.Outcome State Fault Refusal :=
  let p := s.clocks.ptp
  .next (if s.clocksRun && p.takes h && p.peerDelay then
    if p.oneStep then s.sendPtp 6 h.seq none (p.sent tx - p.received rx) (some h)
    else (s.sendPtp 6 h.seq none (p.received rx) (some h)).sendPtp 7 h.seq none (p.sent tx) (some h)
  else s)

/-- PTP_PDELAY_RESP, or its follow-up: the mean path delay to the peer (R307). Log 32 [PRESUMED]. -/
def execPtpPdelayResp (h : PtpHeader) (followUp twoStep : Bool) (stamp rx : Stamp) (s : State) : Host.Outcome State Fault Refusal :=
  let p := s.clocks.ptp
  .next (if !(s.clocksRun && p.takes h && answersOwn h && p.peerDelay && h.seq == p.seqDelay) then s
  else if followUp then match p.pdelayWait with
    | some (t4, t2) => s.modPtp fun p =>
        { p with pdelayWait := none, meanDelayPs := ((t4 - p.t3) - (Stamp.ps stamp - t2) - h.correctionNs * 1000) / 2 }
    | none => s
  else if twoStep then s.modPtp fun p => { p with pdelayWait := some (p.received rx, Stamp.ps stamp - h.correctionNs * 1000) }
  else s.modPtp fun p => { p with meanDelayPs := (p.received rx - p.t3 - h.correctionNs * 1000) / 2 })

/-- PTP_ANNOUNCE_TIMEOUT: no Announce, or no Sync, from the chosen master in time (R291); a master-capable port without one becomes master (R307). -/
def execPtpAnnounceTimeout (sync : Bool) (s : State) : Host.Outcome State Fault Refusal :=
  .next (if s.clocks.ptp.mode = 0 ∨ !s.clocksRun then s
  else if sync then s.disqualify 4 2
  else
    let s1 := (s.modPtp fun p =>
      { p with best := none, role := if p.role = .slave ∨ p.role = .passive then .listening else p.role
               foreign := p.foreign.filter fun f => !(p.best.map (samePort f.announce)).getD false }).disqualify 4 1
    if s.clocks.ptp.mode = 2 then s1.becomeMaster else s1)

/-- PTP_TX_INTERVAL: 0 Announce and 1 Sync of a master, 2 a delay request (R307, R308). -/
def execPtpTxInterval (what : Nat) (tx : Stamp) (s : State) : Host.Outcome State Fault Refusal :=
  let p := s.clocks.ptp
  let t := p.sent tx
  .next (if p.mode = 0 ∨ !s.clocksRun then s
  else if what = 0 then
    if p.role = .master then (s.sendPtp 0 p.seqAnnounce (some s.ownAnnounce) 0 none).modPtp fun p => { p with seqAnnounce := p.seqAnnounce + 1 } else s
  else if what = 1 then
    if p.role = .master then
      let s1 := s.sendPtp 1 p.seqSync none (if p.oneStep then t else 0) none
      let s2 := if p.oneStep then s1 else s1.sendPtp 2 p.seqSync none t none
      s2.modPtp fun p => { p with seqSync := p.seqSync + 1 }
    else s
  else if p.peerDelay then (s.sendPtp 5 (p.seqDelay + 1) none 0 none).modPtp fun p => { p with seqDelay := p.seqDelay + 1, t3 := t, pdelayWait := none }
  else if p.role = .slave then (s.sendPtp 3 (p.seqDelay + 1) none 0 none).modPtp fun p => { p with seqDelay := p.seqDelay + 1, t3 := t }
  else s)

/-- PTP_CONFIG: the port restarts and the PTP input must qualify again (R322). -/
def cmdPtpConfig : Cmd := fun _ args s =>
  let f := field args 1 1
  let signedIn (off : Nat) (lo hi : Int) : Bool × Reason × Nat := bad off (decide (fieldS args off 1 < lo) || decide (hi < fieldS args off 1))
  checked ([inRange args 0 1 0 2, bad 1 (decide (16 ≤ f) || f / 4 == 3), inRange args 2 1 0 127, signedIn 5 0 4, signedIn 6 (-1) 1, signedIn 7 0 5,
      inRange args 8 1 2 10] ++ reserved args 9 3 ++ [inRange args 12 4 0 1000000, inRange args 16 4 0 1000000, signedRange args 20 4 1000000]) s fun s =>
    let mode := field args 0 1
    let s1 := s.modPtp fun _ =>
      { mode := mode, oneStep := f.testBit 0, peerDelay := f.testBit 1, transport := f / 4 % 4, domain := field args 2 1, priority1 := field args 3 1
        priority2 := field args 4 1, logAnnounce := fieldS args 5 1, logSync := fieldS args 6 1, logDelay := fieldS args 7 1
        announceTimeout := field args 8 1, txLatencyPs := field args 12 4, rxLatencyPs := field args 16 4, asymmetryPs := fieldS args 20 4
        role := if mode = 0 then .disabled else .listening }
    okay (s1.disqualify 4 7)

/-- PTP_CONFIG (R322). -/
def execPtpConfig (o : Origin) (args : List Byte) (s : State) : Host.Outcome State Fault Refusal :=
  .next (s.row o 0x0505 args (fixedLen 24) cmdPtpConfig)

end Sys2Proof.Machine
end

