-- ==== Sys2Proof/Machine/Mailbox.lean ====
section
/-! DEFINITION. What a rung mailbox runs (R364, R374, R477), the host's register rows (R359 to R364, R380 to R391), DMA transfers (R386 to R389), BAR2
(R361), the SMBus target (R392), REQUEST (R368), and the requests of the matrix (R409, R417). -/

namespace Sys2Proof.Machine

/-! ### The lead core takes a command (R364) -/

/-- The command of an opcode: the test of its length and what it does (R393). FW_STAGE and UNIT_RESTORE take operands from outside besides. Log 128 [DESIGN CHOICE]. -/
def commandOf : Nat → Option ((List Byte → Option Nat) × Cmd)
  | 0x0001 => some (fixedLen 0, cmdNop)
  | 0x0010 => some (fixedLen 4, cmdConfigLock)
  | 0x0011 => some (fixedLen 0, cmdConfigCommit)
  | 0x0012 => some (fixedLen 0, cmdConfigAbort)
  | 0x0013 => some (fixedLen 0, cmdLockStatus)
  | 0x0020 => some (fixedLen 4, cmdPositionSet)
  | 0x0021 => some (fixedLen 36, cmdTickConfig)
  | 0x0022 => some (fixedLen 80, cmdMgmtNet)
  | 0x0100 => some (pipeLen, cmdPipeCreate)
  | 0x0101 => some (pipeLen, cmdPipeModify)
  | 0x0102 => some (fixedLen 16, cmdPipeDestroy)
  | 0x0103 => some (fixedLen 4, cmdPipeList)
  | 0x0200 => some (listLen 8 8 4 2, cmdIngestInputs)
  | 0x0201 => some (fixedLen 20, cmdOffsetFreeze)
  | 0x0202 => some (fixedLen 8, cmdIngestStats)
  | 0x0210 => some (listLen 16 12 4 2, cmdTurnDestSet)
  | 0x0211 => some (listLen 16 36 14 2, cmdDelayLoad)
  | 0x0212 => some (listLen 20 4 8 2, cmdGainLoad)
  | 0x0213 => some (fixedLen 12, cmdGainRead)
  | 0x0214 => some (listLen 12 4 6 2, cmdWindowLoad)
  | 0x0300 => some (fixedLen 8, cmdCorrStats)
  | 0x0301 => some (fixedLen 4, cmdTileMap)
  | 0x0310 => some (listLen 8 8 4 2, cmdBeamInputs)
  | 0x0311 => some (listLen 8 8 4 2, cmdBeamContrib)
  | 0x0312 => some (fixedLen 40, cmdWeightLoad)
  | 0x0313 => some (fixedLen 8, cmdBeamStats)
  | 0x0320 => some (listLen 8 32 4 2, cmdSinkDest)
  | 0x0321 => some (fixedLen 4, cmdSinkStats)
  | 0x0400 => some (fixedLen 8, cmdLaneConfig)
  | 0x0401 => some (fixedLen 8, cmdSparePeer)
  | 0x0402 => some (fixedLen 4, cmdLaneSpare)
  | 0x0403 => some (fixedLen 24, cmdLaneControlIn)
  | 0x0404 => some (fixedLen 4, cmdLaneStatus)
  | 0x0405 => some (fixedLen 8, cmdLaneTest)
  | 0x0406 => some (fixedLen 8, cmdLaneEye)
  | 0x0500 => some (fixedLen 24, cmdRefConfig)
  | 0x0501 => some (fixedLen 20, cmdRefInputConfig)
  | 0x0502 => some (fixedLen 4, cmdClockSteer)
  | 0x0503 => some (fixedLen 16, cmdTimeSet)
  | 0x0504 => some (fixedLen 20, cmdLogTimeSet)
  | 0x0505 => some (fixedLen 24, cmdPtpConfig)
  | 0x0506 => some (fixedLen 16, cmdPulseConfig)
  | 0x0507 => some (fixedLen 0, cmdClockStatus)
  | 0x0508 => some (fixedLen 4, cmdRefTimeAccept)
  | 0x0600 => some (fixedLen 8, cmdTwinConfig)
  | 0x0601 => some (fixedLen 12, cmdTwinSwitch)
  | 0x0602 => some (fixedLen 0, cmdTwinDetach)
  | 0x0603 => some (fixedLen 0, cmdTwinStatus)
  | 0x0700 => some (fixedLen 4, cmdMatrixPriority)
  | 0x0701 => some (fixedLen 4, cmdMatrixSlices)
  | 0x0702 => some (fixedLen 4, cmdHbmStatus)
  | 0x0703 => some (fixedLen 4, cmdHbmHammerConfig)
  | 0x0704 => some (fixedLen 4, cmdSramMap)
  | 0x0800 => some (fixedLen 4, cmdKilnRun)
  | 0x0801 => some (fixedLen 4, cmdKilnStatus)
  | 0x0803 => some (fixedLen 16, cmdPolicySet)
  | 0x0804 => some (fixedLen 0, cmdHealthStatus)
  | 0x0805 => some (fixedLen 13, cmdLogRead)
  | 0x0807 => some (fixedLen 0, cmdFwStatus)
  | 0x0808 => some (fixedLen 4, cmdFwActivate)
  | 0x0809 => some (fixedLen 12, cmdOwnerSeal)
  | 0x080A => some (fixedLen 0, cmdHoldupStatus)
  | 0x0900 => some (fixedLen 4, cmdPowerState)
  | 0x0901 => some (fixedLen 4, cmdVcoreOverride)
  | 0x0902 => some (fixedLen 4, cmdCrateConfig)
  | 0x0903 => some (fixedLen 0, cmdCrateStatus)
  | 0x0904 => some (fixedLen 0, cmdSensorRead)
  | 0x0905 => some (fixedLen 4, cmdPackageReset)
  | _ => none

/-- A measurement that nobody chose (log 46 [DESIGN CHOICE]). -/
def State.freshReading (s : State) : KilnReading × Bool × State :=
  let (a, s1) := s.fresh
  let (b, s2) := s1.fresh
  let (c, s3) := s2.fresh
  ({ passed := a % 2 == 1, temp := toSigned 12 (b % 4096) }, c % 2 == 1, s3)

/-- Runs one opcode for its sender. Log 46 [DESIGN CHOICE]. Log 128 [DESIGN CHOICE]. -/
def State.runOpcode (s : State) (o : Origin) (op : Nat) (args : List Byte) (tooLong : Bool) : State :=
  let len (f : List Byte → Option Nat) : Option Nat := if tooLong then some 0 else f args
  let s1 :=
    if op = 0x0806 then
      let (host, t) := s.freshBytes (if (field args 16 8).testBit 63 then field args 8 4 else 0)
      t.runCommand o op args (len (fixedLen 24)) (cmdFwStage host)
    else if op = 0x0802 then
      let (r, fault, t) := s.freshReading
      t.runCommand o op args (len (fixedLen 4)) (cmdUnitRestore r fault)
    else match commandOf op with
      | some (f, cmd) => s.runCommand o op args (len f) cmd
      | none => s.runCommand o op args (len fun _ => none) fun _ _ s => okay s
  s1.afterCommand op

/-- The lead core takes commands: from the end of start-up step 3, or in recovery mode (R451, R477). -/
def State.serves (s : State) : Bool := !s.power.inReset && (decide (3 ≤ s.power.stage) || s.health.fw.recovery)

/-- The command that waits in mailbox m is run. Log 127 [DEDUCED]. -/
def State.runBox (s : State) (m : Nat) : State :=
  let b := s.box m
  match b.waiting with
  | none => s
  | some o =>
    let n := b.argLen.toNat
    State.runOpcode (s.modBox m fun b => { b with waiting := none }) o b.opcode.toNat (b.message.take n) (decide (1024 < n))

/-- Waiting commands are run, in order of mailbox. Log 127 [DEDUCED]. -/
def State.serveWaiting (s : State) : State :=
  (List.range 16).foldl (fun s m => if s.serves then s.runBox m else s) s

/-! ### Register rows (R359 to R364, R380, R384, R385, R390, R391) -/

/-- A register access that the host makes while the endpoint is up. Log 121 [DEDUCED]. Log 166 [DESIGN CHOICE]. -/
def State.hostAccess (s : State) (f : State → State) : State := if s.hostUp then (f s).serveWaiting else s

/-- MAILBOX_CLAIM (R363). -/
def execMailboxClaim (who m : Nat) (s : State) : Host.Outcome State Fault Refusal := .next (s.hostAccess fun s => s.claimBox (some who) m)

/-- MAILBOX_RELEASE (R363). -/
def execMailboxRelease (who m : Nat) (s : State) : Host.Outcome State Fault Refusal := .next (s.hostAccess fun s => s.releaseBox (some who) m)

/-- RING (R364). Log 128 [DESIGN CHOICE]. -/
def execRing (who m : Nat) (s : State) : Host.Outcome State Fault Refusal := .next (s.hostAccess fun s => s.ringBox (some who) m)

/-- EQ_CONS_WRITE (R380). -/
def execEqConsWrite (v : Word) (s : State) : Host.Outcome State Fault Refusal := .next (s.hostAccess fun s => s.writeEqCons v)

/-- CQ_CONS_WRITE (R380, R384). -/
def execCqConsWrite (c : Nat) (v : Word) (s : State) : Host.Outcome State Fault Refusal := .next (s.hostAccess fun s => s.writeCqCons c v)

/-- EQ_DROPPED_READ: the read returns the counter and clears it (R10, R385). -/
def execEqDroppedRead (s : State) : Host.Outcome State Fault Refusal :=
  .next (s.hostAccess fun s => let (v, s1) := s.readReg 0x20010; s1.emit (.readValue 0x20010 v))

/-- INT_CAUSE_CLEAR (R391). -/
def execIntCauseClear (v : Word) (s : State) : Host.Outcome State Fault Refusal := .next (s.hostAccess fun s => s.clearCauses v)

/-- INT_MASK_WRITE (R391). -/
def execIntMaskWrite (v : Word) (s : State) : Host.Outcome State Fault Refusal := .next (s.hostAccess fun s => s.writeMask v)

/-- REGISTER_WRITE: a PCIe write of a BAR0 offset (R359). -/
def execRegisterWrite (who off : Nat) (v : Word) (s : State) : Host.Outcome State Fault Refusal :=
  .next (s.hostAccess fun s => s.writeReg .pcie (some who) off v)

/-- HELD_COMPLETION_PUSH: held completions enter queues that have a free slot (R384). -/
def execHeldCompletionPush (s : State) : Host.Outcome State Fault Refusal := .next ((List.range 4).foldl (fun s c => State.releaseHeld 16 c s) s)

/-- EQ_IRQ_DELAY_EXPIRY: a queue that stayed non-empty for IRQ_DELAY_US sets cause EQ (R391). -/
def execEqIrqDelayExpiry (s : State) : Host.Outcome State Fault Refusal :=
  .next (if s.events.irqDelayUs ≠ 0 ∧ s.events.depth ≠ 0 then (s.modEvents fun q => { q with delayed := true }).setCause 0 else s)

/-- ALIVE_INCREMENT: every 1 ms while the lead core runs; the lease and the sessions' silence run with it (R360, R368, R375). -/
def execAliveIncrement (s : State) : Host.Outcome State Fault Refusal :=
  .next (if s.serves then
    let s1 := s.modRegs fun r => { r with alive := r.alive + 1 }
    let s2 := s1.modMgmt fun p => { p with sessions := p.sessions.map fun x => { x with quietMs := x.quietMs + 1 } }
    if s.lease.owner.isSome then { s2 with lease := { s2.lease with leftMs := s2.lease.leftMs - 1 } } else s2
  else s)

/-! ### DMA (R386 to R389) -/

/-- DMA_START: a write of offset 0x20 with START (R386, R387). -/
def execDmaStart (h : Nat) (ctrl : Word) (s : State) : Host.Outcome State Fault Refusal := .next (s.hostAccess fun s => s.dmaControl h (ctrl ||| 0x80000000))

/-- DMA_ABORT: a write of offset 0x20 with ABORT (R386, R389). -/
def execDmaAbort (h : Nat) (ctrl : Word) (s : State) : Host.Outcome State Fault Refusal := .next (s.hostAccess fun s => s.dmaControl h (ctrl ||| 0x40000000))

/-- `n` bytes that a channel reads (R387): host memory's are given; of a fixed address every 4-byte access is made. -/
def State.dmaRead (s : State) (base : Dword) (fixed : Bool) (host : List Byte) (n : Nat) : List Byte × State :=
  if isHost base then (padTo n host, s)
  else if fixed then
    (List.range ((n + 3) / 4)).foldl (fun (acc : List Byte × State) _ =>
      let (b, t) := acc.2.busRead base.toNat 4
      (acc.1 ++ b, t)) ([], s)
  else s.busRead base.toNat n

/-- A channel writes bytes (R387). -/
def State.dmaWrite (s : State) (base : Dword) (fixed : Bool) (d : List Byte) : State :=
  if isHost base then s.emit (.hostWrite (base.toNat % 2 ^ 63) d)
  else if fixed then (List.range (d.length / 4)).foldl (fun s k => s.busWrite .dma none base.toNat ((d.drop (4 * k)).take 4)) s
  else s.busWrite .dma none base.toNat d

/-- What a channel's transfer writes (R388). With BARRIER, all of it; without, the last writes to package memory may still be under way at DONE, as many as
nobody chose; at a fixed address the last access. Log 164 [DESIGN CHOICE]. -/
def State.dmaIssue (s : State) (h : Nat) (d : List Byte) : State :=
  let c := s.dmaChannel h
  let fd := c.mode.getLsbD 3
  if c.mode.getLsbD 4 || isHost c.dst || inRegs c.dst.toNat then s.dmaWrite c.dst fd d
  else
    let (k, s1) := s.someOf fd d.length
    let rest := if k = d.length then [] else if fd then [(c.dst.toNat, d.drop (d.length - 4))] else [(c.dst.toNat + k, d.drop k)]
    (s1.dmaWrite c.dst fd (d.take k)).modDma h fun c => { c with late := c.late ++ rest }

/-- Where a write of `n` bytes reads a word of HBM first, because it covers only part of it: the bytes written before that (R405). -/
def State.rmwAt (s : State) (base : Dword) (fixed : Bool) (n : Nat) : List Nat :=
  if isHost base || !s.inHbm base.toNat || n = 0 then []
  else if fixed then (List.range (n / 4)).map (4 * ·)
  else
    let stop := base.toNat + n
    (if base.toNat % 32 = 0 then [] else [0]) ++ (if stop % 32 = 0 then [] else [stop / 32 * 32 - base.toNat])

/-- What a word met leaves (R405, R410, R412). An uncorrectable word of a stack: the channel stops with code 4 where it was read, among `n` bytes of the source, or before a write of part of a word.
The row says what was met and not where: nobody chose it (R389, R405, R410, log 46 [DESIGN CHOICE]). -/
def State.dmaEcc (s : State) (c : DmaChannel) (op : Nat) (ecc : EccSeen) (n : Nat) : Nat × Bool × State :=
  let read (b : Dword) : List (Nat × Nat) :=
    if isHost b || !(s.inHbm b.toNat || s.inSram b.toNat) then [] else (List.range n).map fun i => (b.toNat + i, i)
  let inSram : Bool := match ecc with
    | .sram _ => true
    | _ => false
  let seen := ((if op = 1 then [] else read c.src) ++
    (if op = 2 then read c.dst else (s.rmwAt c.dst (c.mode.getLsbD 3) n).map fun k => (c.dst.toNat + k, k))).filter fun x => !inSram || s.inSram x.1
  if seen.isEmpty || ecc = .clean then (n, false, s)
  else
    let (v, s1) := s.fresh
    let x := seen.getD (v % seen.length) (0, 0)
    let s2 := if s.inSram x.1 then s1.sramRead x.1 (sramMet ecc) else s1.eccRead (dieOfAddr x.1) x.1 ecc
    if ecc = .uncorrectable ∧ s.inSram x.1 = false then (x.2, true, s2) else (n, false, s2)

/-- Compare: the first difference stops it (R387). Log 117 [DEDUCED]. -/
def State.dmaCompare (s : State) (h : Nat) (a b : List Byte) : State :=
  match (List.range a.length).find? fun i => a.getD i 0 != b.getD i 0 with
  | some i => s.modDma h fun c => { c with mismatch := true, mismatchOffset := BitVec.ofNat 32 i }
  | none => s

/-- A channel's whole transfer, to its end or to the access that stops it (R387 to R389); one that reaches no target is reported with its address (R418, R425). Log 47 [DESIGN CHOICE]. Log 117 [DEDUCED]. -/
def State.dmaRun (s : State) (h : Nat) (host : List Byte) (masterOff : Bool) (ecc : EccSeen) : State :=
  let c := s.dmaChannel h
  let (op, s0) := s.dmaOp c
  let n := c.count.toNat
  let fs := c.mode.getLsbD 2
  let fd := c.mode.getLsbD 3
  let reads := op != 1
  if masterOff && ((reads && isHost c.src) || isHost c.dst) then s0.dmaError h 3
  else
    let src := if reads then s0.dmaStop c.src fs false n else n
    let stop := min src (s0.dmaStop c.dst fd (op != 2) n)
    let missed := (if src = stop then dmaAddr c.src fs stop else dmaAddr c.dst fd stop) % 2 ^ 40
    let (good, broken, s1) := s0.dmaEcc c op ecc stop
    let finish (s : State) : State := if broken then s.dmaError h 4 else if stop < n then (s.dmaError h 1).defaultTarget .dma 0 missed else s.dmaDone h
    if op = 1 then
      finish (s1.dmaIssue h (c.fillBytes good))
    else
      let (a, s2) := s1.dmaRead c.src fs host good
      if op = 2 then
        let (b, s3) := s2.dmaRead c.dst fd (if isHost c.src then host.drop n else host) good
        let s4 := s3.dmaCompare h (a.take good) b
        if (List.range good).any (fun i => a.getD i 0 != b.getD i 0) then s4.dmaDone h else finish s4
      else
        let (d, s3) := s2.overlapped c (a.take good)
        finish (s3.dmaIssue h d)

/-- A channel's accesses go to a stack whose real-time port is in panic (R407). Log 161 [DEDUCED]. -/
def State.dmaStalled (s : State) (h : Nat) : Bool :=
  let c := s.dmaChannel h
  let on (a : Dword) (fixed : Bool) (d : Nat) : Bool :=
    !isHost a && decide (a.toNat < (d + 1) * 2 ^ 36 ∧ d * 2 ^ 36 < a.toNat + (if fixed then 4 else c.count.toNat))
  (List.range s.dies).any fun d => (s.stack d).panic && ((c.op != 1 && on c.src (c.mode.getLsbD 2) d) || on c.dst (c.mode.getLsbD 3) d)

/-- Transfers whose accesses no panic delays any more come to their end (R407). Log 161 [DEDUCED]. -/
def State.dmaResume (s : State) : State :=
  (List.range s.dma.length).foldl (fun s h =>
    match (s.dmaChannel h).waits with
    | some (host, masterOff, ecc) =>
      if s.dmaStalled h then s
      else
        let s1 := s.modDma h fun c => { c with waits := none }
        if (s.dmaChannel h).busy then s1.dmaRun h host masterOff ecc else s1
    | none => s) s

/-- DMA_TRANSFER_DONE: a busy channel comes to its end (R387 to R389), behind a real-time port in panic when that ends (R407). Log 8 [DESIGN CHOICE]. Log 161 [DEDUCED]. -/
def execDmaTransferDone (h : Nat) (host : List Byte) (masterOff : Bool) (ecc : EccSeen) (s : State) : Host.Outcome State Fault Refusal :=
  .next (if (s.dmaChannel h).busy then
    (if s.dmaStalled h then s.modDma h fun c => { c with waits := some (host, masterOff, ecc) } else s.dmaRun h host masterOff ecc).serveWaiting
  else s)

/-! ### BAR2 (R361) -/

/-- BAR2_ACCESS: an access of PCIe requester `who` to package address WIN_SEL x 0x10_0000_0000 + off (R361, R398, R405, R410, R412, R418); one to a stack takes
its turn at the matrix and the controller (R407, R409, R416, R417). Log 120 [DEDUCED]. -/
def State.bar2 (s : State) (who : Nat) (write : Bool) (off len : Nat) (data : List Byte) (ecc : EccSeen) : State :=
  let a := s.regs.winSel.toNat * 2 ^ 36 + off
  let n := if write then data.length else len
  if !s.reaches .pcie 0 write a n then
    let s1 := s.defaultTarget .pcie 0 a
    if write then s1 else s1.emit (.pcieData (List.replicate len 0xFF) false)
  else if s.inHbm a then
    let r : MatrixRequest := { write := write, addr := a, len := len, data := data }
    if s.holdsBack (s.fabric.held.map (·.1)) r then { s with fabric := { s.fabric with held := s.fabric.held ++ [(r, s.timeNs)] } }
    else s.name (dieOfAddr a) r false ecc
  else if write then s.busWrite .pcie (some who) a data
  else
    let (d, s1) := (s.sramRead a (sramMet ecc)).busRead a len
    s1.emit (.pcieData d false)

/-- BAR2_ACCESS (R361). Log 120 [DEDUCED]. -/
def execBar2Access (who : Nat) (write : Bool) (off len : Nat) (data : List Byte) (ecc : EccSeen) (s : State) : Host.Outcome State Fault Refusal :=
  .next (s.hostAccess fun s => s.bar2 who write off len data ecc)

/-! ### The matrix (R409, R417) -/

/-- HBM_REQUEST (R409). -/
def execHbmRequest (die : Nat) (r : MatrixRequest) (realTime : Bool) (fill : Nat) (ecc : EccSeen) (s : State) : Host.Outcome State Fault Refusal :=
  .next (s.hbmRequest die r realTime fill ecc).dmaResume.serveWaiting

/-- MATRIX_REQUEST (R417). Log 123 [DESIGN CHOICE]. Log 8 [DESIGN CHOICE]. -/
def execMatrixRequest (r : MatrixRequest) (s : State) : Host.Outcome State Fault Refusal := .next (s.matrixRequest r).serveWaiting

/-! ### SMBus (R392) -/

/-- The SMBus address: 0x58 + SMB_ADDR (R392, R491). -/
def State.smbusAddress (s : State) : Nat := 0x58 + s.ident.smbAddr

/-- The BAR0 offset that the pointer selects: [15] the identity page, else the calendar mirror (R392). -/
def smbusOffset (p : Half) : Nat := (if p.getLsbD 15 then 0 else 0x50000) + p.toNat % 4096

/-- The pointer 4 further on. -/
def smbusNext (p : Half) : Half := BitVec.ofNat 16 (p.toNat / 4096 * 4096 + (p.toNat + 4) % 4096)

/-- The SMBus target answers while VDD_AUX is present (R471): its identity page while the main rails are up, the calendar always (R358, R392). Log 177 [DEDUCED]. -/
def State.smbusUp (s : State) : Bool := !s.cal.fromVbat && (!s.regs.smbusPointer.getLsbD 15 || s.power.mode != .off)

/-- Registers that SMBus may write: not RO (R315, R360, R392). Log 118 [DEDUCED]. -/
def smbusWritable (off : Nat) : Bool :=
  decide (off ∈ [0x024, 0x03C, 0x50010, 0x50014, 0x50018, 0x5001C, 0x50020, 0x50024, 0x50028])

/-- SMBUS_SET_POINTER (R392). Log 118 [DEDUCED]. Log 177 [DEDUCED]. -/
def execSmbusSetPointer (v : Half) (s : State) : Host.Outcome State Fault Refusal :=
  .next (if s.cal.fromVbat then s.emit (.smbus s.smbusAddress false none)
    else (s.modRegs fun r => { r with smbusPointer := v &&& 0x8FFF }).emit (.smbus s.smbusAddress true none))

/-- SMBUS_BLOCK_READ (R392). Log 166 [DESIGN CHOICE]. -/
def execSmbusBlockRead (s : State) : Host.Outcome State Fault Refusal :=
  .next (if s.smbusUp then
    let (v, s1) := s.readReg (smbusOffset s.regs.smbusPointer)
    (s1.modRegs fun r => { r with smbusPointer := smbusNext r.smbusPointer }).emit (.smbus s.smbusAddress true (some v))
  else s.emit (.smbus s.smbusAddress false none))

/-- SMBUS_BLOCK_WRITE (R392). Log 118 [DEDUCED]. Log 166 [DESIGN CHOICE]. -/
def execSmbusBlockWrite (v : Word) (s : State) : Host.Outcome State Fault Refusal :=
  let off := smbusOffset s.regs.smbusPointer
  .next (if s.smbusUp && smbusWritable off then
    let s1 := if off < 0x1000 then s.writeIdentity off v else s.writeCal (off - 0x50000) v
    (s1.modRegs fun r => { r with smbusPointer := smbusNext r.smbusPointer }).emit (.smbus s.smbusAddress true none)
  else s.emit (.smbus s.smbusAddress false none))

/-! ### REQUEST (R368) -/

/-- REQUEST: the next SEQ runs under R364 in the session's mailbox, a repeated one sends the cached REPLY again, any other is discarded. Log 119 [DEDUCED]. Log 128 [DESIGN CHOICE]. -/
def execMgmtRequest (d : Datagram) (s : State) : Host.Outcome State Fault Refusal :=
  .next (if !s.datagramOk 3 d then s
    else match s.sessionOf d with
    | none => s
    | some x =>
      let s1 := s.modSession x.number fun y => { y with quietMs := 0 }
      if d.seq = x.lastSeq then
        match x.cached with
        | some bytes => if x.busy then s1 else s1.emit (.mgmt d.srcAddr d.srcPort bytes)
        | none => s1
      else if d.seq = x.lastSeq + 1 ∧ !(s.box x.mailbox).busy then
        let s2 := s1.modSession x.number fun y => { y with lastSeq := d.seq, busy := true, cached := none, address := d.srcAddr, port := d.srcPort }
        let s3 := s2.modBox x.mailbox fun b =>
          { b with message := overwrite b.message 0 d.body, opcode := d.opcode, tag := d.tag, argLen := BitVec.ofNat 11 d.body.length, busy := true
                   done := false, waiting := some { ethernet := true, id := x.number, mailbox := x.mailbox } }
        s3.serveWaiting
      else s1)

end Sys2Proof.Machine
end

