-- ==== Sys2Proof/Machine/StartUp.lean ====
section
/-! DEFINITION. Start-up from the rise of RESET_N and PGOOD_IN to the end of step 3: boot ROM, choice of the firmware bank (R451), unit record (R437,
R438), cellar log and fallback ring (R442, R446), first events and BOOT (R469, R475, R477, R485, R491). -/

namespace Sys2Proof.Machine

/-- Step 1: lands are read, and the first AVS request is written (R470, R475, R478, R491). -/
def State.stepOne (s : State) (r : StartReading) : State :=
  let s1 : State := { s with
    ident := { s.ident with twinBit := r.twinSel, nodeId := r.nodeId % 32, smbAddr := r.smbAddr % 8 }
    power := { s.power with inReset := false, stage := 1, mode := .run, gated := false } }
  s1.emit (.avs s1.power.requestMv)

/-- The check of a bank with the verdict that START_UP reads for it (R451). Log 70 [DESIGN CHOICE]. -/
def State.bankCheck (s : State) (r : StartReading) (bank : Nat) : Nat :=
  s.bankReason bank r.keys (if bank = 0 then r.signatureOk.1 else r.signatureOk.2)

/-- The bank that boots: what its header says of it is in force, and BANK_STATE follows (R360, R451, R464). -/
def State.bootBank (s : State) (bank reason : Nat) : State :=
  let fell := reason != 0
  let other := 1 - bank
  let s1 : State := { s with ident := { s.ident with
    fwVersion := BitVec.ofNat 32 (s.imageField bank 12 4), fwBank := bank == 1, fellBack := fell
    haulWindow := BitVec.ofNat 8 (s.imageField bank 16 1), twinWindow := BitVec.ofNat 8 (s.imageField bank 17 1) } }
  s1.modFw fun f =>
    let was := f.bankStates.getD other 0
    { f with bootPointer := bank, rejectReason := reason, staged := if f.staged = some bank then none else f.staged
             bankStates := (f.bankStates.set bank 3).set other (if fell then 4 else if 3 ≤ was then 0 else was) }

/-- Recovery mode: START_STAGE stays 2, the alarm latch is set, and BOOT says so (R451, R485). Log 78 [DEDUCED]. -/
def State.enterRecovery (s : State) (reason : Nat) : State :=
  let s1 := (s.setStage 2).modFw fun f => { f with recovery := true, rejectReason := reason, bankStates := [4, 4] }
  State.sendBoot { s1 with health := { s1.health with alarm := true } }

/-- The unit record is read: what it has out of service stays out on the data path (R437, R438). A stack follows at its training, and the record of a TDC
is asked where it is used. -/
def State.applyUnit (s : State) (u : UnitRecord) : State :=
  if u.state = 0 then s
  else match u.kind with
    | 1 => s.modDie u.die fun w => { w with tiles := w.tiles.set u.index 2 }
    | 2 => s.modRx u.index fun x => { x with failed := true }
    | 3 => s.modTx u.index fun x => { x with failed := true }
    | 7 =>
      if u.index < 4 then s.modTwinRx u.index fun x => { x with failed := true }
      else { s with lanes := { s.lanes with twinTx := s.lanes.twinTx.modify (u.index - 4) fun x => { x with failed := true } } }
    | _ => s

/-- The next LOG_SEQ: one above the highest valid one (R442). -/
def CellarLog.scan (l : CellarLog) : Nat := l.slots.foldl (fun n x => if slotCrc x.2 ∧ slotSeq x.2 % 262144 = x.1 then max n (slotSeq x.2 + 1) else n) 0

/-- A LOG_SEQ has a valid slot (R442). -/
def CellarLog.holds (l : CellarLog) (seq : Nat) : Bool := l.slots.any fun x => slotSeq x.2 == seq && l.valid x

/-- An entry of the ring as a new entry of the log: LOG_TIME, CODE and DETAIL are its own, and so are severity, DEFER_LOST and DIE; its EVENT_SEQ and
BOOT_COUNT nobody chose (R446, log 48 [DESIGN CHOICE]). -/
def State.recoveredEntry (s : State) (b : List Byte) : LogEntry × State :=
  let (v, s1) := s.fresh
  let (w, s2) := s1.fresh
  ({ seq := s.health.log.nextSeq, time := field b 8 8, code := field b 16 2, flags := field b 18 1 % 4 + 4 + 8 * (field b 18 1 / 8 % 2), die := field b 19 1
     eventSeq := BitVec.ofNat 32 v, detail := (b.drop 24).take 32, bootCount := w % 65536 },
   { s2 with health := { s2.health with log := { s2.health.log with nextSeq := s2.health.log.nextSeq + 1 } } })

/-- Ring entry k, as the ring stood at start-up, is recovered when its LOG_SEQ has no valid slot; `State.logPut` writes its CRC as zero (R446). Log 48 [DESIGN CHOICE]. -/
def State.recoverEntry (ring : List Byte) (s : State) (k : Nat) : State :=
  if !ringValid ring k || s.health.log.holds (ringSeq ring k) then s
  else
    let (e, s1) := s.recoveredEntry ((ring.drop (64 * k)).take 64)
    (s1.logWrite e).noteDeath s

/-- The cellar log is scanned and the fallback ring recovered (R442, R446). Log 48 [DESIGN CHOICE]. Log 125 [DEDUCED]. -/
def State.recoverLog (s : State) : State :=
  let s1 : State := { s with health := { s.health with log := { s.health.log with nextSeq := s.health.log.scan } } }
  (List.range 4).foldl (State.recoverEntry s1.cal.backup) s1

/-- Generations after reset (R371). -/
def State.seedGenerations (s : State) : State :=
  { s with cfg := { s.cfg with pipes := s.cfg.pipes.map fun e => { e with gen := s.ident.bootCount % 4095 + 1 } } }

/-- What step 3 reports: FW_REJECTED_AT_BOOT and FW_BOOTED (R451), CLOCK_FREERUN and CAL_OSC_STOP (R325), SUPPLY_FAULT, whose latches clear (R469, R504). Log 80 [DEDUCED]. Log 125 [DEDUCED]. -/
def State.startEvents (s : State) (rejected reason : Nat) : State :=
  let s1 := if reason = 0 then s
    else s.raise 0x070A 0xFF (leBytes 1 rejected ++ leBytes 1 reason ++ leBytes 4 (s.imageField rejected 12 4))
  let s2 := s1.raise 0x070B 0xFF (leBytes 1 (nat01 s.ident.fwBank) ++ leBytes 4 s.ident.fwVersion.toNat ++ leBytes 1 (nat01 s.ident.fellBack))
  let s3 := s2.raise 0x0406 0xFF []
  let s4 := if s.cal.oscStop then s3.raise 0x040C 0xFF [] else s3
  if s.power.pwrFault = 0 ∧ s.power.thermTrip = false then s4
  else
    let s5 := s4.raise 0x0802 0xFF (leBytes 2 s.power.pwrFault.toNat ++ leBytes 1 (nat01 s.power.thermTrip))
    { s5 with power := { s5.power with pwrFault := 0, thermTrip := false } }

/-- Step 3: the Zwiter cores start (R371, R437, R446, R475). Log 125 [DEDUCED]. Log 134 [DEDUCED]. -/
def State.startCores (s : State) (r : StartReading) (rejected reason : Nat) : State :=
  let s1 : State := { s with
    ident := { s.ident with bootCount := (s.ident.bootCount + 1) % 65536 }
    health := { s.health with holdupMv := r.holdupMv, log := { s.health.log with badMedia := r.badMedia } } }
  let s2 := (s1.health.units.foldl State.applyUnit s1).seedGenerations.recoverLog
  ((s2.startEvents rejected reason).setStage 3).sendBoot

/-- START_UP: steps 1 to 3, or to recovery mode in step 2. Commands rung before then run now (R451, R475, R477). -/
def State.startUp (s : State) (r : StartReading) : State :=
  let s1 := s.stepOne r
  let first := s1.health.fw.bootPointer % 2
  let reason := s1.bankCheck r first
  let other := s1.bankCheck r (1 - first)
  let s2 :=
    if reason = 0 then ((s1.bootBank first 0).setStage 2).startCores r 0 0
    else if other = 0 then ((s1.bootBank (1 - first) reason).setStage 2).startCores r first reason
    else State.enterRecovery { s1 with health := { s1.health with holdupMv := r.holdupMv } } reason
  s2.serveWaiting

/-- START_UP: RESET_N and PGOOD_IN are both high, which ends reset. Log 8 [DESIGN CHOICE]. Log 70 [DESIGN CHOICE]. -/
def execStartUp (r : StartReading) (s : State) : Host.Outcome State Fault Refusal := .next (if s.power.inReset then (s.startUp r).keepSettings s else s)

end Sys2Proof.Machine
end

