-- ==== Sys2Proof/Machine/Dispatch.lean ====
section
/-! DEFINITION. Dispatch: one arm per command. -/

namespace Sys2Proof.Machine

/-- The effect of a command on everything but the queue. -/
def exec (i : Instr) (s : State) : Host.Outcome State Fault Refusal :=
  match i with
  | .nop o args => Sys2Proof.Machine.execNop o args s
  | .configLock o args => Sys2Proof.Machine.execConfigLock o args s
  | .configCommit o args => Sys2Proof.Machine.execConfigCommit o args s
  | .configAbort o args => Sys2Proof.Machine.execConfigAbort o args s
  | .lockStatus o args => Sys2Proof.Machine.execLockStatus o args s
  | .positionSet o args => Sys2Proof.Machine.execPositionSet o args s
  | .tickConfig o args => Sys2Proof.Machine.execTickConfig o args s
  | .mgmtNet o args => Sys2Proof.Machine.execMgmtNet o args s
  | .pipeCreate o args => Sys2Proof.Machine.execPipeCreate o args s
  | .pipeModify o args => Sys2Proof.Machine.execPipeModify o args s
  | .pipeDestroy o args => Sys2Proof.Machine.execPipeDestroy o args s
  | .pipeList o args => Sys2Proof.Machine.execPipeList o args s
  | .ingestInputs o args => Sys2Proof.Machine.execIngestInputs o args s
  | .offsetFreeze o args => Sys2Proof.Machine.execOffsetFreeze o args s
  | .ingestStats o args => Sys2Proof.Machine.execIngestStats o args s
  | .turnDestSet o args => Sys2Proof.Machine.execTurnDestSet o args s
  | .delayLoad o args => Sys2Proof.Machine.execDelayLoad o args s
  | .gainLoad o args => Sys2Proof.Machine.execGainLoad o args s
  | .gainRead o args => Sys2Proof.Machine.execGainRead o args s
  | .windowLoad o args => Sys2Proof.Machine.execWindowLoad o args s
  | .corrStats o args => Sys2Proof.Machine.execCorrStats o args s
  | .tileMap o args => Sys2Proof.Machine.execTileMap o args s
  | .beamInputs o args => Sys2Proof.Machine.execBeamInputs o args s
  | .beamContrib o args => Sys2Proof.Machine.execBeamContrib o args s
  | .weightLoad o args => Sys2Proof.Machine.execWeightLoad o args s
  | .beamStats o args => Sys2Proof.Machine.execBeamStats o args s
  | .sinkDest o args => Sys2Proof.Machine.execSinkDest o args s
  | .sinkStats o args => Sys2Proof.Machine.execSinkStats o args s
  | .laneConfig o args => Sys2Proof.Machine.execLaneConfig o args s
  | .sparePeer o args => Sys2Proof.Machine.execSparePeer o args s
  | .laneSpare o args => Sys2Proof.Machine.execLaneSpare o args s
  | .laneControlIn o args => Sys2Proof.Machine.execLaneControlIn o args s
  | .laneStatus o args => Sys2Proof.Machine.execLaneStatus o args s
  | .laneTest o args => Sys2Proof.Machine.execLaneTest o args s
  | .laneEye o args => Sys2Proof.Machine.execLaneEye o args s
  | .refConfig o args => Sys2Proof.Machine.execRefConfig o args s
  | .refInputConfig o args => Sys2Proof.Machine.execRefInputConfig o args s
  | .clockSteer o args => Sys2Proof.Machine.execClockSteer o args s
  | .timeSet o args => Sys2Proof.Machine.execTimeSet o args s
  | .logTimeSet o args => Sys2Proof.Machine.execLogTimeSet o args s
  | .ptpConfig o args => Sys2Proof.Machine.execPtpConfig o args s
  | .pulseConfig o args => Sys2Proof.Machine.execPulseConfig o args s
  | .clockStatus o args => Sys2Proof.Machine.execClockStatus o args s
  | .refTimeAccept o args => Sys2Proof.Machine.execRefTimeAccept o args s
  | .twinConfig o args => Sys2Proof.Machine.execTwinConfig o args s
  | .twinSwitch o args => Sys2Proof.Machine.execTwinSwitch o args s
  | .twinDetach o args => Sys2Proof.Machine.execTwinDetach o args s
  | .twinStatus o args => Sys2Proof.Machine.execTwinStatus o args s
  | .matrixPriority o args => Sys2Proof.Machine.execMatrixPriority o args s
  | .matrixSlices o args => Sys2Proof.Machine.execMatrixSlices o args s
  | .hbmStatus o args => Sys2Proof.Machine.execHbmStatus o args s
  | .hbmHammerConfig o args => Sys2Proof.Machine.execHbmHammerConfig o args s
  | .sramMap o args => Sys2Proof.Machine.execSramMap o args s
  | .kilnRun o args => Sys2Proof.Machine.execKilnRun o args s
  | .kilnStatus o args => Sys2Proof.Machine.execKilnStatus o args s
  | .unitRestore o args r fault => Sys2Proof.Machine.execUnitRestore o args r fault s
  | .policySet o args => Sys2Proof.Machine.execPolicySet o args s
  | .healthStatus o args => Sys2Proof.Machine.execHealthStatus o args s
  | .logRead o args => Sys2Proof.Machine.execLogRead o args s
  | .fwStage o args host => Sys2Proof.Machine.execFwStage o args host s
  | .fwStatus o args => Sys2Proof.Machine.execFwStatus o args s
  | .fwActivate o args => Sys2Proof.Machine.execFwActivate o args s
  | .ownerSeal o args => Sys2Proof.Machine.execOwnerSeal o args s
  | .holdupStatus o args => Sys2Proof.Machine.execHoldupStatus o args s
  | .powerState o args => Sys2Proof.Machine.execPowerState o args s
  | .vcoreOverride o args => Sys2Proof.Machine.execVcoreOverride o args s
  | .crateConfig o args => Sys2Proof.Machine.execCrateConfig o args s
  | .crateStatus o args => Sys2Proof.Machine.execCrateStatus o args s
  | .sensorRead o args => Sys2Proof.Machine.execSensorRead o args s
  | .packageReset o args => Sys2Proof.Machine.execPackageReset o args s
  | .mailboxClaim who m => Sys2Proof.Machine.execMailboxClaim who m s
  | .mailboxRelease who m => Sys2Proof.Machine.execMailboxRelease who m s
  | .ring who m => Sys2Proof.Machine.execRing who m s
  | .eqConsWrite v => Sys2Proof.Machine.execEqConsWrite v s
  | .cqConsWrite c v => Sys2Proof.Machine.execCqConsWrite c v s
  | .eqDroppedRead => Sys2Proof.Machine.execEqDroppedRead s
  | .intCauseClear v => Sys2Proof.Machine.execIntCauseClear v s
  | .intMaskWrite v => Sys2Proof.Machine.execIntMaskWrite v s
  | .dmaStart h ctrl => Sys2Proof.Machine.execDmaStart h ctrl s
  | .dmaAbort h ctrl => Sys2Proof.Machine.execDmaAbort h ctrl s
  | .dmaTransferDone h host masterOff ecc => Sys2Proof.Machine.execDmaTransferDone h host masterOff ecc s
  | .calLoad v => Sys2Proof.Machine.execCalLoad v s
  | .calLoadDone => Sys2Proof.Machine.execCalLoadDone s
  | .calSecLoRead => Sys2Proof.Machine.execCalSecLoRead s
  | .registerWrite who off v => Sys2Proof.Machine.execRegisterWrite who off v s
  | .bar2Access who write off len data ecc => Sys2Proof.Machine.execBar2Access who write off len data ecc s
  | .smbusSetPointer v => Sys2Proof.Machine.execSmbusSetPointer v s
  | .smbusBlockRead => Sys2Proof.Machine.execSmbusBlockRead s
  | .smbusBlockWrite v => Sys2Proof.Machine.execSmbusBlockWrite v s
  | .mgmtOpen d => Sys2Proof.Machine.execMgmtOpen d s
  | .mgmtRequest d => Sys2Proof.Machine.execMgmtRequest d s
  | .mgmtKeepalive d => Sys2Proof.Machine.execMgmtKeepalive d s
  | .mgmtClose d => Sys2Proof.Machine.execMgmtClose d s
  | .sessionTimeout session => Sys2Proof.Machine.execSessionTimeout session s
  | .ownerReset kind => Sys2Proof.Machine.execOwnerReset kind s
  | .leaseExpiry => Sys2Proof.Machine.execLeaseExpiry s
  | .heldCompletionPush => Sys2Proof.Machine.execHeldCompletionPush s
  | .eqIrqDelayExpiry => Sys2Proof.Machine.execEqIrqDelayExpiry s
  | .aliveIncrement => Sys2Proof.Machine.execAliveIncrement s
  | .tickBoundary n => Sys2Proof.Machine.execTickBoundary n s
  | .workWindowEnd n => Sys2Proof.Machine.execWorkWindowEnd n s
  | .tileDump d errs => Sys2Proof.Machine.execTileDump d errs s
  | .replayDump d errs => Sys2Proof.Machine.execReplayDump d errs s
  | .stripDone d errs => Sys2Proof.Machine.execStripDone d errs s
  | .beamMashFinish pipe die channel tick mash => Sys2Proof.Machine.execBeamMashFinish pipe die channel tick mash s
  | .spargeDatagramSend pipe die tickScope => Sys2Proof.Machine.execSpargeDatagramSend pipe die tickScope s
  | .scopeEndRecord pipe tickScope => Sys2Proof.Machine.execScopeEndRecord pipe tickScope s
  | .tunRepairTimeout transaction => Sys2Proof.Machine.execTunRepairTimeout transaction s
  | .grist lane f => Sys2Proof.Machine.execGrist lane f s
  | .turn lane f => Sys2Proof.Machine.execTurn lane f s
  | .beampart lane f => Sys2Proof.Machine.execBeampart lane f s
  | .hello lane f => Sys2Proof.Machine.execHello lane f s
  | .spareRequest lane f => Sys2Proof.Machine.execSpareRequest lane f s
  | .spareDuplicating lane f => Sys2Proof.Machine.execSpareDuplicating lane f s
  | .spareSwitched lane f => Sys2Proof.Machine.execSpareSwitched lane f s
  | .spareRelease lane f => Sys2Proof.Machine.execSpareRelease lane f s
  | .spareStopped lane f => Sys2Proof.Machine.execSpareStopped lane f s
  | .spareRefused lane f => Sys2Proof.Machine.execSpareRefused lane f s
  | .heartbeat lane f => Sys2Proof.Machine.execHeartbeat lane f s
  | .stateCopy frames c rxNs => Sys2Proof.Machine.execStateCopy frames c rxNs s
  | .journal first rest => Sys2Proof.Machine.execJournal first rest s
  | .journalAck lane f => Sys2Proof.Machine.execJournalAck lane f s
  | .journalAckTimeout seq => Sys2Proof.Machine.execJournalAckTimeout seq s
  | .repairReq lane f => Sys2Proof.Machine.execRepairReq lane f s
  | .repairReply lane f => Sys2Proof.Machine.execRepairReply lane f s
  | .attach lane f rxNs => Sys2Proof.Machine.execAttach lane f rxNs s
  | .attachWaitExpiry => Sys2Proof.Machine.execAttachWaitExpiry s
  | .switch lane f => Sys2Proof.Machine.execSwitch lane f s
  | .switchAck lane f => Sys2Proof.Machine.execSwitchAck lane f s
  | .switchOutputDrive => Sys2Proof.Machine.execSwitchOutputDrive s
  | .heartbeatWindow n w => Sys2Proof.Machine.execHeartbeatWindow n w s
  | .heartbeatWatchdog => Sys2Proof.Machine.execHeartbeatWatchdog s
  | .commaPeriod lane seen => Sys2Proof.Machine.execCommaPeriod lane seen s
  | .firstBoundaryCheck lane field complement => Sys2Proof.Machine.execFirstBoundaryCheck lane field complement s
  | .codewordDecode lane message parity => Sys2Proof.Machine.execCodewordDecode lane message parity s
  | .spareCopyStart die => Sys2Proof.Machine.execSpareCopyStart die s
  | .spareCopyStop die => Sys2Proof.Machine.execSpareCopyStop die s
  | .spareConfirmed die => Sys2Proof.Machine.execSpareConfirmed die s
  | .laneSpareSwitch die => Sys2Proof.Machine.execLaneSpareSwitch die s
  | .laneRestoreSwitch die => Sys2Proof.Machine.execLaneRestoreSwitch die s
  | .spareTimeout die => Sys2Proof.Machine.execSpareTimeout die s
  | .helloTimer lane => Sys2Proof.Machine.execHelloTimer lane s
  | .gristHoldExpiry pipe input => Sys2Proof.Machine.execGristHoldExpiry pipe input s
  | .spallBlockEnd pipe input => Sys2Proof.Machine.execSpallBlockEnd pipe input s
  | .offsetBlockEnd pipe input => Sys2Proof.Machine.execOffsetBlockEnd pipe input s
  | .alcPeriodEnd pipe => Sys2Proof.Machine.execAlcPeriodEnd pipe s
  | .refDisqualify input test => Sys2Proof.Machine.execRefDisqualify input test s
  | .refQualify input => Sys2Proof.Machine.execRefQualify input s
  | .wtrExpiry => Sys2Proof.Machine.execWtrExpiry s
  | .dpllLock => Sys2Proof.Machine.execDpllLock s
  | .historyValid => Sys2Proof.Machine.execHistoryValid s
  | .timeBadClear input => Sys2Proof.Machine.execTimeBadClear input s
  | .ppsInEdge offsetNs => Sys2Proof.Machine.execPpsInEdge offsetNs s
  | .timeSetPpsTimeout => Sys2Proof.Machine.execTimeSetPpsTimeout s
  | .ptpAnnounce a => Sys2Proof.Machine.execPtpAnnounce a s
  | .ptpSync h twoStep origin rx => Sys2Proof.Machine.execPtpSync h twoStep origin rx s
  | .ptpFollowUp h origin => Sys2Proof.Machine.execPtpFollowUp h origin s
  | .ptpDelayReq h rx => Sys2Proof.Machine.execPtpDelayReq h rx s
  | .ptpDelayResp h receipt => Sys2Proof.Machine.execPtpDelayResp h receipt s
  | .ptpPdelayReq h rx tx => Sys2Proof.Machine.execPtpPdelayReq h rx tx s
  | .ptpPdelayResp h followUp twoStep stamp rx => Sys2Proof.Machine.execPtpPdelayResp h followUp twoStep stamp rx s
  | .ptpAnnounceTimeout sync => Sys2Proof.Machine.execPtpAnnounceTimeout sync s
  | .ptpTxInterval what tx => Sys2Proof.Machine.execPtpTxInterval what tx s
  | .datapathSecond => Sys2Proof.Machine.execDatapathSecond s
  | .tickStart n => Sys2Proof.Machine.execTickStart n s
  | .calendarSecond => Sys2Proof.Machine.execCalendarSecond s
  | .vbatMeasure mv => Sys2Proof.Machine.execVbatMeasure mv s
  | .vddAuxLoss => Sys2Proof.Machine.execVddAuxLoss s
  | .calOscStopDetect => Sys2Proof.Machine.execCalOscStopDetect s
  | .hbmRefresh die eyeOffset => Sys2Proof.Machine.execHbmRefresh die eyeOffset s
  | .hbmActivate die bank row => Sys2Proof.Machine.execHbmActivate die bank row s
  | .refreshWindowEnd die => Sys2Proof.Machine.execRefreshWindowEnd die s
  | .scrubRead die addr ecc => Sys2Proof.Machine.execScrubRead die addr ecc s
  | .hbmRequest die r realTime fill ecc => Sys2Proof.Machine.execHbmRequest die r realTime fill ecc s
  | .tunAdderOp pipe die bank addr op ecc => Sys2Proof.Machine.execTunAdderOp pipe die bank addr op ecc s
  | .matrixRequest r => Sys2Proof.Machine.execMatrixRequest r s
  | .neighbourRefreshSecond => Sys2Proof.Machine.execNeighbourRefreshSecond s
  | .kilnDue e => Sys2Proof.Machine.execKilnDue e s
  | .kilnPassDone e r => Sys2Proof.Machine.execKilnPassDone e r s
  | .thermalReading die temp => Sys2Proof.Machine.execThermalReading die temp s
  | .thermalTrip => Sys2Proof.Machine.execThermalTrip s
  | .logDeferRetry holdupMv => Sys2Proof.Machine.execLogDeferRetry holdupMv s
  | .holdupRetry holdupMv => Sys2Proof.Machine.execHoldupRetry holdupMv s
  | .startUp r => Sys2Proof.Machine.execStartUp r s
  | .hbmTrainingDone r => Sys2Proof.Machine.execHbmTrainingDone r s
  | .startupKilnDone r => Sys2Proof.Machine.execStartupKilnDone r s
  | .laneBringupDone => Sys2Proof.Machine.execLaneBringupDone s
  | .clockLockTimeout => Sys2Proof.Machine.execClockLockTimeout s
  | .ready => Sys2Proof.Machine.execReady s
  | .resetAssert => Sys2Proof.Machine.execResetAssert s
  | .supplyMonitorTrip rails => Sys2Proof.Machine.execSupplyMonitorTrip rails s
  | .wakeNEdge => Sys2Proof.Machine.execWakeNEdge s
  | .powerTransitionDone => Sys2Proof.Machine.execPowerTransitionDone s
  | .avsFloorUpdate floorsMv => Sys2Proof.Machine.execAvsFloorUpdate floorsMv s
  | .avsRequestStep => Sys2Proof.Machine.execAvsRequestStep s
  | .crateHeartbeatPeriod => Sys2Proof.Machine.execCrateHeartbeatPeriod s
  | .crateTxOpportunity => Sys2Proof.Machine.execCrateTxOpportunity s
  | .ack f => Sys2Proof.Machine.execAck f s
  | .crateHeartbeat f => Sys2Proof.Machine.execCrateHeartbeat f s
  | .announce f => Sys2Proof.Machine.execAnnounce f s
  | .boot f => Sys2Proof.Machine.execBoot f s
  | .sleepPropose f => Sys2Proof.Machine.execSleepPropose f s
  | .sleepVote f => Sys2Proof.Machine.execSleepVote f s
  | .sleepCommit f => Sys2Proof.Machine.execSleepCommit f s
  | .sleepAbort f => Sys2Proof.Machine.execSleepAbort f s
  | .wake f => Sys2Proof.Machine.execWake f s
  | .crateAckTimeout => Sys2Proof.Machine.execCrateAckTimeout s
  | .crateRetryWait => Sys2Proof.Machine.execCrateRetryWait s
  | .crateAloneAnnounce => Sys2Proof.Machine.execCrateAloneAnnounce s
  | .nodeHeardExpiry node => Sys2Proof.Machine.execNodeHeardExpiry node s
  | .activatingTimeout node => Sys2Proof.Machine.execActivatingTimeout node s
  | .sleepVoteTimeout => Sys2Proof.Machine.execSleepVoteTimeout s
  | .sleepOutcomeTimeout => Sys2Proof.Machine.execSleepOutcomeTimeout s
  | .vddAuxReturn => Sys2Proof.Machine.execVddAuxReturn s
  | .calendarDomainPowerOn => Sys2Proof.Machine.execCalendarDomainPowerOn s
  | .pulseWidthEnd tick => Sys2Proof.Machine.execPulseWidthEnd tick s
  | .arpRequest target => Sys2Proof.Machine.execArpRequest target s
  | .neighbourSolicitation target => Sys2Proof.Machine.execNeighbourSolicitation target s
  | .eyeScanDone lane mismatches => Sys2Proof.Machine.execEyeScanDone lane mismatches s
  | .norOperationDone compared => Sys2Proof.Machine.execNorOperationDone compared s

end Sys2Proof.Machine
end

