-- ==== Sys2Proof/Machine/Line.lean ====
section
/-! DEFINITION. The transmitter's line stream: blocks and H bits, scrambler, codewords, commas and PAM4 (R247, R251 to R255, R258), the stream of a copying
spare (R272), the twin link's (R279), test patterns (R276) and error injection (R277). A stream advances with the block's clock: log 140 [PRESUMED], log 143 [DESIGN CHOICE]. -/

namespace Sys2Proof.Machine

/-! ### One transmitter's stream -/

/-- The next byte of the stream: of the frame on the line, of the next frame, or an idle byte (R258). -/
def LineTx.nextByte (x : LineTx) : Byte × LineTx :=
  match x.sending with
  | b :: l => (b, { x with sending := l })
  | [] =>
    match x.queue with
    | (type, f) :: q =>
      match frameBytes type f ++ leBytes 4 f.crc.toNat with
      | b :: l => (b, { x with queue := q, sending := l })
      | [] => (0, { x with queue := q })
    | [] => (0, x)

/-- The side-channel bit of block `n` of a period whose FIRST_BOUNDARY is `fb` (R252). -/
def sideBit (n : Nat) (fb : Half) : Bool :=
  if n < 16 then fb.getLsbD n else if n < 32 then !fb.getLsbD (n - 16) else false

/-- A 257-bit block, first sent bit most significant: H, then bytes 0 to 31, each least significant bit first (R251 step 2). -/
def blockOf (h : Bool) (l : List Byte) : Nat := natMsb (h :: l.flatMap fun b => bitsLsb 8 b.toNat)

/-- A block begins. At block 0 the period begins: FIRST_BOUNDARY is what is left of the frame on the line, the scrambler is loaded, and the comma falls before
this block (R251 step 5, R252, R253). -/
def LineTx.beginBlock (lane : Nat) (x : LineTx) : LineTx :=
  if x.block = 0 then
    { x with boundary := BitVec.ofNat 16 x.sending.length, scrambler := scramblerLoad lane, comma := some (x.blocks.length, x.phase) }
  else x

/-- A block is full: it is scrambled and joins the codeword; PHASE counts modulo 5 from period to period (R251, R253, R254). -/
def LineTx.endBlock (x : LineTx) : LineTx :=
  let (v, g) := descramble 257 x.scrambler 0 (blockOf (sideBit x.block x.boundary) x.part)
  let last := decide (x.block = 16383)
  { x with part := [], scrambler := g, blocks := x.blocks ++ [BitVec.ofNat 257 v]
           block := if last then 0 else x.block + 1, phase := if last then (x.phase + 1) % 5 else x.phase }

/-- One byte of the stream. -/
def LineTx.advance (lane : Nat) (x : LineTx) : LineTx :=
  let x0 := if x.part.isEmpty then x.beginBlock lane else x
  let (b, x1) := x0.nextByte
  let x2 := { x1 with part := x1.part ++ [b] }
  if x2.part.length = 32 then x2.endBlock else x2

/-- A codeword's share of the line: coded bits before the comma, comma bits, coded bits after it (R251). -/
structure LineBits where
  before : List Bool := []
  comma : List Bool := []
  rest : List Bool := []
  deriving DecidableEq, Repr

/-- A codeword that is complete leaves the stream: `perBlock` coded bits stand for one block (R248, R254, R279). -/
def LineTx.takeCodeword (lane : Nat) (code : RsCode) (perBlock : Nat) (x : LineTx) : LineTx × Option LineBits :=
  if x.blocks.length < 20 then (x, none)
  else
    let coded := codedBits (code.encode (symbolsOf x.blocks))
    let (k, comma) := match x.comma with
      | some (k, phase) => (k * perBlock, bitsMsb 144 (commaBits lane phase).toNat)
      | none => (0, [])
    ({ x with blocks := [], comma := none }, some { before := coded.take k, comma := comma, rest := coded.drop k })

/-- `n` bytes of the stream, and the codeword that they complete: at most one, since it takes 640 bytes. -/
def LineTx.run (lane : Nat) (code : RsCode) (perBlock : Nat) : Nat → LineTx → Option LineBits → LineTx × Option LineBits
  | 0, x, out => (x, out)
  | n + 1, x, out =>
    let (x1, o) := (x.advance lane).takeCodeword lane code perBlock
    LineTx.run lane code perBlock n x1 (o.or out)

/-! ### Error injection (R277) -/

/-- Injection at one bit: whether it is flipped, and what is left to do. -/
def Injection.next (i : Injection) : Bool × Injection :=
  if i.left = 0 then (false, i)
  else if i.skip ≠ 0 then (false, { i with skip := i.skip - 1 })
  else if i.every = 0 then (true, { i with left := i.left - 1 })
  else (true, { i with skip := i.every - 1 })

/-- Bits with injection: never those of a comma, which do not pass here (R277). -/
def Injection.apply (i : Injection) (l : List Bool) : List Bool × Injection :=
  if i.left = 0 then (l, i)
  else
    let r := l.foldl (fun (acc : List Bool × Injection) b => let (e, j) := acc.2.next; ((b ^^ e) :: acc.1, j)) ([], i)
    (r.1.reverse, r.2)

/-- Bits with a lane's injection, on its transmitter. -/
def State.injected (s : State) (lane : Nat) (l : List Bool) : List Bool × State :=
  let (out, i) := (s.tx lane).injection.apply l
  (out, if (s.tx lane).injection.left = 0 then s else s.modTx lane fun x => { x with injection := i })

/-! ### The lanes of the package -/

/-- A codeword's share leaves on a transmitter, as PAM4 levels (R247, R251 step 6). -/
def State.sendLine (s : State) (lane : Nat) (b : LineBits) : State :=
  let (before, s1) := s.injected lane b.before
  let (rest, s2) := s1.injected lane b.rest
  s2.emit (.line lane (pam4Of (before ++ b.comma ++ rest)))

/-- The same share on the spare that copies the lane: its stream begins with a comma, bit for bit that of the lane (R272 step 2). -/
def State.sendCopyLine (s : State) (lane spare : Nat) (b : LineBits) : State :=
  if (s.spareTx (dieOfLane lane)).lineOn then s.sendLine spare b
  else if b.comma.isEmpty then s
  else
    let s1 := { s with lanes := { s.lanes with spareTx := s.lanes.spareTx.modify (dieOfLane lane) fun x => { x with lineOn := true } } }
    s1.sendLine spare { b with before := [] }

/-- One clock period of a TX lane's stream: 100 bytes, 200 Gb/s for 4 ns (R248). A lane that sends nothing holds no stream (R40). Log 143 [DESIGN CHOICE]. -/
def State.laneCycle (s : State) (lane : Nat) : State :=
  if s.txSends lane then
    let (x, out) := (s.tx lane).line.run lane haulCode 272 100 none
    let s1 := s.modTx lane fun y => { y with line := x }
    match out with
    | none => s1
    | some b =>
      let s2 := if (s1.tx lane).serves then s1.sendLine lane b else s1
      match s.copySpare lane with
      | some e => s2.sendCopyLine lane e b
      | none => s2
  else if (s.tx lane).line = {} then s
  else s.modTx lane fun y => { y with line := {} }

/-- Line bits of the blocks that end in one clock period: 272 each, and 144 more in place of the comma at block 0 (R248, R276). -/
def testBits (block blocks : Nat) : Nat := 272 * blocks + (if block = 0 ∨ 16384 < block + blocks then 144 * nat01 (decide (0 < blocks)) else 0)

/-- One clock period of a TX lane in test mode: the pattern in place of commas and frames (R276). Log 143 [DESIGN CHOICE]. -/
def State.testCycle (s : State) (lane : Nat) : State :=
  let x := s.tx lane
  if x.test = .service ∨ s.power.inReset = true ∨ s.power.mode = .dormant ∨ s.twin.silenced = true then s
  else
    let blocks := (x.testBytes + 100) / 32
    let (l, g) := x.test.generate (testBits x.testBlock blocks) x.generator
    let s1 := s.modTx lane fun y => { y with generator := g, testBytes := (y.testBytes + 100) % 32, testBlock := (y.testBlock + blocks) % 16384 }
    let (out, s2) := s1.injected lane l
    s2.emit (.line lane (pam4Of out))

/-- The twin link's transmitters run: lanes are up from start-up step 6, the package is twinned, powered and not in reset (R331, R475). -/
def State.twinLineOn (s : State) : Bool :=
  !s.power.inReset && decide (6 ≤ s.power.stage) && s.twin.mode != .untwinned && (s.power.mode == .run || s.power.mode == .idle)

/-- One clock period of a twin-link TX lane: 51.5152 Gb/s are 850/33 bytes in 4 ns, sent NRZ (R279). Log 143 [DESIGN CHOICE]. -/
def State.twinLaneCycle (s : State) (k : Nat) : State :=
  let t := s.twinTx k
  if s.twinLineOn && t.serves then
    let n := 850 + t.line.fraction
    let (x, out) := t.line.run k twinCode 264 (n / 33) none
    let s1 := s.modTwinTx k fun y => { y with line := { x with fraction := n % 33 } }
    match out with
    | none => s1
    | some b => s1.emit (.twinLine k (b.before ++ b.comma ++ b.rest))
  else if t.line = {} then s
  else s.modTwinTx k fun y => { y with line := {} }

/-- One clock period of every transmitter. Log 143 [DESIGN CHOICE]. -/
def State.lineCycle (s : State) : State :=
  let s1 := (List.range 136).foldl (fun s n => (s.laneCycle n).testCycle n) s
  let s2 := (List.range 4).foldl State.twinLaneCycle s1
  s2.twinPump s2.twin.waiting.length

end Sys2Proof.Machine
end

