-- ==== Sys2Proof/Machine/Idle.lean ====
section
/-! DEFINITION. What one clock period of 4 ns does when no command waits: data-path time and log time advance (R300, R305), the transmitters' line streams with
them (R248, R251), and requests that the matrix holds back are tried again (R77, R417). -/

namespace Sys2Proof.Machine

/-- Data-path time one period of 4 ns on, while it is valid (R300). Log 21 [DESIGN CHOICE]. -/
def State.idleTime (s : State) : State := if s.clocks.time.valid then s.setTimeNs (s.timeNs + 4) else s

/-- Log time one increment on: INC_NS and INC_FRAC (R305). Log 21 [DESIGN CHOICE]. -/
def LogClock.tick (l : LogClock) : LogClock :=
  let frac := l.frac + l.incFrac
  let ns := l.ns + l.incNs + frac / 2 ^ 32
  { l with frac := frac % 2 ^ 32, ns := ns % nsPerSec, sec := (l.sec + ns / nsPerSec) % 2 ^ 48 }

/-- One idle period; in OFF and in reset these clocks stand still (R311). Writes that a DMA channel issued reach memory (R388). Log 21 [DESIGN CHOICE]. -/
def State.idle (s : State) : State :=
  if s.power.mode = .off ∨ s.power.inReset then s
  else
    let s1 := s.landWrites.idleTime
    let s2 := State.lineCycle { s1 with clocks := { s1.clocks with log := s1.clocks.log.tick } }
    if s2.fabric.held.isEmpty then s2 else s2.releaseRequests.serveWaiting

end Sys2Proof.Machine
end

