-- ==== Sys2Proof/Machine/Step.lean ====
section
/-! DEFINITION. One step: the command at the front of the queue, or one idle clock period. -/

namespace Sys2Proof.Machine

/-- `s` with the command that a word spells at the front of its queue; `s` where the word spells none. Log 21 [DESIGN CHOICE]. Log 49 [DESIGN CHOICE]. -/
def State.withFetchWord (s : State) (nbits w : Nat) : State :=
  match decodeTableWord nbits w with
  | some c => { s with pending := c :: s.pending }
  | none => s

/-- Takes the command at the front of the queue and runs it on the state with the rest; on an empty queue the clocks advance by one period (log 21 [DESIGN CHOICE]). -/
def step (s : State) : Host.Outcome State Fault Refusal :=
  match s.pending with
  | [] => .next s.idle
  | c :: rest => exec c { s with pending := rest }

end Sys2Proof.Machine
end

