-- ==== Sys2Proof/Safety.lean ====
section
/-! DEFINITION. The terms that claims use: a command that runs to its end, a mailbox that the lead core serves and what it answers, and what is sound
about a state. -/

namespace Sys2Proof.Machine

/-- A command does not stop the block: it answers a next state. -/
def RunsOn (r : Host.Outcome State Fault Refusal) : Prop := ∃ t, r = .next t

/-- The lead core takes the commands of `o`'s mailbox at once and can push its completion: start-up step 3 is complete (R477), no recovery mode (R451), the
mailbox exists, and its completion queue has a free slot (R384). -/
structure Served (s : State) (o : Origin) : Prop where
  stage : 3 ≤ s.power.stage
  normal : s.health.fw.recovery = false
  mailbox : o.mailbox < s.mail.boxes.length
  room : (s.mail.queues.getD (s.box o.mailbox).cqSel.toNat {}).depth < 16

/-- `o` may send O commands here: it holds the lease, or the package is a standby, which asks for none (R374). -/
structure Leads (s : State) (o : Origin) : Prop where
  served : Served s o
  leads : s.holds o = true ∨ s.twin.role = .standby

/-- `o` may send S and L commands here: it holds the lease, and the package is no standby (R374). S commands need READY as well (R477). -/
structure Holds (s : State) (o : Origin) : Prop where
  served : Served s o
  holds : s.holds o = true
  notStandby : s.twin.role ≠ .standby

/-- Mailbox `m` shows a completion (R362, R364): BUSY clear, DONE set, STATUS, REPLY_LEN, and the reply at the start of MESSAGE. -/
structure Answered (t : State) (m : Nat) (st : Status) (reply : List Byte) : Prop where
  idle : (t.box m).busy = false
  done : (t.box m).done = true
  status : (t.box m).status = st.code
  length : (t.box m).replyLen = reply.length
  bytes : (t.box m).message.take reply.length = reply

/-- Mailbox `m` shows a completion with a status and a reply of `n` bytes. -/
def AnsweredLen (t : State) (m : Nat) (st : Status) (n : Nat) : Prop := ∃ reply, reply.length = n ∧ Answered t m st reply

/-- A command was not refused: it completed with OK, or waits for what its rule names. -/
def CmdOut.accepted : CmdOut → Bool
  | .done .ok _ _ _ => true
  | .done _ _ _ _ => false
  | .wait _ .ok _ _ _ => true
  | .wait _ _ _ _ _ => false

/-- `t` is `s` but for what completing a command in a mailbox touches: mailboxes and queues (R364, R384), causes (R391), a session's REPLY (R368), and what
leaves the package. -/
def SameButMail (s t : State) : Prop := ∃ m i p o, t = { s with mail := m, intr := i, mgmt := p, out := o }

/-- The state as the lead core finds it when it takes a command of class R, O or L: arguments in the mailbox, pipes whose START_TICK has come RUNNING
(R372), the sender's lease renewed (R375). -/
def State.taken (s : State) (o : Origin) (op : Nat) (args : List Byte) : State :=
  ((s.modBox o.mailbox (Mailbox.load op args)).refreshPipes).renew o op

/-- The command runs to its own effect: it answers a next state in which mailbox `m` shows status `st` and `reply`, and which is `u` but for what completing
touches. -/
def Completes (i : Instr) (s : State) (m : Nat) (st : Status) (reply : List Byte) (u : State) : Prop :=
  ∃ t, exec i s = .next t ∧ Answered t m st reply ∧ SameButMail u t

/-- A row that a sender sends through its mailbox: its opcode, its length and its command (R393). -/
structure MailRow where
  op : Nat
  len : List Byte → Option Nat
  cmd : Origin → List Byte → Instr

/-- The rows of class S (R374). -/
def sRows : List MailRow :=
  [⟨0x0020, fixedLen 4, .positionSet⟩, ⟨0x0021, fixedLen 36, .tickConfig⟩, ⟨0x0100, pipeLen, .pipeCreate⟩, ⟨0x0101, pipeLen, .pipeModify⟩,
   ⟨0x0102, fixedLen 16, .pipeDestroy⟩, ⟨0x0200, listLen 8 8 4 2, .ingestInputs⟩, ⟨0x0210, listLen 16 12 4 2, .turnDestSet⟩,
   ⟨0x0310, listLen 8 8 4 2, .beamInputs⟩, ⟨0x0311, listLen 8 8 4 2, .beamContrib⟩, ⟨0x0320, listLen 8 32 4 2, .sinkDest⟩,
   ⟨0x0400, fixedLen 8, .laneConfig⟩, ⟨0x0401, fixedLen 8, .sparePeer⟩]

/-- The rows of class O (R374), but for the three after whose completion something else may follow: REF_CONFIG, FW_ACTIVATE and PACKAGE_RESET. UNIT_RESTORE
and FW_STAGE carry what a test measures and what the host's memory holds. -/
def oRows (r : KilnReading) (fault : Bool) (host : List Byte) : List MailRow :=
  [⟨0x0022, fixedLen 80, .mgmtNet⟩, ⟨0x0402, fixedLen 4, .laneSpare⟩, ⟨0x0405, fixedLen 8, .laneTest⟩, ⟨0x0501, fixedLen 20, .refInputConfig⟩,
   ⟨0x0502, fixedLen 4, .clockSteer⟩, ⟨0x0503, fixedLen 16, .timeSet⟩, ⟨0x0504, fixedLen 20, .logTimeSet⟩, ⟨0x0505, fixedLen 24, .ptpConfig⟩,
   ⟨0x0506, fixedLen 16, .pulseConfig⟩, ⟨0x0508, fixedLen 4, .refTimeAccept⟩, ⟨0x0600, fixedLen 8, .twinConfig⟩, ⟨0x0601, fixedLen 12, .twinSwitch⟩,
   ⟨0x0602, fixedLen 0, .twinDetach⟩, ⟨0x0700, fixedLen 4, .matrixPriority⟩, ⟨0x0701, fixedLen 4, .matrixSlices⟩, ⟨0x0703, fixedLen 4, .hbmHammerConfig⟩,
   ⟨0x0800, fixedLen 4, .kilnRun⟩, ⟨0x0802, fixedLen 4, fun o args => .unitRestore o args r fault⟩, ⟨0x0803, fixedLen 16, .policySet⟩,
   ⟨0x0806, fixedLen 24, fun o args => .fwStage o args host⟩, ⟨0x0809, fixedLen 12, .ownerSeal⟩, ⟨0x0900, fixedLen 4, .powerState⟩,
   ⟨0x0901, fixedLen 4, .vcoreOverride⟩, ⟨0x0902, fixedLen 4, .crateConfig⟩]

/-- The rows of class L, and the others but those of class S that a STANDBY refuses whatever their arguments (R374): T rows that R339 journals, TWIN_SWITCH and
POLICY_SET. -/
def activeRows : List MailRow :=
  [⟨0x0010, fixedLen 4, .configLock⟩, ⟨0x0011, fixedLen 0, .configCommit⟩, ⟨0x0012, fixedLen 0, .configAbort⟩, ⟨0x0201, fixedLen 20, .offsetFreeze⟩,
   ⟨0x0211, listLen 16 36 14 2, .delayLoad⟩, ⟨0x0212, listLen 20 4 8 2, .gainLoad⟩, ⟨0x0214, listLen 12 4 6 2, .windowLoad⟩,
   ⟨0x0312, fixedLen 40, .weightLoad⟩, ⟨0x0601, fixedLen 12, .twinSwitch⟩, ⟨0x0803, fixedLen 16, .policySet⟩]

/-- A command answers a next state of which `p` holds. -/
def Gives (i : Instr) (s : State) (p : State → Prop) : Prop := ∃ t, exec i s = .next t ∧ p t

/-- The host reaches the registers (R358), and no mailbox holds a command that waits for the lead core. -/
structure HostQuiet (s : State) : Prop where
  up : s.hostUp = true
  none : ∀ m, (s.box m).waiting = none

/-- The reserved bytes `lo` to `hi - 1` of the arguments are zero (R9). -/
def ZeroBytes (args : List Byte) (lo hi : Nat) : Prop := ∀ i, lo ≤ i → i < hi → field args i 1 = 0

/-- Package memory is in canonical form. -/
def State.Sound (s : State) : Prop := Memory.wf s.fabric.mem = true

/-- Rows of the lines and clocks, of package health and of the crate bus that neither store to package memory nor end the lease, whatever they meet. Left out
are the rows that may demote a package, which may reset it (HEARTBEAT, STATE_COPY, ATTACH, and the crate bus's HEARTBEAT and ANNOUNCE). -/
def lineRow : Instr → Bool
  | .hello .. | .spareRequest .. | .spareDuplicating .. | .spareSwitched .. | .spareRelease .. | .spareStopped .. | .spareRefused .. => true
  | .commaPeriod .. | .firstBoundaryCheck .. | .codewordDecode .. | .spareCopyStart .. | .spareCopyStop .. | .spareConfirmed .. => true
  | .laneSpareSwitch .. | .laneRestoreSwitch .. | .spareTimeout .. | .helloTimer .. | .eyeScanDone .. => true
  | .journalAck .. | .journalAckTimeout .. | .repairReq .. | .attachWaitExpiry | .switch .. | .switchAck .. | .switchOutputDrive => true
  | .heartbeatWindow .. | .heartbeatWatchdog => true
  | .refDisqualify .. | .refQualify .. | .wtrExpiry | .dpllLock | .historyValid | .timeBadClear .. | .ppsInEdge .. | .timeSetPpsTimeout => true
  | .ptpAnnounce .. | .ptpSync .. | .ptpFollowUp .. | .ptpDelayReq .. | .ptpDelayResp .. | .ptpPdelayReq .. | .ptpPdelayResp .. => true
  | .ptpAnnounceTimeout .. | .ptpTxInterval .. | .datapathSecond | .tickStart .. | .pulseWidthEnd .. => true
  | .calLoad .. | .calLoadDone | .calSecLoRead | .calendarSecond | .vbatMeasure .. | .vddAuxLoss | .vddAuxReturn | .calOscStopDetect => true
  | .calendarDomainPowerOn | .hbmRefresh .. | .hbmActivate .. | .refreshWindowEnd .. | .scrubRead .. | .neighbourRefreshSecond => true
  | .kilnDue .. | .kilnPassDone .. | .thermalReading .. | .thermalTrip | .logDeferRetry .. | .laneBringupDone | .clockLockTimeout | .ready => true
  | .wakeNEdge | .powerTransitionDone | .avsFloorUpdate .. | .avsRequestStep => true
  | .crateHeartbeatPeriod | .crateTxOpportunity | .ack .. | .boot .. | .sleepPropose .. | .sleepVote .. | .sleepCommit .. | .sleepAbort .. => true
  | .wake .. | .crateAckTimeout | .crateRetryWait | .crateAloneAnnounce | .nodeHeardExpiry .. | .activatingTimeout .. | .sleepVoteTimeout => true
  | .sleepOutcomeTimeout => true
  | _ => false

end Sys2Proof.Machine
end

