-- ==== Sys2Proof/Certificates/Slice0/Obligations.lean ====
section
/-! DEFINITION. The statements about the model, for the provers. -/

open Sys2Proof Sys2Proof.Machine

/-! ### The whole block -/

/-- A step with a command at the front of the queue is `exec` of that command on the state with the queue's rest. The queue is the model's own, not the spec's
(log 21). -/
def Obligations.StepRunsTheFrontCommand : Prop :=
  ∀ (s : State) (c : Instr) (rest : List Instr), s.pending = c :: rest → step s = exec c { s with pending := rest }

/-- What reset leaves: the spec's reset values of the identity page, mailboxes, queues, lease, lanes, time, calendar registers and START_STAGE (R256, R265, R301,
R305, R315, R360, R363, R370, R380, R384, R390). Of the clauses, these are the model's choice and no rule's: the role ALONE and the alarm latch clear (log 3), the
empty queue of commands (log 21), and package memory in canonical form. -/
def Obligations.ResetLeaves : Prop :=
  let s := State.reset
  s.Sound ∧ s.power.inReset = true ∧ s.power.stage = 0 ∧ s.power.ready = false ∧ s.clocks.time.valid = false ∧ s.twin.role = .alone ∧ s.lease.owner = none ∧
    s.lease.staged = [] ∧ s.mail.boxes.length = 16 ∧ (∀ b ∈ s.mail.boxes, b.owned = false ∧ b.busy = false ∧ b.done = false) ∧ s.regs.globalErr = 0 ∧
    s.events.depth = 0 ∧ (∀ q ∈ s.mail.queues, q.depth = 0) ∧ s.intr.cause = 0 ∧ s.cfg.position = 0 ∧ s.cfg.positionValid = false ∧ s.cfg.pipes.length = 512 ∧
    (∀ e ∈ s.cfg.pipes, e.state = .free) ∧ (∀ x ∈ s.lanes.rx, x.role = .off ∧ x.lock = .search) ∧ (∀ x ∈ s.lanes.tx, x.role = .off) ∧
    s.lanes.claims = List.replicate 1024 0 ∧ s.cal.count = 0 ∧ s.cal.oscStop = true ∧ s.clocks.log.incNs = 4 ∧ s.health.alarm = false ∧ s.pending = []

/-- Package memory stays in canonical form: from every state in which it is, every step gives one in which it is (R396). -/
def Obligations.StepKeepsMemorySound : Prop :=
  ∀ (s t : State), s.Sound → step s = .next t → t.Sound

/-- Every command completes: `exec` answers a next state for each of them in every state, with the waiting commands, the variant and the serial number as they were
(R1, R360). -/
def Obligations.EveryCommandRuns : Prop :=
  ∀ (c : Instr) (s : State), ∃ t, exec c s = .next t ∧ t.pending = s.pending ∧ t.ident.variant = s.ident.variant ∧ t.ident.serial = s.ident.serial

/-- The frame of the rows of the lines and clocks, health and the crate bus: package memory, the lease, the DMA channels, the host's registers, the identity, and the position,
tick and lane roles of the configuration stay as they were. -/
def Obligations.LineRowsKeepTheRest : Prop :=
  ∀ (c : Instr) (s t : State), lineRow c = true → exec c s = .next t →
    t.fabric.mem = s.fabric.mem ∧ t.lease = s.lease ∧ t.dma = s.dma ∧ t.regs = s.regs ∧ t.ident = s.ident ∧ t.cfg.tick = s.cfg.tick ∧
    t.cfg.position = s.cfg.position ∧ t.cfg.rxCfg = s.cfg.rxCfg ∧ t.cfg.txCfg = s.cfg.txCfg ∧ t.cfg.peers = s.cfg.peers

/-- An S or O command from a sender without the lease is refused with NO_LOCK, or with LOCK_HELD when another holds it, and what changes the configuration of a
pair is refused with NOT_ACTIVE at a STANDBY: S and L commands, TWIN_SWITCH, and the commands that R339 journals, those with TARGET partner among them. Nothing
else changes (R364, R374, R507). Left out is a standby that may take no claim and has no partner, which takes these commands (the model's choice, log 174). -/
def Obligations.SendersWithoutTheLeaseAreRefused : Prop :=
  ∀ (s : State) (o : Origin) (args : List Byte) (r : KilnReading) (fault : Bool) (host : List Byte), Served s o →
    let refused (st : Status) (op : Nat) (i : Instr) : Prop := Completes i s o.mailbox st [] (s.taken o op args)
    let all (st : Status) (rows : List MailRow) : Prop := ∀ x ∈ rows, x.len args = none → args.length ≤ 1024 → refused st x.op (x.cmd o args)
    let leased (st : Status) : Prop := all st (sRows ++ oRows r fault host) ∧
      (args.length = 24 → (s.power.stage = 6 → s.clocks.dpll.state ≠ .locked ∧ ∃ c ∈ s.clocks.dpll.entries, c ≠ 0) → refused st 0x0500 (.refConfig o args)) ∧
      (args.length = 4 → s.health.fw.resetDue = false → refused st 0x0808 (.fwActivate o args) ∧ refused st 0x0905 (.packageReset o args))
    (s.twin.role ≠ .standby → s.lease.owner = none → leased .noLock) ∧
    (s.twin.role ≠ .standby → s.lease.owner ≠ none → s.holds o = false → leased .lockHeld) ∧
    (s.twin.role = .standby → s.claimless = false → all .notActive (sRows ++ activeRows) ∧
      (args.length = 24 → field args 1 1 = 1 → refused .notActive 0x0806 (.fwStage o args host)) ∧
      (args.length = 4 → s.health.fw.resetDue = false → field args 0 1 = 1 → refused .notActive 0x0808 (.fwActivate o args)) ∧
      (args.length = 12 → field args 1 1 = 1 → refused .notActive 0x0809 (.ownerSeal o args)))

/-! ### Rules stated whole -/

/-- R96: an offset block with more over-range samples than OFFSET_CLIP_MAX leaves the estimate as it was and adds 1 to OFFSET_HELD; one without leaves
OFFSET_HELD. A load that OFFSET_FREEZE has made due at the boundary is the only other thing that sets the estimate there. -/
def Obligations.ClippedOffsetBlockIsHeld : Prop :=
  ∀ (s : State) (pipe input : Nat) (c : Chain), s.works = true → c ∈ s.data.chains → Chain.isOf pipe input c = true → c.cfg.offsetLog2 ≠ 0 →
    c.sumSeen = 2 ^ c.cfg.offsetLog2 →
    (c.cfg.offsetClipMax < c.sumClipped → Gives (.offsetBlockEnd pipe input) s fun t => ∃ x ∈ t.data.chains, Chain.isOf pipe input x = true ∧
      x.offsetHeld = rcAdd 32 c.offsetHeld 1 ∧ x.sumSeen = 0 ∧ x.sumClipped = 0 ∧
      (c.freezeNext = [] → x.muRe = c.muRe ∧ x.muIm = c.muIm)) ∧
    (c.sumClipped ≤ c.cfg.offsetClipMax → Gives (.offsetBlockEnd pipe input) s fun t => ∃ x ∈ t.data.chains, Chain.isOf pipe input x = true ∧
      x.offsetHeld = c.offsetHeld ∧ x.sumSeen = 0 ∧
      (c.freezeNext = [] → c.frozen = false → x.muRe = rndShift c.sumRe (c.cfg.offsetLog2 - scaleF c.cfg.format)))

/-- R421: MATRIX_SLICES sets the slices of one link, or of every link from FROM_DIE, to SLICES and leaves the other links; it is refused with REFUSED_STATE while an
INGEST, CORR or BEAM pipe exists. -/
def Obligations.MatrixSlicesSetsLinks : Prop :=
  ∀ (s : State) (o : Origin) (args : List Byte), Leads s o → args.length = 4 →
    let t := s.taken o 0x0701 args
    let src := field args 0 1
    let dst := field args 1 1
    let named (d : Nat) : Prop := d < s.dies ∧ d ≠ src ∧ (dst = 0xFF ∨ d = dst)
    src < s.dies → (dst = 0xFF ∨ (dst < s.dies ∧ dst ≠ src)) → field args 2 1 ≤ 3 → field args 3 1 = 0 →
    ((t.cfg.dataPipes || t.candidate.dataPipes) = false →
      ∃ ls, Completes (.matrixSlices o args) s o.mailbox .ok [] { t with fabric := { t.fabric with slices := ls } } ∧
        (∀ d, named d → { src := src, dst := d, slices := field args 2 1 } ∈ ls) ∧
        (∀ x ∈ ls, x.src = src → named x.dst → x.slices = field args 2 1) ∧
        (∀ x : LinkSlices, ¬(x.src = src ∧ named x.dst) → (x ∈ ls ↔ x ∈ s.fabric.slices))) ∧
    ((t.cfg.dataPipes || t.candidate.dataPipes) = true → Completes (.matrixSlices o args) s o.mailbox .refusedState [] t)

/-- R500: CRATE_CONFIG sets ALONE_SLEEP_OK and WAKE_CRATE from FLAGS, refuses a reserved bit or byte that is not zero; the configuration area keeps its settings, and
they outlast a reset (R399; that they are stored when the command completes is the model's choice, log 64). -/
def Obligations.CrateConfigSetsItsFlags : Prop :=
  ∀ (s : State) (o : Origin) (args : List Byte), Leads s o → args.length = 4 →
    (field args 0 1 < 4 → ZeroBytes args 1 4 → ∃ u, Completes (.crateConfig o args) s o.mailbox .ok [] u ∧ u.power = s.power ∧ u.fabric = s.fabric ∧
      u.crate = { s.crate with aloneSleepOk := (field args 0 1).testBit 0, wakeCrate := (field args 0 1).testBit 1 } ∧
      (s.holdOk .page = true → u.settings ≠ (s.taken o 0x0902 args).settings →
        u.health.norConfig = u.settings ∧ u.health.norConfig.aloneSleepOk = (field args 0 1).testBit 0)) ∧
    (4 ≤ field args 0 1 ∨ ¬ ZeroBytes args 1 4 → Completes (.crateConfig o args) s o.mailbox .badArgument [] (s.taken o 0x0902 args)) ∧
    (Gives .resetAssert s fun t => t.crate.aloneSleepOk = s.health.norConfig.aloneSleepOk ∧ t.crate.wakeCrate = s.health.norConfig.wakeCrate)

/-! ### Commands that read (class R, R374) -/

/-- NOP (R393), LOCK_STATUS (R375) and FW_STATUS (R464) complete for every served sender, and change nothing but what completing touches. -/
def Obligations.PlainReadsComplete : Prop :=
  ∀ (s : State) (o : Origin), Served s o →
    (let t := s.taken o 0x0001 []
     Completes (.nop o []) s o.mailbox .ok (leBytes 4 s.ident.fwVersion.toNat ++ leBytes 4 s.regs.alive.toNat) t) ∧
    (let t := s.taken o 0x0013 []
     ∃ reply, reply.length = 16 ∧ field reply 4 4 = t.lease.leftMs % 2 ^ 32 ∧ field reply 8 4 = s.lease.staged.length % 2 ^ 32 ∧
       field reply 2 1 = nat01 s.lease.owner.isSome + 2 * nat01 (s.lease.owner.getD (false, 0)).1 ∧ field reply 0 2 = (s.lease.owner.getD (false, 0)).2 % 65536 ∧
       Completes (.lockStatus o []) s o.mailbox .ok reply t) ∧
    (let t := s.taken o 0x0807 []
     ∃ reply, reply.length = 20 ∧ field reply 0 1 = nat01 s.ident.fwBank ∧ field reply 11 1 = s.health.fw.lastResult % 256 ∧
       Completes (.fwStatus o []) s o.mailbox .ok reply t)

/-- CLOCK_STATUS (R324), TWIN_STATUS (R356), HEALTH_STATUS (R462), HOLDUP_STATUS (R465), CRATE_STATUS (R501) and SENSOR_READ (R502) complete for every
served sender with a reply of their table's length; their RC counters read are zero after (R13). -/
def Obligations.StatusReadsComplete : Prop :=
  ∀ (s : State) (o : Origin), Served s o →
    (∃ reply u, reply.length = 56 ∧ field reply 0 1 = s.clocks.dpll.state.code ∧ u.clocks.dpll.switches = 0 ∧ u.clocks.dpll.jumpsRefused = 0 ∧
       u.clocks.time = s.clocks.time ∧ u.twin = s.twin ∧ Completes (.clockStatus o []) s o.mailbox .ok reply u) ∧
    (∃ reply, reply.length = 56 ∧ field reply 8 4 = s.twin.claim % 2 ^ 32 ∧ field reply 24 4 = s.twin.digestMismatches % 2 ^ 32 ∧
       field reply 32 4 = s.twin.hbMissed % 2 ^ 32 ∧ field reply 36 4 = s.twin.takeovers % 2 ^ 32 ∧
       Completes (.twinStatus o []) s o.mailbox .ok reply ((s.taken o 0x0603 []).modTwin fun t =>
         { t with digestMismatches := 0, copiesLate := 0, hbMissed := 0, takeovers := 0, repairsServed := 0, repairsRefused := 0 })) ∧
    (let t := s.taken o 0x0804 []
     ∃ reply, reply.length = 52 ∧ field reply 24 1 = nat01 s.health.alarm ∧ field reply 28 4 = s.health.log.badSlots % 2 ^ 32 ∧
       field reply 32 8 = s.health.log.nextSeq % 2 ^ 64 ∧
       Completes (.healthStatus o []) s o.mailbox .ok reply
         { t with health := { t.health with log := { t.health.log with badSlots := 0 }, overrides := 0, reconciles := 0 } }) ∧
    (let t := s.taken o 0x080A []
     ∃ reply, reply.length = 28 ∧ field reply 0 4 = s.health.holdupMv % 2 ^ 32 ∧ field reply 24 4 = s.health.episodes % 2 ^ 32 ∧
       Completes (.holdupStatus o []) s o.mailbox .ok reply { t with health := { t.health with episodes := 0 } }) ∧
    (∃ reply, reply.length = 36 ∧ field reply 0 1 = s.ident.nodeId % 256 ∧ field reply 1 1 = nat01 s.crate.alone ∧
       field reply 12 4 = s.crate.framesTx % 2 ^ 32 ∧ field reply 20 4 = s.crate.crcErrors % 2 ^ 32 ∧
       Completes (.crateStatus o []) s o.mailbox .ok reply ((s.taken o 0x0903 []).modCrate fun c =>
         { c with framesTx := 0, framesRx := 0, crcErrors := 0, retries := 0, aloneEntries := 0, sleepAborts := 0 })) ∧
    (let t := s.taken o 0x0904 []
     ∃ reply, reply.length = 14 ∧ field reply 4 2 = s.power.floorMv % 65536 ∧ field reply 6 2 = s.power.requestMv % 65536 ∧
       field reply 10 2 = s.power.pwrFault.toNat ∧ field reply 12 1 = nat01 s.power.thermTrip ∧ field reply 13 1 = 0 ∧
       Completes (.sensorRead o []) s o.mailbox .ok reply { t with free := t.free + 3 })

/-- The reads of one die, lane, element or log that name what the package has complete: TILE_MAP (R187), HBM_STATUS (R423), SRAM_MAP (R424), KILN_STATUS
(R459), LANE_STATUS (R284), LOG_READ (R463) and PIPE_LIST (R373). -/
def Obligations.NamedReadsComplete : Prop :=
  ∀ (s : State) (o : Origin) (args : List Byte), Served s o →
    (args.length = 4 → field args 0 1 < s.dies → ZeroBytes args 1 4 →
      (let t := s.taken o 0x0301 args
       Completes (.tileMap o args) s o.mailbox .ok
         ((s.die (field args 0 1)).tiles.flatMap (leBytes 1 ·) ++ (s.die (field args 0 1)).tileMap.flatMap fun p => leBytes 1 (p.getD 0xFF)) t) ∧
      (let t := s.taken o 0x0702 args
       ∃ reply, reply.length = 64 ∧ field reply 0 1 = (s.stack (field args 0 1)).trainState % 256 ∧
         field reply 16 4 = (s.stack (field args 0 1)).panics % 2 ^ 32 ∧
         Completes (.hbmStatus o args) s o.mailbox .ok reply (State.modStack { t with free := t.free + 1 } (field args 0 1) fun h =>
           { h with refreshes := 0, panics := 0, panicLongestNs := 0, nbrRefreshes := 0, eccCorrected := 0, eccUncorrectable := 0, rtDrops := 0
                    scrubPasses := 0, scrubUncorrectable := 0, sramCorrected := 0, sramUncorrectable := 0 })) ∧
      (let t := s.taken o 0x0704 args
       Completes (.sramMap o args) s o.mailbox .ok
         (sramPartitions.flatMap fun (c, off, n) => leBytes 1 c ++ leBytes 3 0 ++ leBytes 4 off ++ leBytes 4 n) t)) ∧
    (args.length = 4 → 1 ≤ field args 0 1 → field args 0 1 ≤ 5 → s.hasElement (elementArg args) = true → field args 3 1 = 0 →
      ∃ reply u, reply.length = 28 ∧ u.fabric.mem = s.fabric.mem ∧ u.lanes = s.lanes ∧ Completes (.kilnStatus o args) s o.mailbox .ok reply u) ∧
    (args.length = 4 → s.hasLane (field args 0 1) = true → field args 1 1 ≤ 1 → ZeroBytes args 2 4 →
      let t := s.taken o 0x0404 args
      ∃ reply, field reply 0 1 = s.laneState (field args 0 1) (field args 1 1) % 256 ∧ Completes (.laneStatus o args) s o.mailbox .ok reply
        (if field args 1 1 = 0 then t.modRx (field args 0 1) RxLane.clearCounters else t)) ∧
    (args.length = 13 → field args 0 1 ≤ 1 → ZeroBytes args 1 4 → 1 ≤ field args 12 1 → field args 12 1 ≤ 15 →
      let t := s.taken o 0x0805 args
      ∃ reply, field reply 0 8 = s.health.log.nextSeq % 2 ^ 64 ∧ field reply 8 1 ≤ field args 12 1 ∧ Completes (.logRead o args) s o.mailbox .ok reply t) ∧
    (args.length = 4 → ZeroBytes args 2 4 →
      let t := s.taken o 0x0103 args
      ∃ reply, reply.length ≤ 1024 ∧ reply.length % 8 = 0 ∧ Completes (.pipeList o args) s o.mailbox .ok reply t)

/-- The reads of a pipe's counters complete when the handle names a pipe of the right kind that is not STAGED, and the counters read are zero after (R13):
INGEST_STATS (R116), GAIN_READ (R148), CORR_STATS (R186), BEAM_STATS (R220) and SINK_STATS (R245). -/
def Obligations.PipeReadsComplete : Prop :=
  ∀ (s : State) (o : Origin) (args : List Byte), Served s o →
    let h := field args 0 4
    let i := field args 0 2
    (let t := s.taken o 0x0202 args
     args.length = 8 → t.cfg.stale h = false → bits h 28 4 = 1 → t.isStagedPipe o h = false → ZeroBytes args 6 8 →
       (t.cfg.entry h).assigned (field args 4 2) = true →
       ∃ reply u, reply.length = 64 ∧ u.cfg = t.cfg ∧ u.fabric = s.fabric ∧
         (∀ c ∈ u.data.chains, Chain.isOf i (field args 4 2) c = true → c.clipCount = 0 ∧ c.spallHits = 0 ∧ c.missing = 0 ∧ c.late = 0) ∧
         Completes (.ingestStats o args) s o.mailbox .ok reply u) ∧
    (let t := s.taken o 0x0213 args
     args.length = 12 → t.cfg.stale h = false → bits h 28 4 = 1 → t.isStagedPipe o h = false → 1 ≤ field args 8 2 → field args 8 2 ≤ 124 →
       ZeroBytes args 10 12 → (t.cfg.entry h).assigned (field args 4 2) = true →
       field args 6 2 + field args 8 2 ≤ ((t.cfg.entry h).ingestAt (t.gainTick i (field args 4 2))).chCount →
       ∃ reply u, reply.length = 8 * field args 8 2 ∧ u.cfg = t.cfg ∧ u.fabric = s.fabric ∧ Completes (.gainRead o args) s o.mailbox .ok reply u) ∧
    (let t := s.taken o 0x0300 args
     args.length = 8 → t.cfg.stale h = false → bits h 28 4 = 2 → t.isStagedPipe o h = false → field args 4 1 < s.dies → ZeroBytes args 5 8 →
       ∃ reply u, reply.length = 72 ∧ field reply 0 8 = (s.corrCount i (field args 4 1)).ovfReplays % 2 ^ 64 ∧
         field reply 8 8 = (s.corrCount i (field args 4 1)).faultReplays % 2 ^ 64 ∧ u.cfg = t.cfg ∧ u.fabric = s.fabric ∧
         u.corrCount i (field args 4 1) = { pipe := i, die := field args 4 1 } ∧ Completes (.corrStats o args) s o.mailbox .ok reply u) ∧
    (let t := s.taken o 0x0313 args
     args.length = 8 → t.cfg.stale h = false → bits h 28 4 = 3 → t.isStagedPipe o h = false → field args 4 1 < s.dies → ZeroBytes args 5 8 →
       ∃ reply u, reply.length = 72 ∧ field reply 0 8 = (s.beamCount i (field args 4 1)).rx % 2 ^ 64 ∧ u.cfg = t.cfg ∧ u.fabric = s.fabric ∧
         u.beamCount i (field args 4 1) = { pipe := i, die := field args 4 1 } ∧ Completes (.beamStats o args) s o.mailbox .ok reply u) ∧
    (let t := s.taken o 0x0321 args
     args.length = 4 → t.cfg.stale h = false → bits h 28 4 = 4 → t.isStagedPipe o h = false →
       ∃ reply u, reply.length = 48 ∧ field reply 0 8 = (s.sinkCount i).datagrams % 2 ^ 64 ∧ field reply 8 8 = (s.sinkCount i).bytes % 2 ^ 64 ∧
         u.cfg = t.cfg ∧ u.fabric = s.fabric ∧ (u.sinkCount i).datagrams = 0 ∧ (u.sinkCount i).bytes = 0 ∧ (u.sinkCount i).dropped = 0 ∧
         Completes (.sinkStats o args) s o.mailbox .ok reply u)

/-! ### Staging and the lease (R370 to R379) -/

/-- An S command that no test of R507 refuses is appended to the staging and completes; the running configuration stays as it is (R374, R376). PIPE_CREATE is
staged with its new handle, which DETAIL gives: KIND, the entry's generation and the lowest free index
(R370, R371, R373; that the lowest is taken is the model's choice, log 95). -/
def Obligations.StagedCommandsAppend : Prop :=
  (∀ (s : State) (o : Origin) (args : List Byte), Holds s o → s.power.ready = true →
     let t (op : Nat) : State := s.taken o op args
     let x (op : Nat) : Staged := { opcode := op, args := args }
     (args.length = 4 → field args 1 1 < 4 → ZeroBytes args 2 4 → ((t 0x0020).candidate.anyPipe || (t 0x0020).cfg.anyPipe) = false →
       s.lease.staged.length < 256 → (s.lease.staged.map (·.args.length)).sum + args.length ≤ 262144 →
       Completes (.positionSet o args) s o.mailbox .ok [] ((t 0x0020).stage (x 0x0020))) ∧
     (args.length = 36 → (cmdTickConfig o args (t 0x0021)).accepted = true →
       Completes (.tickConfig o args) s o.mailbox .ok [] ((t 0x0021).stage (x 0x0021))) ∧
     (pipeLen args = none → args.length ≤ 1024 → (cmdPipeModify o args (t 0x0101)).accepted = true →
       Completes (.pipeModify o args) s o.mailbox .ok [] ((t 0x0101).stage (x 0x0101))) ∧
     (args.length = 16 → (cmdPipeDestroy o args (t 0x0102)).accepted = true →
       Completes (.pipeDestroy o args) s o.mailbox .ok [] ((t 0x0102).stage (x 0x0102))) ∧
     (listLen 8 8 4 2 args = none → args.length ≤ 1024 → (cmdIngestInputs o args (t 0x0200)).accepted = true →
       Completes (.ingestInputs o args) s o.mailbox .ok [] ((t 0x0200).stage (x 0x0200))) ∧
     (listLen 16 12 4 2 args = none → args.length ≤ 1024 → (cmdTurnDestSet o args (t 0x0210)).accepted = true →
       Completes (.turnDestSet o args) s o.mailbox .ok [] ((t 0x0210).stage (x 0x0210))) ∧
     (listLen 8 8 4 2 args = none → args.length ≤ 1024 → (cmdBeamInputs o args (t 0x0310)).accepted = true →
       Completes (.beamInputs o args) s o.mailbox .ok [] ((t 0x0310).stage (x 0x0310))) ∧
     (listLen 8 8 4 2 args = none → args.length ≤ 1024 → (cmdBeamContrib o args (t 0x0311)).accepted = true →
       Completes (.beamContrib o args) s o.mailbox .ok [] ((t 0x0311).stage (x 0x0311))) ∧
     (listLen 8 32 4 2 args = none → args.length ≤ 1024 → (cmdSinkDest o args (t 0x0320)).accepted = true →
       Completes (.sinkDest o args) s o.mailbox .ok [] ((t 0x0320).stage (x 0x0320))) ∧
     (args.length = 8 → (cmdLaneConfig o args (t 0x0400)).accepted = true →
       Completes (.laneConfig o args) s o.mailbox .ok [] ((t 0x0400).stage (x 0x0400))) ∧
     (args.length = 8 → (cmdSparePeer o args (t 0x0401)).accepted = true →
       Completes (.sparePeer o args) s o.mailbox .ok [] ((t 0x0401).stage (x 0x0401)))) ∧
  (∀ (s : State) (o : Origin) (args : List Byte), Holds s o → pipeLen args = none → args.length ≤ 1024 →
     let t := s.taken o 0x0100 args
     (cmdPipeCreate o args t).accepted = true →
     ∃ i u, t.candidate.freeEntry = some i ∧
       (let h := makeHandle (field args 0 1) (t.candidate.pipes.getD i {}).gen i
        exec (.pipeCreate o args) s = .next u ∧ Answered u o.mailbox .ok [] ∧ (u.box o.mailbox).detail = BitVec.ofNat 32 h ∧
          SameButMail (t.stage { opcode := 0x0100, args := args, handle := h }) u))

/-- CONFIG_LOCK grants, renews and releases the lease; CONFIG_ABORT discards the staging (R375, R376). MGMT_NET puts its addresses, ports and prefix in force,
and no session stays whose address it does not allow (R369). -/
def Obligations.LeaseAndNetworkCommandsComplete : Prop :=
  (∀ (s : State) (o : Origin) (args : List Byte), Served s o → s.twin.role ≠ .standby →
     let t := s.taken o 0x0010 args
     let ms := if field args 2 2 = 0 then 5000 else field args 2 2
     (args.length = 4 → field args 0 1 = 1 → field args 1 1 = 0 → (s.lease.owner = none ∨ s.holds o = true) → 1000 ≤ ms → ms ≤ 60000 →
       ∃ address, Completes (.configLock o args) s o.mailbox .ok []
         { t with lease := { t.lease with owner := some (o.ethernet, o.id), address := address, leftMs := ms, fullMs := ms } }) ∧
     (args.length = 4 → field args 0 1 = 2 → field args 1 1 = 0 → s.holds o = true → 1000 ≤ ms → ms ≤ 60000 → s.lease.staged = [] →
       Completes (.configLock o args) s o.mailbox .ok []
         { t with lease := { t.lease with owner := none, address := 0, leftMs := 0, fullMs := 0, inherited := false } }) ∧
     (s.holds o = true → ∃ u, u.lease.staged = [] ∧ u.lease.owner = s.lease.owner ∧ u.data = s.data ∧ u.cfg.tick = s.cfg.tick ∧ u.cfg.position = s.cfg.position ∧
       Completes (.configAbort o []) s o.mailbox .ok [] u)) ∧
  (∀ (s : State) (o : Origin) (args : List Byte), Leads s o → args.length = 80 → field args 4 1 ≤ 32 → field args 5 1 ≤ 128 → field args 60 1 ≤ 128 →
     field args 61 1 = 0 →
     ∃ u, exec (.mgmtNet o args) s = .next u ∧ Answered u o.mailbox .ok [] ∧ u.mgmt.addr4 = BitVec.ofNat 32 (fieldBE args 0 4) ∧
       u.mgmt.prefix4 = field args 4 1 ∧ u.mgmt.udpPort = (if field args 6 2 = 0 then 47120 else field args 6 2) ∧
       u.mgmt.addr6 = BitVec.ofNat 128 (fieldBE args 12 16) ∧ u.mgmt.allow = BitVec.ofNat 128 (fieldBE args 44 16) ∧ u.mgmt.allowLen = field args 60 1 ∧
       u.mgmt.syslogAddr = BitVec.ofNat 128 (fieldBE args 64 16) ∧ ∀ x ∈ u.mgmt.sessions, u.mgmt.allows x.address = true)

/-- CONFIG_COMMIT by the holder, not too late for the earliest tick its staging names, with no pipe that holds too little and room for every area, completes
when there is no hot standby to wait for: it makes the candidate the running configuration and leaves the staging empty (R376, R339). -/
def Obligations.CommitTakesTheCandidate : Prop :=
  ∀ (s : State) (o : Origin), Holds s o →
    let t := s.taken o 0x0011 []
    ∀ c, (t.commitLate).1 = false → t.shortPipes = false → placeAll t.dies t.data.scopes (touched t.lease.staged) t.candidate = .ok c → t.hotPair = false →
    ∃ u, Completes (.configCommit o []) s o.mailbox .ok [] u ∧ u.lease.staged = [] ∧ u.lease.owner = s.lease.owner ∧ u.fabric.mem = s.fabric.mem ∧
      u.cfg.position = t.candidate.position ∧ u.cfg.positionValid = t.candidate.positionValid ∧ u.cfg.tick = t.candidate.tick ∧
      u.cfg.rxCfg = t.candidate.rxCfg ∧ u.cfg.txCfg = t.candidate.txCfg ∧ u.cfg.peers = t.candidate.peers ∧
      u.cfg.pipes = c.pipes.map PipeEntry.commit

/-! ### Tables of pipes (class T, R372, R374) -/

/-- A T command on a pipe that runs takes effect now, and goes to the journal; one on a pipe that the holder has staged is staged with it (R339, R372, R374):
OFFSET_FREEZE (R115), DELAY_LOAD (R146), GAIN_LOAD (R147), WINDOW_LOAD (R149) and WEIGHT_LOAD (R219). -/
def Obligations.TableCommandsComplete : Prop :=
  ∀ (s : State) (o : Origin) (args : List Byte), Served s o → s.twin.role ≠ .standby → args.length ≤ 1024 →
    let h := field args 0 4
    let done (op : Nat) (i : Instr) (f : State → State) : Prop :=
      let t := s.taken o op args
      (t.isStagedPipe o h = false → t.hotPair = false →
        Completes i s o.mailbox .ok [] ((f t).journal op args (t.journalMem op args) 0)) ∧
      (t.isStagedPipe o h = true → Completes i s o.mailbox .ok [] (t.stage { opcode := op, args := args, mem := t.journalMem op args }))
    (args.length = 20 → (cmdOffsetFreeze o args (s.taken o 0x0201 args)).accepted = true → done 0x0201 (.offsetFreeze o args) (applyOffsetFreeze args)) ∧
    (listLen 16 36 14 2 args = none → (cmdDelayLoad o args (s.taken o 0x0211 args)).accepted = true →
      done 0x0211 (.delayLoad o args) (applyDelayLoad args)) ∧
    (listLen 20 4 8 2 args = none → (cmdGainLoad o args (s.taken o 0x0212 args)).accepted = true → done 0x0212 (.gainLoad o args) (applyGainLoad args)) ∧
    (listLen 12 4 6 2 args = none → (cmdWindowLoad o args (s.taken o 0x0214 args)).accepted = true →
      done 0x0214 (.windowLoad o args) (applyWindowLoad args)) ∧
    (args.length = 40 → (cmdWeightLoad o args (s.taken o 0x0312 args)).accepted = true →
      done 0x0312 (.weightLoad o args) fun t => applyWeights args (t.pkgRead (field args 16 8) (tableBytes args)).1 (t.pkgRead (field args 16 8) (tableBytes args)).2)

/-! ### Operations (class O) -/

/-- Clock commands complete with their settings in force: REF_CONFIG (R317), REF_INPUT_CONFIG (R318), CLOCK_STEER (R298), LOG_TIME_SET with the log entry
of its step (R306, R321; INC_NS is tested with SET_INC clear too: the model's choice, log 87), PTP_CONFIG, which restarts the port (R322), PULSE_CONFIG (R323)
and REF_TIME_ACCEPT, which pulls in the offset of a selected input (R303). TIME_SET without AT_PPS sets data-path time when it completes; with AT_PPS it stays in progress for
the edge (R301, R320). -/
def Obligations.ClockCommandsComplete : Prop :=
  (∀ (s : State) (o : Origin) (args : List Byte), Leads s o →
     (args.length = 24 → (cmdRefConfig o args (s.taken o 0x0500 args)).accepted = true →
       ∃ u, exec (.refConfig o args) s = .next u ∧ Answered u o.mailbox .ok [] ∧ u.clocks.dpll.entries = (List.range 6).map (fun k => field args (8 + k) 1) ∧
         u.clocks.dpll.revertive = (field args 0 1).testBit 0 ∧ u.clocks.dpll.haulRecLane = field args 1 1 ∧ u.clocks.dpll.xoFreqHz = field args 4 4 ∧
         u.clocks.dpll.slopePpb = (if field args 14 2 = 0 then 100 else field args 14 2) ∧
         u.clocks.dpll.wtrS = (if field args 2 2 = 0xFFFF then 60 else field args 2 2) ∧
         u.clocks.dpll.jumpThreshNs = (if field args 16 4 = 0 then 100 else field args 16 4) ∧
         u.clocks.dpll.holdAllowPpb = (if field args 20 2 = 0xFFFF then 1 else field args 20 2) ∧
         u.clocks.dpll.holdAvgS = (if field args 22 2 = 0 then 100 else field args 22 2) ∧ u.clocks.dpll.steerPpt ∈ [s.clocks.dpll.steerPpt, 0]) ∧
     (let t := s.taken o 0x0501 args
      args.length = 20 → (cmdRefInputConfig o args t).accepted = true →
       Completes (.refInputConfig o args) s o.mailbox .ok [] (t.modRef (field args 0 1) fun x =>
         { x with qualS := if field args 2 2 = 0 then 10 else field args 2 2, freqHz := field args 4 4
                  bwMilliHz := if field args 8 4 = 0 then [10000, 10000, 50, 10, 200000, 200000].getD (field args 0 1 - 1) 0 else field args 8 4
                  qualPpm := if field args 0 1 = 3 ∨ field args 0 1 = 4 then 0 else if field args 12 2 = 0 then 10 else field args 12 2
                  delayPs := fieldS args 16 4 })) ∧
     (let t := s.taken o 0x0502 args
      args.length = 4 → (fieldS args 0 4).natAbs ≤ 200000000 → s.clocks.dpll.state ≠ .acquire → s.clocks.dpll.state ≠ .locked →
        (s.clocks.dpll.beyondPull (fieldS args 0 4) = true → s.lanesQuiet = true) →
       Completes (.clockSteer o args) s o.mailbox .ok [] (t.modDpll fun d =>
         { d with steerPpt := fieldS args 0 4, wide := s.clocks.dpll.beyondPull (fieldS args 0 4) })) ∧
     (args.length = 20 → field args 0 1 < 8 → 3 ≤ field args 1 1 → field args 1 1 ≤ 5 →
        ¬((field args 0 1).testBit 1 = true ∧ (field args 0 1).testBit 2 = true) → ZeroBytes args 2 4 → field args 8 8 < 2 ^ 48 → field args 16 4 < 10 ^ 9 →
       ∃ u, u.clocks.time = s.clocks.time ∧
         u.clocks.log.incNs = (if (field args 0 1).testBit 0 then field args 1 1 else s.clocks.log.incNs) ∧
         u.clocks.log.incFrac = (if (field args 0 1).testBit 0 then field args 4 4 else s.clocks.log.incFrac) ∧
         ((field args 0 1).testBit 1 = true → u.clocks.log.sec = field args 8 8 ∧ u.clocks.log.ns = field args 16 4) ∧
         ((field args 0 1).testBit 2 = true → u.clocks.log.sec = s.clocks.time.sec ∧ u.clocks.log.ns = s.clocks.time.ns) ∧
         ((field args 0 1).testBit 1 = false → (field args 0 1).testBit 2 = false → u.clocks.log.sec = s.clocks.log.sec ∧ u.clocks.log.ns = s.clocks.log.ns) ∧
         ((field args 0 1).testBit 1 = true ∨ (field args 0 1).testBit 2 = true → s.health.log.dead = false → s.holdOk .log = true → s.health.log.badMedia = [] →
           ∃ k e, u.health.log.slots.find? (·.1 == s.health.log.nextSeq % 262144) = some (k, e) ∧ e.code = 0x040B ∧
             e.detail = leBytes 8 s.logTimeNs ++ leBytes 8 u.logTimeNs) ∧
         Completes (.logTimeSet o args) s o.mailbox .ok [] u) ∧
     (args.length = 20 → field args 0 1 < 8 → ¬((field args 0 1).testBit 1 = true ∧ (field args 0 1).testBit 2 = true) →
        (field args 1 1 < 3 ∨ 5 < field args 1 1) → Completes (.logTimeSet o args) s o.mailbox .badArgument [] (s.taken o 0x0504 args)) ∧
     (args.length = 24 → (cmdPtpConfig o args (s.taken o 0x0505 args)).accepted = true →
       ∃ u, u.clocks.ptp = { mode := field args 0 1, oneStep := (field args 1 1).testBit 0, peerDelay := (field args 1 1).testBit 1
                             transport := field args 1 1 / 4 % 4, domain := field args 2 1, priority1 := field args 3 1, priority2 := field args 4 1
                             logAnnounce := fieldS args 5 1, logSync := fieldS args 6 1, logDelay := fieldS args 7 1, announceTimeout := field args 8 1
                             txLatencyPs := field args 12 4, rxLatencyPs := field args 16 4, asymmetryPs := fieldS args 20 4
                             role := if field args 0 1 = 0 then .disabled else .listening } ∧
         (4 ≤ s.clocks.dpll.inputs.length → (u.refInput 4).qualified = false) ∧
         Completes (.ptpConfig o args) s o.mailbox .ok [] u) ∧
     (let t := s.taken o 0x0506 args
      let c : PulseCfg :=
        { ppsWidthUs := if field args 0 4 = 0 then 100 else field args 0 4, tickWidthUs := if field args 4 4 = 0 then 10 else field args 4 4
          tickOffsetNs := fieldS args 8 4, refOutDiv := field args 12 1, ppsEn := (field args 13 1).testBit 0, tickEn := (field args 13 1).testBit 1 }
      args.length = 16 → (cmdPulseConfig o args t).accepted = true →
       Completes (.pulseConfig o args) s o.mailbox .ok [] (t.modPulses fun p => { p with next := some c })) ∧
     (args.length = 4 → 3 ≤ field args 0 1 → field args 0 1 ≤ 4 → ZeroBytes args 1 4 → 4 ≤ s.clocks.dpll.inputs.length →
       ∃ u, (u.refInput (field args 0 1)).timeBad = false ∧
         (s.clocks.dpll.code = some (field args 0 1) → u.clocks.dpll.pullInPs = (s.refInput (field args 0 1)).offsetPs ∧
           (u.refInput (field args 0 1)).accepted = false) ∧
         (s.clocks.dpll.code ≠ some (field args 0 1) → u.clocks.dpll.pullInPs = s.clocks.dpll.pullInPs ∧ (u.refInput (field args 0 1)).accepted = true) ∧
         Completes (.refTimeAccept o args) s o.mailbox .ok [] u)) ∧
  (∀ (s : State) (o : Origin) (args : List Byte), Leads s o → args.length = 16 → field args 0 8 < 2 ^ 48 → field args 8 4 < 10 ^ 9 →
     field args 12 1 < 2 → ZeroBytes args 13 16 → (s.taken o 0x0503 args).stepAllowed = true →
     ((field args 12 1).testBit 0 = false → ∃ u, u.clocks.time.valid = true ∧ u.clocks.time.sec = field args 0 8 ∧ u.clocks.time.ns = field args 8 4 ∧
       u.clocks.log = s.clocks.log ∧ Completes (.timeSet o args) s o.mailbox .ok [] u) ∧
     ((field args 12 1).testBit 0 = true → ∃ u, exec (.timeSet o args) s = .next u ∧ (u.box o.mailbox).busy = true ∧ u.clocks = s.clocks ∧
       ∃ r ∈ u.mail.running, r.origin = o ∧ r.waits = .pps (field args 0 8)))


/-- Twin and fabric commands complete: TWIN_CONFIG (R354), TWIN_DETACH at an attached standby (R351), MATRIX_PRIORITY (R420) and HBM_HAMMER_CONFIG (R422).
TWIN_SWITCH at an active that is attached, with a link lane LOCKED and in time, sends SWITCH and waits for its answer; with FORCE and no lane it sets FAULT 5
(R336, R350, R355). That TWIN_CONFIG acts at once where no TICK_CONFIG is in force is the model's choice (log 38). -/
def Obligations.TwinAndFabricCommandsComplete : Prop :=
  (∀ (s : State) (o : Origin) (args : List Byte), Leads s o →
     (args.length = 8 → field args 0 1 ≤ 2 → field args 1 1 = 0 → (field args 2 2 = 0 ∨ (100 ≤ field args 2 2 ∧ field args 2 2 ≤ 60000)) → ZeroBytes args 4 8 →
        (s.clocks.dpll.wide = true → field args 0 1 = 0) →
       ∃ u, u.twin.attachWaitMs = (if field args 2 2 = 0 then 2000 else field args 2 2) ∧
         (s.cfg.tick.isNone = true → u.twin.mode = twinMode (field args 0 1)) ∧
         (s.cfg.tick.isSome = true → u.twin.mode = s.twin.mode ∧ u.twin.nextMode = (if twinMode (field args 0 1) = s.twin.mode then none
           else some (twinMode (field args 0 1)))) ∧ Completes (.twinConfig o args) s o.mailbox .ok [] u) ∧
     (s.twin.role = .standby → s.twin.partner.isSome = true →
       Completes (.twinDetach o []) s o.mailbox .ok [] ((s.taken o 0x0602 []).modTwin fun w => { w with detachDue := true })) ∧
     (let t := s.taken o 0x0700 args
      args.length = 4 → (field args 0 1 = 0xFF ∨ field args 0 1 < s.dies) → field args 1 1 ≤ 7 → field args 2 1 ∈ targetsOf (field args 1 1) → field args 3 1 ≤ 7 →
       ∃ ps, Completes (.matrixPriority o args) s o.mailbox .ok [] { t with fabric := { t.fabric with priorities := ps } } ∧
         (∀ d, d < s.dies → (field args 0 1 = 0xFF ∨ d = field args 0 1) → ∀ p ∈ ps, p.die = d → p.master = field args 1 1 → p.target = field args 2 1 →
           p.priority = field args 3 1) ∧
         (∀ d, d < s.dies → (field args 0 1 = 0xFF ∨ d = field args 0 1) →
           { die := d, master := field args 1 1, target := field args 2 1, priority := field args 3 1 } ∈ ps)) ∧
     (args.length = 4 → (field args 0 1 = 0xFF ∨ field args 0 1 < s.dies) → 1 ≤ field args 1 1 → field args 1 1 ≤ 2 →
        (field args 2 2 = 0 ∨ (256 ≤ field args 2 2 ∧ field args 2 2 ≤ 2048)) → s.dies ≤ s.fabric.hbm.length →
       ∃ u, u.fabric.mem = s.fabric.mem ∧ (∀ d, d < s.dies → (field args 0 1 = 0xFF ∨ d = field args 0 1) →
           (u.stack d).nextHammer = some (if field args 2 2 = 0 then 2048 else field args 2 2, field args 1 1) ∧ (u.stack d).thresh = (s.stack d).thresh) ∧
         Completes (.hbmHammerConfig o args) s o.mailbox .ok [] u)) ∧
  (∀ (s : State) (o : Origin) (args : List Byte), Leads s o → s.twin.role = .active → s.twin.partner.isSome = true → s.cfg.tick.isSome = true →
     args.length = 12 → field args 0 8 < 2 ^ 48 → field args 8 1 < 2 → ZeroBytes args 9 12 → s.switchLate (field args 0 8) = false →
     (s.linkLanes ≠ 0 → ∃ u, exec (.twinSwitch o args) s = .next u ∧ (u.box o.mailbox).busy = true ∧ (∃ r ∈ u.mail.running, r.origin = o ∧ r.waits = .switchAck) ∧
       (s.freeLanes ≠ [] → s.twin.waiting = [] →
         ∃ lane f, .twin lane f ∈ u.out ∧ f.layout = 8 ∧ f.payload = leBytes 6 (field args 0 8) ++ leBytes 2 (field args 8 1))) ∧
     (s.linkLanes = 0 → (field args 8 1).testBit 0 = true → s.twin.fault = none →
       Completes (.twinSwitch o args) s o.mailbox .ok [] ((s.taken o 0x0601 args).modTwin fun w => { w with fault := some 5 })))

/-- Power commands complete: VCORE_OVERRIDE (R499), POWER_STATE that changes no state or begins a transition (R498), and
PACKAGE_RESET at a package that is no ACTIVE, which enters reset (R503; at once, a STANDBY too, and with its MODE kept: the model's choice, logs 55 and 82). -/
def Obligations.PowerCommandsComplete : Prop :=
  ∀ (s : State) (o : Origin) (args : List Byte), Leads s o →
    (args.length = 4 → (field args 0 2 = 0 ∨ (650 ≤ field args 0 2 ∧ field args 0 2 ≤ 800 ∧ field args 0 2 % 5 = 0)) → ZeroBytes args 2 4 →
      ∃ u, u.power = { s.power with overrideMv := field args 0 2 } ∧ Completes (.vcoreOverride o args) s o.mailbox .ok [] u) ∧
    (args.length = 4 → field args 0 1 = 2 → field args 1 1 = 0 → ZeroBytes args 2 4 → (s.taken o 0x0900 args).sleepAllowed = true → s.power.mode ≠ .dormant →
      ∃ u, u.power = { s.power with target := some (.dormant, 1), exitAfter := none } ∧ Completes (.powerState o args) s o.mailbox .ok [] u) ∧
    (args.length = 4 → field args 0 1 < 2 → field args 1 1 = 0 → ZeroBytes args 2 4 → s.power.mode = (if field args 0 1 = 0 then .idle else .run) →
       s.power.target = none → s.crate.sleep.proposal = none → (field args 0 1 = 1 → (s.taken o 0x0900 args).sleepAllowed = true) →
      ∃ u, u.power.target = some (if field args 0 1 = 0 then .run else .idle, 1) ∧ u.power.mode = s.power.mode ∧
        Completes (.powerState o args) s o.mailbox .ok [] u) ∧
    (args.length = 4 → field args 0 1 < 2 → ZeroBytes args 1 4 → s.twin.role ≠ .active →
       (s.taken o 0x0905 args).protectRuns = false ∨ (field args 0 1).testBit 0 = true →
      ∃ u, exec (.packageReset o args) s = .next u ∧ u.power.inReset = true ∧ u.power.stage = 0 ∧ u.power.ready = false ∧ u.power.activation = true ∧
        u.twin.mode = s.health.norConfig.mode ∧ u.cfg.position = s.health.norConfig.position ∧ u.lease.owner = none ∧ u.cal = s.cal)

/-- Health and lane commands complete: POLICY_SET (R461), KILN_RUN of each kind, a
die's free spares for kind 4 (R429 to R431, R458, log 69), UNIT_RESTORE by the unit's state and its test (R438,
R439, R460), LANE_SPARE (R270, R282; its request while the spare is in use: log 99), LANE_TEST (R276, R285) and LANE_CONTROL_IN (R283). LANE_EYE of a receiver that is LOCKED or under test stays in progress for its sampler (R278, R286). -/
def Obligations.HealthAndLaneCommandsComplete : Prop :=
  (∀ (s : State) (o : Origin) (args : List Byte), Leads s o →
     (let t := s.taken o 0x0803 args
      args.length = 16 → s.twin.role ≠ .standby → (cmdPolicySet o args t).accepted = true → s.hotPair = false →
       ∃ u, u.health.policy.withdrawC = (if field args 1 1 = 0 then 100 else field args 1 1) ∧
         u.health.policy.takeoverC = (if field args 2 1 = 0 then 103 else field args 2 1) ∧
         u.health.policy.reserveMj = (if field args 14 2 = 0 then 20 else field args 14 2) ∧
         (((s.taken o 0x0803 args).applyPolicy args).holdOk .page = true → u.health.alarm = (s.health.alarm && !(field args 0 1).testBit 0) ∧
           ((field args 0 1).testBit 0 = true → u.alarmPin = .highZ) ∧ (u.health.norConfig.policy = u.health.policy ∨ u.settings = s.settings)) ∧
         Completes (.policySet o args) s o.mailbox .ok [] u) ∧
     (args.length = 4 → (cmdKilnRun o args (s.taken o 0x0800 args)).accepted = true →
       ∃ u, (∀ e, (field args 0 1 ≠ 4 ∧ e = elementArg args) ∨
           (field args 0 1 = 4 ∧ ∃ p, p < 136 ∧ e = { kind := 4, die := field args 1 1, index := p } ∧ (s.die (field args 1 1)).tiles.getD p 2 = 1) →
           ((u.kilnRecord e).due || (u.kilnRecord e).inPass) = true) ∧
         u.fabric.mem = s.fabric.mem ∧ Completes (.kilnRun o args) s o.mailbox .ok [] u) ∧
     (∀ r fault,
       let kind := field args 0 1
       let die := field args 1 1
       let index := field args 2 1
       let t := s.taken o 0x0802 args
       let named : Prop := (kind = 1 ∧ die < s.dies ∧ index < 136) ∨ ((kind = 2 ∨ kind = 3) ∧ s.hasLane index = true) ∨ (kind = 4 ∧ die < s.dies ∧ index = 0) ∨
         (kind = 5 ∧ index = 0) ∨ (kind = 6 ∧ (index = 0 ∨ (index = 1 ∧ s.ident.variant = .s8)))
       args.length = 4 → named → field args 3 1 = 0 →
       (s.unitOut kind die index = false → Completes (.unitRestore o args r fault) s o.mailbox .ok [3, 0, 0, 0] t) ∧
       (s.unitOut kind die index = true → kind = 4 → t.areaOn die = true → Completes (.unitRestore o args r fault) s o.mailbox .ok [4, 0, 0, 0] t) ∧
       (s.unitOut kind die index = true → (kind = 4 → t.areaOn die = false) →
         ((t.unitTest kind die index r).1 = false → ∃ u, u.lanes = s.lanes ∧ u.data = s.data ∧ u.fabric = s.fabric ∧
           Completes (.unitRestore o args r fault) s o.mailbox .ok [1, 0, 0, 0] u) ∧
         ((t.unitTest kind die index r).1 = true → fault = true → ∃ u, u.lanes = s.lanes ∧ u.data = s.data ∧ u.fabric = s.fabric ∧
           Completes (.unitRestore o args r fault) s o.mailbox .ok [2, 0, 0, 0] u) ∧
         ((t.unitTest kind die index r).1 = true → fault = false → ∃ u, u.unitOut kind die index = false ∧ u.fabric.mem = s.fabric.mem ∧
           Completes (.unitRestore o args r fault) s o.mailbox .ok [0, 0, 0, 0] u))) ∧
     (let lane := field args 0 1
      let d := dieOfLane lane
      args.length = 4 → s.hasLane lane = true → lane < 128 → ZeroBytes args 2 4 → d < s.lanes.spareRx.length →
        (field args 1 1 = 1 → (s.rx lane).inTolerance = true → ∃ u, Completes (.laneSpare o args) s o.mailbox .ok [] u ∧
          ((s.spareRx d).isFree = true → (u.spareRx d).lane = lane ∧ (u.spareRx d).isFree = false) ∧
          ((s.spareRx d).isFree = false → (lane, (s.rx lane).remoteLane, s.lanes.nextTransaction) ∈ (u.spareRx d).extra)) ∧
        (field args 1 1 = 2 → (s.spareRx d).lane = lane →
          ((s.spareRx d).carries = true → ∃ u, exec (.laneSpare o args) s = .next u ∧ (u.box o.mailbox).busy = true ∧ (u.spareRx d).releaseAsked = true ∧
            ∃ r ∈ u.mail.running, r.origin = o ∧ r.waits = .spareRelease lane) ∧
          ((s.spareRx d).carries = false → (s.spareRx d).isFree = false → (∀ r ∈ s.mail.running, r.waits ≠ .spareRelease lane) →
            ∃ u, Completes (.laneSpare o args) s o.mailbox .ok [] u ∧ (u.spareRx d).step = .released))) ∧
     (let lane := field args 0 1
      let t := s.taken o 0x0405 args
      args.length = 8 → s.hasLane lane = true → field args 1 1 ≤ 1 → field args 2 1 ≤ 2 → field args 3 1 ≤ 3 →
        (field args 3 1 = 2 → 1 ≤ field args 4 1 ∧ field args 4 1 ≤ 64) → (field args 3 1 = 3 → 10 ≤ field args 5 1 ∧ field args 5 1 ≤ 40) → ZeroBytes args 6 8 →
        (field args 2 1 ≠ 0 → s.mayTest lane (field args 1 1) = true) →
       (field args 1 1 = 1 → ∃ pick seed, (testMode (field args 2 1) ≠ .service → seed ≠ 0) ∧
         Completes (.laneTest o args) s o.mailbox .ok (List.replicate 25 0) (State.modTx { t with free := t.free + 2 } lane fun x =>
           { x with test := testMode (field args 2 1), inject := field args 3 1, burstLen := field args 4 1, rateLog2 := field args 5 1
                    injection := injectionOf (field args 3 1) (field args 4 1) (field args 5 1) pick, generator := seed })) ∧
       (field args 1 1 = 0 → lane < s.lanes.rx.length → ∃ u, u.lanes.tx = s.lanes.tx ∧ (∀ k, k ≠ lane → u.rx k = s.rx k) ∧
         (u.rx lane).test = testMode (field args 2 1) ∧ (u.rx lane).bits = 0 ∧ (u.rx lane).bitErrors = 0 ∧ (u.rx lane).symbolErrors = 0 ∧
         Completes (.laneTest o args) s o.mailbox .ok (leBytes 8 (s.rx lane).bits ++ leBytes 8 (s.rx lane).bitErrors ++ leBytes 8 (s.rx lane).symbolErrors ++
           leBytes 1 (nat01 (s.rx lane).checkerLocked)) u)) ∧
     (args.length = 24 → (∀ r ∈ s.mail.running, ∀ l, r.waits ≠ .spareRelease l) → field args 0 1 ∈ [0x01, 0x10, 0x11, 0x12, 0x13, 0x14, 0x1F] → field args 1 1 = 0 → field args 3 1 < 8 → field args 13 1 = 0 →
        ZeroBytes args 20 24 →
       ∃ u, Completes (.laneControlIn o args) s o.mailbox .ok [] u ∧ u = (s.taken o 0x0403 args).sparingIn (field args 0 1)
         (BitVec.ofNat 16 (field args 2 2)) (BitVec.ofNat 32 (field args 4 4)) ((args.drop 8).take 16) 255)) ∧
  (∀ (s : State) (o : Origin) (args : List Byte), Served s o → args.length = 8 → s.hasLane (field args 0 1) = true → field args 1 1 ≤ 2 →
     (fieldS args 2 1).natAbs ≤ 32 → (fieldS args 3 1).natAbs ≤ 63 → 16 ≤ field args 4 1 → field args 4 1 ≤ 40 → ZeroBytes args 5 8 →
     ((s.rx (field args 0 1)).lock = .locked ∨ (s.rx (field args 0 1)).test ≠ .service) →
     ∃ u, exec (.laneEye o args) s = .next u ∧ (u.box o.mailbox).busy = true ∧
       ∃ r ∈ u.mail.running, r.origin = o ∧ r.waits = .eye (field args 0 1) (field args 4 1))

/-! ### Firmware (R450 to R456) -/

/-- FW_STAGE on this package that no test refuses: BEGIN starts the erase of sector 0 of the other bank, WRITE queues erases and page programs of its bytes, and
both stay in progress; END makes the bank STAGED (R452). -/
def Obligations.FwStageRuns : Prop :=
  ∀ (s : State) (o : Origin) (args host : List Byte), Leads s o → args.length = 24 → field args 1 1 = 0 →
    let t := s.taken o 0x0806 args
    (cmdFwStage host o args t).accepted = true →
    (field args 0 1 = 1 → s.health.fw.ops = [] → Gives (.fwStage o args host) s fun u =>
      (u.box o.mailbox).busy = true ∧ (∃ r ∈ u.mail.running, r.origin = o ∧ r.waits = .nor) ∧ u.health.fw.staged = none ∧ u.health.fw.written = [] ∧
      u.health.fw.bankStates = s.health.fw.bankStates.set s.otherBank 1 ∧ u.fabric.mem = s.fabric.mem ∧
      u.health.fw.ops = [{ erase := true, addr := bankBase s.otherBank, ends := some true }]) ∧
    (field args 0 1 = 2 → s.health.fw.ops = [] → Gives (.fwStage o args host) s fun u =>
      (u.box o.mailbox).busy = true ∧ (∃ r ∈ u.mail.running, r.origin = o ∧ r.waits = .nor) ∧ u.fabric.mem = s.fabric.mem ∧
      u.health.fw.ops = s.writeOps (field args 4 4)
        (if (field args 16 8).testBit 63 then padTo (field args 8 4) host else (t.pkgRead (field args 16 8) (field args 8 4)).1) true) ∧
    (field args 0 1 = 3 → ∃ u, u.health.fw.staged = some s.otherBank ∧ u.health.fw.bankStates = s.health.fw.bankStates.set s.otherBank 2 ∧
      u.health.fw.lastResult = 0 ∧ u.fabric.mem = s.fabric.mem ∧ Completes (.fwStage o args host) s o.mailbox .ok [] u)

/-- FW_ACTIVATE on this package that no test refuses sets the boot pointer to the staged bank; with RESET a package that is ALONE then resets (R453).
OWNER_SEAL sets the seal to the SHA-512 of its code, clears it for the right code, and counts a wrong one (R456).
SHA-512 is that of FIPS 180-4 (log 42), and LAST_RESULT follows what was applied here (log 77). -/
def Obligations.FwActivateAndSealRun : Prop :=
  ∀ (s : State) (o : Origin) (args : List Byte), Leads s o →
    (args.length = 4 → field args 0 1 = 0 → (cmdFwActivate o args (s.taken o 0x0808 args)).accepted = true →
      (field args 1 1 = 0 → s.health.fw.resetDue = false → ∃ u, u.health.fw.bootPointer = s.health.fw.staged.getD s.health.fw.bootPointer ∧
        u.health.fw.activated = true ∧ u.power = s.power ∧ u.twin = s.twin ∧ Completes (.fwActivate o args) s o.mailbox .ok [] u) ∧
      (field args 1 1 = 1 → s.twin.role = .alone → Gives (.fwActivate o args) s fun u =>
        u.power.inReset = true ∧ u.power.activation = true ∧ u.health.fw.bootPointer = s.health.fw.staged.getD s.health.fw.bootPointer)) ∧
    (let code := (args.drop 4).take 8
     args.length = 12 → field args 1 1 = 0 → ZeroBytes args 2 4 → field args 4 8 ≠ 0 →
      (s.holdOk .page = false → (field args 0 1 = 1 ∧ s.health.fw.ownerSeal = none) ∨
          (field args 0 1 = 2 ∧ s.health.fw.sealFails < 8 ∧ s.health.fw.ownerSeal = some (sha512 code)) →
        Completes (.ownerSeal o args) s o.mailbox .refusedState [] (s.taken o 0x0809 args)) ∧
      (field args 0 1 = 1 → s.health.fw.ownerSeal = none → s.holdOk .page = true → ∃ u, u.health.norConfig.ownerSeal = some (sha512 code) ∧ u.health.fw = { s.health.fw with ownerSeal := some (sha512 code), lastResult := 0 } ∧
        Completes (.ownerSeal o args) s o.mailbox .ok [] u) ∧
      (field args 0 1 = 2 → s.health.fw.sealFails < 8 → s.health.fw.ownerSeal = some (sha512 code) → s.holdOk .page = true →
        ∃ u, u.health.norConfig.ownerSeal = none ∧ u.health.fw = { s.health.fw with ownerSeal := none, lastResult := 0 } ∧ Completes (.ownerSeal o args) s o.mailbox .ok [] u) ∧
      (field args 0 1 = 2 → s.health.fw.sealFails < 8 → s.health.fw.ownerSeal ≠ some (sha512 code) →
        ∃ u, u.health.fw = { s.health.fw with sealFails := s.health.fw.sealFails + 1 } ∧ Completes (.ownerSeal o args) s o.mailbox .badArgument [] u))

/-- The retries every millisecond and the end of a NOR operation (R447, R449, R452): LOG_DEFER_RETRY writes every deferred entry while the check passes
(with no TICK_CONFIG the record then follows what evidence there is: the model's choice, log 62), HOLDUP_RETRY writes the NOR copies and starts the first operation, NOR_OPERATION_DONE takes its effect on the store.
Raising an event (R382, R383, R441 to R445, R447): it is logged, to its slot, to the ring of a dead log, or to the deferred entries, and a bad slot is counted and reported
(log 135); then it is pushed as one entry or two, held back below MIN_SEVERITY, or dropped and counted; after a loss OVERFLOW_MARK goes first, with the EVENT_SEQ that
follows the event's (the model's choice, log 11). What the NOR store keeps of settings and copies, and when: logs 63, 64 and 75. -/
def Obligations.StoreRetriesRun : Prop :=
  ∀ (s : State) (mv : Nat),
    let v : State := { s with health := { s.health with holdupMv := mv } }
    (v.holdOk .log = true → s.health.log.deferred.length ≤ 1024 → Gives (.logDeferRetry mv) s fun t =>
      t.health.log.deferred = [] ∧ t.health.holdupMv = mv ∧ t.fabric.mem = s.fabric.mem) ∧
    (v.holdOk .log = false → s.health.log.dead = false → exec (.logDeferRetry mv) s = .next (if s.cfg.tick.isNone then v.reconcile else v)) ∧
    (v.holdOk .page = true → s.health.norDue = true → Gives (.holdupRetry mv) s fun t =>
      t.health.norKiln = s.health.kiln ∧ t.health.norUnits = s.health.units ∧ t.health.norDue = false ∧ t.fabric.mem = s.fabric.mem) ∧
    (v.holdOk .page = true → s.health.configDue = true → Gives (.holdupRetry mv) s fun t =>
      t.health.norConfig = s.settings ∧ t.health.configDue = false ∧ t.fabric.mem = s.fabric.mem) ∧
    (∀ op l, s.health.norDue = false → s.health.fw.ops = op :: l → v.holdOk (if op.erase then .erase else .page) = true → Gives (.holdupRetry mv) s fun t =>
      t.health.fw.opStarted = true ∧ t.health.fw.ops = op :: l ∧ t.fabric.mem = s.fabric.mem) ∧
    (∀ op l, s.health.fw.opStarted = true → s.health.fw.ops = op :: l → Gives (.norOperationDone true) s fun t =>
      t.health.fw.ops = l ∧ (op.erase = true → t.fabric.mem = Memory.clear s.fabric.mem (norBase + op.addr) 65536) ∧
      (op.erase = false → t.fabric.mem = Memory.write s.fabric.mem (norBase + op.addr) op.data) ∧
      (op.ends.isSome = true → t.health.fw.bytesWritten = s.health.fw.bytesWritten + op.range.2 ∧ t.health.fw.lastResult = 0)) ∧
    (∀ op l, s.health.fw.opStarted = true → s.health.fw.ops = op :: l → op.erase = false → Gives (.norOperationDone false) s fun t =>
      t.health.fw.ops = op :: l ∧ t.fabric.mem = Memory.write s.fabric.mem (norBase + op.addr) op.data) ∧
    (∀ code die (detail : List Byte), detail.length ≤ 32 →
      let q := s.events
      let n := if detail.length ≤ 16 then 1 else 2
      let first : EventEntry := { code := code, flags := severityOf code, die := die, seq := q.nextSeq, time := s.logTimeNs, detail := padTo 16 detail }
      let e : LogEntry := { seq := s.health.log.nextSeq, time := s.logTimeNs, code := code, flags := severityOf code, die := die, eventSeq := q.nextSeq
                            detail := detail, bootCount := s.ident.bootCount }
      let t := s.raise code die detail
      let shows (k : Nat) : Prop := q.slots.length = 1024 → t.events.slots.getD (k % 1024) {} = first ∧
        (n = 2 → t.events.slots.getD ((k + 1) % 1024) {} = { first with flags := severityOf code + 4, detail := padTo 16 (detail.drop 16) })
      (s.health.log.dead = false → s.holdOk .log = true → s.health.log.badMedia = [] →
        (∃ k, t.health.log.slots.find? (·.1 == e.seq % 262144) = some (k, e)) ∧ t.fabric = s.fabric ∧ (severityOf code = 3 → t.health.alarm = true) ∧
        (severityOf code < q.minSeverity → t.events = { q with nextSeq := q.nextSeq + 1 } ∧ t.health.log.nextSeq = s.health.log.nextSeq + 1) ∧
        (q.minSeverity ≤ severityOf code →
          (q.lost = 0 → n ≤ q.room → t.events.prod = (q.prod + n) % 2048 ∧ t.events.lost = 0 ∧ t.events.dropped = q.dropped ∧ shows q.prod ∧
            t.events.nextSeq = q.nextSeq + 1) ∧
          (q.lost = 0 ∨ q.room = 0 → q.room < n → t.events =
            { q with nextSeq := q.nextSeq + 1, lost := rcAdd 32 q.lost n, dropped := rcAdd 32 q.dropped n }) ∧
          (q.lost ≠ 0 → 1 ≤ q.room → t.health.log.nextSeq = s.health.log.nextSeq + 2 ∧ t.events.nextSeq = q.nextSeq + 2 ∧
            (q.slots.length = 1024 → t.events.slots.getD (q.prod % 1024) {} =
              { code := 1, flags := 2, die := 0xFF, seq := q.nextSeq + 1, time := s.logTimeNs, detail := padTo 16 (leBytes 4 q.lost) }) ∧
            (n < q.room → t.events.prod = (q.prod + 1 + n) % 2048 ∧ t.events.lost = 0 ∧ shows (q.prod + 1)) ∧
            (q.room ≤ n → t.events.prod = (q.prod + 1) % 2048 ∧ t.events.lost = n ∧ t.events.dropped = rcAdd 32 q.dropped n)))) ∧
      (s.health.log.dead = true → q.lost = 0 → t.health.log.slots = s.health.log.slots ∧
        t.cal.backup = overwrite s.cal.backup (64 * ringVictim s.cal.backup) (logBytes e)) ∧
      (s.health.log.dead = false → s.holdOk .log = false → s.health.episode = true → s.health.log.deferred.length < 1024 → q.lost = 0 →
        t.health.log.slots = s.health.log.slots ∧ t.health.log.deferred = s.health.log.deferred ++ [e]) ∧
      (s.health.log.dead = false → s.holdOk .log = true → s.health.log.nextSeq % 262144 ∈ s.health.log.badMedia → s.health.log.badRun < 63 → q.lost = 0 →
        t.health.log.badRun = s.health.log.badRun + 1 ∧ t.health.log.badSlots = rcAdd 32 s.health.log.badSlots 1 ∧ t.health.alarm = true ∧
        t.health.log.nextSeq = s.health.log.nextSeq + 2))

/-! ### The host's registers (R359 to R364, R380 to R391) -/

/-- Mailbox registers (R362 to R364): a free mailbox is claimed by its writer, and only the owner releases or rings it; another's write is dropped with
MB_DENIED. RING sets BUSY and clears DONE: until start-up step 3 the command waits, and afterwards it runs (NOP here; R477, log 127). -/
def Obligations.MailboxRegistersAct : Prop :=
  ∀ (s : State) (who m : Nat), HostQuiet s → m < s.mail.boxes.length → m < 16 →
    ((s.box m).owned = false → exec (.mailboxClaim who m) s =
      .next (s.modBox m fun b => { b with owned := true, ownerId := who % 65536, ethernet := false })) ∧
    ((s.box m).owned = true → (s.box m).ownedBy (some who) = false →
      exec (.mailboxClaim who m) s = .next (s.setGlobalErr 1) ∧ exec (.mailboxRelease who m) s = .next (s.setGlobalErr 1) ∧
      exec (.ring who m) s = .next (s.setGlobalErr 1)) ∧
    ((s.box m).ownedBy (some who) = true →
      ((s.box m).busy = false → exec (.mailboxRelease who m) s =
        .next (s.modBox m fun b => { b with owned := false, ownerId := 0, ethernet := false })) ∧
      ((s.box m).busy = true → exec (.mailboxRelease who m) s = .next (s.modBox m fun b => { b with ending := true }) ∧ exec (.ring who m) s = .next s) ∧
      ((s.box m).busy = false → s.serves = false → Gives (.ring who m) s fun t => (t.box m).busy = true ∧ (t.box m).done = false ∧
        (t.box m).waiting = some { ethernet := false, id := (s.box m).ownerId, mailbox := m } ∧ t.lease = s.lease ∧ t.cfg = s.cfg) ∧
      ((s.box m).busy = false → Served s { ethernet := false, id := (s.box m).ownerId, mailbox := m } → s.power.inReset = false →
        (s.box m).opcode = 0x0001 → (s.box m).argLen = 0 → Gives (.ring who m) s fun t =>
          Answered t m .ok (leBytes 4 s.ident.fwVersion.toNat ++ leBytes 4 s.regs.alive.toNat)))

/-- Queue registers (R380, R384, R385, R391): a consumer count that keeps the depth in range is taken, another is not and sets CONS_RANGE; a queue that then
has room takes its held completion; EQ_DROPPED reads and clears; IRQ_DELAY_US sets cause 0. -/
def Obligations.QueueRegistersAct : Prop :=
  ∀ (s : State) (v : Word), HostQuiet s →
    ((v.toNat % 2048 + 2048 - s.events.cons) % 2048 ≤ s.events.depth → Gives (.eqConsWrite v) s fun t =>
      t.events.cons = v.toNat % 2048 ∧ t.events.prod = s.events.prod ∧ t.events.slots = s.events.slots ∧ t.events.lost = s.events.lost ∧ t.regs = s.regs) ∧
    (s.events.depth < (v.toNat % 2048 + 2048 - s.events.cons) % 2048 → exec (.eqConsWrite v) s = .next (s.setGlobalErr 3)) ∧
    (∀ c, let q := s.mail.queues.getD c {}
      c < s.mail.queues.length →
      (s.mail.held = [] → (v.toNat % 32 + 32 - q.cons) % 32 ≤ q.depth → Gives (.cqConsWrite c v) s fun t =>
        t.mail.queues = s.mail.queues.set c { q with cons := v.toNat % 32 } ∧ t.mail.boxes = s.mail.boxes ∧ t.regs = s.regs) ∧
      (q.depth < (v.toNat % 32 + 32 - q.cons) % 32 → exec (.cqConsWrite c v) s = .next (s.setGlobalErr 3)) ∧
      (∀ e, c < 4 → s.mail.held = [(c, e)] → q.depth < 16 → e.mailbox < s.mail.boxes.length → Gives .heldCompletionPush s fun t =>
        t.mail.held = [] ∧ t.mail.queues = s.mail.queues.set c { q with slots := q.slots.set (q.prod % 16) e, prod := (q.prod + 1) % 32 } ∧
        (t.box e.mailbox).busy = false ∧ (t.box e.mailbox).done = true)) ∧
    (Gives .eqDroppedRead s fun t => t.events = { s.events with dropped := 0 } ∧ t.out = .readValue 0x20010 (BitVec.ofNat 32 s.events.dropped) :: s.out) ∧
    (s.events.irqDelayUs ≠ 0 → s.events.depth ≠ 0 → Gives .eqIrqDelayExpiry s fun t => t.intr.cause.getLsbD 0 = true ∧ t.events.delayed = true)

/-- Interrupt registers and BAR0 words (R10, R359, R360, R361, R390, R391): a cause clears where 1 is written and no condition keeps it; the mask is taken;
SCRATCH, GLOBAL_ERR and WIN_SEL act by their access codes and a read-only word ignores a write. -/
def Obligations.InterruptAndRegisterWritesAct : Prop :=
  ∀ (s : State) (who : Nat) (v : Word), HostQuiet s →
    (Gives (.intCauseClear v) s fun t => ∀ k, k < 16 →
      (v.getLsbD k = true → s.condition k = false → t.intr.cause.getLsbD k = false) ∧
      (v.getLsbD k = true → s.condition k = true → t.intr.cause.getLsbD k = true) ∧
      (v.getLsbD k = false → t.intr.cause.getLsbD k = s.intr.cause.getLsbD k)) ∧
    (Gives (.intMaskWrite v) s fun t => t.intr.mask = BitVec.ofNat 16 v.toNat ∧ t.intr.cause = s.intr.cause ∧ t.mail = s.mail ∧ t.events = s.events) ∧
    exec (.registerWrite who 0x03C v) s = .next { s with ident := { s.ident with scratch := v } } ∧
    exec (.registerWrite who 0x024 v) s = .next { s with regs := { s.regs with globalErr := s.regs.globalErr &&& ~~~(BitVec.ofNat 5 v.toNat) } } ∧
    exec (.registerWrite who 0x40000 v) s = .next { s with regs := { s.regs with winSel := BitVec.ofNat 4 v.toNat } } ∧
    (∀ off ∈ [0x000, 0x004, 0x008, 0x00C, 0x010, 0x014, 0x018, 0x020, 0x028, 0x02C, 0x030, 0x034, 0x038, 0x20000, 0x20008, 0x2000C], exec (.registerWrite who off v) s = .next s) ∧
    (s.power.inReset = false → 3 ≤ s.power.stage → Gives .aliveIncrement s fun t => t.regs = { s.regs with alive := s.regs.alive + 1 } ∧
      t.lease.leftMs = (if s.lease.owner.isSome then s.lease.leftMs - 1 else s.lease.leftMs) ∧ t.mail = s.mail ∧ t.cfg = s.cfg)

/-- DMA (R386 to R389): START of a channel that is not busy begins it, ends it at once with COUNT 0, or stops it for its alignment; while BUSY it is ignored.
ABORT stops a transfer with code 5: a fill has written as many of its first bytes as nobody chose, a compare, or a copy to the host, no memory (log 165). A
transfer ends with its bytes written or with code 3 for a host side that may not be mastered, or code 4 at an uncorrectable word of which it writes a part; without BARRIER some of its last bytes may reach memory after
DONE (R388, log 164), in the next idle period. -/
def Obligations.DmaRuns : Prop :=
  ∀ (s : State) (h : Nat) (v : Word), HostQuiet s → h < s.dma.length →
    let c := s.dmaChannel h
    let w : DmaChannel := { c with mode := BitVec.ofNat 6 v.toNat }
    (c.busy = false → w.misaligned = false → c.count ≠ 0 → exec (.dmaStart h v) s = .next { s with dma := s.dma.set h { w with busy := true, waits := none } }) ∧
    (c.busy = false → w.misaligned = false → c.count = 0 → Gives (.dmaStart h v) s fun t => t.dma = s.dma.set h { w with busy := false, done := true }) ∧
    (c.busy = false → w.misaligned = true → Gives (.dmaStart h v) s fun t => t.dma = s.dma.set h { w with busy := false, error := true, errCode := 2 }) ∧
    (c.busy = true → v.getLsbD 30 = false → Gives (.dmaStart h v) s fun t => t.dma = s.dma.set h { w with startIgnored := true } ∧ t.regs.globalErr.getLsbD 4 = true) ∧
    (c.busy = true → v.getLsbD 31 = false → Gives (.dmaAbort h v) s fun t => t.dma = s.dma.set h { w with busy := false, error := true, errCode := 5 } ∧
      (c.op = 2 ∨ c.dst.getLsbD 63 = true → t.fabric.mem = s.fabric.mem) ∧
      (c.op = 1 → c.mode.getLsbD 3 = false → inRegs c.dst.toNat = false → (∀ i, i < c.count.toNat → s.dmaReaches true (c.dst.toNat + i) = true) →
        ∃ k, k ≤ c.count.toNat ∧ t.fabric.mem = Memory.write s.fabric.mem c.dst.toNat (c.fillBytes k))) ∧
    (∀ host ecc, c.busy = true → s.dmaStalled h = false → c.op = 0 → c.src.getLsbD 63 = true → c.dst.getLsbD 63 = false → c.mode.getLsbD 3 = false → c.error = false → c.count ≠ 0 →
      (∀ i, i < c.count.toNat → s.dmaReaches true (c.dst.toNat + i) = true) → inRegs c.dst.toNat = false →
      (c.mode.getLsbD 4 = true → ecc ≠ .uncorrectable → Gives (.dmaTransferDone h host false ecc) s fun t =>
        t.fabric.mem = Memory.write s.fabric.mem c.dst.toNat (padTo c.count.toNat host) ∧ t.dma = s.dma.set h { c with busy := false, done := true }) ∧
      (s.inHbm c.dst.toNat = true → c.dst.toNat % 32 ≠ 0 → Gives (.dmaTransferDone h host false .uncorrectable) s fun t =>
        ∃ d ∈ t.dma, d.busy = false ∧ d.error = true ∧ d.errCode = 4) ∧
      (c.mode.getLsbD 4 = false → ecc ≠ .uncorrectable → Gives (.dmaTransferDone h host false ecc) s fun t =>
        ∃ k, k ≤ c.count.toNat ∧ t.fabric.mem = Memory.write s.fabric.mem c.dst.toNat ((padTo c.count.toNat host).take k) ∧
          t.dma = s.dma.set h { c with busy := false, done := true, late := c.late ++
            (if k = c.count.toNat then [] else [(c.dst.toNat + k, (padTo c.count.toNat host).drop k)]) }) ∧
      (Gives (.dmaTransferDone h host true ecc) s fun t =>
        t.fabric.mem = s.fabric.mem ∧ t.dma = s.dma.set h { c with busy := false, error := true, errCode := 3 })) ∧
    (∀ host ecc, c.busy = true → s.dmaStalled h = true → exec (.dmaTransferDone h host false ecc) s =
      .next { s with dma := s.dma.set h { c with waits := some (host, false, ecc) } }) ∧
    (s.pending = [] → s.power.mode ≠ .off → s.power.inReset = false → s.fabric.held = [] → ∃ t, step s = .next t ∧ ∀ d ∈ t.dma, d.late = [])

/-- The controller of a die's stack holds no request, nothing waits in the matrix, and neither panic nor self-refresh stops it. -/
def controllerIdle (s : State) (die : Nat) : Bool :=
  decide (die < s.fabric.hbm.length) && s.fabric.held.isEmpty && s.fabric.inFlight.isEmpty && (s.stack die).behind.isEmpty && !(s.stack die).panic &&
    !(s.stack die).selfRefresh

/-- BAR2 (R361, R418): an access reaches package address WIN_SEL x 2^36 + offset; a write changes just its bytes, a read answers them; one that reaches no
target writes nothing, answers all ones to a read and sets DEFAULT_TARGET with its address; one to a stack in panic waits (R407). -/
def Obligations.Bar2Reaches : Prop :=
  ∀ (s : State) (who off len : Nat) (data : List Byte), HostQuiet s →
    let a := s.regs.winSel.toNat * 2 ^ 36 + off
    (s.reaches .pcie 0 true a data.length = true → inRegs a = false → s.inHbm a = false ∨ controllerIdle s (a / 2 ^ 36) = true →
      Gives (.bar2Access who true off len data .clean) s fun t => t.fabric.mem = Memory.write s.fabric.mem a data ∧ t.regs = s.regs ∧ t.cfg = s.cfg) ∧
    (s.reaches .pcie 0 false a len = true → inRegs a = false → s.inHbm a = false ∨ controllerIdle s (a / 2 ^ 36) = true →
      Gives (.bar2Access who false off len data .clean) s fun t =>
        t.fabric.mem = s.fabric.mem ∧ ∃ d, d.length = len ∧ t.out = .pcieData d false :: s.out ∧
          (∀ i, i < len → s.Sound → s.opaqueArea (a + i) = false → inLog (a + i) = false → d[i]? = some (Memory.get s.fabric.mem (a + i)))) ∧
    (s.reaches .pcie 0 false a len = false → Gives (.bar2Access who false off len data .clean) s fun t =>
      t.fabric.mem = s.fabric.mem ∧ t.regs.globalErr.getLsbD 0 = true ∧ t.regs.defaultAddr = BitVec.ofNat 40 a ∧ .pcieData (List.replicate len 0xFF) false ∈ t.out) ∧
    (s.reaches .pcie 0 true a data.length = false → Gives (.bar2Access who true off len data .clean) s fun t =>
      t.fabric.mem = s.fabric.mem ∧ t.regs.globalErr.getLsbD 0 = true ∧ t.regs.defaultAddr = BitVec.ofNat 40 a) ∧
    (s.reaches .pcie 0 true a data.length = true → inRegs a = false → (s.stack (a / 2 ^ 36)).panic = true → s.inHbm a = true →
      (∀ w ∈ (s.stack (a / 2 ^ 36)).behind, w.realTime = false) → s.fabric.held = [] →
      Gives (.bar2Access who true off len data .clean) s fun t => t.fabric.mem = s.fabric.mem ∧ t.out = s.out)

/-- SMBus (R392, R471; VDD_AUX absent: log 177): SMBUS_SET_POINTER sets the pointer; a block read answers the word there and moves the pointer 4 on; a block write does the same with a
writable word; what does not answer sends NACK and moves no pointer (log 118). -/
def Obligations.SmbusActs : Prop :=
  ∀ (s : State) (p : Half) (v : Word),
    let q := s.regs.smbusPointer
    (s.cal.fromVbat = true → exec (.smbusSetPointer p) s = .next { s with out := .smbus (0x58 + s.ident.smbAddr) false none :: s.out } ∧
      exec .smbusBlockRead s = .next { s with out := .smbus (0x58 + s.ident.smbAddr) false none :: s.out } ∧
      exec (.smbusBlockWrite v) s = .next { s with out := .smbus (0x58 + s.ident.smbAddr) false none :: s.out }) ∧
    (s.cal.fromVbat = false → exec (.smbusSetPointer p) s = .next { s with regs := { s.regs with smbusPointer := p &&& 0x8FFF }, out := .smbus (0x58 + s.ident.smbAddr) true none :: s.out }) ∧
    (s.cal.fromVbat = false → q.getLsbD 15 = true → s.power.mode ≠ .off → exec .smbusBlockRead s = .next { s with
      regs := { s.regs with smbusPointer := smbusNext q }, out := .smbus (0x58 + s.ident.smbAddr) true (some (BitVec.ofNat 32 (s.regValue (q.toNat % 4096)))) :: s.out }) ∧
    (q.getLsbD 15 = true → s.power.mode = .off → exec .smbusBlockRead s = .next { s with out := .smbus (0x58 + s.ident.smbAddr) false none :: s.out } ∧
      exec (.smbusBlockWrite v) s = .next { s with out := .smbus (0x58 + s.ident.smbAddr) false none :: s.out }) ∧
    (s.cal.fromVbat = false → q.getLsbD 15 = true → s.power.mode ≠ .off → q.toNat % 4096 = 0x03C → exec (.smbusBlockWrite v) s = .next { s with
      ident := { s.ident with scratch := v }, regs := { s.regs with smbusPointer := smbusNext q }, out := .smbus (0x58 + s.ident.smbAddr) true none :: s.out }) ∧
    (q.getLsbD 15 = true → q.toNat % 4096 < 0x024 → exec (.smbusBlockWrite v) s = .next { s with out := .smbus (0x58 + s.ident.smbAddr) false none :: s.out })

/-- Management datagrams (R367 to R369): OPEN claims a free mailbox for a new session and is refused otherwise; KEEPALIVE keeps a session; REQUEST with the
next SEQ, that of OPEN counting as the last (log 45), runs its command, or waits as R477 says (log 127), and a repeated SEQ sends the cached reply; CLOSE, or 3 s of silence, ends the session and its ownership. -/
def Obligations.SessionsAct : Prop :=
  ∀ (s : State) (d : Datagram), HostQuiet s →
    let n := s.mgmt.lastSession % 65535 + 1
    (s.datagramOk 1 d = true → s.mgmt.allows d.srcAddr = true → d.mailbox < 16 → d.mailbox < s.mail.boxes.length →
      ((s.box d.mailbox).owned = false → s.mgmt.sessions.length < 8 → Gives (.mgmtOpen d) s fun t =>
        (t.box d.mailbox).owned = true ∧ (t.box d.mailbox).ethernet = true ∧ (t.box d.mailbox).ownerId = n ∧
        t.mgmt.sessions = s.mgmt.sessions ++ [{ number := n, mailbox := d.mailbox, address := d.srcAddr, port := d.srcPort, events := d.flags.getLsbD 0, lastSeq := d.seq }]) ∧
      ((s.box d.mailbox).owned = true ∨ 8 ≤ s.mgmt.sessions.length → Gives (.mgmtOpen d) s fun t =>
        t.mail = s.mail ∧ t.mgmt = s.mgmt ∧ t.out.length = s.out.length + 1)) ∧
    (s.datagramOk 5 d = true → Gives (.mgmtKeepalive d) s fun t => (∀ x ∈ t.mgmt.sessions, x.number = d.session → x.quietMs = 0) ∧ t.mail = s.mail) ∧
    (∀ x, s.sessionOf d = some x → s.datagramOk 3 d = true →
      (d.seq = x.lastSeq → x.busy = false → ∀ bytes, x.cached = some bytes → Gives (.mgmtRequest d) s fun t =>
        t.out = .mgmt d.srcAddr d.srcPort bytes :: s.out ∧ t.mail = s.mail) ∧
      (d.seq = x.lastSeq + 1 → (s.box x.mailbox).busy = false → x.mailbox < s.mail.boxes.length → s.serves = false → Gives (.mgmtRequest d) s fun t =>
        (t.box x.mailbox).busy = true ∧ (t.box x.mailbox).opcode = d.opcode ∧
        (t.box x.mailbox).waiting = some { ethernet := true, id := x.number, mailbox := x.mailbox }) ∧
      (d.seq = x.lastSeq + 1 → (s.box x.mailbox).busy = false → x.mailbox < 16 → Served s { ethernet := true, id := x.number, mailbox := x.mailbox } →
        s.power.inReset = false → d.opcode = 0x0001 → d.body = [] → Gives (.mgmtRequest d) s fun t =>
          Answered t x.mailbox .ok (leBytes 4 s.ident.fwVersion.toNat ++ leBytes 4 s.regs.alive.toNat))) ∧
    (s.datagramOk 6 d = true → (s.sessionOf d).isSome = true → Gives (.mgmtClose d) s fun t =>
      (∀ x ∈ t.mgmt.sessions, x.number ≠ d.session) ∧ (∀ b ∈ t.mail.boxes, b.owned = true → b.ethernet = true → b.ownerId = d.session → b.busy = true)) ∧
    (∀ k, (∃ x ∈ s.mgmt.sessions, x.number = k ∧ 3000 ≤ x.quietMs) → Gives (.sessionTimeout k) s fun t =>
      (∀ x ∈ t.mgmt.sessions, x.number ≠ k) ∧ (∀ b ∈ t.mail.boxes, b.owned = true → b.ethernet = true → b.ownerId = k → b.busy = true))

/-- The lease ends by expiry or with its holder (R363, R377): the staging goes, nobody holds it, and a reset of the PCIe owner takes its mailboxes too. ARP and
neighbour solicitations for the port's own address are answered (R369). -/
def Obligations.LeaseAndOwnersEnd : Prop :=
  ∀ (s : State),
    (s.lease.leftMs = 0 → s.lease.owner.isSome = true → Gives .leaseExpiry s fun t =>
      t.lease.owner = none ∧ t.lease.staged = [] ∧ t.mail = s.mail ∧ t.intr.cause.getLsbD 14 = true) ∧
    (∀ kind, Gives (.ownerReset kind) s fun t =>
      (∀ b ∈ t.mail.boxes, b.owned = true → b.ethernet = false → b.busy = true) ∧ (∀ id, t.lease.owner ≠ some (false, id)) ∧
      (∀ id, s.lease.owner = some (false, id) → t.lease.staged = []) ∧ (∀ id, s.lease.owner = some (true, id) → t.lease = s.lease)) ∧
    (s.hostUp = true → s.mgmt.addr4 ≠ 0 → exec (.arpRequest s.mgmt.addr4) s = .next { s with out := .arpReply s.mgmt.addr4 :: s.out }) ∧
    (s.hostUp = true → s.mgmt.addr6 ≠ 0 → exec (.neighbourSolicitation s.mgmt.addr6) s = .next { s with out := .neighbourAdvert s.mgmt.addr6 :: s.out })

/-! ### Data path (chapters 2 to 7) -/

/-- A frame that a lane delivers and that passes its checks is counted in FRAMES_OK and does what its type does (R83, R142, R206, R264, R284): GRIST joins the
buffers of the chains that take its input, TURN writes its samples into the turn buffer, or is dropped and counted at a full turn write
buffer (R407), BEAMPART counts in PARTS_RX. -/
def Obligations.HaulFramesArrive : Prop :=
  ∀ (s : State) (lane : Nat) (f : Frame), lane < s.lanes.rx.length → s.works = true →
    let ok (t : State) : Prop := (t.rx lane).framesOk = rcAdd 64 (s.rx lane).framesOk 1
    (∀ i e c, (s.receive lane 1 f).1 = true → i ∈ s.cfg.indices [1] → s.pipeAt i f.tick.toNat = some e →
      (∃ x ∈ e.inputs, x.input = f.spec.toNat / 2 ^ 32 % 65536 ∧ x.die = dieOfLane lane) → gristMalformed e.cfg.ingestCfg f = false →
      c ∈ s.data.chains → Chain.isOf i (f.spec.toNat / 2 ^ 32 % 65536) c = true → Gives (.grist lane f) s fun t => ok t ∧ c.accept e.cfg.ingestCfg f ∈ t.data.chains ∧
        (resets c.cfg e.cfg.ingestCfg = false → Chain.take e.cfg.ingestCfg.samplesPerTick c f ∈ t.data.chains)) ∧
    (∀ d xs, (s.receive lane 2 f).1 = true → (s.stack d).turnBuffer < 2 ^ 21 → s.turnJudge (dieOfLane lane) f = (.fresh, d, xs) →
      Gives (.turn lane f) s fun t => ok t ∧ (∀ x ∈ xs, x ∈ t.data.turn) ∧ t.data.dies = s.data.dies) ∧
    (∀ d xs, (s.receive lane 2 f).1 = true → 2 ^ 21 ≤ (s.stack d).turnBuffer → s.turnJudge (dieOfLane lane) f = (.fresh, d, xs) →
      Gives (.turn lane f) s fun t => ok t ∧ t.data.turn = s.data.turn ∧ (t.stack d).rtDrops = rcAdd 32 (s.stack d).rtDrops 1) ∧
    (∀ d xs, (s.receive lane 2 f).1 = true → (s.stack d).turnBuffer < 2 ^ 21 → s.turnJudge (dieOfLane lane) f = (.late, d, xs) →
      d < s.data.dies.length → Gives (.turn lane f) s fun t =>
        (t.die d).turnLate = rcAdd 32 (s.die d).turnLate 1 ∧ t.data.turn = s.data.turn ∧ (t.rx lane).framesOk = (s.rx lane).framesOk) ∧
    (∀ d e, (s.receive lane 3 f).1 = true → s.partJudge (dieOfLane lane) f = (.fresh, d, e) → Gives (.beampart lane f) s fun t =>
      ok t ∧ (t.beamCount f.pipe.toNat d).rx = rcAdd 64 (s.beamCount f.pipe.toNat d).rx 1)

/-- A frame whose trailer does not match is dropped and counted in CRC_ERRORS of its lane, and nothing else changes, on a haul lane of any role (R263,
R264): GRIST, TURN, BEAMPART, HELLO and the sparing messages. That a row's frame takes the note of the lane's byte stream is the model's choice (log 141). -/
def Obligations.BadTrailerIsCounted : Prop :=
  ∀ (s : State) (lane : Nat) (f : Frame), lane < s.lanes.rx.length → s.deliverRole lane ≠ .off → (s.rx lane).frames.headD false = false →
    let t : State := (s.popFrame (.haul lane)).modRx lane fun x => { x with crcErrors := rcAdd 32 x.crcErrors 1 }
    (frameCrcOk 1 f = false → exec (.grist lane f) s = .next t) ∧
    (frameCrcOk 2 f = false → exec (.turn lane f) s = .next t) ∧
    (frameCrcOk 3 f = false → exec (.beampart lane f) s = .next t) ∧
    (frameCrcOk 4 f = false → exec (.hello lane f) s = .next t ∧ exec (.spareRequest lane f) s = .next t ∧ exec (.spareDuplicating lane f) s = .next t ∧
      exec (.spareSwitched lane f) s = .next t ∧ exec (.spareRelease lane f) s = .next t ∧ exec (.spareStopped lane f) s = .next t ∧
      exec (.spareRefused lane f) s = .next t)

/-- The ingest engine's ends (R85, R92, R94, R117, R132): a grist index whose hold time ends is processed and the chain goes to the next, but none after the tick that a destroy names; a whole spall block, offset
block or level control period starts the sums of the next afresh. -/
def Obligations.ChainStepsRun : Prop :=
  ∀ (s : State) (pipe input : Nat) (c : Chain), s.works = true → c ∈ s.data.chains → Chain.isOf pipe input c = true →
    (s.chain pipe input = some c → (s.cfg.pipes.getD pipe {}).ended (c.next / max c.cfg.samplesPerTick 1) = false → c.moves = [] →
      (∀ g ∈ [c.next, c.next - (c.cfg.w - 1) / 2], (((s.pipeAt pipe (g / max c.cfg.samplesPerTick 1)).map (·.cfg.ingestCfg)).getD c.cfg) = c.cfg) →
      (∀ x ∈ s.data.chains, x.pipe = pipe → x.input = input → x.finish = none) → Gives (.gristHoldExpiry pipe input) s fun t =>
        ∃ x ∈ t.data.chains, Chain.isOf pipe input x = true ∧ x.next = c.next + 1 ∧ (c.nextSample = none → x.missing = rcAdd 64 c.missing 1)) ∧
    (s.chain pipe input = some c → (s.cfg.pipes.getD pipe {}).ended (c.next / max c.cfg.samplesPerTick 1) = true →
      exec (.gristHoldExpiry pipe input) s = .next s) ∧
    (c.spallSeen = 4096 → Gives (.spallBlockEnd pipe input) s fun t => ∃ x ∈ t.data.chains, Chain.isOf pipe input x = true ∧ x.spallSeen = 0 ∧ x.spallRe = 0 ∧
      x.spallIm = 0 ∧ x.adaptRe = max c.cfg.spallFloor (c.cfg.spallMult * c.spallRe / 65536) ∧ (c.cfg.spallMode = 1 → x.thetaRe = x.adaptRe)) ∧
    (c.cfg.offsetLog2 ≠ 0 → c.sumSeen = 2 ^ c.cfg.offsetLog2 → Gives (.offsetBlockEnd pipe input) s fun t => ∃ x ∈ t.data.chains,
      Chain.isOf pipe input x = true ∧ x.sumSeen = 0 ∧ x.sumRe = 0 ∧ x.sumIm = 0 ∧ x.sumClipped = 0 ∧
      (c.cfg.offsetClipMax < c.sumClipped → x.offsetHeld = rcAdd 32 c.offsetHeld 1)) ∧
    (Gives (.alcPeriodEnd pipe) s fun t => ∃ x ∈ t.data.chains, Chain.isOf pipe input x = true ∧ x.gains.length = c.gains.length ∧
      ∀ g ∈ x.gains, g.power = 0 ∧ g.n = 0)

/-- Tile work (R62, R158, R161 to R168, R171): a dump of a tile that was dealt it frees the tile; verified and exact it reaches the tun; one that overflows is held
and queued for a replay, one that fails its check is queued as a fault and counted, its tile out for the window. A replay that verifies reaches the tun, combined with
what was held. The scheduler then deals: a waiting replay first, paid from the reserve, or written to full scale when the reserve cannot take it;
the cost is drawn when it is served (the model's choice, log 24). -/
def Obligations.TileDumpsReachTheTun : Prop :=
  (∀ (s : State) (d : DumpRef) (errs : List TileError) (e : PipeEntry), s.tilesRun = true → d.die < s.data.dies.length → s.corrAt d = some e →
    let c := e.cfg.corrCfg
    let key := DumpRef.key d
    let bank := e.bankAt s.workTick
    let p := ((s.die d.die).physical d.tile).getD 255
    (∀ b, (s.die d.die).working d.tile (.dump key) false = some b →
      let run := (s.runTile c d false errs).1
      ∃ t : State, exec (.tileDump d errs) s = .next (t.deal d.die) ∧ (t.die d.die).busy = (s.die d.die).busy.erase b ∧
        (run.verified = true → run.overflow = false → key ∈ (t.die d.die).done ∧ (t.die d.die).replays = (s.die d.die).replays ∧
          (s.tilePos d.pipe d.die bank d.channel d.tp = { pipe := d.pipe, die := d.die, bank := bank, channel := d.channel, tp := d.tp } →
            t.fabric.mem = Memory.write s.fabric.mem (e.tunAddr d.die bank d.channel d.tp) (run.cells.flatMap fun x =>
              leInt c.compBytes (satInt (8 * c.compBytes) x.1) ++ leInt c.compBytes (satInt (8 * c.compBytes) x.2)))) ∧
        (run.verified = true → run.overflow = true → t.data.held = s.data.held ++ [{ ref := key, values := run.cells }] ∧
          (t.die d.die).replays = queueReplay (s.die d.die).replays { fault := false, ref := key } ∧ (t.die d.die).reserve = (s.die d.die).reserve ∧
          t.fabric.mem = s.fabric.mem) ∧
        (run.verified = false → (t.die d.die).replays = queueReplay (s.die d.die).replays { fault := true, ref := key } ∧
          (t.die d.die).tileFaults = rcAdd 32 (s.die d.die).tileFaults 1 ∧ p ∈ (t.die d.die).faulty ∧
          (t.die d.die).reserve = (s.die d.die).reserve - s.windowLeft ∧ t.fabric.mem = s.fabric.mem)) ∧
    (∀ b, (s.die d.die).working d.tile (.dump key) true = some b →
      let half := s.data.held.any fun h => h.ref == key
      let run := (s.runTile c d half errs).1
      ∃ t : State, exec (.replayDump d errs) s = .next (t.deal d.die) ∧ (t.die d.die).busy = (s.die d.die).busy.erase b ∧
        (run.verified = true → half = true ∨ run.overflow = false → key ∈ (t.die d.die).done ∧ (∀ h ∈ t.data.held, h.ref ≠ key)) ∧
        (run.verified = false → p ∈ (t.die d.die).faulty ∧ (t.die d.die).tileFaults = rcAdd 32 (s.die d.die).tileFaults 1))) ∧
  (∀ (s : State) (die : Nat) (r : Replay) (l : List Replay), die < s.data.dies.length → (s.die die).replays = r :: l →
    (∀ k, ((s.itemCost r.item : Nat) : Int) ≤ (s.die die).reserve → (s.die die).freeTile = some k → ∃ t : State, s.dealOne die = some t ∧ (t.die die).replays = l ∧
      (t.die die).reserve = (s.die die).reserve - ((s.itemCost r.item : Nat) : Int) ∧ { tile := k, item := r.item, replay := some r } ∈ (t.die die).busy) ∧
    (∀ e, (s.die die).reserve < ((s.itemCost r.item : Nat) : Int) → r.strip = none → s.corrAt r.ref = some e → ∃ t : State, s.dealOne die = some t ∧
      (t.die die).reserve = (s.die die).reserve ∧ (t.tilePos r.ref.pipe r.ref.die (e.bankAt s.workTick) r.ref.channel r.ref.tp).full = true ∧
      (t.tilePos r.ref.pipe r.ref.die (e.bankAt s.workTick) r.ref.channel r.ref.tp).saturated = true))

/-- Beam work (R193, R195, R208, R211): a strip that a tile was dealt frees the tile; one that verifies is entered as written, one that fails its check is queued
as a fault and counted, one with a weight that cannot be read is not written (R410); a mash that is complete or closed by its deadline is finished, and its count frame goes when its last strip
has settled (log 102). -/
def Obligations.BeamWorkRuns : Prop :=
  ∀ (s : State) (d : StripRef) (errs : List TileError) (e : PipeEntry), s.tilesRun = true →
    let r := (s.contrib d.pipe ownStrips d.die s.workSlot d.channel d.mash).getD {}
    let run := stripRun (s.stripData e d).1 (s.stripData e d).2 errs
    (∀ b, s.beamAt d.pipe d.die d.channel d.mash = some e → d.die < s.data.dies.length →
      (s.die d.die).busy.find? (fun b => b.tile == d.tile && b.item == .strip (StripRef.key d)) = some b →
      ∃ t : State, exec (.stripDone d errs) s = .next (t.deal d.die) ∧ (t.die d.die).busy = (s.die d.die).busy.erase b ∧ t.fabric.mem = s.fabric.mem ∧
        (s.weightsBad e d = 0 → stripVerified run.1 run.2 = true →
          ∃ x, t.contrib d.pipe ownStrips d.die s.workSlot d.channel d.mash = some x ∧ x.cells = r.cells ++ [StripRef.number d] ∧ x.lost = r.lost) ∧
        (s.weightsBad e d ≠ 0 →
          ∃ x, t.contrib d.pipe ownStrips d.die s.workSlot d.channel d.mash = some x ∧ x.lost = r.lost ++ [StripRef.number d] ∧ x.cells = r.cells) ∧
        (s.weightsBad e d = 0 → stripVerified run.1 run.2 = false →
          (t.die d.die).replays = queueReplay (s.die d.die).replays { fault := true, strip := some (StripRef.key d) } ∧
          (t.die d.die).tileFaults = rcAdd 32 (s.die d.die).tileFaults 1 ∧
          (t.beamCount d.pipe d.die).stripFaults = rcAdd 32 (s.beamCount d.pipe d.die).stripFaults 1)) ∧
    (∀ pipe die ch tick mash, s.finishable pipe tick ch mash = some e → finishDie (s.cfgAt tick) e ch mash = die →
      Gives (.beamMashFinish pipe die ch tick mash) s fun t =>
        ∃ x ∈ t.data.finished, x.pipe = pipe ∧ x.die = die ∧ x.channel = ch ∧ x.tick = tick ∧ x.mash = mash)

/-- Sparge (R222 to R225, R235, R245) and tun repair (R179): an open scope's reader sends its next datagram on the port of its record, a record that goes on
keeps its port, and END closes the scope; a repair without a reply in 200 us leaves its tile position CORRUPT. The row names the die that sends, and a record
is read whole at its first datagram (the model's choice, log 133). -/
def Obligations.SpargeRuns : Prop :=
  ∀ (s : State) (pipe die : Nat) (tickScope : Bool) (sc : Scope), s.scopeOf pipe tickScope = some sc → sc.ports ≠ [] → s.transmits = true →
    (∀ rd r, sc.readers.find? (·.die == die) = some rd → rd.done = false → rd.spoiled = false → sc.list[rd.next]? = some r → s.mergeWaits sc = false →
      (rd.record = none → (s.repairFirst sc r).1 = false → Gives (.spargeDatagramSend pipe die tickScope) s fun t =>
        (∃ bytes, .ethernet (sc.ports.getD (rd.next % sc.ports.length) {}).port bytes ∈ t.out) ∧
        (t.sinkCount sc.sink).datagrams = rcAdd 64 (s.sinkCount sc.sink).datagrams 1 ∧ t.fabric.mem = s.fabric.mem) ∧
      (∀ o, rd.record = some o → o.port ∈ sc.ports → Gives (.spargeDatagramSend pipe die tickScope) s fun t =>
        (∃ bytes, .ethernet o.port.port bytes ∈ t.out) ∧ (t.sinkCount sc.sink).datagrams = rcAdd 64 (s.sinkCount sc.sink).datagrams 1 ∧
        t.fabric.mem = s.fabric.mem) ∧
      (∀ o, rd.record = some o → o.port ∉ sc.ports → Gives (.spargeDatagramSend pipe die tickScope) s fun t =>
        t.out = s.out ∧ t.fabric.mem = s.fabric.mem ∧ ∃ x, t.scopeOf pipe tickScope = some x ∧ x.lossy = true ∧ x.sent = sc.sent)) ∧
    (sc.readers.all (·.done) = true → Gives (.scopeEndRecord pipe tickScope) s fun t =>
      t.scopeOf pipe tickScope = none ∧ (∃ port bytes, .ethernet port bytes ∈ t.out) ∧ t.fabric.mem = s.fabric.mem) ∧
    (∀ k r, s.data.repairs.find? (·.transaction.toNat == k) = some r → r.owner = none → Gives (.tunRepairTimeout k) s fun t =>
      (∀ x ∈ t.data.repairs, x.transaction ≠ r.transaction) ∧ (t.tilePos r.pipe r.die r.bank r.channel r.tp).corrupt = true ∧ t.fabric.mem = s.fabric.mem)

/-- TICK_BOUNDARY n runs boundary n when it lies ahead, and does nothing when it has passed or no TICK_CONFIG is in force. In a package that is ALONE it moves
data-path time to the boundary, closes what the window before owed, gives each die the reserve of R163 and a new window, and starts the pipes whose tick has come.
At a STANDBY a declared takeover or an agreed switch that is due takes the next claim, inherits the lease of the copy (logs 33 and 39) and starts afresh where it was not ready; another
boundary notes whether the copy of the boundary before came, and ends a detached standby's pair. At an ACTIVE a switch that is due steps it out of service; else it sends its state copy (R340, R342, R344, R345, R350, R351);
WORK_WINDOW_END writes every tile position still owed to full scale and notes the reserve (R53, R54, R59, R62 to R64, R163, R186, R372).
What a row does at another instant than its own is the model's choice (logs 6 and 131); a withdrawn die's reserve is R435's. -/
def Obligations.TickRowsRun : Prop :=
  ∀ (s : State) (n : Nat),
    (s.cfg.tick.isSome = true → (∀ b, s.data.boundary = some b → b < n) → s.power.inReset = false → s.health.fw.resetDue = false →
      Gives (.tickBoundary n) s fun t => t.data.boundary = some n ∧ t.power.inReset = false) ∧
    ((∃ b, s.data.boundary = some b ∧ n ≤ b) ∨ s.cfg.tick = none → exec (.tickBoundary n) s = .next s) ∧
    (∀ c, s.cfg.tick = some c → 0 < c.den → (∀ b, s.data.boundary = some b → b < n) → n ≠ 0 → s.power.inReset = false → s.health.fw.resetDue = false →
      s.works = true → s.twin.role = .alone → s.twin.nextMode = none → s.twin.switchAt = none → s.switchWaiting = none → s.twin.detachDue = false →
      c.boundaryNs n < 2 ^ 48 * nsPerSec → Gives (.tickBoundary n) s fun t =>
        t.data.boundary = some n ∧ t.timeNs = max s.timeNs (c.boundaryNs n) ∧
        (∀ d, d < s.dies → d < s.data.dies.length → (t.die d).done = [] ∧ (t.die d).replays = [] ∧ (t.die d).exhausted = false ∧ (t.die d).exhaustedCount = 0 ∧
          (t.die d).reserve = (if (t.health.guards.getD d {}).withdrawn then 0 else max 0 (reserveOf c (t.die d).mapped)) ∧
          ∀ b ∈ (t.die d).busy, b.replay = none ∧ (t.die d).tileRuns b.tile = true)) ∧
    (∀ c, s.cfg.tick = some c → (∀ b, s.data.boundary = some b → b < n) → s.power.inReset = false → s.health.fw.resetDue = false →
      s.twin.nextMode = none → s.switchWaiting = none →
      let copy := s.twin.copy.getD {}
      let quiet : Prop := (∀ a, s.twin.declared = some a → n < a.2) ∧ (∀ m, s.twin.switchAt = some m → n < m)
      (s.twin.role = .standby → s.twin.detachDue = false → s.highestClaim < 2 ^ 32 - 1 →
        let takes (p : State → Prop) : Prop := Gives (.tickBoundary n) s fun t => t.data.boundary = some n ∧ t.twin.role = .active ∧
          t.twin.claim = s.highestClaim + 1 ∧ t.twin.announceDue = true ∧ t.twin.takeovers = rcAdd 32 s.twin.takeovers 1 ∧ t.twin.declared = none ∧
          t.twin.switchAt = none ∧ t.lease.owner = copy.lockOwner ∧ t.lease.staged = copy.staged ∧ p t
        (∀ cause m, s.twin.declared = some (cause, m) → m ≤ n → takes fun t => t.twin.takeoverWait = some (cause, n, s.twin.declaredReady) ∧
          t.twin.driveDue = decide (cause = 6) ∧ t.twin.accumulateFrom = (if s.twin.declaredReady then s.twin.accumulateFrom else n + 1)) ∧
        (∀ m, s.twin.declared = none → s.twin.switchAt = some m → m ≤ n → takes fun t => t.twin.driveDue = true ∧ ∃ r, t.twin.takeoverWait = some (6, n, r) ∧
          t.twin.accumulateFrom = (if r then s.twin.accumulateFrom else n + 1))) ∧
      (s.twin.role = .standby → s.twin.partner.isSome = true → quiet → Gives (.tickBoundary n) s fun t => t.data.boundary = some n ∧ t.twin.role = .standby ∧
        t.twin.claim = s.twin.claim ∧ (s.twin.detachDue = false → t.twin.partner = s.twin.partner ∧ t.twin.copyDue = true ∧
          t.twin.copyOk = (s.twin.copy.any (·.tick + 1 == n), s.twin.copyOk.1)) ∧
        (s.twin.detachDue = true → t.twin.detached = true ∧ t.twin.partner = none ∧ t.twin.detachDue = false)) ∧
      (s.twin.role = .active → s.twin.detachDue = false →
        (∀ m, s.twin.switchAt = some m → m ≤ n → Gives (.tickBoundary n) s fun t => t.data.boundary = some n ∧ t.twin.role = .standby ∧
          t.twin.claim = s.twin.claim ∧ t.clocks.pulses.driven = false ∧ t.twin.switchAt = none ∧ t.transmits = false) ∧
        (s.twin.partner.isSome = true → quiet → Gives (.tickBoundary n) s fun t => t.data.boundary = some n ∧ t.twin.role = .active ∧
          t.twin.claim = s.twin.claim ∧ t.lease.owner = s.lease.owner ∧
          ∃ y, .copy y ∈ t.out ∧ y.tick = n ∧ y.claim = s.twin.claim ∧ y.journalSeq = s.twin.journalSeq ∧ y.lockOwner = s.lease.owner ∧
            y.bytes = t.twin.lastCopyBytes))) ∧
    (∀ c, s.cfg.tick = some c → s.data.boundary = some n → n ≠ 0 → s.works = true → c.boundaryNs (n + 1) - c.guardNs < 2 ^ 48 * nsPerSec →
      Gives (.workWindowEnd n) s fun t => t.timeNs = max s.timeNs (c.boundaryNs (n + 1) - c.guardNs) ∧ t.data.boundary = some n ∧
        ∀ d, d < s.dies → (t.die d).replays = [] ∧ (t.die d).todo = [] ∧ (t.die d).busy = [] ∧ (t.die d).exhausted = false ∧ (t.die d).exhaustedCount = 0 ∧
          (d < s.data.dies.length → (t.die d).reserveLast = max 0 (s.die d).reserve) ∧
          ∀ x e, .dump x ∈ s.owed d → s.corrAt x = some e →
            (t.tilePos x.pipe d (e.bankAt s.workTick) x.channel x.tp).full = true ∧ (t.tilePos x.pipe d (e.bankAt s.workTick) x.channel x.tp).saturated = true)

/-! ### Lanes and sparing (chapter 8) -/

/-- COMMA_PERIOD (R255 to R257, R260, R291): SEARCH takes an exact comma whose CHECK fits one PHASE as a candidate; three passes more lock the lane and one failure
sends it back; in DORMANT the lanes are powered down (R471); a locked lane counts the commas that are bad or missing, and drops to SEARCH at the fourth missing in a row. The clock inputs that depend on a lane's lock
are tested after it. A spare that loses lock while it carries a lane gives it back where that lane serves (R274); the receivers of the twin link do the same, held down
in wide steering, and a loss is reported as R331 says. -/
def Obligations.CommaSearchAndLock : Prop :=
  (∀ (s : State) (n : Nat) (c : CommaSeen), n < s.lanes.rx.length → (s.rx n).inPass = false →
    (s.power.mode = .dormant → exec (.commaPeriod (.haul n) c) s = .next s.refCheck) ∧
    (s.power.mode ≠ .dormant →
    let x := s.rx n
    let next := (x.phase + 1) % 5
    let good : Prop := CommaSeen.pattern c = commaPattern ∧ CommaSeen.lane c = x.remoteLane ∧ CommaSeen.check c = commaCheck x.remoteLane next
    (∀ k, x.lock = .search → CommaSeen.pattern c = commaPattern → CommaSeen.phase? c = some k → exec (.commaPeriod (.haul n) c) s =
      .next (State.refCheck (s.modRx n fun y => { y with lock := .candidate 0, remoteLane := CommaSeen.lane c, phase := k }))) ∧
    (x.lock = .search → CommaSeen.pattern c ≠ commaPattern ∨ CommaSeen.phase? c = none → exec (.commaPeriod (.haul n) c) s = .next s.refCheck) ∧
    (∀ k, x.lock = .candidate k → k ≠ 2 → good → exec (.commaPeriod (.haul n) c) s =
      .next (State.refCheck (s.modRx n fun y => { y with lock := .candidate (k + 1), phase := next }))) ∧
    (x.lock = .candidate 2 → good → Gives (.commaPeriod (.haul n) c) s fun t =>
      (t.rx n).lock = .locked ∧ (t.rx n).phase = next ∧ (t.rx n).remoteLane = x.remoteLane ∧ (t.rx n).arrivalPs = c.atPs ∧ (t.rx n).delivering = false ∧
      (n < 128 → (∀ k, k / 8 = n / 8 → k ≠ n → (s.rx k).lock ≠ .locked) → (t.rx n).skewPs = 0 ∧ (t.rx n).deskewPs = 64000)) ∧
    (∀ k, x.lock = .candidate k → ¬ good → Gives (.commaPeriod (.haul n) c) s fun t => (t.rx n).lock = .search) ∧
    (x.lock = .locked → CommaSeen.wrong c ≤ 8 → Gives (.commaPeriod (.haul n) c) s fun t =>
      (t.rx n).lock = .locked ∧ (t.rx n).remoteLane = x.remoteLane ∧ (t.rx n).phase = next ∧ (t.rx n).missRun = 0 ∧ (t.rx n).arrivalPs = c.atPs ∧
      (t.rx n).commaMissed = x.commaMissed ∧ (t.rx n).lockLosses = x.lockLosses ∧
      (CommaSeen.lane c ≠ x.remoteLane ∨ CommaSeen.check c ≠ commaCheck x.remoteLane next → (t.rx n).commaBad = rcAdd 32 x.commaBad 1)) ∧
    (x.lock = .locked → 8 < CommaSeen.wrong c → x.missRun < 3 → Gives (.commaPeriod (.haul n) c) s fun t =>
      (t.rx n).lock = .locked ∧ (t.rx n).missRun = x.missRun + 1 ∧ (t.rx n).commaMissed = rcAdd 32 x.commaMissed 1 ∧ (t.rx n).phase = next) ∧
    (x.lock = .locked → 8 < CommaSeen.wrong c → x.missRun = 3 → n < 128 → Gives (.commaPeriod (.haul n) c) s fun t =>
      (t.rx n).lock = .search ∧ (t.rx n).lockLosses = rcAdd 32 x.lockLosses 1 ∧ (t.rx n).commaMissed = rcAdd 32 x.commaMissed 1 ∧
      (s.clocks.dpll.haulRecLane = n → x.carried = false → s.clocks.dpll.inputs.length = 6 → (t.refInput 5).qualified = false)) ∧
    (x.lock = .locked → 8 < CommaSeen.wrong c → x.missRun = 3 → 128 ≤ n → (s.spareRx (n - 128)).lane < 128 →
      let y := s.spareRx (n - 128)
      let l := s.rx y.lane
      let back : Prop := y.carries = true ∧ l.lock = .locked ∧ l.inTolerance = true ∧ l.failed = false
      Gives (.commaPeriod (.haul n) c) s fun t => (t.rx n).lock = .search ∧ (t.rx n).lockLosses = rcAdd 32 x.lockLosses 1 ∧
        (t.rx n).commaMissed = rcAdd 32 x.commaMissed 1 ∧ (back → (t.rx y.lane).carried = false ∧ (t.rx y.lane).lock = .locked) ∧
        (¬ back → t.rx y.lane = l ∧ t.spareRx (n - 128) = y)))) ∧
  (∀ (s : State) (n : Nat) (c : CommaSeen), n < 4 → n < s.lanes.twinRx.length →
    let x := s.lanes.twinRx.getD n {}
    let next := (x.phase + 1) % 5
    let good : Prop := CommaSeen.pattern c = commaPattern ∧ CommaSeen.lane c = x.remoteLane ∧ CommaSeen.check c = commaCheck x.remoteLane next
    let gives (p : RxLane → State → Prop) : Prop := Gives (.commaPeriod (.twin n) c) s fun t => p (t.lanes.twinRx.getD n {}) t
    (s.clocks.dpll.wide = true ∨ x.inPass = true ∨ s.power.mode = .dormant → exec (.commaPeriod (.twin n) c) s = .next s.refCheck) ∧
    (s.clocks.dpll.wide = false → x.inPass = false → s.power.mode ≠ .dormant →
      (∀ k, x.lock = .search → CommaSeen.pattern c = commaPattern → CommaSeen.phase? c = some k →
        gives fun y _ => y.lock = .candidate 0 ∧ y.remoteLane = CommaSeen.lane c ∧ y.phase = k) ∧
      (x.lock = .search → CommaSeen.pattern c ≠ commaPattern ∨ CommaSeen.phase? c = none → gives fun y _ => y = x) ∧
      (∀ k, x.lock = .candidate k → k ≠ 2 → good → gives fun y _ => y.lock = .candidate (k + 1) ∧ y.phase = next) ∧
      (x.lock = .candidate 2 → good → gives fun y t => y.lock = .locked ∧ y.phase = next ∧ y.delivering = false ∧ t.linkLanes.testBit n = true) ∧
      (∀ k, x.lock = .candidate k → ¬ good → gives fun y _ => y.lock = .search) ∧
      (x.lock = .locked → CommaSeen.wrong c ≤ 8 → gives fun y _ => y.lock = .locked ∧ y.missRun = 0 ∧ y.phase = next ∧ y.commaMissed = x.commaMissed) ∧
      (x.lock = .locked → 8 < CommaSeen.wrong c → x.missRun < 3 → gives fun y _ => y.lock = .locked ∧ y.missRun = x.missRun + 1 ∧
        y.commaMissed = rcAdd 32 x.commaMissed 1) ∧
      (x.lock = .locked → 8 < CommaSeen.wrong c → x.missRun = 3 → gives fun y t => y.lock = .search ∧ y.lockLosses = rcAdd 32 x.lockLosses 1 ∧
        y.commaMissed = rcAdd 32 x.commaMissed 1 ∧ t.linkLanes.testBit n = false ∧
        (s.health.log.dead = false → s.holdOk .log = true → s.health.log.badMedia = [] →
          ∃ e ∈ t.health.log.slots, e.2.code = (if t.linkLanes = 0 then 0x0509 else 0x0508)))))

/-- CODEWORD_DECODE and FIRST_BOUNDARY_CHECK (R252, R254, R257, R259, R276): a codeword that the code corrects counts its symbols in FEC_CORRECTED, one beyond it
counts in FEC_UNCORRECTED; a lane in test gives its bits to the checker. FIRST_BOUNDARY fields that are no complements are ignored; those that are begin delivery, start
a held walk and move one that disagrees. Of a period whose blocks have not come, the fields that the lane carries count (the model's choice, log 141). FEC_UNCORRECTED counts codewords (log 89), by the code of log 140. -/
def Obligations.CodewordsAndBoundaries : Prop :=
  ∀ (s : State) (n : Nat) (message parity : List (BitVec 10)) (field complement : Half), n < s.lanes.rx.length →
    let x := s.rx n
    let r := haulCode.decode ((message ++ parity).map (·.toNat))
    let fb := x.boundaryField.toNat
    let check (p : RxLane → Prop) : Prop := Gives (.firstBoundaryCheck (.haul n) field complement) s fun t => p (t.rx n) ∧ ∀ k, k ≠ n → t.rx k = s.rx k
    (x.test = .service → x.lock = .locked → Gives (.codewordDecode (.haul n) message parity) s fun t => (t.rx n).lock = .locked ∧
      (t.rx n).fecCorrected = rcAdd 64 x.fecCorrected ((r.map (·.1)).getD 0) ∧ (t.rx n).fecUncorrected = rcAdd 32 x.fecUncorrected (nat01 r.isNone) ∧
      (t.rx n).badNow = (x.badNow || r.isNone || decide (s.sparingThreshold n ≤ (r.map (·.1)).getD 0)) ∧
      (∀ k, k ≠ n → t.rx k = s.rx k)) ∧
    (x.test ≠ .service → s.power.mode = .dormant → exec (.codewordDecode (.haul n) message parity) s = .next s) ∧
    (x.test ≠ .service → s.power.mode ≠ .dormant → exec (.codewordDecode (.haul n) message parity) s =
      .next (s.modRx n fun y => y.checkBits (codedBits ((message ++ parity).map (·.toNat))))) ∧
    (x.lock = .locked → x.walkBuf = [] → x.fieldBlocks = 32 →
      (x.boundaryField ≠ ~~~x.complementField → check fun y =>
        y.walkChecked = true ∧ y.delivering = x.delivering ∧ y.walkHeld = x.walkHeld ∧ y.framingSlips = x.framingSlips ∧ y.boundaries = x.boundaries) ∧
      (x.boundaryField = ~~~x.complementField →
        (check fun y => y.walkChecked = true ∧ y.delivering = true ∧ y.boundaries = (fb :: x.boundaries).take 2) ∧
        (x.walkHeld = true → check fun y => y.walkHeld = false ∧ y.walkSkip = fb ∧ y.framingSlips = x.framingSlips) ∧
        (x.walkHeld = false → x.nextBoundary = some fb → check fun y =>
          y.walkHeld = false ∧ y.framingSlips = x.framingSlips ∧ y.walkLeft = x.walkLeft ∧ y.walkHeader = x.walkHeader) ∧
        (∀ b, x.walkHeld = false → x.nextBoundary = some b → b ≠ fb → check fun y =>
          y.walkHeld = false ∧ y.framingSlips = rcAdd 32 x.framingSlips 1 ∧ y.walkSkip = fb ∧ y.walkLeft = 0))) ∧
    (x.lock = .locked → x.walkBuf = [] → x.fieldBlocks = 0 →
      (field = ~~~complement → check fun y => y.delivering = true ∧ y.walkHeld = false ∧ y.framingSlips = x.framingSlips ∧
        y.boundaries = (field.toNat :: x.boundaries).take 2) ∧
      (field ≠ ~~~complement → check fun y => y.delivering = x.delivering ∧ y.walkHeld = x.walkHeld ∧ y.framingSlips = x.framingSlips ∧ y.boundaries = x.boundaries))

/-- CONTROL frames (R267, R268, R271 to R274): HELLO notes the far end's versions; each sparing message that is addressed here does its step: the sender takes
a request, opens a kiln window and lets a copy stop; the receiver notes the copy, frees the spare and gives a refused one up. -/
def Obligations.ControlMessagesAct : Prop :=
  ∀ (s : State) (n : Nat) (f : Frame), n < s.lanes.rx.length → (s.receive n 4 f).1 = true → f.pipe = 0 → f.payload.length = 16 →
    let tx := field f.payload 0 1
    let r := (f.source, transactionOf f, field f.payload 2 1, field f.payload 3 1, n)
    let ok (t : State) : Prop := (t.rx n).framesOk = rcAdd 64 (s.rx n).framesOk 1
    (f.layout.toNat % 256 = 0x01 → Gives (.hello n f) s fun t =>
      ok t ∧ (t.rx n).versionLo = field f.payload 0 1 ∧ (t.rx n).versionHi = field f.payload 1 1) ∧
    (s.addressed (f.spec.toNat % 65536) = true →
      (f.layout.toNat % 256 = 0x10 → tx < 128 → s.hasLane tx = true → field f.payload 1 1 = 128 + dieOfLane tx → dieOfLane tx < s.lanes.spareTx.length →
        (s.spareTx (dieOfLane tx)).lane = none → Gives (.spareRequest n f) s fun t => ok t ∧ (t.spareTx (dieOfLane tx)).lane = some tx ∧
          (t.spareTx (dieOfLane tx)).holders = [(f.source, transactionOf f)] ∧ (t.spareTx (dieOfLane tx)).toAnswer = [r] ∧ (t.spareTx (dieOfLane tx)).copying = false) ∧
      (∀ d a, f.layout.toNat % 256 = 0x11 → s.extraOf (transactionOf f) = none → d < s.lanes.spareRx.length → s.spareOf (transactionOf f) f.payload = some d →
        (s.spareRx d).step = .requested a → Gives (.spareDuplicating n f) s fun t => ok t ∧ t.spareRx d = { s.spareRx d with step := .requested true }) ∧
      (f.layout.toNat % 256 = 0x12 → dieOfLane tx < s.lanes.spareTx.length → (s.spareTx (dieOfLane tx)).lane = some tx →
        (s.spareTx (dieOfLane tx)).copying = true → Gives (.spareSwitched n f) s fun t =>
          ok t ∧ t.spareTx (dieOfLane tx) = { s.spareTx (dieOfLane tx) with
            confirmed := true, window := true, passed := (s.spareTx (dieOfLane tx)).passed || s.windowPass tx } ∧
          (s.windowPass tx = true → tx < s.lanes.tx.length → (t.tx tx).inPass = true)) ∧
      (f.layout.toNat % 256 = 0x13 → dieOfLane tx < s.lanes.spareTx.length → (s.spareTx (dieOfLane tx)).lane = some tx →
        (s.spareTx (dieOfLane tx)).copying = true → (∀ x ∈ (s.spareTx (dieOfLane tx)).holders, x.1 = f.source) → Gives (.spareRelease n f) s fun t =>
          ok t ∧ (t.spareTx (dieOfLane tx)).holders = [] ∧ (t.spareTx (dieOfLane tx)).stopping = true ∧ (t.spareTx (dieOfLane tx)).copying = true) ∧
      (∀ d, f.layout.toNat % 256 = 0x14 → d < s.lanes.spareRx.length → s.spareOf (transactionOf f) f.payload = some d → (s.spareRx d).step = .released →
        Gives (.spareStopped n f) s fun t => ok t ∧ t.spareRx d = { s.spareRx d with step := .idle }) ∧
      (∀ d a, f.layout.toNat % 256 = 0x1F → s.extraOf (transactionOf f) = none → d < s.lanes.spareRx.length → s.spareOf (transactionOf f) f.payload = some d →
        (s.spareRx d).step = .requested a → Gives (.spareRefused n f) s fun t => ok t ∧ t.spareRx d = { s.spareRx d with step := .idle }))

/-- The steps of a sparing (R267, R268, R272 to R274, R286): the copy starts and stops at a comma boundary, a confirmed spare takes over and gives back at a
comma, a handshake without an answer is given up, HELLO goes out on a TX lane in role HAUL, and LANE_EYE completes with its counts. -/
def Obligations.SparingStepsRun : Prop :=
  ∀ (s : State) (d : Nat), d < 8 → s.lanes.spareRx.length = 8 → s.lanes.spareTx.length = 8 →
    let x := s.spareRx d
    (∀ l, (s.spareTx d).lane = some l → (s.spareTx d).copying = false → Gives (.spareCopyStart d) s fun t =>
      t.spareTx d = { s.spareTx d with copying := true, toAnswer := [] }) ∧
    (∀ l, (s.spareTx d).lane = some l → (s.spareTx d).stopping = true → Gives (.spareCopyStop d) s fun t => t.spareTx d = {}) ∧
    (∀ a, x.step = .requested a → (s.rx (128 + d)).lock = .locked → (s.rx (128 + d)).remoteLane = x.txLane → (s.rx (128 + d)).inTolerance = true →
      (s.rx (128 + d)).boundaries.length = 2 → (s.rx (128 + d)).boundaries = (s.rx x.lane).boundaries →
        exec (.spareConfirmed d) s = .next (s.modSpareRx d fun y => { y with step := .confirmed })) ∧
    (x.step = .switching ∨ (x.step = .confirmed ∧ (s.rx x.lane).lock ≠ .locked) → x.lane < s.lanes.rx.length → Gives (.laneSpareSwitch d) s fun t =>
      (t.spareRx d).step = .carrying ∧ (t.rx x.lane).carried = true ∧ (x.reason ≠ 2 → (t.rx x.lane).lock = (s.rx x.lane).lock) ∧
      (x.reason = 2 → dieOfLane x.lane = d → x.lane < 128 → x.releaseAsked = false → s.passRuns { kind := 1, index := x.lane } = false →
        (s.kilnRecord { kind := 1, index := x.lane }).due = true → (s.kilnRecord { kind := 1, index := x.lane }).inPass = false →
        (t.rx x.lane).inPass = true ∧ (t.kilnRecord { kind := 1, index := x.lane }).inPass = true)) ∧
    (x.step = .returning → x.lane < s.lanes.rx.length → (s.rx x.lane).lock = .locked → (s.rx x.lane).inTolerance = true → (s.rx x.lane).failed = false →
      (s.rx (128 + dieOfLane x.lane)).inTolerance = true → Gives (.laneRestoreSwitch d) s fun t => (t.spareRx d).step = .released ∧ (t.rx x.lane).carried = false) ∧
    (∀ a, x.step = .requested a → Gives (.spareTimeout d) s fun t => (t.spareRx d).step = .released ∧ t.lanes.rx = s.lanes.rx) ∧
    (∀ n, s.txSends n = true → Gives (.helloTimer n) s fun t => t.lanes.rx = s.lanes.rx ∧
      ∃ g, t.out = ((s.txCarriers n).reverse.map fun k => .haul k 4 g) ++ s.out ∧ g.source = s.source ∧ g.claim = s.ownClaim ∧ g.seq = (s.tx n).seq ∧ g.layout = 1 ∧
        field g.payload 0 1 = s.ident.haulWindow.toNat % 16 ∧ field g.payload 1 1 = s.ident.haulWindow.toNat / 16) ∧
    (∀ n m r k, s.mail.running.find? (fun r => match r.waits with | .eye l _ => l == n | _ => false) = some r → r.waits = .eye n k →
      r.origin.mailbox < s.mail.boxes.length → (s.mail.queues.getD (s.box r.origin.mailbox).cqSel.toNat {}).depth < 16 → Gives (.eyeScanDone n m) s fun t =>
        Answered t r.origin.mailbox .ok (leBytes 8 (2 ^ k) ++ leBytes 8 m) ∧ t.mail.running = s.mail.running.erase r)

/-! ### The twin pair (chapter 10) -/

/-- Heartbeats and state copies (R332 to R338, R342): a HEARTBEAT shows the partner's role and flags and what it carries of claim and journal; a window without one
counts in HB_MISSED, and three in a row make a standby declare its active; a copy that is whole and on time is held, one that is late or lacks a segment is counted; the watchdog silences. Missing heartbeats are cause 0 (the model's number, log 33). -/
def Obligations.TwinHeartbeatsAndCopies : Prop :=
  ∀ (s : State) (p : Partner), s.twin.partner = some p →
    (∀ lane f, (s.twinReceive lane 1 16 f).1 = true →
      let flags := field f.payload 2 2
      let shown (r : TwinRole) : Partner :=
        { p with role := r, ready := flags.testBit 1, hot := flags.testBit 2, diverged := flags.testBit 3, window := some (field f.payload 0 1 % 8) }
      (s.twin.role = .standby → field f.payload 1 1 = 1 → s.ownPosition f = true → s.twin.crcBad = false → Gives (.heartbeat lane f) s fun t => t.twin.partner = some (shown .active) ∧
        t.twin.claim = max f.claim.toNat s.twin.claim ∧ t.twin.inSync = (field f.payload 4 4 == s.twin.journalSeq) ∧ t.twin.seen.active = true ∧
        (flags.testBit 0 = true → s.twin.declared = none → t.twin.declared = some (field f.payload 8 1, s.nextBoundary))) ∧
      (s.twin.role = .standby → field f.payload 1 1 = 1 → s.twin.crcBad = true → Gives (.heartbeat lane f) s fun t => t.twin.inSync = false) ∧
      (s.twin.role = .active → field f.payload 1 1 = 2 → f.claim.toNat ≤ s.twin.claim → flags.testBit 3 = false → Gives (.heartbeat lane f) s fun t =>
        t.twin.partner = some (shown .standby) ∧ t.twin.claim = s.twin.claim ∧ t.twin.role = .active ∧ t.twin.diverged = false ∧ t.twin.seen.any = true)) ∧
    (∀ frames c rx,
      let got := (s.twinFrames 2 (fun n => decide (n ≤ 8192)) frames).1
      got ≠ [] → s.twin.role = .standby →
      (wholeCopy c.tick got = true → s.data.boundary.getD 0 ≤ c.tick → Gives (.stateCopy frames c rx) s fun t => t.twin.copy = some c ∧
        t.twin.lastCopyBytes = (got.map (·.payload.length)).sum ∧ t.fabric.mem = s.fabric.mem ∧ t.cfg = s.cfg) ∧
      (wholeCopy c.tick got = false ∨ c.tick < s.data.boundary.getD 0 → Gives (.stateCopy frames c rx) s fun t => t.twin.copy = s.twin.copy ∧
        t.twin.copiesLate = (if s.twin.lateTick = some c.tick then s.twin.copiesLate else rcAdd 32 s.twin.copiesLate 1))) ∧
    (∀ n w, s.cfg.tick.isSome = true → s.twin.mode ≠ .untwinned → s.twin.detached = false →
      (s.twin.seen.any = true → s.twin.seen.active = true → s.freeLanes ≠ [] → s.twin.waiting = [] → s.twin.incompatible = false → Gives (.heartbeatWindow n w) s fun t =>
        t.twin.windows = (s.twin.seen :: s.twin.windows).take 32 ∧ t.twin.seen = {} ∧ t.twin.role = s.twin.role ∧ t.twin.declared = s.twin.declared ∧
        ∃ k g, .twin k g ∈ t.out ∧ g.layout = 1 ∧ field g.payload 0 1 = w % 8 ∧ field g.payload 1 1 = s.twin.role.code) ∧
      (∀ a b l, s.twin.windows = a :: b :: l → s.twin.role = .standby → s.linkLanes ≠ 0 → s.twin.declared = none → s.twin.seen = {} → a = {} → b = {} →
        Gives (.heartbeatWindow n w) s fun t => t.twin.declared = some (0, n + 1) ∧ t.twin.hbMissed = rcAdd 32 s.twin.hbMissed 1)) ∧
    (Gives .heartbeatWatchdog s fun t => t.twin = { s.twin with silenced := true } ∧ t.clocks.pulses.driven = false ∧ t.transmits = false)

/-- The journal and tun repair over the link (R339, R348): the standby applies the next entry and acknowledges it, and stops being in sync at one out of turn;
an acknowledgement, or 2 ms without one, ends what waits for it; a repair read is answered and counted, and its word is stored. The layout of an entry
and what an entry out of its turn does are the model's (logs 17 and 58). -/
def Obligations.TwinJournalAndRepair : Prop :=
  ∀ (s : State),
    (∀ first rest (e : JournalEntry),
      let got := (s.twinFrames 3 (fun n => decide (8 ≤ n)) (first :: rest)).1
      wholeEntry got = some e → s.twin.role = .standby → s.twin.partner.isSome = true →
      (e.seq = s.twin.journalSeq + 1 → s.lacksPipe e = false → e.opcode = 0x0803 → Gives (.journal first rest) s fun t =>
        t.twin.journalSeq = e.seq ∧ t.twin.journalCrc = crc64From s.twin.journalCrc (journalBytes e) ∧ t.twin.history = s.twin.history ++ [e] ∧
        t.health.policy = parsePolicy e.args ∧
        (s.freeLanes ≠ [] → s.twin.waiting = [] → ∃ k g, .twin k g ∈ t.out ∧ g.layout = 4 ∧ field g.payload 0 4 = e.seq % 2 ^ 32 ∧
          twinTransaction g = (got.map twinTransaction).headD 0)) ∧
      (e.seq ≠ s.twin.journalSeq + 1 → e.seq ≠ 1 → Gives (.journal first rest) s fun t =>
        t.twin.inSync = false ∧ t.twin.journalSeq = s.twin.journalSeq ∧ t.cfg = s.cfg ∧ t.health.policy = s.health.policy ∧ t.fabric = s.fabric)) ∧
    (∀ lane f, (s.twinReceive lane 4 8 f).1 = true → s.twin.role = .active → Gives (.journalAck lane f) s fun t =>
      (∀ r ∈ t.mail.running, ∀ q, r.waits = .journal q → field f.payload 0 4 < q) ∧ (field f.payload 0 4 = s.twin.journalSeq → t.twin.inSync = true) ∧
      t.twin.journalSeq = s.twin.journalSeq ∧ t.cfg = s.cfg) ∧
    (∀ q, (∃ r ∈ s.mail.running, r.waits = .journal q) → Gives (.journalAckTimeout q) s fun t =>
      (∀ r ∈ t.mail.running, ∀ k, r.waits = .journal k → q < k) ∧ t.cfg = s.cfg) ∧
    (∀ lane f, (s.twinReceive lane 5 16 f).1 = true →
      let g (off n : Nat) : Nat := field f.payload off n
      let a := s.repairAnswer (g 0 4) (g 4 1) (g 5 1) (g 6 2) (g 8 4) (g 12 4)
      Gives (.repairReq lane f) s fun t => t.fabric.mem = s.fabric.mem ∧
        t.twin.repairsServed = (if a.1 = 0 then rcAdd 32 s.twin.repairsServed 1 else s.twin.repairsServed) ∧
        t.twin.repairsRefused = (if a.1 = 0 then s.twin.repairsRefused else rcAdd 32 s.twin.repairsRefused 1) ∧
        (s.freeLanes ≠ [] → s.twin.waiting = [] → ∃ k x, .twin k x ∈ t.out ∧ x.layout = 6 ∧ twinTransaction x = twinTransaction f ∧ x.payload = leBytes 1 a.1 ++ leBytes 3 0 ++ padTo 32 a.2)) ∧
    (∀ lane f r, (s.twinReceive lane 6 36 f).1 = true → s.data.repairs.find? (·.transaction.toNat == twinTransaction f) = some r → r.owner = none →
      (field f.payload 0 1 = 0 → Gives (.repairReply lane f) s fun t => (∀ x ∈ t.data.repairs, x.transaction ≠ r.transaction) ∧
        t.fabric.mem = (s.memWrite ((s.repairEntry r.pipe).tunAddr r.die r.bank r.channel r.tp + 32 * r.word) (f.payload.drop 4)).fabric.mem) ∧
      (field f.payload 0 1 ≠ 0 → Gives (.repairReply lane f) s fun t => (∀ x ∈ t.data.repairs, x.transaction ≠ r.transaction) ∧
        (t.tilePos r.pipe r.die r.bank r.channel r.tp).corrupt = true ∧ t.fabric.mem = s.fabric.mem))

/-- Attachment and switch (R304, R326, R338, R347, R349, R350): ATTACH settles the roles by role and claim, or finds the partner incompatible; a reply to it sets the delay; a package that waits in
vain becomes ALONE with the next claim; SWITCH is answered by a standby, and SWITCH_ACK completes TWIN_SWITCH for its tick.
How a reply is told from the partner's own ATTACH, and that a claim outlives the change between ALONE and ACTIVE, are the model's (logs 56 and 59). -/
def Obligations.TwinAttachesAndSwitches : Prop :=
  ∀ (s : State),
    (∀ lane f rx, (s.twinReceive lane 7 16 f).1 = true → s.twin.detached = false → 7 ≤ s.power.stage →
      let role := field f.payload 3 1
      let fits : Prop := field f.payload 0 1 = s.dies ∧ s.ident.twinWindow.toNat % 16 ≤ field f.payload 2 1 ∧
        field f.payload 1 1 ≤ s.ident.twinWindow.toNat / 16
      (¬ fits → Gives (.attach lane f rx) s fun t => t.twin.incompatible = true ∧ t.twin.role = s.twin.role ∧ t.twin.partner = s.twin.partner ∧ t.cfg = s.cfg) ∧
      (fits → s.twin.attachSent = true → twinTransaction f = s.twin.attachTransaction → s.twin.partner.isSome = true → Gives (.attach lane f rx) s fun t =>
        t.twin.delayPs = (((rx : Int) - (s.twin.attachSentNs : Int)) * 1000) / 2 ∧ t.twin.role = s.twin.role ∧ t.twin.partner = s.twin.partner) ∧
      (fits → s.twin.role = .alone → role = 2 → s.twin.partner = none → Gives (.attach lane f rx) s fun t => t.twin.role = .active ∧ t.twin.claim = s.twin.claim ∧
        (∃ p, t.twin.partner = some p ∧ p.role = .standby) ∧ t.fabric.mem = s.fabric.mem) ∧
      (fits → s.twin.role = .standby → role = 1 → s.twin.partner = none → Gives (.attach lane f rx) s fun t => t.twin.role = .standby ∧
        t.twin.claim = max (max f.claim.toNat (field f.payload 4 4)) s.twin.claim ∧ (∃ p, t.twin.partner = some p ∧ p.role = .active) ∧
        (∀ e ∈ t.cfg.pipes, e.state = .free) ∧ t.lease.owner = none)) ∧
    (7 ≤ s.power.stage → s.twin.mode ≠ .untwinned → s.twin.role = .standby → s.twin.partner = none → s.twin.detached = false → s.highestClaim < 2 ^ 32 - 1 →
      Gives .attachWaitExpiry s fun t => t.twin.role = .alone ∧ t.twin.claim = s.highestClaim + 1 ∧ t.twin.announceDue = true ∧ 8 ≤ t.power.stage) ∧
    (∀ lane f, (s.twinReceive lane 8 8 f).1 = true → s.twin.role = .standby → Gives (.switch lane f) s fun t =>
      (s.standbyReady = true → t.twin.switchAt = some (field f.payload 0 6)) ∧ (s.standbyReady = false → t.twin.switchAt = s.twin.switchAt) ∧
      (s.freeLanes ≠ [] → s.twin.waiting = [] → ∃ k g, .twin k g ∈ t.out ∧ g.layout = 9 ∧ field g.payload 0 6 = field f.payload 0 6 ∧
        field g.payload 6 2 = nat01 (!s.standbyReady))) ∧
    (∀ lane f r, (s.twinReceive lane 9 8 f).1 = true → s.switchWaiting = some r → field r.args 0 6 = field f.payload 0 6 →
      r.origin.mailbox < s.mail.boxes.length → (s.mail.queues.getD (s.box r.origin.mailbox).cqSel.toNat {}).depth < 16 →
      (field f.payload 6 2 = 0 → Gives (.switchAck lane f) s fun t => Answered t r.origin.mailbox .ok [] ∧ t.twin.switchAt = some (field r.args 0 8)) ∧
      (field f.payload 6 2 ≠ 0 → (field r.args 8 1).testBit 0 = false → Gives (.switchAck lane f) s fun t =>
        Answered t r.origin.mailbox .refusedState [] ∧ t.twin = s.twin)) ∧
    (s.twin.driveDue = true → Gives .switchOutputDrive s fun t => t.twin.driveDue = false ∧ t.clocks.pulses.driven = true ∧ t.clocks.pulses.ppsOut = .low ∧
      t.clocks.pulses.tickOut = .low)

/-! ### Clocks, time, PTP and the calendar (chapter 9) -/

/-- The DPLL's choice of references (R291 to R294, R296, R302): an input qualifies, where what this package knows of it allows that, and the best entry is selected; the
loss of the selected one takes the next best, or ends in HOLDOVER or FREERUN; WTR_EXPIRY takes back the better entry that has waited longest; ACQUIRE ends in LOCKED, which
in time gives a history; TIME_BAD clears. -/
def Obligations.ReferencesAreSelected : Prop :=
  ∀ (s : State) (c : Nat), 1 ≤ c → c ≤ 6 → s.clocks.dpll.inputs.length = 6 → s.clocksRun = true →
    let d := s.clocks.dpll
    let x := s.refInput c
    let waits (k : Nat) : Prop := d.good k = true ∧ (d.inputs.getD (d.entries.getD k 0 - 1) {}).wtrRunning = true
    let left (k : Nat) : Nat := (d.inputs.getD (d.entries.getD k 0 - 1) {}).wtrLeftS
    ((x.qualified = false → s.refPasses c = true → d.selected = none →
      (∀ k, ({ d with inputs := d.inputs.modify (c - 1) fun y => { y with qualified := true } } : Dpll).best = some k → Gives (.refQualify c) s fun t =>
        t.clocks.dpll.state = .acquire ∧ t.clocks.dpll.selected = some k ∧ t.clocks.dpll.steerPpt = 0 ∧ t.clocks.dpll.wide = false ∧
        t.clocks.dpll.startPpt = some d.ownPpt ∧ (t.refInput c).qualified = true ∧ t.clocks.dpll.switches = rcAdd 32 d.switches 1 ∧
        (s.ident.variant = .s8 → t.clocks.dpll.pullInPs.natAbs < 50)) ∧
      (c ∉ d.entries → d.best = none → Gives (.refQualify c) s fun t => t.clocks.dpll.state = d.state ∧ t.clocks.dpll.selected = none ∧
        (t.refInput c).qualified = true))) ∧
    (s.refPasses c = false → exec (.refQualify c) s = .next s) ∧
    (x.timeBad = true ∨ (c = 4 ∧ s.clocks.ptp.role = .master) → s.refPasses c = false) ∧
    (x.qualified = true → d.code = some c →
      let e : Dpll := { d with inputs := d.inputs.modify (c - 1) fun y => { y with qualified := false, wtrRunning := false } }
      (∀ k n, e.best = some k → Gives (.refDisqualify c n) s fun t => t.clocks.dpll.state = .acquire ∧ t.clocks.dpll.selected = some k ∧ (t.refInput c).qualified = false) ∧
      (∀ n, e.best = none → d.historyValid = true → Gives (.refDisqualify c n) s fun t => t.clocks.dpll.state = .holdover ∧ t.clocks.dpll.selected = none ∧
        t.clocks.dpll.holdoverS = 0 ∧ -75000000 ≤ t.clocks.dpll.holdoverPpt ∧ t.clocks.dpll.holdoverPpt ≤ 75000000) ∧
      (∀ n, e.best = none → d.historyValid = false → Gives (.refDisqualify c n) s fun t => t.clocks.dpll.state = .freerun ∧ t.clocks.dpll.selected = none)) ∧
    (∀ k j, d.revertive = true → d.selected = some k → j < k → waits j → (∀ i, i < k → waits i → left j ≤ left i) → (∀ i, i < j → waits i → left j < left i) →
      Gives .wtrExpiry s fun t => t.clocks.dpll.state = .acquire ∧ t.clocks.dpll.selected = some j ∧
        ∀ i, i < 6 → (t.clocks.dpll.inputs.getD i {}).wtrRunning = true → i + 1 ∈ d.entries.take j) ∧
    (d.state = .acquire → Gives .dpllLock s fun t => t.clocks.dpll.state = .locked ∧ t.clocks.dpll.selected = d.selected) ∧
    (d.state = .locked → exec .historyValid s = .next (s.modDpll fun y => { y with historyValid := true })) ∧
    (c = 3 ∨ c = 4 → d.code ≠ some c → exec (.timeBadClear c) s = .next (s.modRef c fun y => { y with timeBad := false }))

/-- Time inputs (R301, R302, R320): a measurement of the selected input is pulled in within its limit; one beyond it leaves time alone and disqualifies the
input as TIME_BAD; with no data pipe the first after a selection sets the time, and with no time yet an edge sets it to a whole second that nothing names (log 84); a TIME_SET that waits ends at a qualified edge, or too late. -/
def Obligations.TimeInputsMeasure : Prop :=
  ∀ (s : State) (ns : Int), s.clocks.dpll.inputs.length = 6 → s.clocksRun = true →
    let d := s.clocks.dpll
    let x := s.refInput 3
    let off := ns * 1000 - x.delayPs
    (s.waitingPps = none →
      (d.code = some 3 → s.stepAllowed = false → off.natAbs ≤ d.jumpLimitPs → Gives (.ppsInEdge ns) s fun t => t.clocks.time = s.clocks.time ∧
        t.clocks.dpll.pullInPs = off ∧ t.clocks.dpll.phaseErrPs = off ∧ t.clocks.dpll.acceptedSinceSelect = true ∧ t.clocks.dpll.sinceAcceptedS = 0) ∧
      (d.code = some 3 → s.stepAllowed = false → x.accepted = false → x.qualified = true → d.jumpLimitPs < off.natAbs → Gives (.ppsInEdge ns) s fun t =>
        t.clocks.time = s.clocks.time ∧ (t.refInput 3).timeBad = true ∧ (t.refInput 3).qualified = false ∧
        t.clocks.dpll.jumpsRefused = rcAdd 32 d.jumpsRefused 1) ∧
      (d.code = some 3 → s.stepAllowed = true → s.clocks.time.valid = true → d.acceptedSinceSelect = false → Gives (.ppsInEdge ns) s fun t =>
        t.clocks.time.valid = true ∧ t.timeNs = (((s.timeNs : Int) * 1000 - off) / 1000 % ((2 ^ 48 * nsPerSec : Nat) : Int)).toNat ∧
        t.clocks.dpll.pullInPs = 0 ∧ t.clocks.dpll.acceptedSinceSelect = true) ∧
      (d.code = some 3 → s.stepAllowed = true → s.clocks.time.valid = true → d.acceptedSinceSelect = true → Gives (.ppsInEdge ns) s fun t =>
        t.clocks.time = s.clocks.time ∧ t.clocks.dpll.pullInPs = off ∧ t.clocks.dpll.sinceAcceptedS = 0) ∧
      (d.code = some 3 → s.stepAllowed = true → s.clocks.time.valid = false → Gives (.ppsInEdge ns) s fun t => t.clocks.time.valid = true ∧
        t.clocks.dpll.pullInPs = 0 ∧ t.clocks.dpll.acceptedSinceSelect = true ∧
        ∃ sec, sec < 2 ^ 48 ∧ t.timeNs = (((sec * nsPerSec : Nat) : Int) + rndDiv x.delayPs 1000).toNat % (2 ^ 48 * nsPerSec)) ∧
      (d.code ≠ some 3 → exec (.ppsInEdge ns) s = .next (s.modRef 3 fun y => { y with offsetPs := off }))) ∧
    (x.qualified = true → s.stepAllowed = true → Gives (.ppsInEdge ns) s fun t => ∀ r ∈ t.mail.running, ∀ sec, r.waits ≠ .pps sec) ∧
    (∀ r sec, s.waitingPps = some (r, sec) → (∀ q ∈ s.mail.running.erase r, ∀ v, q.waits ≠ .pps v) → r.origin.mailbox < s.mail.boxes.length → (s.mail.queues.getD (s.box r.origin.mailbox).cqSel.toNat {}).depth < 16 →
      (x.qualified = true → s.stepAllowed = true → (((sec * nsPerSec : Nat) : Int) + rndDiv x.delayPs 1000).toNat < 2 ^ 48 * nsPerSec → Gives (.ppsInEdge ns) s fun t =>
        Answered t r.origin.mailbox .ok [] ∧ t.clocks.time.valid = true ∧ t.timeNs = (((sec * nsPerSec : Nat) : Int) + rndDiv x.delayPs 1000).toNat) ∧
      (Gives .timeSetPpsTimeout s fun t => Answered t r.origin.mailbox .tooLate [] ∧ t.clocks = s.clocks))

/-- The PTP port (R291, R307 to R309): a foreign master's first Announce chooses nobody, its second within the window makes a slave-only port its slave, and a worse
one changes nothing (log 32); Sync, Follow_Up and the delay messages set their time stamps and the mean path delay; a master answers delay requests and sends its own
messages; a lost master is given up. -/
def Obligations.PtpPortRuns : Prop :=
  ∀ (s : State), s.clocksRun = true →
    let p := s.clocks.ptp
    let sends (kind : Nat) (seq : Half) (a : Option PtpAnnounce) (stamp : Int) (reply : Option PtpHeader) : OutItem :=
      .ptp kind seq a stamp reply (ptpRoute p.transport kind)
    (∀ a, p.takes a.header = true → a.grandmaster ≠ Config.clockIdentity → a.stepsRemoved < 255 → p.mode = 1 →
      (p.best = none → p.foreign = [] → exec (.ptpAnnounce a) s = .next (s.modPtp fun y => { y with foreign := [{ announce := a, times := [s.timeNs] }] })) ∧
      (∀ b at_, p.best = none → p.foreign = [{ announce := b, times := [at_] }] → samePort a b = true → s.timeNs ≤ at_ + p.foreignWindow →
        Gives (.ptpAnnounce a) s fun t => t.clocks.ptp.best = some a ∧ t.clocks.ptp.role = .slave ∧ t.clocks.time = s.clocks.time) ∧
      (∀ b, p.best = some b → samePort a b = false → better a b = false → (∀ f ∈ p.foreign, better f.announce b = false) →
        Gives (.ptpAnnounce a) s fun t => t.clocks.ptp.best = some b ∧ t.clocks.time = s.clocks.time)) ∧
    (∀ h origin rx, p.fromMaster h = true → s.clocks.dpll.code ≠ some 4 →
      (exec (.ptpSync h true origin rx) s = .next (s.modPtp fun y => { y with syncWait := some (h.seq, p.received rx - h.correctionNs * 1000) })) ∧
      (Gives (.ptpSync h false origin rx) s fun t => t.clocks.ptp.t1 = Stamp.ps origin + h.correctionNs * 1000 ∧ t.clocks.ptp.t2 = p.received rx ∧
        t.clocks.time = s.clocks.time) ∧
      (∀ v, p.syncWait = some (h.seq, v) → Gives (.ptpFollowUp h origin) s fun t =>
        t.clocks.ptp.t1 = Stamp.ps origin + h.correctionNs * 1000 ∧ t.clocks.ptp.t2 = v ∧ t.clocks.ptp.syncWait = none ∧ t.clocks.time = s.clocks.time) ∧
      (p.peerDelay = false → answersOwn h = true → h.seq = p.seqDelay → exec (.ptpDelayResp h origin) s = .next (s.modPtp fun y =>
        { y with meanDelayPs := ((p.t2 - p.t1) + (Stamp.ps origin - h.correctionNs * 1000 - p.t3)) / 2 }))) ∧
    (∀ h rx tx, p.takes h = true →
      (p.role = .master → p.peerDelay = false → exec (.ptpDelayReq h rx) s = .next (s.emit (sends 4 h.seq none (p.received rx) (some h)))) ∧
      (p.peerDelay = true → p.oneStep = false →
        exec (.ptpPdelayReq h rx tx) s = .next ((s.emit (sends 6 h.seq none (p.received rx) (some h))).emit (sends 7 h.seq none (p.sent tx) (some h)))) ∧
      (p.peerDelay = true → p.oneStep = true → exec (.ptpPdelayReq h rx tx) s = .next (s.emit (sends 6 h.seq none (p.sent tx - p.received rx) (some h)))) ∧
      (p.peerDelay = true → answersOwn h = true → h.seq = p.seqDelay → exec (.ptpPdelayResp h false false tx rx) s = .next (s.modPtp fun y =>
        { y with meanDelayPs := (p.received rx - p.t3 - h.correctionNs * 1000) / 2 }))) ∧
    (p.mode = 1 → s.clocks.dpll.inputs.length = 6 → (s.refInput 4).qualified = true →
      (Gives (.ptpAnnounceTimeout false) s fun t => t.clocks.ptp.best = none ∧ (t.refInput 4).qualified = false ∧ t.clocks.time = s.clocks.time) ∧
      (Gives (.ptpAnnounceTimeout true) s fun t => t.clocks.ptp = p ∧ (t.refInput 4).qualified = false)) ∧
    (∀ tx, p.mode ≠ 0 →
      (p.role = .master → exec (.ptpTxInterval 0 tx) s =
        .next ((s.emit (sends 0 p.seqAnnounce (some s.ownAnnounce) 0 none)).modPtp fun y => { y with seqAnnounce := p.seqAnnounce + 1 })) ∧
      (p.role = .master → p.oneStep = true → exec (.ptpTxInterval 1 tx) s =
        .next ((s.emit (sends 1 p.seqSync none (p.sent tx) none)).modPtp fun y => { y with seqSync := p.seqSync + 1 })) ∧
      (p.role = .slave → p.peerDelay = false → exec (.ptpTxInterval 2 tx) s =
        .next ((s.emit (sends 3 (p.seqDelay + 1) none 0 none)).modPtp fun y => { y with seqDelay := p.seqDelay + 1, t3 := p.sent tx })))

/-- Pulse outputs and the data-path second (R292, R297, R310, R313, R323): the pulses rise at their instants and fall at their ends; a second takes the settings that
wait, moves the DPLL's counts on, and gives a synchronised calendar the second. When such a row comes at another instant is the model's choice (log 6). -/
def Obligations.PulsesAndSecondsRun : Prop :=
  ∀ (s : State), s.clocksRun = true →
    let p := s.clocks.pulses
    (p.driven = true → exec (.pulseWidthEnd true) s = .next (s.modPulses fun y => { y with tickOut := .low }) ∧
      exec (.pulseWidthEnd false) s = .next (s.modPulses fun y => { y with ppsOut := .low })) ∧
    (p.driven = false → exec (.pulseWidthEnd true) s = .next s) ∧
    (∀ n c, s.cfg.tick = some c → s.clocks.time.valid = true → Gives (.tickStart n) s fun t =>
      t.clocks.pulses = (if p.driven && p.cfg.tickEn then { p with tickOut := .high } else p) ∧ t.clocks.dpll = s.clocks.dpll ∧
      (((c.startNs n : Int) + p.cfg.tickOffsetNs).toNat < 2 ^ 48 * nsPerSec → t.timeNs = max s.timeNs ((c.startNs n : Int) + p.cfg.tickOffsetNs).toNat)) ∧
    (Gives .datapathSecond s fun t => t.clocks.pulses = p.second s.clocks.time.valid ∧ t.clocks.dpll.sinceAcceptedS = s.clocks.dpll.sinceAcceptedS + 1 ∧
      (∀ k, (t.clocks.dpll.inputs.getD k {}).wtrLeftS = (s.clocks.dpll.inputs.getD k {}).wtrLeftS - 1) ∧
      t.clocks.dpll.holdoverS = (if s.clocks.dpll.state = .holdover then s.clocks.dpll.holdoverS + 1 else s.clocks.dpll.holdoverS) ∧
      t.clocks.dpll.selected = s.clocks.dpll.selected ∧ t.clocks.dpll.state = s.clocks.dpll.state ∧
      (s.clocks.time.valid = true → t.clocks.time.valid = true ∧ t.clocks.time.ns = 0 ∧ t.clocks.time.sec = s.nextSecond % 2 ^ 48 ∧
        (s.cal.syncEn = true → t.cal.count = t.clocks.time.sec ∧ t.cal.set = true ∧ t.cal.synced = true)) ∧
      (s.cal.syncEn = false ∨ s.clocks.time.valid = false → t.cal.count = s.cal.count ∧ t.cal.synced = false))

/-- The calendar (R305, R312 to R315): it counts TAI seconds, LOAD sets the count, a read of CAL_SEC_LO latches the rest, an armed leap is done at its second, and
the supply, battery and oscillator bits follow what happens; power-on clears the domain. -/
def Obligations.CalendarRuns : Prop :=
  ∀ (s : State) (v : Word) (mv : Nat),
    (exec (.calLoad v) s = .next { s with cal := { s.cal with load := s.cal.load || v.getLsbD 0, syncEn := v.getLsbD 1, leapArm := v.getLsbD 2,
                                                                trim := BitVec.ofNat 8 (v.toNat / 256) } }) ∧
    (s.cal.load = true → exec .calLoadDone s = .next { s with cal :=
      { s.cal with count := s.cal.setHi.toNat * 2 ^ 32 + s.cal.setLo.toNat, set := true, load := false } }) ∧
    (Gives .calSecLoRead s fun t => t.out = .readValue 0x50000 (BitVec.ofNat 32 s.cal.count) :: s.out ∧ t.cal.count = s.cal.count ∧
      t.cal.latchHi = BitVec.ofNat 32 (s.cal.count / 2 ^ 32) ∧
      (s.cal.set = false → t.cal.latchDate = 0 ∧ t.cal.latchTime = 0) ∧
      (∀ a b, s.cal.fields = some (a, b) → t.cal.latchDate = BitVec.ofNat 32 a ∧ t.cal.latchTime = BitVec.ofNat 32 b)) ∧
    (let n := (s.cal.count + 1) % 2 ^ 48
     Gives .calendarSecond s fun t => t.cal.count = n ∧
      (s.cal.leapArm = true → s.cal.leap ≤ n → t.cal.utcOffset = s.cal.utcNext ∧ t.cal.leapArm = false ∧ t.cal.leapDone = true) ∧
      (s.cal.leapArm = false ∨ n < s.cal.leap → t.cal = { s.cal with count := n }) ∧
      (s.clocks.log.started = false → s.coresRun = true → t.clocks.log.started = true ∧ t.clocks.log.sec = n ∧ t.clocks.log.ns = 0)) ∧
    (s.cal.fromVbat = false → Gives (.vbatMeasure mv) s fun t => t.cal.vbatLevel = min (mv / 20) 255 ∧ (t.cal.vbatLow = true ↔ mv < 2000) ∧
      t.cal.count = s.cal.count) ∧
    (exec .vddAuxLoss s = .next { s with cal := { s.cal with fromVbat := true, onVbat := true } }) ∧
    (exec .vddAuxReturn s = .next { s with cal := { s.cal with fromVbat := false } }) ∧
    (exec .calOscStopDetect s = .next { s with cal := { s.cal with oscStop := true } }) ∧
    (Gives .calendarDomainPowerOn s fun t => t.cal.count = 0 ∧ t.cal.set = false ∧ t.cal.oscStop = true ∧ t.cal.backup.length = 256 ∧
      t.cal.utcOffset = 0 ∧ t.cal.leapArm = false ∧ t.cal.onVbat = false ∧ t.clocks = s.clocks)

/-! ### Package memory and the matrix (chapter 12) -/

/-- The HBM controller's own work (R402 to R404, R422, R425): a refresh counts and moves one byte lane by at most one tap; an activate counts on its entry and at
the threshold its neighbours are refreshed; the end of the window clears the tables; a second's neighbour refreshes are reported. -/
def Obligations.HbmRefreshesAndActivates : Prop :=
  ∀ (s : State) (d : Nat), d < s.fabric.hbm.length →
    let h := s.stack d
    (∀ off, h.selfRefresh = false → Gives (.hbmRefresh d off) s fun t => t.fabric.mem = s.fabric.mem ∧ (t.stack d).refreshes = rcAdd 64 h.refreshes 1 ∧
      (t.stack d).nextLane = (h.nextLane + 1) % 256 ∧ (∀ k, k ≠ h.nextLane → (t.stack d).taps.getD k 0 = h.taps.getD k 0) ∧
      (h.nextLane < h.taps.length → (0 < off → (t.stack d).taps.getD h.nextLane 0 = min 127 (h.taps.getD h.nextLane 0 + 1)) ∧
        (off < 0 → (t.stack d).taps.getD h.nextLane 0 = h.taps.getD h.nextLane 0 - 1) ∧ (off = 0 → (t.stack d).taps = h.taps))) ∧
    (∀ off, h.selfRefresh = true → exec (.hbmRefresh d off) s = .next s) ∧
    (∀ bank row l e, h.tables.find? (·.1 == bank) = some (bank, l) → l.find? (·.row == row) = some e →
      (e.count + 1 < h.thresh → Gives (.hbmActivate d bank row) s fun t => (∃ m, (t.stack d).tables.find? (·.1 == bank) = some (bank, m) ∧
          { e with count := e.count + 1 } ∈ m ∧ ∀ x ∈ l.erase e, x ∈ m) ∧
        (t.stack d).nbrRefreshes = h.nbrRefreshes ∧ (t.stack d).neighbours = h.neighbours ∧ t.fabric.mem = s.fabric.mem) ∧
      (h.thresh ≤ e.count + 1 → Gives (.hbmActivate d bank row) s fun t => (t.stack d).nbrRefreshes = rcAdd 32 h.nbrRefreshes 1 ∧
        (∃ m k, (t.stack d).tables.find? (·.1 == bank) = some (bank, m) ∧ { row := row, count := k } ∈ m ∧
          ((l.erase e).length < 15 → k = 0) ∧ ((l.erase e).length = 15 → (∀ x ∈ l.erase e, k ≤ x.count) ∧ ∃ x ∈ l.erase e, x.count = k)) ∧
        (1 ≤ h.radius → (bank, row + 1) ∈ (t.stack d).neighbours ∧ (1 ≤ row → (bank, row - 1) ∈ (t.stack d).neighbours)) ∧
        (∀ x ∈ (t.stack d).neighbours, x ∈ h.neighbours ∨ (x.1 = bank ∧ x.2 ≠ row ∧ row ≤ x.2 + h.radius ∧ x.2 ≤ row + h.radius)))) ∧
    (∀ bank row l, h.tables.find? (·.1 == bank) = some (bank, l) → l.find? (·.row == row) = none →
      (l.length < 16 → 1 < h.thresh → Gives (.hbmActivate d bank row) s fun t => (t.stack d).nbrRefreshes = h.nbrRefreshes ∧
        (t.stack d).neighbours = h.neighbours ∧ ∃ m, (t.stack d).tables.find? (·.1 == bank) = some (bank, m) ∧ { row := row, count := 1 } ∈ m ∧ ∀ x ∈ l, x ∈ m) ∧
      (∀ k, l.length = 16 → (∀ x ∈ l, k ≤ x.count) → (∃ x ∈ l, x.count = k) →
        (k + 1 < h.thresh → Gives (.hbmActivate d bank row) s fun t => (t.stack d).nbrRefreshes = h.nbrRefreshes ∧ (t.stack d).neighbours = h.neighbours ∧
          ∃ m y, (t.stack d).tables.find? (·.1 == bank) = some (bank, m) ∧ m.length = 16 ∧ { row := row, count := k + 1 } ∈ m ∧ y ∈ l ∧ y.count = k ∧
            ∀ x ∈ l.erase y, x ∈ m) ∧
        (h.thresh ≤ k + 1 → Gives (.hbmActivate d bank row) s fun t => (t.stack d).nbrRefreshes = rcAdd 32 h.nbrRefreshes 1 ∧
          (1 ≤ h.radius → (bank, row + 1) ∈ (t.stack d).neighbours)))) ∧
    (∀ bank row, h.tables.find? (·.1 == bank) = none → 1 < h.thresh → Gives (.hbmActivate d bank row) s fun t =>
      (t.stack d).tables.find? (·.1 == bank) = some (bank, [{ row := row, count := 1 }]) ∧ (t.stack d).nbrRefreshes = h.nbrRefreshes) ∧
    (Gives (.refreshWindowEnd d) s fun t => (t.stack d).tables = [] ∧
      (∀ a b, h.nextHammer = some (a, b) → (t.stack d).thresh = a ∧ (t.stack d).radius = b) ∧ (h.nextHammer = none → (t.stack d).thresh = h.thresh)) ∧
    (Gives .neighbourRefreshSecond s fun t => (d < s.dies → (t.stack d).nbrSecond = 0) ∧ t.fabric.mem = s.fabric.mem ∧ (t.stack d).nbrRefreshes = h.nbrRefreshes ∧
      (d < s.dies → h.nbrSecond ≠ 0 → s.health.log.dead = false → s.holdOk .log = true → s.health.log.badMedia = [] →
        ∃ x ∈ t.health.log.slots, x.2.code = 0x0603 ∧ x.2.die = d ∧ x.2.detail = leBytes 1 d ++ leBytes 4 h.nbrSecond)) ∧
    ((∀ k, k < s.dies → (s.stack k).nbrSecond = 0) → exec .neighbourRefreshSecond s = .next s)

/-- Requests at the matrix and the controller (R76, R405 to R407, R409, R412, R413, R416 to R418): a request to no target changes no memory and is counted; one that
must wait is held; one to an HBM waits in order to be served; served when its turn has come, a write stores its bytes, a real-time write into a full buffer is
dropped, a write that cannot read its word is answered with an error, and what a read meets is counted. In panic other masters' requests wait behind the
real-time port (log 161). The scrubber reads the allocated areas and the reserve in ascending order (log 108).
The tun adder on one word outside any tile position (R172, R408): a fresh write stores the word, an add stores the saturated sums of its components, and no
other byte changes; of a position of more words it leaves the others fresh. -/
def Obligations.MatrixAndControllerServe : Prop :=
  (∀ (s : State) (r : MatrixRequest), (∀ m, (s.box m).waiting = none) →
     let n := if r.write then r.data.length else r.len
     (s.reaches r.master r.die r.write r.addr n = false → Gives (.matrixRequest r) s fun t => t.fabric.mem = s.fabric.mem ∧ t.fabric.held = s.fabric.held ∧
       t.fabric.inFlight = s.fabric.inFlight ∧ (r.master = .pcie → t.regs.globalErr.getLsbD 0 = true ∧ t.regs.defaultAddr = BitVec.ofNat 40 r.addr)) ∧
     (s.reaches r.master r.die r.write r.addr n = false → r.master = .pcie → r.write = false →
       Gives (.matrixRequest r) s fun t => .pcieData (List.replicate r.len 0xFF) false ∈ t.out) ∧
     (s.reaches r.master r.die r.write r.addr n = true →
       (s.holdsBack (s.fabric.held.map (·.1)) r = true → exec (.matrixRequest r) s = .next { s with fabric := { s.fabric with held := s.fabric.held ++ [(r, s.timeNs)] } }) ∧
       (s.holdsBack (s.fabric.held.map (·.1)) r = false → s.inHbm r.addr = true →
         exec (.matrixRequest r) s = .next { s with fabric := { s.fabric with inFlight := s.fabric.inFlight ++ [(r, s.timeNs)] } })) ∧
     (s.reaches r.master r.die r.write r.addr n = true → s.holdsBack (s.fabric.held.map (·.1)) r = false → s.inHbm r.addr = false → s.inSram r.addr = true →
       r.write = false → r.master ≠ .pcie → ∀ die, die = (r.addr - sramBase) / 2 ^ 28 → die < s.fabric.hbm.length →
       (r.sram = .corrected → Gives (.matrixRequest r) s fun t => t.fabric.mem = s.fabric.mem ∧
         (t.stack die).sramCorrected = rcAdd 32 (s.stack die).sramCorrected 1) ∧
       (r.sram = .uncorrectable .unused → Gives (.matrixRequest r) s fun t => t.fabric.mem = s.fabric.mem ∧
         (t.stack die).sramUncorrectable = rcAdd 32 (s.stack die).sramUncorrectable 1)) ∧
     (∀ die, s.fabric.held = [] → (s.stack die).selfRefresh = false → die < s.fabric.hbm.length → (s.stack die).behind = [] → (∀ c ∈ s.dma, c.waits = none) →
       r.op = none →
       let x := (s.hbmArrive r).1
       let u := (s.hbmArrive r).2
       ((s.stack die).panic = false → u.atHead x = true →
         (r.write = true → partialWrite r = false → Gives (.hbmRequest die r false 0 .clean) s fun t =>
           t.fabric.mem = Memory.write s.fabric.mem r.addr r.data ∧ t.fabric.inFlight = u.fabric.inFlight.erase x) ∧
         (r.write = true → partialWrite r = true → Gives (.hbmRequest die r false 0 .uncorrectable) s fun t =>
           t.fabric.mem = s.fabric.mem ∧ (t.stack die).eccUncorrectable = rcAdd 32 (s.stack die).eccUncorrectable 1 ∧
           .writeError (masterCode r.master) r.die r.addr ∈ t.out) ∧
         (r.write = false → r.master ≠ .pcie → Gives (.hbmRequest die r false 0 .corrected) s fun t =>
           t.fabric.mem = s.fabric.mem ∧ (t.stack die).eccCorrected = rcAdd 32 (s.stack die).eccCorrected 1)) ∧
       (∀ fill ecc, (s.stack die).panic = true ∨ u.atHead x = false → exec (.hbmRequest die r false fill ecc) s =
         .next (u.modStack die fun h => { h with behind := [{ req := x, ecc := ecc }] })) ∧
       (∀ fill, r.write = true → partialWrite r = false → fill < 2 ^ 20 → u.atHead x = true → Gives (.hbmRequest die r true fill .clean) s fun t =>
         t.fabric.mem = Memory.write s.fabric.mem r.addr r.data ∧ (t.stack die).turnBuffer = fill ∧ (t.stack die).panic = false) ∧
       (∀ fill, r.write = true → partialWrite r = false → 3 * 2 ^ 19 < fill → fill < 2 ^ 21 → Gives (.hbmRequest die r true fill .clean) s fun t =>
         t.fabric.mem = Memory.write s.fabric.mem r.addr r.data ∧ (t.stack die).turnBuffer = fill ∧ (t.stack die).panic = true) ∧
       (∀ fill, r.write = true → 2 ^ 21 ≤ fill → Gives (.hbmRequest die r true fill .clean) s fun t =>
         t.fabric.mem = s.fabric.mem ∧ (t.stack die).rtDrops = rcAdd 32 (s.stack die).rtDrops 1 ∧ (t.stack die).turnBuffer = fill ∧ (t.stack die).panic = true)) ∧
     (∀ die a, die < s.fabric.hbm.length →
       (s.scrubs die (a % 2 ^ 36) = false → ∀ ecc, exec (.scrubRead die a ecc) s = .next s) ∧
       (s.scrubs die (a % 2 ^ 36) = true →
         (Gives (.scrubRead die a .corrected) s fun t => t.fabric.mem = s.fabric.mem ∧ (t.stack die).eccCorrected = rcAdd 32 (s.stack die).eccCorrected 1) ∧
         (Gives (.scrubRead die a .uncorrectable) s fun t => t.fabric.mem = s.fabric.mem ∧ wordOf a ∈ (t.stack die).badWords ∧
           (t.stack die).scrubUncorrectable = rcAdd 32 (s.stack die).scrubUncorrectable 1) ∧
         (s.scrubDue die (a % 2 ^ 36) = false → exec (.scrubRead die a .clean) s = .next s) ∧
         (s.scrubDue die (a % 2 ^ 36) = true → Gives (.scrubRead die a .clean) s fun t => t.fabric.mem = s.fabric.mem ∧
           (2 ^ 36 - 32 ≤ a % 2 ^ 36 → (t.stack die).scrubPasses = rcAdd 32 (s.stack die).scrubPasses 1 ∧ (t.stack die).scrubNext = 0) ∧
           (a % 2 ^ 36 < 2 ^ 36 - 32 → (t.stack die).scrubPasses = (s.stack die).scrubPasses ∧ (t.stack die).scrubNext = a % 2 ^ 36 / 32 * 32 + 32))))) ∧
  (∀ (s : State) (pipe die bank addr : Nat) (word : List Byte) (parts : List Int), controllerIdle s die = true →
     let old (n k : Nat) : Int := fieldS (s.memRead addr 32) (n * k) n
     (Gives (.tunAdderOp pipe die bank addr (.writeFresh word) .clean) s fun t => t.fabric.mem = Memory.write s.fabric.mem addr (padTo 32 word) ∧
       (∀ ch q w, (s.bankEntry pipe).tunWord die bank addr = some (ch, q, w) → 1 < (s.bankEntry pipe).cfg.corrCfg.v / 32 →
         (s.tilePos pipe die bank ch q).fresh = true → (s.tilePos pipe die bank ch q).written = [] →
         (t.tilePos pipe die bank ch q).fresh = true ∧ (t.tilePos pipe die bank ch q).written = [w])) ∧
     ((s.bankEntry pipe).tunWord die bank addr = none → (∀ x ∈ s.data.cells, x.pipe ≠ pipe) →
       (Gives (.tunAdderOp pipe die bank addr (.add32 parts) .clean) s fun t =>
         t.fabric.mem = Memory.write s.fabric.mem addr ((List.range 8).flatMap fun k => leInt 4 (satInt 32 (old 4 k + parts.getD k 0))) ∧ t.data = s.data) ∧
       (Gives (.tunAdderOp pipe die bank addr (.add64 parts) .clean) s fun t =>
         t.fabric.mem = Memory.write s.fabric.mem addr ((List.range 4).flatMap fun k => leInt 8 (satInt 64 (old 8 k + parts.getD k 0))) ∧ t.data = s.data) ∧
       (Gives (.tunAdderOp pipe die bank addr (.satWrite false) .clean) s fun t =>
         t.fabric.mem = Memory.write s.fabric.mem addr ((List.range 8).flatMap fun k => leInt 4 (fullScale 4 (old 4 k))) ∧ t.data = s.data)))

/-! ### Health (chapter 13) -/

/-- Kiln and thermal guard (R428 to R435, R492): an element that is due takes its pass, a TDC at once and a lane in role OFF at once; a pass that ends leaves its sets and
verdict, and a lane receiver that failed is out; the guard's levels follow the temperature; the trip gates the tiles and silences the outputs. Level 2 falls to 1 below the takeover level (log 71), and the
trip acts at once and without a reset (log 79). -/
def Obligations.KilnAndThermalGuardRun : Prop :=
  ∀ (s : State),
    (∀ e, s.hasElement e = true → e.kind ≠ 4 → Gives (.kilnDue e) s fun t => (t.kilnRecord e).due = true ∧ t.fabric.mem = s.fabric.mem ∧
      (e.kind = 5 → (t.kilnRecord e).inPass = true) ∧
      (e.kind = 1 → e.index < 128 → e.index < s.lanes.rx.length → (s.rx e.index).role = .off → s.passRuns e = false → (s.kilnRecord e).inPass = false →
        (t.kilnRecord e).inPass = true ∧ (t.rx e.index).inPass = true ∧ (t.rx e.index).lock = .search)) ∧
    (∀ e, s.hasElement e = false → exec (.kilnDue e) s = .next s) ∧
    (∀ e r, (s.kilnRecord e).inPass = true → Gives (.kilnPassDone e r) s fun t =>
      let sets := kilnSets e (s.kilnRecord e).sets r
      let k := t.kilnRecord e
      k.inPass = false ∧ k.due = false ∧ k.sets = sets ∧ k.temp = r.temp ∧ k.lastTest = (if kilnPassed e sets r then 1 else 2) ∧
      (e.kind = 1 → e.index < s.lanes.rx.length → kilnPassed e sets r = false → (t.rx e.index).failed = true)) ∧
    (∀ e r, (s.kilnRecord e).inPass = false → exec (.kilnPassDone e r) s = .next s) ∧
    (∀ die temp, die < s.dies → die < s.health.guards.length →
      let p := s.health.policy
      let g := s.guard die
      Gives (.thermalReading die temp) s fun t => (t.guard die).temp = temp ∧ t.health.policy = p ∧
        (g.level = 0 → atLevel temp p.withdrawC = false → atLevel temp p.takeoverC = false → (t.guard die).level = 0) ∧
        (g.level = 0 → atLevel temp p.withdrawC = true → atLevel temp p.takeoverC = false → (t.guard die).level = 1) ∧
        (g.level < 2 → atLevel temp p.takeoverC = true → (t.guard die).level = 2) ∧
        (g.level = 2 → atLevel temp p.takeoverC = false → (t.guard die).level = 1)) ∧
    (Gives .thermalTrip s fun t => t.power = { s.power with thermTrip := true, gated := true } ∧ t.twin.silenced = true ∧ t.transmits = false ∧
      t.clocks.pulses.driven = false ∧ t.out = .thermTripLow :: s.out ∧ t.fabric = s.fabric)

/-! ### Start-up, power, reset (chapter 14) -/

/-- Start-up (R401, R427, R451, R475 to R477): the end of reset boots the bank that the pointer names, else the other, else recovery mode; each later step ends with its
own report and raises START_STAGE, up to READY. The verdict on a signature is the row's operand (log 70), and BOOT_COUNT advances at step 3 (log 134). -/
def Obligations.StartUpRuns : Prop :=
  ∀ (s : State),
    (∀ r, s.power.inReset = true → (∀ m, (s.box m).waiting = none) →
      let one := s.stepOne r
      let first := s.health.fw.bootPointer % 2
      let up (bank : Nat) (fell : Bool) : Prop := Gives (.startUp r) s fun t => t.power.stage = 3 ∧ t.power.inReset = false ∧
        t.ident.fwBank = (bank == 1) ∧ t.ident.fellBack = fell ∧ t.ident.bootCount = (s.ident.bootCount + 1) % 65536 ∧ t.ident.twinBit = r.twinSel ∧
        t.ident.nodeId = r.nodeId % 32 ∧ t.ident.fwVersion = BitVec.ofNat 32 (s.imageField bank 12 4) ∧ t.health.fw.bootPointer = bank ∧ t.power.pwrFault = 0
      (one.bankCheck r first = 0 → up first false) ∧
      (one.bankCheck r first ≠ 0 → one.bankCheck r (1 - first) = 0 → up (1 - first) true) ∧
      (one.bankCheck r first ≠ 0 → one.bankCheck r (1 - first) ≠ 0 → Gives (.startUp r) s fun t => t.power.stage = 2 ∧ t.power.inReset = false ∧
        t.health.fw.recovery = true ∧ t.health.alarm = true ∧ t.alarmPin = .low ∧ t.ident.bootCount = s.ident.bootCount)) ∧
    (∀ r, s.power.inReset = false → exec (.startUp r) s = .next s) ∧
    (∀ r, s.power.stage = 3 → Gives (.hbmTrainingDone r) s fun t => t.power.stage = 4 ∧ t.fabric.mem = s.fabric.mem ∧
      ∀ d, d < s.dies → d < s.fabric.hbm.length → (t.stack d).repairs = (r.getD d {}).repairs ∧
        ((TrainReading.short (r.getD d {})).isSome = true → (t.stack d).trainState = 2) ∧
        (∀ k w, (r.getD d {}).lanes[k]? = some w → k < 256 → (t.stack d).taps.getD k 0 = runMiddle w.read ∧ (t.stack d).writeTaps.getD k 0 = runMiddle w.write)) ∧
    (∀ r, s.power.stage = 4 → Gives (.startupKilnDone r) s fun t => t.power.stage = 5 ∧
      (∀ n, n < s.lanes.rx.length → (t.rx n).role = (s.cfg.rxCfg.getD n {}).role) ∧ (∀ n, n < s.lanes.tx.length → (t.tx n).role = (s.cfg.txCfg.getD n {}).role)) ∧
    (s.power.stage = 5 → s.clocks.dpll.state ≠ .locked → (∃ c ∈ s.clocks.dpll.entries, c ≠ 0) →
      exec .laneBringupDone s = .next { s with power := { s.power with stage := 6 } }) ∧
    (s.highestClaim < 2 ^ 32 - 1 → s.twin.mode = .untwinned →
      (s.power.stage = 5 → s.clocks.dpll.state = .locked → Gives .laneBringupDone s fun t =>
        t.power.stage = 8 ∧ t.twin.role = .alone ∧ t.twin.claim = s.highestClaim + 1) ∧
      (s.power.stage = 6 → Gives .clockLockTimeout s fun t => t.power.stage = 8 ∧ t.twin.role = .alone ∧ t.twin.claim = s.highestClaim + 1)) ∧
    (s.twin.mode ≠ .untwinned → s.power.stage = 6 → Gives .clockLockTimeout s fun t => t.power.stage = 7 ∧ t.twin.role = .standby) ∧
    (s.power.stage = 8 → Gives .ready s fun t => t.power = { s.power with stage := 9, ready := true, mode := .run } ∧ t.twin = s.twin ∧ t.cfg = s.cfg)

/-- Reset and supplies (R399, R448, R468, R469): RESET_N, or a supply monitor that also latches its rails, puts every register at its reset value; the NOR store,
the log, the calendar domain and the configuration area stay, and HBM and SRAM are lost. What a reset keeps where
the rules are silent, what lost memory reads, and that no rail names PGOOD_IN are the model's (logs 4, 41 and 80). -/
def Obligations.ResetKeepsTheStores : Prop :=
  ∀ (s : State) (rails : BitVec 10), s.Sound → s.health.fw.opStarted = false →
    let lost (t : State) : Prop := t.power.inReset = true ∧ t.power.stage = 0 ∧ t.mail = State.reset.mail ∧ t.lease = State.reset.lease ∧
      t.events = State.reset.events ∧ t.dma = State.reset.dma ∧ t.data = State.reset.data ∧ t.lanes = State.reset.lanes ∧ t.regs = State.reset.regs ∧
      (∀ a, a < norBase → Memory.get t.fabric.mem a = Memory.get State.reset.fabric.mem a) ∧ t.clocks.pulses.driven = false ∧ t.clocks.time.valid = false
    let kept (t : State) : Prop := (∀ a, norBase ≤ a → Memory.get t.fabric.mem a = Memory.get s.fabric.mem a) ∧ t.cal = s.cal ∧
      t.health.log.slots = s.health.log.slots ∧ t.health.policy = s.health.norConfig.policy ∧ t.health.units = s.health.norUnits ∧ t.cfg.position = s.health.norConfig.position ∧
      t.cfg.rxCfg = s.health.norConfig.rxCfg ∧ t.cfg.peers = s.health.norConfig.peers ∧ t.health.fw.bankStates = s.health.fw.bankStates ∧ t.pending = s.pending
    (Gives .resetAssert s fun t => lost t ∧ kept t ∧ t.power.pwrFault = s.power.pwrFault ∧ (t.power.mode = .off ↔ s.power.mode = .off)) ∧
    (Gives (.supplyMonitorTrip rails) s fun t => lost t ∧ kept t ∧ t.power.pwrFault = s.power.pwrFault ||| rails ∧ (rails = 0 → t.power.mode = .off) ∧ (s.power.mode = .off → t.power.mode = .off))

/-- Power states and core voltage (R403, R470 to R474): a transition that ends enters its state, with the stacks in self-refresh and the receivers down in DORMANT; WAKE_N
leaves DORMANT; in reset and in OFF the loop stands; else the floor is the highest of the dies in steps of 5 mV, and the request moves toward what the loop wants by at most 5 mV. A wake request
that stops nothing is held (log 53). -/
def Obligations.PowerFollowsItsRules : Prop :=
  ∀ (s : State),
    (∀ m c, s.power.target = some (m, c) → s.power.exitAfter = none → Gives .powerTransitionDone s fun t => t.power.mode = m ∧ t.power.target = none ∧
      t.power.gated = (m != .run || s.power.thermTrip) ∧ (∀ h ∈ t.fabric.hbm, h.selfRefresh = (m == .dormant)) ∧ t.fabric.mem = s.fabric.mem ∧
      (m = .dormant → (s.power.mode ≠ .dormant → t.power.before = s.power.mode) ∧ ∀ x ∈ t.lanes.rx, x.lock = .search) ∧ (m ≠ .dormant → t.lanes = s.lanes)) ∧
    (∀ m c m' c', s.power.target = some (m, c) → s.power.exitAfter = some (m', c') → Gives .powerTransitionDone s fun t => t.power.mode = m ∧
      t.power.target = some (m', c') ∧ t.power.exitAfter = none) ∧
    (s.power.target = none → exec .powerTransitionDone s = .next s) ∧
    (s.power.inReset = false → s.power.mode = .dormant → s.power.target = none → Gives .wakeNEdge s fun t => t.power.target = some (s.power.before, 3) ∧
      t.power.mode = .dormant) ∧
    (s.power.inReset = false → s.power.mode ≠ .dormant → s.power.target = none → s.crate.sleep.voted = none → s.crate.sleep.committed = false →
      s.crate.sleep.proposal = none → Gives .wakeNEdge s fun t => t.power = s.power ∧ t.crate.sleep.wakeHeld = true) ∧
    (s.power.inReset = true → exec .wakeNEdge s = .next s) ∧
    (s.power.inReset = true ∨ s.power.mode = .off → exec .avsRequestStep s = .next s ∧ ∀ floors, exec (.avsFloorUpdate floors) s = .next s) ∧
    (∀ floors, s.power.inReset = false → s.power.mode ≠ .off → Gives (.avsFloorUpdate floors) s fun t => t.power.floorMv % 5 = 0 ∧ (∀ v ∈ floors, v ≤ t.power.floorMv) ∧
      (floors = [] → t.power.floorMv = 0) ∧ (floors ≠ [] → ∃ v ∈ floors, t.power.floorMv < v + 5) ∧ t.power.requestMv = s.power.requestMv) ∧
    (∀ w, w = (if s.power.overrideMv = 0 then s.power.floorMv + 15 else max s.power.overrideMv s.power.floorMv) → s.power.inReset = false → s.power.mode ≠ .off →
      Gives .avsRequestStep s fun t => t.power.requestMv ≤ s.power.requestMv + 5 ∧ s.power.requestMv ≤ t.power.requestMv + 5 ∧
        (650 ≤ s.power.requestMv → s.power.requestMv ≤ 800 → 650 ≤ t.power.requestMv ∧ t.power.requestMv ≤ 800) ∧
        (650 ≤ w → w ≤ 800 → s.power.requestMv ≤ w → w ≤ s.power.requestMv + 5 → t.power.requestMv = w))

/-! ### The crate bus (R478 to R488) -/

/-- Sending on the crate bus (R480 to R482, R484): heartbeats and ALONE announcements are queued; an opportunity sends one frame and waits for its ACK; an ACK frees the
head; a lost one counts a retry and after the eighth attempt the node is ALONE; what has not been heard in time is dropped. Which frame goes first is the model's choice (log 51). -/
def Obligations.CrateFramesAreSent : Prop :=
  ∀ (s : State) (x : CrateTx) (l : List CrateTx),
    let c := s.crate
    (s.crateUp = true →
      (Gives .crateHeartbeatPeriod s fun t => t.crate = { c with plain := c.plain ++ [{ type := 2, dest := 0xFF, payload := s.stateBlock }] }) ∧
      (c.alone = true → Gives .crateAloneAnnounce s fun t => t.crate = { c with plain := c.plain ++ [{ type := 3, dest := 0xFF, payload := s.stateBlock }] }) ∧
      (c.awaiting = none → (x.type ≠ 3 ∨ x.dest ≠ 0xFF) →
        (c.queue = [] → c.plain = x :: l → Gives .crateTxOpportunity s fun t => t.crate.plain = l ∧ t.crate.queue = [] ∧ t.crate.awaiting = none ∧
          t.crate.framesTx = rcAdd 32 c.framesTx 1 ∧ ∃ g, t.out = .crate x.type g (crateLine x.type g) :: s.out ∧ g.payload = x.payload ∧ g.acker = 0xFF) ∧
        (c.queue = x :: l → c.retryWait = false → s.ackerFor x ≠ 0xFF → Gives .crateTxOpportunity s fun t =>
          t.crate.awaiting = some (s.ackerFor x, x.seq.getD c.nextSeq) ∧ t.crate.queue = { x with seq := some (x.seq.getD c.nextSeq) } :: l ∧
          t.crate.framesTx = rcAdd 32 c.framesTx 1 ∧ ∃ g, t.out = .crate x.type g (crateLine x.type g) :: s.out ∧ g.payload = x.payload ∧ g.seq = x.seq.getD c.nextSeq)) ∧
      (c.awaiting = none → c.queue = [] → c.plain = [] → exec .crateTxOpportunity s = .next s)) ∧
    (∀ k q, c.awaiting = some (k, q) → c.queue = x :: l → x.type ≠ 0x12 →
      (∀ f, crateValid 1 f = true → f.src.toNat % 32 = k → f.seq = q → s.power.inReset = false → Gives (.ack f) s fun t =>
        t.crate.queue = l ++ (if c.alone then c.plain.filter (·.type != 2) else []) ∧ t.crate.awaiting = none ∧ t.crate.attempts = 0 ∧ t.crate.alone = false) ∧
      (c.attempts < 7 → exec .crateAckTimeout s =
        .next { s with crate := { c with attempts := c.attempts + 1, retries := rcAdd 32 c.retries 1, awaiting := none, retryWait := decide (4 ≤ c.attempts + 1) } }) ∧
      (c.attempts = 7 → Gives .crateAckTimeout s fun t => t.crate.queue = [] ∧ t.crate.alone = true ∧ t.crate.attempts = 0 ∧
        t.crate.aloneEntries = rcAdd 32 c.aloneEntries 1 ∧ t.crate.retries = rcAdd 32 c.retries 1)) ∧
    (exec .crateRetryWait s = .next { s with crate := { c with retryWait := false } }) ∧
    (∀ k, Gives (.nodeHeardExpiry k) s fun t => k ∉ t.crate.heard ∧ (∀ n ∈ c.heard, n ≠ k → n ∈ t.crate.heard) ∧ t.crate.activating = c.activating) ∧
    (∀ k, Gives (.activatingTimeout k) s fun t => k ∉ t.crate.activating ∧ (∀ n ∈ c.activating, n ≠ k → n ∈ t.crate.activating) ∧ t.crate.heard = c.heard)

/-- Crate frames received (R338, R479 to R481, R484, R485): one with a bad CRC is counted and no more; a valid one has its sender heard; a HEARTBEAT or an ANNOUNCE enters
its claim once, and a package that sends gives way to a higher claim for its position; BOOT is answered and holds a node as activating. A frame of a wrong length
counts as bad, and a repetition is told within its TYPE (log 52). -/
def Obligations.CrateFramesArrive : Prop :=
  ∀ (s : State) (f : CrateFrame), s.power.inReset = false →
    let bad : State := { s with crate := { s.crate with crcErrors := rcAdd 32 s.crate.crcErrors 1 } }
    let p := field f.payload 0 2
    let claim := field f.payload 4 4
    let known := s.claimOf (p % 1024)
    let heard (t : State) : Prop := f.src.toNat % 32 ∈ t.crate.heard ∧ t.crate.framesRx = rcAdd 32 s.crate.framesRx 1 ∧ t.crate.alone = false
    (crateValid 1 f = false → exec (.ack f) s = .next bad) ∧ (crateValid 2 f = false → exec (.crateHeartbeat f) s = .next bad) ∧
    (crateValid 3 f = false → exec (.announce f) s = .next bad) ∧ (crateValid 4 f = false → exec (.boot f) s = .next bad) ∧
    (crateValid 0x10 f = false → exec (.sleepPropose f) s = .next bad) ∧ (crateValid 0x11 f = false → exec (.sleepVote f) s = .next bad) ∧
    (crateValid 0x12 f = false → exec (.sleepCommit f) s = .next bad) ∧ (crateValid 0x13 f = false → exec (.sleepAbort f) s = .next bad) ∧
    (crateValid 0x14 f = false → exec (.wake f) s = .next bad) ∧
    (crateValid 2 f = true → s.repeated 2 f = true → Gives (.crateHeartbeat f) s fun t => heard t ∧ t.lanes.claims = s.lanes.claims ∧ t.twin.claim = s.twin.claim) ∧
    (s.lanes.claims.length = 1024 →
      (crateValid 2 f = true → s.repeated 2 f = false → (p.testBit 11 = false ∨ p % 1024 ≠ s.cfg.position) → Gives (.crateHeartbeat f) s fun t => heard t ∧ t.claimOf (p % 1024) = max known claim ∧ t.twin.role = s.twin.role) ∧
      (crateValid 3 f = true → s.repeated 3 f = false → (p.testBit 11 = false ∨ p % 1024 ≠ s.cfg.position) → Gives (.announce f) s fun t => heard t ∧ t.claimOf (p % 1024) = max known claim ∧ t.twin.role = s.twin.role) ∧
      (crateValid 3 f = true → s.repeated 3 f = false → p.testBit 11 = true → p % 1024 = s.cfg.position → s.cfg.positionValid = true → s.crateUp = true → known ≤ claim → s.twin.claim < claim →
        s.twin.role ≠ .standby → s.health.fw.resetDue = false → Gives (.announce f) s fun t => t.twin.role = .standby ∧ t.twin.claim = claim ∧
          t.clocks.pulses.driven = false ∧ t.data.scopes = [])) ∧
    ((s.crateReceive 4 f).1 = true → s.crateUp = true → Gives (.boot f) s fun t => heard t ∧
      (∃ y ∈ t.crate.queue, y.type = 3 ∧ y.dest = f.src.toNat % 32) ∧
      (field f.payload 0 1 = 9 → f.src.toNat % 32 ∉ t.crate.activating) ∧
      (field f.payload 0 1 ≠ 9 → (field f.payload 1 1).testBit 1 = false → (field f.payload 1 1).testBit 0 = true → f.src.toNat % 32 ∈ t.crate.activating))

/-- The sleep agreement (R486 to R488): a node that nothing keeps awake votes yes; the last yes commits, and a no, a missing vote or a wake request aborts; a node that
voted enters DORMANT on the commit, unless it is there, and stays awake on an abort or with no outcome; WAKE ends DORMANT. What R487 leaves of wake requests and of packages in DORMANT is the model's (logs 53 and 54). -/
def Obligations.SleepAgreementRuns : Prop :=
  ∀ (s : State) (f : CrateFrame),
    let y := s.crate.sleep
    let p := field f.payload 0 2
    let src := f.src.toNat % 32
    ((s.crateReceive 0x10 f).1 = true → s.crateUp = true → y.proposal = none → y.voted = none → s.health.fw.activated = false → s.health.fw.resetDue = false →
      s.health.fw.recovery = false → Gives (.sleepPropose f) s fun t => t.crate.sleep.voted = some (p, s.sleepAllowed && !y.wakeHeld, p % 32) ∧
        (∃ x ∈ t.crate.queue, x.type = 0x11 ∧ x.dest = p % 32 ∧ x.payload = leBytes 2 p ++ leBytes 1 (nat01 (s.sleepAllowed && !y.wakeHeld)) ++ leBytes 1 0) ∧
        t.power = s.power) ∧
    ((s.crateReceive 0x11 f).1 = true → y.proposal = some p → y.committed = false →
      (field f.payload 2 1 = 1 → (∀ k ∈ y.waiting, k = src) → Gives (.sleepVote f) s fun t => t.crate.sleep.committed = true ∧ t.crate.sleep.waiting = [] ∧
        (∃ x ∈ t.crate.queue, x.type = 0x12 ∧ x.dest = 0xFF) ∧ t.power = s.power) ∧
      (field f.payload 2 1 = 1 → (∃ k ∈ y.waiting, k ≠ src) → Gives (.sleepVote f) s fun t => t.crate.sleep.committed = false ∧ t.crate.sleep.proposal = some p ∧
        t.crate.sleep.waiting = y.waiting.filter (· != src)) ∧
      (field f.payload 2 1 ≠ 1 → Gives (.sleepVote f) s fun t => t.crate.sleep.proposal = none ∧ (∃ x ∈ t.crate.queue, x.type = 0x13 ∧ x.dest = 0xFF) ∧
        t.crate.sleepAborts = rcAdd 32 s.crate.sleepAborts 1 ∧ t.power = s.power)) ∧
    (∀ k, (s.crateReceive 0x12 f).1 = true → y.voted = some (p, true, k) → Gives (.sleepCommit f) s fun t => t.crate.sleep.voted = none ∧
      (s.power.mode ≠ .dormant → t.power.target = some (.dormant, 2) ∧ (y.wakeHeld = false → t.power.exitAfter = s.power.exitAfter) ∧
        (y.wakeHeld = true → t.power.exitAfter = some (s.power.mode, 3))) ∧
      (s.power.mode = .dormant → (y.wakeHeld = true ∨ s.power.target = none → t.power = s.power) ∧
        (∀ r, y.wakeHeld = false → s.power.target = some r → t.power = { s.power with exitAfter := some (.dormant, 2) }))) ∧
    (∀ q v k, y.voted = some (q, v, k) → s.power.inReset = false → s.crate.alone = false → s.crate.wakeCrate = false → Gives .wakeNEdge s fun t =>
      t.crate.sleep.wakeHeld = true ∧ t.crate.queue = s.crate.queue ++ [{ type := 0x14, dest := k, payload := leBytes 2 q }] ∧
      (s.power.mode = .dormant → s.power.target = none → t.power.target = some (s.power.before, 3))) ∧
    (∀ v k, (s.crateReceive 0x13 f).1 = true → y.voted = some (p, v, k) → Gives (.sleepAbort f) s fun t => t.crate.sleep.voted = none ∧
      t.crate.sleepAborts = rcAdd 32 s.crate.sleepAborts 1 ∧ t.power = s.power) ∧
    ((s.crateReceive 0x14 f).1 = true →
      (y.proposal = some p → y.committed = false → Gives (.wake f) s fun t => t.crate.sleep.proposal = none ∧ t.power = s.power ∧
        t.crate.sleepAborts = rcAdd 32 s.crate.sleepAborts 1) ∧
      (y.proposal ≠ some p → s.power.mode = .dormant → s.power.target = none → Gives (.wake f) s fun t => t.power.target = some (s.power.before, 3))) ∧
    (∀ q, y.proposal = some q → y.committed = false → Gives .sleepVoteTimeout s fun t => t.crate.sleep.proposal = none ∧
      t.crate.sleepAborts = rcAdd 32 s.crate.sleepAborts 1 ∧ t.power = s.power) ∧
    (y.committed = true → exec .sleepVoteTimeout s = .next s) ∧
    (∀ q v k, y.voted = some (q, v, k) → Gives .sleepOutcomeTimeout s fun t => t.crate.sleep.voted = none ∧
      t.crate.sleepAborts = rcAdd 32 s.crate.sleepAborts 1 ∧ t.power = s.power)
end

