-- ==== Sys2Proof/Laws/Bytes.lean ====
section
/-! SUPPORT. Bytes and fields: lengths, and what a field of a concatenation reads (R8). -/

namespace Sys2Proof.Machine

@[simp] theorem leBytes_length (n v : Nat) : (leBytes n v).length = n := by
  induction n generalizing v with
  | zero => rfl
  | succ n ih => simp [leBytes, ih]

@[simp] theorem leInt_length (n : Nat) (v : Int) : (leInt n v).length = n := leBytes_length _ _

/-- A field that lies in the second part. -/
theorem field_append_right (a l : List Byte) (off n : Nat) (h : a.length ≤ off) : field (a ++ l) off n = field l (off - a.length) n := by
  unfold field
  rw [List.drop_append, List.drop_eq_nil_of_le h, List.nil_append]

/-- A field that lies in the first part. -/
theorem field_append_left (a l : List Byte) (off n : Nat) (h : off + n ≤ a.length) : field (a ++ l) off n = field a off n := by
  unfold field
  rw [List.drop_append_of_le_length (by omega), List.take_append_of_le_length (by simp; omega)]

theorem take_leBytes_append (n v : Nat) (l : List Byte) : (leBytes n v ++ l).take n = leBytes n v := by
  rw [List.take_append_of_le_length (by simp), List.take_of_length_le (by simp)]

/-- The field that a value was written as. -/
theorem field_leBytes_append (n v : Nat) (l : List Byte) : field (leBytes n v ++ l) 0 n = v % 256 ^ n := by
  unfold field
  rw [List.drop_zero, take_leBytes_append]
  induction n generalizing v with
  | zero => simp [leBytes, Nat.mod_one]
  | succ n ih =>
    have e : (BitVec.ofNat 8 v).toNat = v % 256 := by simp
    rw [leBytes, List.foldr_cons, ih, e, pow_succ, mul_comm (256 ^ n), Nat.mod_mul]

theorem field_leBytes (n v : Nat) : field (leBytes n v) 0 n = v % 256 ^ n := by
  have := field_leBytes_append n v []
  rwa [List.append_nil] at this

/-- A field of one byte is below 256, and so on. -/
theorem field_lt (l : List Byte) (off n : Nat) : field l off n < 256 ^ n := by
  unfold field
  induction n generalizing off with
  | zero => simp
  | succ n ih =>
    cases h : l.drop off with
    | nil => simp
    | cons b r =>
      have hr : r = l.drop (off + 1) := by rw [← List.drop_drop, h]; rfl
      rw [List.take_succ_cons, List.foldr_cons, hr]
      have h1 := ih (off + 1)
      have h2 := b.isLt
      rw [pow_succ]
      omega

end Sys2Proof.Machine
end

