-- ==== Sys2Proof/Laws/State.lean ====
section
/-! SUPPORT. One lemma per field for each operation that updates one group of State, true by computation. -/

namespace Sys2Proof.Machine

/-! ### modBeam -/

@[simp] theorem State.modBeam_pending (s : State) (pipe : Nat) (f : BeamWork → BeamWork) : (s.modBeam pipe f).pending = s.pending := rfl
@[simp] theorem State.modBeam_ident (s : State) (pipe : Nat) (f : BeamWork → BeamWork) : (s.modBeam pipe f).ident = s.ident := rfl
@[simp] theorem State.modBeam_mail (s : State) (pipe : Nat) (f : BeamWork → BeamWork) : (s.modBeam pipe f).mail = s.mail := rfl
@[simp] theorem State.modBeam_lease (s : State) (pipe : Nat) (f : BeamWork → BeamWork) : (s.modBeam pipe f).lease = s.lease := rfl
@[simp] theorem State.modBeam_cfg (s : State) (pipe : Nat) (f : BeamWork → BeamWork) : (s.modBeam pipe f).cfg = s.cfg := rfl
@[simp] theorem State.modBeam_events (s : State) (pipe : Nat) (f : BeamWork → BeamWork) : (s.modBeam pipe f).events = s.events := rfl
@[simp] theorem State.modBeam_intr (s : State) (pipe : Nat) (f : BeamWork → BeamWork) : (s.modBeam pipe f).intr = s.intr := rfl
@[simp] theorem State.modBeam_dma (s : State) (pipe : Nat) (f : BeamWork → BeamWork) : (s.modBeam pipe f).dma = s.dma := rfl
@[simp] theorem State.modBeam_regs (s : State) (pipe : Nat) (f : BeamWork → BeamWork) : (s.modBeam pipe f).regs = s.regs := rfl
@[simp] theorem State.modBeam_mgmt (s : State) (pipe : Nat) (f : BeamWork → BeamWork) : (s.modBeam pipe f).mgmt = s.mgmt := rfl
@[simp] theorem State.modBeam_lanes (s : State) (pipe : Nat) (f : BeamWork → BeamWork) : (s.modBeam pipe f).lanes = s.lanes := rfl
@[simp] theorem State.modBeam_clocks (s : State) (pipe : Nat) (f : BeamWork → BeamWork) : (s.modBeam pipe f).clocks = s.clocks := rfl
@[simp] theorem State.modBeam_cal (s : State) (pipe : Nat) (f : BeamWork → BeamWork) : (s.modBeam pipe f).cal = s.cal := rfl
@[simp] theorem State.modBeam_twin (s : State) (pipe : Nat) (f : BeamWork → BeamWork) : (s.modBeam pipe f).twin = s.twin := rfl
@[simp] theorem State.modBeam_fabric (s : State) (pipe : Nat) (f : BeamWork → BeamWork) : (s.modBeam pipe f).fabric = s.fabric := rfl
@[simp] theorem State.modBeam_health (s : State) (pipe : Nat) (f : BeamWork → BeamWork) : (s.modBeam pipe f).health = s.health := rfl
@[simp] theorem State.modBeam_power (s : State) (pipe : Nat) (f : BeamWork → BeamWork) : (s.modBeam pipe f).power = s.power := rfl
@[simp] theorem State.modBeam_crate (s : State) (pipe : Nat) (f : BeamWork → BeamWork) : (s.modBeam pipe f).crate = s.crate := rfl
@[simp] theorem State.modBeam_free (s : State) (pipe : Nat) (f : BeamWork → BeamWork) : (s.modBeam pipe f).free = s.free := rfl
@[simp] theorem State.modBeam_out (s : State) (pipe : Nat) (f : BeamWork → BeamWork) : (s.modBeam pipe f).out = s.out := rfl

/-! ### modContrib -/

@[simp] theorem State.modContrib_pending (s : State) (k : ContribMash) (f : ContribMash → ContribMash) : (s.modContrib k f).pending = s.pending := rfl
@[simp] theorem State.modContrib_ident (s : State) (k : ContribMash) (f : ContribMash → ContribMash) : (s.modContrib k f).ident = s.ident := rfl
@[simp] theorem State.modContrib_mail (s : State) (k : ContribMash) (f : ContribMash → ContribMash) : (s.modContrib k f).mail = s.mail := rfl
@[simp] theorem State.modContrib_lease (s : State) (k : ContribMash) (f : ContribMash → ContribMash) : (s.modContrib k f).lease = s.lease := rfl
@[simp] theorem State.modContrib_cfg (s : State) (k : ContribMash) (f : ContribMash → ContribMash) : (s.modContrib k f).cfg = s.cfg := rfl
@[simp] theorem State.modContrib_events (s : State) (k : ContribMash) (f : ContribMash → ContribMash) : (s.modContrib k f).events = s.events := rfl
@[simp] theorem State.modContrib_intr (s : State) (k : ContribMash) (f : ContribMash → ContribMash) : (s.modContrib k f).intr = s.intr := rfl
@[simp] theorem State.modContrib_dma (s : State) (k : ContribMash) (f : ContribMash → ContribMash) : (s.modContrib k f).dma = s.dma := rfl
@[simp] theorem State.modContrib_regs (s : State) (k : ContribMash) (f : ContribMash → ContribMash) : (s.modContrib k f).regs = s.regs := rfl
@[simp] theorem State.modContrib_mgmt (s : State) (k : ContribMash) (f : ContribMash → ContribMash) : (s.modContrib k f).mgmt = s.mgmt := rfl
@[simp] theorem State.modContrib_lanes (s : State) (k : ContribMash) (f : ContribMash → ContribMash) : (s.modContrib k f).lanes = s.lanes := rfl
@[simp] theorem State.modContrib_clocks (s : State) (k : ContribMash) (f : ContribMash → ContribMash) : (s.modContrib k f).clocks = s.clocks := rfl
@[simp] theorem State.modContrib_cal (s : State) (k : ContribMash) (f : ContribMash → ContribMash) : (s.modContrib k f).cal = s.cal := rfl
@[simp] theorem State.modContrib_twin (s : State) (k : ContribMash) (f : ContribMash → ContribMash) : (s.modContrib k f).twin = s.twin := rfl
@[simp] theorem State.modContrib_fabric (s : State) (k : ContribMash) (f : ContribMash → ContribMash) : (s.modContrib k f).fabric = s.fabric := rfl
@[simp] theorem State.modContrib_health (s : State) (k : ContribMash) (f : ContribMash → ContribMash) : (s.modContrib k f).health = s.health := rfl
@[simp] theorem State.modContrib_power (s : State) (k : ContribMash) (f : ContribMash → ContribMash) : (s.modContrib k f).power = s.power := rfl
@[simp] theorem State.modContrib_crate (s : State) (k : ContribMash) (f : ContribMash → ContribMash) : (s.modContrib k f).crate = s.crate := rfl
@[simp] theorem State.modContrib_free (s : State) (k : ContribMash) (f : ContribMash → ContribMash) : (s.modContrib k f).free = s.free := rfl
@[simp] theorem State.modContrib_out (s : State) (k : ContribMash) (f : ContribMash → ContribMash) : (s.modContrib k f).out = s.out := rfl

/-! ### modBeamCount -/

@[simp] theorem State.modBeamCount_pending (s : State) (pipe die : Nat) (f : BeamCount → BeamCount) : (s.modBeamCount pipe die f).pending = s.pending := rfl
@[simp] theorem State.modBeamCount_ident (s : State) (pipe die : Nat) (f : BeamCount → BeamCount) : (s.modBeamCount pipe die f).ident = s.ident := rfl
@[simp] theorem State.modBeamCount_mail (s : State) (pipe die : Nat) (f : BeamCount → BeamCount) : (s.modBeamCount pipe die f).mail = s.mail := rfl
@[simp] theorem State.modBeamCount_lease (s : State) (pipe die : Nat) (f : BeamCount → BeamCount) : (s.modBeamCount pipe die f).lease = s.lease := rfl
@[simp] theorem State.modBeamCount_cfg (s : State) (pipe die : Nat) (f : BeamCount → BeamCount) : (s.modBeamCount pipe die f).cfg = s.cfg := rfl
@[simp] theorem State.modBeamCount_events (s : State) (pipe die : Nat) (f : BeamCount → BeamCount) : (s.modBeamCount pipe die f).events = s.events := rfl
@[simp] theorem State.modBeamCount_intr (s : State) (pipe die : Nat) (f : BeamCount → BeamCount) : (s.modBeamCount pipe die f).intr = s.intr := rfl
@[simp] theorem State.modBeamCount_dma (s : State) (pipe die : Nat) (f : BeamCount → BeamCount) : (s.modBeamCount pipe die f).dma = s.dma := rfl
@[simp] theorem State.modBeamCount_regs (s : State) (pipe die : Nat) (f : BeamCount → BeamCount) : (s.modBeamCount pipe die f).regs = s.regs := rfl
@[simp] theorem State.modBeamCount_mgmt (s : State) (pipe die : Nat) (f : BeamCount → BeamCount) : (s.modBeamCount pipe die f).mgmt = s.mgmt := rfl
@[simp] theorem State.modBeamCount_lanes (s : State) (pipe die : Nat) (f : BeamCount → BeamCount) : (s.modBeamCount pipe die f).lanes = s.lanes := rfl
@[simp] theorem State.modBeamCount_clocks (s : State) (pipe die : Nat) (f : BeamCount → BeamCount) : (s.modBeamCount pipe die f).clocks = s.clocks := rfl
@[simp] theorem State.modBeamCount_cal (s : State) (pipe die : Nat) (f : BeamCount → BeamCount) : (s.modBeamCount pipe die f).cal = s.cal := rfl
@[simp] theorem State.modBeamCount_twin (s : State) (pipe die : Nat) (f : BeamCount → BeamCount) : (s.modBeamCount pipe die f).twin = s.twin := rfl
@[simp] theorem State.modBeamCount_fabric (s : State) (pipe die : Nat) (f : BeamCount → BeamCount) : (s.modBeamCount pipe die f).fabric = s.fabric := rfl
@[simp] theorem State.modBeamCount_health (s : State) (pipe die : Nat) (f : BeamCount → BeamCount) : (s.modBeamCount pipe die f).health = s.health := rfl
@[simp] theorem State.modBeamCount_power (s : State) (pipe die : Nat) (f : BeamCount → BeamCount) : (s.modBeamCount pipe die f).power = s.power := rfl
@[simp] theorem State.modBeamCount_crate (s : State) (pipe die : Nat) (f : BeamCount → BeamCount) : (s.modBeamCount pipe die f).crate = s.crate := rfl
@[simp] theorem State.modBeamCount_free (s : State) (pipe die : Nat) (f : BeamCount → BeamCount) : (s.modBeamCount pipe die f).free = s.free := rfl
@[simp] theorem State.modBeamCount_out (s : State) (pipe die : Nat) (f : BeamCount → BeamCount) : (s.modBeamCount pipe die f).out = s.out := rfl

/-! ### modCorr -/

@[simp] theorem State.modCorr_pending (s : State) (pipe die : Nat) (f : CorrCount → CorrCount) : (s.modCorr pipe die f).pending = s.pending := rfl
@[simp] theorem State.modCorr_ident (s : State) (pipe die : Nat) (f : CorrCount → CorrCount) : (s.modCorr pipe die f).ident = s.ident := rfl
@[simp] theorem State.modCorr_mail (s : State) (pipe die : Nat) (f : CorrCount → CorrCount) : (s.modCorr pipe die f).mail = s.mail := rfl
@[simp] theorem State.modCorr_lease (s : State) (pipe die : Nat) (f : CorrCount → CorrCount) : (s.modCorr pipe die f).lease = s.lease := rfl
@[simp] theorem State.modCorr_cfg (s : State) (pipe die : Nat) (f : CorrCount → CorrCount) : (s.modCorr pipe die f).cfg = s.cfg := rfl
@[simp] theorem State.modCorr_events (s : State) (pipe die : Nat) (f : CorrCount → CorrCount) : (s.modCorr pipe die f).events = s.events := rfl
@[simp] theorem State.modCorr_intr (s : State) (pipe die : Nat) (f : CorrCount → CorrCount) : (s.modCorr pipe die f).intr = s.intr := rfl
@[simp] theorem State.modCorr_dma (s : State) (pipe die : Nat) (f : CorrCount → CorrCount) : (s.modCorr pipe die f).dma = s.dma := rfl
@[simp] theorem State.modCorr_regs (s : State) (pipe die : Nat) (f : CorrCount → CorrCount) : (s.modCorr pipe die f).regs = s.regs := rfl
@[simp] theorem State.modCorr_mgmt (s : State) (pipe die : Nat) (f : CorrCount → CorrCount) : (s.modCorr pipe die f).mgmt = s.mgmt := rfl
@[simp] theorem State.modCorr_lanes (s : State) (pipe die : Nat) (f : CorrCount → CorrCount) : (s.modCorr pipe die f).lanes = s.lanes := rfl
@[simp] theorem State.modCorr_clocks (s : State) (pipe die : Nat) (f : CorrCount → CorrCount) : (s.modCorr pipe die f).clocks = s.clocks := rfl
@[simp] theorem State.modCorr_cal (s : State) (pipe die : Nat) (f : CorrCount → CorrCount) : (s.modCorr pipe die f).cal = s.cal := rfl
@[simp] theorem State.modCorr_twin (s : State) (pipe die : Nat) (f : CorrCount → CorrCount) : (s.modCorr pipe die f).twin = s.twin := rfl
@[simp] theorem State.modCorr_fabric (s : State) (pipe die : Nat) (f : CorrCount → CorrCount) : (s.modCorr pipe die f).fabric = s.fabric := rfl
@[simp] theorem State.modCorr_health (s : State) (pipe die : Nat) (f : CorrCount → CorrCount) : (s.modCorr pipe die f).health = s.health := rfl
@[simp] theorem State.modCorr_power (s : State) (pipe die : Nat) (f : CorrCount → CorrCount) : (s.modCorr pipe die f).power = s.power := rfl
@[simp] theorem State.modCorr_crate (s : State) (pipe die : Nat) (f : CorrCount → CorrCount) : (s.modCorr pipe die f).crate = s.crate := rfl
@[simp] theorem State.modCorr_free (s : State) (pipe die : Nat) (f : CorrCount → CorrCount) : (s.modCorr pipe die f).free = s.free := rfl
@[simp] theorem State.modCorr_out (s : State) (pipe die : Nat) (f : CorrCount → CorrCount) : (s.modCorr pipe die f).out = s.out := rfl

/-! ### modTile -/

@[simp] theorem State.modTile_pending (s : State) (pipe die bank ch q : Nat) (f : TilePos → TilePos) : (s.modTile pipe die bank ch q f).pending = s.pending := rfl
@[simp] theorem State.modTile_ident (s : State) (pipe die bank ch q : Nat) (f : TilePos → TilePos) : (s.modTile pipe die bank ch q f).ident = s.ident := rfl
@[simp] theorem State.modTile_mail (s : State) (pipe die bank ch q : Nat) (f : TilePos → TilePos) : (s.modTile pipe die bank ch q f).mail = s.mail := rfl
@[simp] theorem State.modTile_lease (s : State) (pipe die bank ch q : Nat) (f : TilePos → TilePos) : (s.modTile pipe die bank ch q f).lease = s.lease := rfl
@[simp] theorem State.modTile_cfg (s : State) (pipe die bank ch q : Nat) (f : TilePos → TilePos) : (s.modTile pipe die bank ch q f).cfg = s.cfg := rfl
@[simp] theorem State.modTile_events (s : State) (pipe die bank ch q : Nat) (f : TilePos → TilePos) : (s.modTile pipe die bank ch q f).events = s.events := rfl
@[simp] theorem State.modTile_intr (s : State) (pipe die bank ch q : Nat) (f : TilePos → TilePos) : (s.modTile pipe die bank ch q f).intr = s.intr := rfl
@[simp] theorem State.modTile_dma (s : State) (pipe die bank ch q : Nat) (f : TilePos → TilePos) : (s.modTile pipe die bank ch q f).dma = s.dma := rfl
@[simp] theorem State.modTile_regs (s : State) (pipe die bank ch q : Nat) (f : TilePos → TilePos) : (s.modTile pipe die bank ch q f).regs = s.regs := rfl
@[simp] theorem State.modTile_mgmt (s : State) (pipe die bank ch q : Nat) (f : TilePos → TilePos) : (s.modTile pipe die bank ch q f).mgmt = s.mgmt := rfl
@[simp] theorem State.modTile_lanes (s : State) (pipe die bank ch q : Nat) (f : TilePos → TilePos) : (s.modTile pipe die bank ch q f).lanes = s.lanes := rfl
@[simp] theorem State.modTile_clocks (s : State) (pipe die bank ch q : Nat) (f : TilePos → TilePos) : (s.modTile pipe die bank ch q f).clocks = s.clocks := rfl
@[simp] theorem State.modTile_cal (s : State) (pipe die bank ch q : Nat) (f : TilePos → TilePos) : (s.modTile pipe die bank ch q f).cal = s.cal := rfl
@[simp] theorem State.modTile_twin (s : State) (pipe die bank ch q : Nat) (f : TilePos → TilePos) : (s.modTile pipe die bank ch q f).twin = s.twin := rfl
@[simp] theorem State.modTile_fabric (s : State) (pipe die bank ch q : Nat) (f : TilePos → TilePos) : (s.modTile pipe die bank ch q f).fabric = s.fabric := rfl
@[simp] theorem State.modTile_health (s : State) (pipe die bank ch q : Nat) (f : TilePos → TilePos) : (s.modTile pipe die bank ch q f).health = s.health := rfl
@[simp] theorem State.modTile_power (s : State) (pipe die bank ch q : Nat) (f : TilePos → TilePos) : (s.modTile pipe die bank ch q f).power = s.power := rfl
@[simp] theorem State.modTile_crate (s : State) (pipe die bank ch q : Nat) (f : TilePos → TilePos) : (s.modTile pipe die bank ch q f).crate = s.crate := rfl
@[simp] theorem State.modTile_free (s : State) (pipe die bank ch q : Nat) (f : TilePos → TilePos) : (s.modTile pipe die bank ch q f).free = s.free := rfl
@[simp] theorem State.modTile_out (s : State) (pipe die bank ch q : Nat) (f : TilePos → TilePos) : (s.modTile pipe die bank ch q f).out = s.out := rfl

/-! ### modChains -/

@[simp] theorem State.modChains_pending (s : State) (p : Chain → Bool) (f : Chain → Chain) : (s.modChains p f).pending = s.pending := rfl
@[simp] theorem State.modChains_ident (s : State) (p : Chain → Bool) (f : Chain → Chain) : (s.modChains p f).ident = s.ident := rfl
@[simp] theorem State.modChains_mail (s : State) (p : Chain → Bool) (f : Chain → Chain) : (s.modChains p f).mail = s.mail := rfl
@[simp] theorem State.modChains_lease (s : State) (p : Chain → Bool) (f : Chain → Chain) : (s.modChains p f).lease = s.lease := rfl
@[simp] theorem State.modChains_cfg (s : State) (p : Chain → Bool) (f : Chain → Chain) : (s.modChains p f).cfg = s.cfg := rfl
@[simp] theorem State.modChains_events (s : State) (p : Chain → Bool) (f : Chain → Chain) : (s.modChains p f).events = s.events := rfl
@[simp] theorem State.modChains_intr (s : State) (p : Chain → Bool) (f : Chain → Chain) : (s.modChains p f).intr = s.intr := rfl
@[simp] theorem State.modChains_dma (s : State) (p : Chain → Bool) (f : Chain → Chain) : (s.modChains p f).dma = s.dma := rfl
@[simp] theorem State.modChains_regs (s : State) (p : Chain → Bool) (f : Chain → Chain) : (s.modChains p f).regs = s.regs := rfl
@[simp] theorem State.modChains_mgmt (s : State) (p : Chain → Bool) (f : Chain → Chain) : (s.modChains p f).mgmt = s.mgmt := rfl
@[simp] theorem State.modChains_lanes (s : State) (p : Chain → Bool) (f : Chain → Chain) : (s.modChains p f).lanes = s.lanes := rfl
@[simp] theorem State.modChains_clocks (s : State) (p : Chain → Bool) (f : Chain → Chain) : (s.modChains p f).clocks = s.clocks := rfl
@[simp] theorem State.modChains_cal (s : State) (p : Chain → Bool) (f : Chain → Chain) : (s.modChains p f).cal = s.cal := rfl
@[simp] theorem State.modChains_twin (s : State) (p : Chain → Bool) (f : Chain → Chain) : (s.modChains p f).twin = s.twin := rfl
@[simp] theorem State.modChains_fabric (s : State) (p : Chain → Bool) (f : Chain → Chain) : (s.modChains p f).fabric = s.fabric := rfl
@[simp] theorem State.modChains_health (s : State) (p : Chain → Bool) (f : Chain → Chain) : (s.modChains p f).health = s.health := rfl
@[simp] theorem State.modChains_power (s : State) (p : Chain → Bool) (f : Chain → Chain) : (s.modChains p f).power = s.power := rfl
@[simp] theorem State.modChains_crate (s : State) (p : Chain → Bool) (f : Chain → Chain) : (s.modChains p f).crate = s.crate := rfl
@[simp] theorem State.modChains_free (s : State) (p : Chain → Bool) (f : Chain → Chain) : (s.modChains p f).free = s.free := rfl
@[simp] theorem State.modChains_out (s : State) (p : Chain → Bool) (f : Chain → Chain) : (s.modChains p f).out = s.out := rfl

/-! ### modDie -/

@[simp] theorem State.modDie_pending (s : State) (d : Nat) (f : DieWork → DieWork) : (s.modDie d f).pending = s.pending := rfl
@[simp] theorem State.modDie_ident (s : State) (d : Nat) (f : DieWork → DieWork) : (s.modDie d f).ident = s.ident := rfl
@[simp] theorem State.modDie_mail (s : State) (d : Nat) (f : DieWork → DieWork) : (s.modDie d f).mail = s.mail := rfl
@[simp] theorem State.modDie_lease (s : State) (d : Nat) (f : DieWork → DieWork) : (s.modDie d f).lease = s.lease := rfl
@[simp] theorem State.modDie_cfg (s : State) (d : Nat) (f : DieWork → DieWork) : (s.modDie d f).cfg = s.cfg := rfl
@[simp] theorem State.modDie_events (s : State) (d : Nat) (f : DieWork → DieWork) : (s.modDie d f).events = s.events := rfl
@[simp] theorem State.modDie_intr (s : State) (d : Nat) (f : DieWork → DieWork) : (s.modDie d f).intr = s.intr := rfl
@[simp] theorem State.modDie_dma (s : State) (d : Nat) (f : DieWork → DieWork) : (s.modDie d f).dma = s.dma := rfl
@[simp] theorem State.modDie_regs (s : State) (d : Nat) (f : DieWork → DieWork) : (s.modDie d f).regs = s.regs := rfl
@[simp] theorem State.modDie_mgmt (s : State) (d : Nat) (f : DieWork → DieWork) : (s.modDie d f).mgmt = s.mgmt := rfl
@[simp] theorem State.modDie_data (s : State) (d : Nat) (f : DieWork → DieWork) : (s.modDie d f).data = { s.data with dies := s.data.dies.modify d f } := rfl
@[simp] theorem State.modDie_lanes (s : State) (d : Nat) (f : DieWork → DieWork) : (s.modDie d f).lanes = s.lanes := rfl
@[simp] theorem State.modDie_clocks (s : State) (d : Nat) (f : DieWork → DieWork) : (s.modDie d f).clocks = s.clocks := rfl
@[simp] theorem State.modDie_cal (s : State) (d : Nat) (f : DieWork → DieWork) : (s.modDie d f).cal = s.cal := rfl
@[simp] theorem State.modDie_twin (s : State) (d : Nat) (f : DieWork → DieWork) : (s.modDie d f).twin = s.twin := rfl
@[simp] theorem State.modDie_fabric (s : State) (d : Nat) (f : DieWork → DieWork) : (s.modDie d f).fabric = s.fabric := rfl
@[simp] theorem State.modDie_health (s : State) (d : Nat) (f : DieWork → DieWork) : (s.modDie d f).health = s.health := rfl
@[simp] theorem State.modDie_power (s : State) (d : Nat) (f : DieWork → DieWork) : (s.modDie d f).power = s.power := rfl
@[simp] theorem State.modDie_crate (s : State) (d : Nat) (f : DieWork → DieWork) : (s.modDie d f).crate = s.crate := rfl
@[simp] theorem State.modDie_free (s : State) (d : Nat) (f : DieWork → DieWork) : (s.modDie d f).free = s.free := rfl
@[simp] theorem State.modDie_out (s : State) (d : Nat) (f : DieWork → DieWork) : (s.modDie d f).out = s.out := rfl

/-! ### modSink -/

@[simp] theorem State.modSink_pending (s : State) (i : Nat) (f : SinkCount → SinkCount) : (s.modSink i f).pending = s.pending := rfl
@[simp] theorem State.modSink_ident (s : State) (i : Nat) (f : SinkCount → SinkCount) : (s.modSink i f).ident = s.ident := rfl
@[simp] theorem State.modSink_mail (s : State) (i : Nat) (f : SinkCount → SinkCount) : (s.modSink i f).mail = s.mail := rfl
@[simp] theorem State.modSink_lease (s : State) (i : Nat) (f : SinkCount → SinkCount) : (s.modSink i f).lease = s.lease := rfl
@[simp] theorem State.modSink_cfg (s : State) (i : Nat) (f : SinkCount → SinkCount) : (s.modSink i f).cfg = s.cfg := rfl
@[simp] theorem State.modSink_events (s : State) (i : Nat) (f : SinkCount → SinkCount) : (s.modSink i f).events = s.events := rfl
@[simp] theorem State.modSink_intr (s : State) (i : Nat) (f : SinkCount → SinkCount) : (s.modSink i f).intr = s.intr := rfl
@[simp] theorem State.modSink_dma (s : State) (i : Nat) (f : SinkCount → SinkCount) : (s.modSink i f).dma = s.dma := rfl
@[simp] theorem State.modSink_regs (s : State) (i : Nat) (f : SinkCount → SinkCount) : (s.modSink i f).regs = s.regs := rfl
@[simp] theorem State.modSink_mgmt (s : State) (i : Nat) (f : SinkCount → SinkCount) : (s.modSink i f).mgmt = s.mgmt := rfl
@[simp] theorem State.modSink_lanes (s : State) (i : Nat) (f : SinkCount → SinkCount) : (s.modSink i f).lanes = s.lanes := rfl
@[simp] theorem State.modSink_clocks (s : State) (i : Nat) (f : SinkCount → SinkCount) : (s.modSink i f).clocks = s.clocks := rfl
@[simp] theorem State.modSink_cal (s : State) (i : Nat) (f : SinkCount → SinkCount) : (s.modSink i f).cal = s.cal := rfl
@[simp] theorem State.modSink_twin (s : State) (i : Nat) (f : SinkCount → SinkCount) : (s.modSink i f).twin = s.twin := rfl
@[simp] theorem State.modSink_fabric (s : State) (i : Nat) (f : SinkCount → SinkCount) : (s.modSink i f).fabric = s.fabric := rfl
@[simp] theorem State.modSink_health (s : State) (i : Nat) (f : SinkCount → SinkCount) : (s.modSink i f).health = s.health := rfl
@[simp] theorem State.modSink_power (s : State) (i : Nat) (f : SinkCount → SinkCount) : (s.modSink i f).power = s.power := rfl
@[simp] theorem State.modSink_crate (s : State) (i : Nat) (f : SinkCount → SinkCount) : (s.modSink i f).crate = s.crate := rfl
@[simp] theorem State.modSink_free (s : State) (i : Nat) (f : SinkCount → SinkCount) : (s.modSink i f).free = s.free := rfl
@[simp] theorem State.modSink_out (s : State) (i : Nat) (f : SinkCount → SinkCount) : (s.modSink i f).out = s.out := rfl

/-! ### setScope -/

@[simp] theorem State.setScope_pending (s : State) (sc : Scope) : (s.setScope sc).pending = s.pending := rfl
@[simp] theorem State.setScope_ident (s : State) (sc : Scope) : (s.setScope sc).ident = s.ident := rfl
@[simp] theorem State.setScope_mail (s : State) (sc : Scope) : (s.setScope sc).mail = s.mail := rfl
@[simp] theorem State.setScope_lease (s : State) (sc : Scope) : (s.setScope sc).lease = s.lease := rfl
@[simp] theorem State.setScope_cfg (s : State) (sc : Scope) : (s.setScope sc).cfg = s.cfg := rfl
@[simp] theorem State.setScope_events (s : State) (sc : Scope) : (s.setScope sc).events = s.events := rfl
@[simp] theorem State.setScope_intr (s : State) (sc : Scope) : (s.setScope sc).intr = s.intr := rfl
@[simp] theorem State.setScope_dma (s : State) (sc : Scope) : (s.setScope sc).dma = s.dma := rfl
@[simp] theorem State.setScope_regs (s : State) (sc : Scope) : (s.setScope sc).regs = s.regs := rfl
@[simp] theorem State.setScope_mgmt (s : State) (sc : Scope) : (s.setScope sc).mgmt = s.mgmt := rfl
@[simp] theorem State.setScope_lanes (s : State) (sc : Scope) : (s.setScope sc).lanes = s.lanes := rfl
@[simp] theorem State.setScope_clocks (s : State) (sc : Scope) : (s.setScope sc).clocks = s.clocks := rfl
@[simp] theorem State.setScope_cal (s : State) (sc : Scope) : (s.setScope sc).cal = s.cal := rfl
@[simp] theorem State.setScope_twin (s : State) (sc : Scope) : (s.setScope sc).twin = s.twin := rfl
@[simp] theorem State.setScope_fabric (s : State) (sc : Scope) : (s.setScope sc).fabric = s.fabric := rfl
@[simp] theorem State.setScope_health (s : State) (sc : Scope) : (s.setScope sc).health = s.health := rfl
@[simp] theorem State.setScope_power (s : State) (sc : Scope) : (s.setScope sc).power = s.power := rfl
@[simp] theorem State.setScope_crate (s : State) (sc : Scope) : (s.setScope sc).crate = s.crate := rfl
@[simp] theorem State.setScope_free (s : State) (sc : Scope) : (s.setScope sc).free = s.free := rfl
@[simp] theorem State.setScope_out (s : State) (sc : Scope) : (s.setScope sc).out = s.out := rfl

/-! ### modCal -/

@[simp] theorem State.modCal_pending (s : State) (f : Calendar → Calendar) : (s.modCal f).pending = s.pending := rfl
@[simp] theorem State.modCal_ident (s : State) (f : Calendar → Calendar) : (s.modCal f).ident = s.ident := rfl
@[simp] theorem State.modCal_mail (s : State) (f : Calendar → Calendar) : (s.modCal f).mail = s.mail := rfl
@[simp] theorem State.modCal_lease (s : State) (f : Calendar → Calendar) : (s.modCal f).lease = s.lease := rfl
@[simp] theorem State.modCal_cfg (s : State) (f : Calendar → Calendar) : (s.modCal f).cfg = s.cfg := rfl
@[simp] theorem State.modCal_events (s : State) (f : Calendar → Calendar) : (s.modCal f).events = s.events := rfl
@[simp] theorem State.modCal_intr (s : State) (f : Calendar → Calendar) : (s.modCal f).intr = s.intr := rfl
@[simp] theorem State.modCal_dma (s : State) (f : Calendar → Calendar) : (s.modCal f).dma = s.dma := rfl
@[simp] theorem State.modCal_regs (s : State) (f : Calendar → Calendar) : (s.modCal f).regs = s.regs := rfl
@[simp] theorem State.modCal_mgmt (s : State) (f : Calendar → Calendar) : (s.modCal f).mgmt = s.mgmt := rfl
@[simp] theorem State.modCal_data (s : State) (f : Calendar → Calendar) : (s.modCal f).data = s.data := rfl
@[simp] theorem State.modCal_lanes (s : State) (f : Calendar → Calendar) : (s.modCal f).lanes = s.lanes := rfl
@[simp] theorem State.modCal_clocks (s : State) (f : Calendar → Calendar) : (s.modCal f).clocks = s.clocks := rfl
@[simp] theorem State.modCal_cal (s : State) (f : Calendar → Calendar) : (s.modCal f).cal = f s.cal := rfl
@[simp] theorem State.modCal_twin (s : State) (f : Calendar → Calendar) : (s.modCal f).twin = s.twin := rfl
@[simp] theorem State.modCal_fabric (s : State) (f : Calendar → Calendar) : (s.modCal f).fabric = s.fabric := rfl
@[simp] theorem State.modCal_health (s : State) (f : Calendar → Calendar) : (s.modCal f).health = s.health := rfl
@[simp] theorem State.modCal_power (s : State) (f : Calendar → Calendar) : (s.modCal f).power = s.power := rfl
@[simp] theorem State.modCal_crate (s : State) (f : Calendar → Calendar) : (s.modCal f).crate = s.crate := rfl
@[simp] theorem State.modCal_free (s : State) (f : Calendar → Calendar) : (s.modCal f).free = s.free := rfl
@[simp] theorem State.modCal_out (s : State) (f : Calendar → Calendar) : (s.modCal f).out = s.out := rfl

/-! ### modDpll -/

@[simp] theorem State.modDpll_pending (s : State) (f : Dpll → Dpll) : (s.modDpll f).pending = s.pending := rfl
@[simp] theorem State.modDpll_ident (s : State) (f : Dpll → Dpll) : (s.modDpll f).ident = s.ident := rfl
@[simp] theorem State.modDpll_mail (s : State) (f : Dpll → Dpll) : (s.modDpll f).mail = s.mail := rfl
@[simp] theorem State.modDpll_lease (s : State) (f : Dpll → Dpll) : (s.modDpll f).lease = s.lease := rfl
@[simp] theorem State.modDpll_cfg (s : State) (f : Dpll → Dpll) : (s.modDpll f).cfg = s.cfg := rfl
@[simp] theorem State.modDpll_events (s : State) (f : Dpll → Dpll) : (s.modDpll f).events = s.events := rfl
@[simp] theorem State.modDpll_intr (s : State) (f : Dpll → Dpll) : (s.modDpll f).intr = s.intr := rfl
@[simp] theorem State.modDpll_dma (s : State) (f : Dpll → Dpll) : (s.modDpll f).dma = s.dma := rfl
@[simp] theorem State.modDpll_regs (s : State) (f : Dpll → Dpll) : (s.modDpll f).regs = s.regs := rfl
@[simp] theorem State.modDpll_mgmt (s : State) (f : Dpll → Dpll) : (s.modDpll f).mgmt = s.mgmt := rfl
@[simp] theorem State.modDpll_data (s : State) (f : Dpll → Dpll) : (s.modDpll f).data = s.data := rfl
@[simp] theorem State.modDpll_lanes (s : State) (f : Dpll → Dpll) : (s.modDpll f).lanes = s.lanes := rfl
@[simp] theorem State.modDpll_clocks (s : State) (f : Dpll → Dpll) : (s.modDpll f).clocks = { s.clocks with dpll := f s.clocks.dpll } := rfl
@[simp] theorem State.modDpll_cal (s : State) (f : Dpll → Dpll) : (s.modDpll f).cal = s.cal := rfl
@[simp] theorem State.modDpll_twin (s : State) (f : Dpll → Dpll) : (s.modDpll f).twin = s.twin := rfl
@[simp] theorem State.modDpll_fabric (s : State) (f : Dpll → Dpll) : (s.modDpll f).fabric = s.fabric := rfl
@[simp] theorem State.modDpll_health (s : State) (f : Dpll → Dpll) : (s.modDpll f).health = s.health := rfl
@[simp] theorem State.modDpll_power (s : State) (f : Dpll → Dpll) : (s.modDpll f).power = s.power := rfl
@[simp] theorem State.modDpll_crate (s : State) (f : Dpll → Dpll) : (s.modDpll f).crate = s.crate := rfl
@[simp] theorem State.modDpll_free (s : State) (f : Dpll → Dpll) : (s.modDpll f).free = s.free := rfl
@[simp] theorem State.modDpll_out (s : State) (f : Dpll → Dpll) : (s.modDpll f).out = s.out := rfl

/-! ### modPulses -/

@[simp] theorem State.modPulses_pending (s : State) (f : Pulses → Pulses) : (s.modPulses f).pending = s.pending := rfl
@[simp] theorem State.modPulses_ident (s : State) (f : Pulses → Pulses) : (s.modPulses f).ident = s.ident := rfl
@[simp] theorem State.modPulses_mail (s : State) (f : Pulses → Pulses) : (s.modPulses f).mail = s.mail := rfl
@[simp] theorem State.modPulses_lease (s : State) (f : Pulses → Pulses) : (s.modPulses f).lease = s.lease := rfl
@[simp] theorem State.modPulses_cfg (s : State) (f : Pulses → Pulses) : (s.modPulses f).cfg = s.cfg := rfl
@[simp] theorem State.modPulses_events (s : State) (f : Pulses → Pulses) : (s.modPulses f).events = s.events := rfl
@[simp] theorem State.modPulses_intr (s : State) (f : Pulses → Pulses) : (s.modPulses f).intr = s.intr := rfl
@[simp] theorem State.modPulses_dma (s : State) (f : Pulses → Pulses) : (s.modPulses f).dma = s.dma := rfl
@[simp] theorem State.modPulses_regs (s : State) (f : Pulses → Pulses) : (s.modPulses f).regs = s.regs := rfl
@[simp] theorem State.modPulses_mgmt (s : State) (f : Pulses → Pulses) : (s.modPulses f).mgmt = s.mgmt := rfl
@[simp] theorem State.modPulses_data (s : State) (f : Pulses → Pulses) : (s.modPulses f).data = s.data := rfl
@[simp] theorem State.modPulses_lanes (s : State) (f : Pulses → Pulses) : (s.modPulses f).lanes = s.lanes := rfl
@[simp] theorem State.modPulses_clocks (s : State) (f : Pulses → Pulses) : (s.modPulses f).clocks = { s.clocks with pulses := f s.clocks.pulses } := rfl
@[simp] theorem State.modPulses_cal (s : State) (f : Pulses → Pulses) : (s.modPulses f).cal = s.cal := rfl
@[simp] theorem State.modPulses_twin (s : State) (f : Pulses → Pulses) : (s.modPulses f).twin = s.twin := rfl
@[simp] theorem State.modPulses_fabric (s : State) (f : Pulses → Pulses) : (s.modPulses f).fabric = s.fabric := rfl
@[simp] theorem State.modPulses_health (s : State) (f : Pulses → Pulses) : (s.modPulses f).health = s.health := rfl
@[simp] theorem State.modPulses_power (s : State) (f : Pulses → Pulses) : (s.modPulses f).power = s.power := rfl
@[simp] theorem State.modPulses_crate (s : State) (f : Pulses → Pulses) : (s.modPulses f).crate = s.crate := rfl
@[simp] theorem State.modPulses_free (s : State) (f : Pulses → Pulses) : (s.modPulses f).free = s.free := rfl
@[simp] theorem State.modPulses_out (s : State) (f : Pulses → Pulses) : (s.modPulses f).out = s.out := rfl

/-! ### modPtp -/

@[simp] theorem State.modPtp_pending (s : State) (f : Ptp → Ptp) : (s.modPtp f).pending = s.pending := rfl
@[simp] theorem State.modPtp_ident (s : State) (f : Ptp → Ptp) : (s.modPtp f).ident = s.ident := rfl
@[simp] theorem State.modPtp_mail (s : State) (f : Ptp → Ptp) : (s.modPtp f).mail = s.mail := rfl
@[simp] theorem State.modPtp_lease (s : State) (f : Ptp → Ptp) : (s.modPtp f).lease = s.lease := rfl
@[simp] theorem State.modPtp_cfg (s : State) (f : Ptp → Ptp) : (s.modPtp f).cfg = s.cfg := rfl
@[simp] theorem State.modPtp_events (s : State) (f : Ptp → Ptp) : (s.modPtp f).events = s.events := rfl
@[simp] theorem State.modPtp_intr (s : State) (f : Ptp → Ptp) : (s.modPtp f).intr = s.intr := rfl
@[simp] theorem State.modPtp_dma (s : State) (f : Ptp → Ptp) : (s.modPtp f).dma = s.dma := rfl
@[simp] theorem State.modPtp_regs (s : State) (f : Ptp → Ptp) : (s.modPtp f).regs = s.regs := rfl
@[simp] theorem State.modPtp_mgmt (s : State) (f : Ptp → Ptp) : (s.modPtp f).mgmt = s.mgmt := rfl
@[simp] theorem State.modPtp_data (s : State) (f : Ptp → Ptp) : (s.modPtp f).data = s.data := rfl
@[simp] theorem State.modPtp_lanes (s : State) (f : Ptp → Ptp) : (s.modPtp f).lanes = s.lanes := rfl
@[simp] theorem State.modPtp_clocks (s : State) (f : Ptp → Ptp) : (s.modPtp f).clocks = { s.clocks with ptp := f s.clocks.ptp } := rfl
@[simp] theorem State.modPtp_cal (s : State) (f : Ptp → Ptp) : (s.modPtp f).cal = s.cal := rfl
@[simp] theorem State.modPtp_twin (s : State) (f : Ptp → Ptp) : (s.modPtp f).twin = s.twin := rfl
@[simp] theorem State.modPtp_fabric (s : State) (f : Ptp → Ptp) : (s.modPtp f).fabric = s.fabric := rfl
@[simp] theorem State.modPtp_health (s : State) (f : Ptp → Ptp) : (s.modPtp f).health = s.health := rfl
@[simp] theorem State.modPtp_power (s : State) (f : Ptp → Ptp) : (s.modPtp f).power = s.power := rfl
@[simp] theorem State.modPtp_crate (s : State) (f : Ptp → Ptp) : (s.modPtp f).crate = s.crate := rfl
@[simp] theorem State.modPtp_free (s : State) (f : Ptp → Ptp) : (s.modPtp f).free = s.free := rfl
@[simp] theorem State.modPtp_out (s : State) (f : Ptp → Ptp) : (s.modPtp f).out = s.out := rfl

/-! ### modRef -/

@[simp] theorem State.modRef_pending (s : State) (code : Nat) (f : RefInput → RefInput) : (s.modRef code f).pending = s.pending := rfl
@[simp] theorem State.modRef_ident (s : State) (code : Nat) (f : RefInput → RefInput) : (s.modRef code f).ident = s.ident := rfl
@[simp] theorem State.modRef_mail (s : State) (code : Nat) (f : RefInput → RefInput) : (s.modRef code f).mail = s.mail := rfl
@[simp] theorem State.modRef_lease (s : State) (code : Nat) (f : RefInput → RefInput) : (s.modRef code f).lease = s.lease := rfl
@[simp] theorem State.modRef_cfg (s : State) (code : Nat) (f : RefInput → RefInput) : (s.modRef code f).cfg = s.cfg := rfl
@[simp] theorem State.modRef_events (s : State) (code : Nat) (f : RefInput → RefInput) : (s.modRef code f).events = s.events := rfl
@[simp] theorem State.modRef_intr (s : State) (code : Nat) (f : RefInput → RefInput) : (s.modRef code f).intr = s.intr := rfl
@[simp] theorem State.modRef_dma (s : State) (code : Nat) (f : RefInput → RefInput) : (s.modRef code f).dma = s.dma := rfl
@[simp] theorem State.modRef_regs (s : State) (code : Nat) (f : RefInput → RefInput) : (s.modRef code f).regs = s.regs := rfl
@[simp] theorem State.modRef_mgmt (s : State) (code : Nat) (f : RefInput → RefInput) : (s.modRef code f).mgmt = s.mgmt := rfl
@[simp] theorem State.modRef_data (s : State) (code : Nat) (f : RefInput → RefInput) : (s.modRef code f).data = s.data := rfl
@[simp] theorem State.modRef_lanes (s : State) (code : Nat) (f : RefInput → RefInput) : (s.modRef code f).lanes = s.lanes := rfl
@[simp] theorem State.modRef_cal (s : State) (code : Nat) (f : RefInput → RefInput) : (s.modRef code f).cal = s.cal := rfl
@[simp] theorem State.modRef_twin (s : State) (code : Nat) (f : RefInput → RefInput) : (s.modRef code f).twin = s.twin := rfl
@[simp] theorem State.modRef_fabric (s : State) (code : Nat) (f : RefInput → RefInput) : (s.modRef code f).fabric = s.fabric := rfl
@[simp] theorem State.modRef_health (s : State) (code : Nat) (f : RefInput → RefInput) : (s.modRef code f).health = s.health := rfl
@[simp] theorem State.modRef_power (s : State) (code : Nat) (f : RefInput → RefInput) : (s.modRef code f).power = s.power := rfl
@[simp] theorem State.modRef_crate (s : State) (code : Nat) (f : RefInput → RefInput) : (s.modRef code f).crate = s.crate := rfl
@[simp] theorem State.modRef_free (s : State) (code : Nat) (f : RefInput → RefInput) : (s.modRef code f).free = s.free := rfl
@[simp] theorem State.modRef_out (s : State) (code : Nat) (f : RefInput → RefInput) : (s.modRef code f).out = s.out := rfl

/-! ### setTimeNs -/

@[simp] theorem State.setTimeNs_pending (s : State) (t : Nat) : (s.setTimeNs t).pending = s.pending := rfl
@[simp] theorem State.setTimeNs_ident (s : State) (t : Nat) : (s.setTimeNs t).ident = s.ident := rfl
@[simp] theorem State.setTimeNs_mail (s : State) (t : Nat) : (s.setTimeNs t).mail = s.mail := rfl
@[simp] theorem State.setTimeNs_lease (s : State) (t : Nat) : (s.setTimeNs t).lease = s.lease := rfl
@[simp] theorem State.setTimeNs_cfg (s : State) (t : Nat) : (s.setTimeNs t).cfg = s.cfg := rfl
@[simp] theorem State.setTimeNs_events (s : State) (t : Nat) : (s.setTimeNs t).events = s.events := rfl
@[simp] theorem State.setTimeNs_intr (s : State) (t : Nat) : (s.setTimeNs t).intr = s.intr := rfl
@[simp] theorem State.setTimeNs_dma (s : State) (t : Nat) : (s.setTimeNs t).dma = s.dma := rfl
@[simp] theorem State.setTimeNs_regs (s : State) (t : Nat) : (s.setTimeNs t).regs = s.regs := rfl
@[simp] theorem State.setTimeNs_mgmt (s : State) (t : Nat) : (s.setTimeNs t).mgmt = s.mgmt := rfl
@[simp] theorem State.setTimeNs_data (s : State) (t : Nat) : (s.setTimeNs t).data = s.data := rfl
@[simp] theorem State.setTimeNs_lanes (s : State) (t : Nat) : (s.setTimeNs t).lanes = s.lanes := rfl
@[simp] theorem State.setTimeNs_cal (s : State) (t : Nat) : (s.setTimeNs t).cal = s.cal := rfl
@[simp] theorem State.setTimeNs_twin (s : State) (t : Nat) : (s.setTimeNs t).twin = s.twin := rfl
@[simp] theorem State.setTimeNs_fabric (s : State) (t : Nat) : (s.setTimeNs t).fabric = s.fabric := rfl
@[simp] theorem State.setTimeNs_health (s : State) (t : Nat) : (s.setTimeNs t).health = s.health := rfl
@[simp] theorem State.setTimeNs_power (s : State) (t : Nat) : (s.setTimeNs t).power = s.power := rfl
@[simp] theorem State.setTimeNs_crate (s : State) (t : Nat) : (s.setTimeNs t).crate = s.crate := rfl
@[simp] theorem State.setTimeNs_free (s : State) (t : Nat) : (s.setTimeNs t).free = s.free := rfl
@[simp] theorem State.setTimeNs_out (s : State) (t : Nat) : (s.setTimeNs t).out = s.out := rfl

/-! ### modBox -/

@[simp] theorem State.modBox_pending (s : State) (m : Nat) (f : Mailbox → Mailbox) : (s.modBox m f).pending = s.pending := rfl
@[simp] theorem State.modBox_ident (s : State) (m : Nat) (f : Mailbox → Mailbox) : (s.modBox m f).ident = s.ident := rfl
@[simp] theorem State.modBox_mail (s : State) (m : Nat) (f : Mailbox → Mailbox) : (s.modBox m f).mail = { s.mail with boxes := s.mail.boxes.modify m f } := rfl
@[simp] theorem State.modBox_lease (s : State) (m : Nat) (f : Mailbox → Mailbox) : (s.modBox m f).lease = s.lease := rfl
@[simp] theorem State.modBox_cfg (s : State) (m : Nat) (f : Mailbox → Mailbox) : (s.modBox m f).cfg = s.cfg := rfl
@[simp] theorem State.modBox_events (s : State) (m : Nat) (f : Mailbox → Mailbox) : (s.modBox m f).events = s.events := rfl
@[simp] theorem State.modBox_intr (s : State) (m : Nat) (f : Mailbox → Mailbox) : (s.modBox m f).intr = s.intr := rfl
@[simp] theorem State.modBox_dma (s : State) (m : Nat) (f : Mailbox → Mailbox) : (s.modBox m f).dma = s.dma := rfl
@[simp] theorem State.modBox_regs (s : State) (m : Nat) (f : Mailbox → Mailbox) : (s.modBox m f).regs = s.regs := rfl
@[simp] theorem State.modBox_mgmt (s : State) (m : Nat) (f : Mailbox → Mailbox) : (s.modBox m f).mgmt = s.mgmt := rfl
@[simp] theorem State.modBox_data (s : State) (m : Nat) (f : Mailbox → Mailbox) : (s.modBox m f).data = s.data := rfl
@[simp] theorem State.modBox_lanes (s : State) (m : Nat) (f : Mailbox → Mailbox) : (s.modBox m f).lanes = s.lanes := rfl
@[simp] theorem State.modBox_clocks (s : State) (m : Nat) (f : Mailbox → Mailbox) : (s.modBox m f).clocks = s.clocks := rfl
@[simp] theorem State.modBox_cal (s : State) (m : Nat) (f : Mailbox → Mailbox) : (s.modBox m f).cal = s.cal := rfl
@[simp] theorem State.modBox_twin (s : State) (m : Nat) (f : Mailbox → Mailbox) : (s.modBox m f).twin = s.twin := rfl
@[simp] theorem State.modBox_fabric (s : State) (m : Nat) (f : Mailbox → Mailbox) : (s.modBox m f).fabric = s.fabric := rfl
@[simp] theorem State.modBox_health (s : State) (m : Nat) (f : Mailbox → Mailbox) : (s.modBox m f).health = s.health := rfl
@[simp] theorem State.modBox_power (s : State) (m : Nat) (f : Mailbox → Mailbox) : (s.modBox m f).power = s.power := rfl
@[simp] theorem State.modBox_crate (s : State) (m : Nat) (f : Mailbox → Mailbox) : (s.modBox m f).crate = s.crate := rfl
@[simp] theorem State.modBox_free (s : State) (m : Nat) (f : Mailbox → Mailbox) : (s.modBox m f).free = s.free := rfl
@[simp] theorem State.modBox_out (s : State) (m : Nat) (f : Mailbox → Mailbox) : (s.modBox m f).out = s.out := rfl

/-! ### park -/

@[simp] theorem State.park_pending (s : State) (r : Running) : (s.park r).pending = s.pending := rfl
@[simp] theorem State.park_ident (s : State) (r : Running) : (s.park r).ident = s.ident := rfl
@[simp] theorem State.park_lease (s : State) (r : Running) : (s.park r).lease = s.lease := rfl
@[simp] theorem State.park_cfg (s : State) (r : Running) : (s.park r).cfg = s.cfg := rfl
@[simp] theorem State.park_events (s : State) (r : Running) : (s.park r).events = s.events := rfl
@[simp] theorem State.park_intr (s : State) (r : Running) : (s.park r).intr = s.intr := rfl
@[simp] theorem State.park_dma (s : State) (r : Running) : (s.park r).dma = s.dma := rfl
@[simp] theorem State.park_regs (s : State) (r : Running) : (s.park r).regs = s.regs := rfl
@[simp] theorem State.park_mgmt (s : State) (r : Running) : (s.park r).mgmt = s.mgmt := rfl
@[simp] theorem State.park_data (s : State) (r : Running) : (s.park r).data = s.data := rfl
@[simp] theorem State.park_lanes (s : State) (r : Running) : (s.park r).lanes = s.lanes := rfl
@[simp] theorem State.park_clocks (s : State) (r : Running) : (s.park r).clocks = s.clocks := rfl
@[simp] theorem State.park_cal (s : State) (r : Running) : (s.park r).cal = s.cal := rfl
@[simp] theorem State.park_twin (s : State) (r : Running) : (s.park r).twin = s.twin := rfl
@[simp] theorem State.park_fabric (s : State) (r : Running) : (s.park r).fabric = s.fabric := rfl
@[simp] theorem State.park_health (s : State) (r : Running) : (s.park r).health = s.health := rfl
@[simp] theorem State.park_power (s : State) (r : Running) : (s.park r).power = s.power := rfl
@[simp] theorem State.park_crate (s : State) (r : Running) : (s.park r).crate = s.crate := rfl
@[simp] theorem State.park_free (s : State) (r : Running) : (s.park r).free = s.free := rfl
@[simp] theorem State.park_out (s : State) (r : Running) : (s.park r).out = s.out := rfl

/-! ### stage -/

@[simp] theorem State.stage_pending (s : State) (x : Staged) : (s.stage x).pending = s.pending := rfl
@[simp] theorem State.stage_ident (s : State) (x : Staged) : (s.stage x).ident = s.ident := rfl
@[simp] theorem State.stage_mail (s : State) (x : Staged) : (s.stage x).mail = s.mail := rfl
@[simp] theorem State.stage_lease (s : State) (x : Staged) : (s.stage x).lease = { s.lease with staged := s.lease.staged ++ [x] } := rfl
@[simp] theorem State.stage_cfg (s : State) (x : Staged) : (s.stage x).cfg = s.cfg := rfl
@[simp] theorem State.stage_events (s : State) (x : Staged) : (s.stage x).events = s.events := rfl
@[simp] theorem State.stage_intr (s : State) (x : Staged) : (s.stage x).intr = s.intr := rfl
@[simp] theorem State.stage_dma (s : State) (x : Staged) : (s.stage x).dma = s.dma := rfl
@[simp] theorem State.stage_regs (s : State) (x : Staged) : (s.stage x).regs = s.regs := rfl
@[simp] theorem State.stage_mgmt (s : State) (x : Staged) : (s.stage x).mgmt = s.mgmt := rfl
@[simp] theorem State.stage_data (s : State) (x : Staged) : (s.stage x).data = s.data := rfl
@[simp] theorem State.stage_lanes (s : State) (x : Staged) : (s.stage x).lanes = s.lanes := rfl
@[simp] theorem State.stage_clocks (s : State) (x : Staged) : (s.stage x).clocks = s.clocks := rfl
@[simp] theorem State.stage_cal (s : State) (x : Staged) : (s.stage x).cal = s.cal := rfl
@[simp] theorem State.stage_twin (s : State) (x : Staged) : (s.stage x).twin = s.twin := rfl
@[simp] theorem State.stage_fabric (s : State) (x : Staged) : (s.stage x).fabric = s.fabric := rfl
@[simp] theorem State.stage_health (s : State) (x : Staged) : (s.stage x).health = s.health := rfl
@[simp] theorem State.stage_power (s : State) (x : Staged) : (s.stage x).power = s.power := rfl
@[simp] theorem State.stage_crate (s : State) (x : Staged) : (s.stage x).crate = s.crate := rfl
@[simp] theorem State.stage_free (s : State) (x : Staged) : (s.stage x).free = s.free := rfl
@[simp] theorem State.stage_out (s : State) (x : Staged) : (s.stage x).out = s.out := rfl

/-! ### modCrate -/

@[simp] theorem State.modCrate_pending (s : State) (f : Crate → Crate) : (s.modCrate f).pending = s.pending := rfl
@[simp] theorem State.modCrate_ident (s : State) (f : Crate → Crate) : (s.modCrate f).ident = s.ident := rfl
@[simp] theorem State.modCrate_mail (s : State) (f : Crate → Crate) : (s.modCrate f).mail = s.mail := rfl
@[simp] theorem State.modCrate_lease (s : State) (f : Crate → Crate) : (s.modCrate f).lease = s.lease := rfl
@[simp] theorem State.modCrate_cfg (s : State) (f : Crate → Crate) : (s.modCrate f).cfg = s.cfg := rfl
@[simp] theorem State.modCrate_events (s : State) (f : Crate → Crate) : (s.modCrate f).events = s.events := rfl
@[simp] theorem State.modCrate_intr (s : State) (f : Crate → Crate) : (s.modCrate f).intr = s.intr := rfl
@[simp] theorem State.modCrate_dma (s : State) (f : Crate → Crate) : (s.modCrate f).dma = s.dma := rfl
@[simp] theorem State.modCrate_regs (s : State) (f : Crate → Crate) : (s.modCrate f).regs = s.regs := rfl
@[simp] theorem State.modCrate_mgmt (s : State) (f : Crate → Crate) : (s.modCrate f).mgmt = s.mgmt := rfl
@[simp] theorem State.modCrate_data (s : State) (f : Crate → Crate) : (s.modCrate f).data = s.data := rfl
@[simp] theorem State.modCrate_lanes (s : State) (f : Crate → Crate) : (s.modCrate f).lanes = s.lanes := rfl
@[simp] theorem State.modCrate_clocks (s : State) (f : Crate → Crate) : (s.modCrate f).clocks = s.clocks := rfl
@[simp] theorem State.modCrate_cal (s : State) (f : Crate → Crate) : (s.modCrate f).cal = s.cal := rfl
@[simp] theorem State.modCrate_twin (s : State) (f : Crate → Crate) : (s.modCrate f).twin = s.twin := rfl
@[simp] theorem State.modCrate_fabric (s : State) (f : Crate → Crate) : (s.modCrate f).fabric = s.fabric := rfl
@[simp] theorem State.modCrate_health (s : State) (f : Crate → Crate) : (s.modCrate f).health = s.health := rfl
@[simp] theorem State.modCrate_power (s : State) (f : Crate → Crate) : (s.modCrate f).power = s.power := rfl
@[simp] theorem State.modCrate_crate (s : State) (f : Crate → Crate) : (s.modCrate f).crate = f s.crate := rfl
@[simp] theorem State.modCrate_free (s : State) (f : Crate → Crate) : (s.modCrate f).free = s.free := rfl
@[simp] theorem State.modCrate_out (s : State) (f : Crate → Crate) : (s.modCrate f).out = s.out := rfl

/-! ### modSleep -/

@[simp] theorem State.modSleep_pending (s : State) (f : Sleep → Sleep) : (s.modSleep f).pending = s.pending := rfl
@[simp] theorem State.modSleep_ident (s : State) (f : Sleep → Sleep) : (s.modSleep f).ident = s.ident := rfl
@[simp] theorem State.modSleep_mail (s : State) (f : Sleep → Sleep) : (s.modSleep f).mail = s.mail := rfl
@[simp] theorem State.modSleep_lease (s : State) (f : Sleep → Sleep) : (s.modSleep f).lease = s.lease := rfl
@[simp] theorem State.modSleep_cfg (s : State) (f : Sleep → Sleep) : (s.modSleep f).cfg = s.cfg := rfl
@[simp] theorem State.modSleep_events (s : State) (f : Sleep → Sleep) : (s.modSleep f).events = s.events := rfl
@[simp] theorem State.modSleep_intr (s : State) (f : Sleep → Sleep) : (s.modSleep f).intr = s.intr := rfl
@[simp] theorem State.modSleep_dma (s : State) (f : Sleep → Sleep) : (s.modSleep f).dma = s.dma := rfl
@[simp] theorem State.modSleep_regs (s : State) (f : Sleep → Sleep) : (s.modSleep f).regs = s.regs := rfl
@[simp] theorem State.modSleep_mgmt (s : State) (f : Sleep → Sleep) : (s.modSleep f).mgmt = s.mgmt := rfl
@[simp] theorem State.modSleep_data (s : State) (f : Sleep → Sleep) : (s.modSleep f).data = s.data := rfl
@[simp] theorem State.modSleep_lanes (s : State) (f : Sleep → Sleep) : (s.modSleep f).lanes = s.lanes := rfl
@[simp] theorem State.modSleep_clocks (s : State) (f : Sleep → Sleep) : (s.modSleep f).clocks = s.clocks := rfl
@[simp] theorem State.modSleep_cal (s : State) (f : Sleep → Sleep) : (s.modSleep f).cal = s.cal := rfl
@[simp] theorem State.modSleep_twin (s : State) (f : Sleep → Sleep) : (s.modSleep f).twin = s.twin := rfl
@[simp] theorem State.modSleep_fabric (s : State) (f : Sleep → Sleep) : (s.modSleep f).fabric = s.fabric := rfl
@[simp] theorem State.modSleep_health (s : State) (f : Sleep → Sleep) : (s.modSleep f).health = s.health := rfl
@[simp] theorem State.modSleep_power (s : State) (f : Sleep → Sleep) : (s.modSleep f).power = s.power := rfl
@[simp] theorem State.modSleep_crate (s : State) (f : Sleep → Sleep) : (s.modSleep f).crate = { s.crate with sleep := f s.crate.sleep } := rfl
@[simp] theorem State.modSleep_free (s : State) (f : Sleep → Sleep) : (s.modSleep f).free = s.free := rfl
@[simp] theorem State.modSleep_out (s : State) (f : Sleep → Sleep) : (s.modSleep f).out = s.out := rfl

/-! ### modFw -/

@[simp] theorem State.modFw_pending (s : State) (f : Firmware → Firmware) : (s.modFw f).pending = s.pending := rfl
@[simp] theorem State.modFw_ident (s : State) (f : Firmware → Firmware) : (s.modFw f).ident = s.ident := rfl
@[simp] theorem State.modFw_mail (s : State) (f : Firmware → Firmware) : (s.modFw f).mail = s.mail := rfl
@[simp] theorem State.modFw_lease (s : State) (f : Firmware → Firmware) : (s.modFw f).lease = s.lease := rfl
@[simp] theorem State.modFw_cfg (s : State) (f : Firmware → Firmware) : (s.modFw f).cfg = s.cfg := rfl
@[simp] theorem State.modFw_events (s : State) (f : Firmware → Firmware) : (s.modFw f).events = s.events := rfl
@[simp] theorem State.modFw_intr (s : State) (f : Firmware → Firmware) : (s.modFw f).intr = s.intr := rfl
@[simp] theorem State.modFw_dma (s : State) (f : Firmware → Firmware) : (s.modFw f).dma = s.dma := rfl
@[simp] theorem State.modFw_regs (s : State) (f : Firmware → Firmware) : (s.modFw f).regs = s.regs := rfl
@[simp] theorem State.modFw_mgmt (s : State) (f : Firmware → Firmware) : (s.modFw f).mgmt = s.mgmt := rfl
@[simp] theorem State.modFw_data (s : State) (f : Firmware → Firmware) : (s.modFw f).data = s.data := rfl
@[simp] theorem State.modFw_lanes (s : State) (f : Firmware → Firmware) : (s.modFw f).lanes = s.lanes := rfl
@[simp] theorem State.modFw_clocks (s : State) (f : Firmware → Firmware) : (s.modFw f).clocks = s.clocks := rfl
@[simp] theorem State.modFw_cal (s : State) (f : Firmware → Firmware) : (s.modFw f).cal = s.cal := rfl
@[simp] theorem State.modFw_twin (s : State) (f : Firmware → Firmware) : (s.modFw f).twin = s.twin := rfl
@[simp] theorem State.modFw_fabric (s : State) (f : Firmware → Firmware) : (s.modFw f).fabric = s.fabric := rfl
@[simp] theorem State.modFw_health (s : State) (f : Firmware → Firmware) : (s.modFw f).health = { s.health with fw := f s.health.fw } := rfl
@[simp] theorem State.modFw_power (s : State) (f : Firmware → Firmware) : (s.modFw f).power = s.power := rfl
@[simp] theorem State.modFw_crate (s : State) (f : Firmware → Firmware) : (s.modFw f).crate = s.crate := rfl
@[simp] theorem State.modFw_free (s : State) (f : Firmware → Firmware) : (s.modFw f).free = s.free := rfl
@[simp] theorem State.modFw_out (s : State) (f : Firmware → Firmware) : (s.modFw f).out = s.out := rfl

/-! ### modGuard -/

@[simp] theorem State.modGuard_pending (s : State) (d : Nat) (f : Guard → Guard) : (s.modGuard d f).pending = s.pending := rfl
@[simp] theorem State.modGuard_ident (s : State) (d : Nat) (f : Guard → Guard) : (s.modGuard d f).ident = s.ident := rfl
@[simp] theorem State.modGuard_mail (s : State) (d : Nat) (f : Guard → Guard) : (s.modGuard d f).mail = s.mail := rfl
@[simp] theorem State.modGuard_lease (s : State) (d : Nat) (f : Guard → Guard) : (s.modGuard d f).lease = s.lease := rfl
@[simp] theorem State.modGuard_cfg (s : State) (d : Nat) (f : Guard → Guard) : (s.modGuard d f).cfg = s.cfg := rfl
@[simp] theorem State.modGuard_events (s : State) (d : Nat) (f : Guard → Guard) : (s.modGuard d f).events = s.events := rfl
@[simp] theorem State.modGuard_intr (s : State) (d : Nat) (f : Guard → Guard) : (s.modGuard d f).intr = s.intr := rfl
@[simp] theorem State.modGuard_dma (s : State) (d : Nat) (f : Guard → Guard) : (s.modGuard d f).dma = s.dma := rfl
@[simp] theorem State.modGuard_regs (s : State) (d : Nat) (f : Guard → Guard) : (s.modGuard d f).regs = s.regs := rfl
@[simp] theorem State.modGuard_mgmt (s : State) (d : Nat) (f : Guard → Guard) : (s.modGuard d f).mgmt = s.mgmt := rfl
@[simp] theorem State.modGuard_data (s : State) (d : Nat) (f : Guard → Guard) : (s.modGuard d f).data = s.data := rfl
@[simp] theorem State.modGuard_lanes (s : State) (d : Nat) (f : Guard → Guard) : (s.modGuard d f).lanes = s.lanes := rfl
@[simp] theorem State.modGuard_clocks (s : State) (d : Nat) (f : Guard → Guard) : (s.modGuard d f).clocks = s.clocks := rfl
@[simp] theorem State.modGuard_cal (s : State) (d : Nat) (f : Guard → Guard) : (s.modGuard d f).cal = s.cal := rfl
@[simp] theorem State.modGuard_twin (s : State) (d : Nat) (f : Guard → Guard) : (s.modGuard d f).twin = s.twin := rfl
@[simp] theorem State.modGuard_fabric (s : State) (d : Nat) (f : Guard → Guard) : (s.modGuard d f).fabric = s.fabric := rfl
@[simp] theorem State.modGuard_health (s : State) (d : Nat) (f : Guard → Guard) : (s.modGuard d f).health = { s.health with guards := s.health.guards.modify d f } := rfl
@[simp] theorem State.modGuard_power (s : State) (d : Nat) (f : Guard → Guard) : (s.modGuard d f).power = s.power := rfl
@[simp] theorem State.modGuard_crate (s : State) (d : Nat) (f : Guard → Guard) : (s.modGuard d f).crate = s.crate := rfl
@[simp] theorem State.modGuard_free (s : State) (d : Nat) (f : Guard → Guard) : (s.modGuard d f).free = s.free := rfl
@[simp] theorem State.modGuard_out (s : State) (d : Nat) (f : Guard → Guard) : (s.modGuard d f).out = s.out := rfl

/-! ### modKiln -/

@[simp] theorem State.modKiln_pending (s : State) (e : KilnElement) (f : KilnRecord → KilnRecord) : (s.modKiln e f).pending = s.pending := rfl
@[simp] theorem State.modKiln_ident (s : State) (e : KilnElement) (f : KilnRecord → KilnRecord) : (s.modKiln e f).ident = s.ident := rfl
@[simp] theorem State.modKiln_mail (s : State) (e : KilnElement) (f : KilnRecord → KilnRecord) : (s.modKiln e f).mail = s.mail := rfl
@[simp] theorem State.modKiln_lease (s : State) (e : KilnElement) (f : KilnRecord → KilnRecord) : (s.modKiln e f).lease = s.lease := rfl
@[simp] theorem State.modKiln_cfg (s : State) (e : KilnElement) (f : KilnRecord → KilnRecord) : (s.modKiln e f).cfg = s.cfg := rfl
@[simp] theorem State.modKiln_events (s : State) (e : KilnElement) (f : KilnRecord → KilnRecord) : (s.modKiln e f).events = s.events := rfl
@[simp] theorem State.modKiln_intr (s : State) (e : KilnElement) (f : KilnRecord → KilnRecord) : (s.modKiln e f).intr = s.intr := rfl
@[simp] theorem State.modKiln_dma (s : State) (e : KilnElement) (f : KilnRecord → KilnRecord) : (s.modKiln e f).dma = s.dma := rfl
@[simp] theorem State.modKiln_regs (s : State) (e : KilnElement) (f : KilnRecord → KilnRecord) : (s.modKiln e f).regs = s.regs := rfl
@[simp] theorem State.modKiln_mgmt (s : State) (e : KilnElement) (f : KilnRecord → KilnRecord) : (s.modKiln e f).mgmt = s.mgmt := rfl
@[simp] theorem State.modKiln_data (s : State) (e : KilnElement) (f : KilnRecord → KilnRecord) : (s.modKiln e f).data = s.data := rfl
@[simp] theorem State.modKiln_lanes (s : State) (e : KilnElement) (f : KilnRecord → KilnRecord) : (s.modKiln e f).lanes = s.lanes := rfl
@[simp] theorem State.modKiln_clocks (s : State) (e : KilnElement) (f : KilnRecord → KilnRecord) : (s.modKiln e f).clocks = s.clocks := rfl
@[simp] theorem State.modKiln_cal (s : State) (e : KilnElement) (f : KilnRecord → KilnRecord) : (s.modKiln e f).cal = s.cal := rfl
@[simp] theorem State.modKiln_twin (s : State) (e : KilnElement) (f : KilnRecord → KilnRecord) : (s.modKiln e f).twin = s.twin := rfl
@[simp] theorem State.modKiln_fabric (s : State) (e : KilnElement) (f : KilnRecord → KilnRecord) : (s.modKiln e f).fabric = s.fabric := rfl
@[simp] theorem State.modKiln_power (s : State) (e : KilnElement) (f : KilnRecord → KilnRecord) : (s.modKiln e f).power = s.power := rfl
@[simp] theorem State.modKiln_crate (s : State) (e : KilnElement) (f : KilnRecord → KilnRecord) : (s.modKiln e f).crate = s.crate := rfl
@[simp] theorem State.modKiln_free (s : State) (e : KilnElement) (f : KilnRecord → KilnRecord) : (s.modKiln e f).free = s.free := rfl
@[simp] theorem State.modKiln_out (s : State) (e : KilnElement) (f : KilnRecord → KilnRecord) : (s.modKiln e f).out = s.out := rfl

/-! ### modRx -/

@[simp] theorem State.modRx_pending (s : State) (n : Nat) (f : RxLane → RxLane) : (s.modRx n f).pending = s.pending := rfl
@[simp] theorem State.modRx_ident (s : State) (n : Nat) (f : RxLane → RxLane) : (s.modRx n f).ident = s.ident := rfl
@[simp] theorem State.modRx_mail (s : State) (n : Nat) (f : RxLane → RxLane) : (s.modRx n f).mail = s.mail := rfl
@[simp] theorem State.modRx_lease (s : State) (n : Nat) (f : RxLane → RxLane) : (s.modRx n f).lease = s.lease := rfl
@[simp] theorem State.modRx_cfg (s : State) (n : Nat) (f : RxLane → RxLane) : (s.modRx n f).cfg = s.cfg := rfl
@[simp] theorem State.modRx_events (s : State) (n : Nat) (f : RxLane → RxLane) : (s.modRx n f).events = s.events := rfl
@[simp] theorem State.modRx_intr (s : State) (n : Nat) (f : RxLane → RxLane) : (s.modRx n f).intr = s.intr := rfl
@[simp] theorem State.modRx_dma (s : State) (n : Nat) (f : RxLane → RxLane) : (s.modRx n f).dma = s.dma := rfl
@[simp] theorem State.modRx_regs (s : State) (n : Nat) (f : RxLane → RxLane) : (s.modRx n f).regs = s.regs := rfl
@[simp] theorem State.modRx_mgmt (s : State) (n : Nat) (f : RxLane → RxLane) : (s.modRx n f).mgmt = s.mgmt := rfl
@[simp] theorem State.modRx_data (s : State) (n : Nat) (f : RxLane → RxLane) : (s.modRx n f).data = s.data := rfl
@[simp] theorem State.modRx_lanes (s : State) (n : Nat) (f : RxLane → RxLane) : (s.modRx n f).lanes = { s.lanes with rx := s.lanes.rx.modify n f } := rfl
@[simp] theorem State.modRx_clocks (s : State) (n : Nat) (f : RxLane → RxLane) : (s.modRx n f).clocks = s.clocks := rfl
@[simp] theorem State.modRx_cal (s : State) (n : Nat) (f : RxLane → RxLane) : (s.modRx n f).cal = s.cal := rfl
@[simp] theorem State.modRx_twin (s : State) (n : Nat) (f : RxLane → RxLane) : (s.modRx n f).twin = s.twin := rfl
@[simp] theorem State.modRx_fabric (s : State) (n : Nat) (f : RxLane → RxLane) : (s.modRx n f).fabric = s.fabric := rfl
@[simp] theorem State.modRx_health (s : State) (n : Nat) (f : RxLane → RxLane) : (s.modRx n f).health = s.health := rfl
@[simp] theorem State.modRx_power (s : State) (n : Nat) (f : RxLane → RxLane) : (s.modRx n f).power = s.power := rfl
@[simp] theorem State.modRx_crate (s : State) (n : Nat) (f : RxLane → RxLane) : (s.modRx n f).crate = s.crate := rfl
@[simp] theorem State.modRx_free (s : State) (n : Nat) (f : RxLane → RxLane) : (s.modRx n f).free = s.free := rfl
@[simp] theorem State.modRx_out (s : State) (n : Nat) (f : RxLane → RxLane) : (s.modRx n f).out = s.out := rfl

/-! ### modTx -/

@[simp] theorem State.modTx_pending (s : State) (n : Nat) (f : TxLane → TxLane) : (s.modTx n f).pending = s.pending := rfl
@[simp] theorem State.modTx_ident (s : State) (n : Nat) (f : TxLane → TxLane) : (s.modTx n f).ident = s.ident := rfl
@[simp] theorem State.modTx_mail (s : State) (n : Nat) (f : TxLane → TxLane) : (s.modTx n f).mail = s.mail := rfl
@[simp] theorem State.modTx_lease (s : State) (n : Nat) (f : TxLane → TxLane) : (s.modTx n f).lease = s.lease := rfl
@[simp] theorem State.modTx_cfg (s : State) (n : Nat) (f : TxLane → TxLane) : (s.modTx n f).cfg = s.cfg := rfl
@[simp] theorem State.modTx_events (s : State) (n : Nat) (f : TxLane → TxLane) : (s.modTx n f).events = s.events := rfl
@[simp] theorem State.modTx_intr (s : State) (n : Nat) (f : TxLane → TxLane) : (s.modTx n f).intr = s.intr := rfl
@[simp] theorem State.modTx_dma (s : State) (n : Nat) (f : TxLane → TxLane) : (s.modTx n f).dma = s.dma := rfl
@[simp] theorem State.modTx_regs (s : State) (n : Nat) (f : TxLane → TxLane) : (s.modTx n f).regs = s.regs := rfl
@[simp] theorem State.modTx_mgmt (s : State) (n : Nat) (f : TxLane → TxLane) : (s.modTx n f).mgmt = s.mgmt := rfl
@[simp] theorem State.modTx_data (s : State) (n : Nat) (f : TxLane → TxLane) : (s.modTx n f).data = s.data := rfl
@[simp] theorem State.modTx_lanes (s : State) (n : Nat) (f : TxLane → TxLane) : (s.modTx n f).lanes = { s.lanes with tx := s.lanes.tx.modify n f } := rfl
@[simp] theorem State.modTx_clocks (s : State) (n : Nat) (f : TxLane → TxLane) : (s.modTx n f).clocks = s.clocks := rfl
@[simp] theorem State.modTx_cal (s : State) (n : Nat) (f : TxLane → TxLane) : (s.modTx n f).cal = s.cal := rfl
@[simp] theorem State.modTx_twin (s : State) (n : Nat) (f : TxLane → TxLane) : (s.modTx n f).twin = s.twin := rfl
@[simp] theorem State.modTx_fabric (s : State) (n : Nat) (f : TxLane → TxLane) : (s.modTx n f).fabric = s.fabric := rfl
@[simp] theorem State.modTx_health (s : State) (n : Nat) (f : TxLane → TxLane) : (s.modTx n f).health = s.health := rfl
@[simp] theorem State.modTx_power (s : State) (n : Nat) (f : TxLane → TxLane) : (s.modTx n f).power = s.power := rfl
@[simp] theorem State.modTx_crate (s : State) (n : Nat) (f : TxLane → TxLane) : (s.modTx n f).crate = s.crate := rfl
@[simp] theorem State.modTx_free (s : State) (n : Nat) (f : TxLane → TxLane) : (s.modTx n f).free = s.free := rfl
@[simp] theorem State.modTx_out (s : State) (n : Nat) (f : TxLane → TxLane) : (s.modTx n f).out = s.out := rfl

/-! ### modTwinRx -/

@[simp] theorem State.modTwinRx_pending (s : State) (n : Nat) (f : RxLane → RxLane) : (s.modTwinRx n f).pending = s.pending := rfl
@[simp] theorem State.modTwinRx_ident (s : State) (n : Nat) (f : RxLane → RxLane) : (s.modTwinRx n f).ident = s.ident := rfl
@[simp] theorem State.modTwinRx_mail (s : State) (n : Nat) (f : RxLane → RxLane) : (s.modTwinRx n f).mail = s.mail := rfl
@[simp] theorem State.modTwinRx_lease (s : State) (n : Nat) (f : RxLane → RxLane) : (s.modTwinRx n f).lease = s.lease := rfl
@[simp] theorem State.modTwinRx_cfg (s : State) (n : Nat) (f : RxLane → RxLane) : (s.modTwinRx n f).cfg = s.cfg := rfl
@[simp] theorem State.modTwinRx_events (s : State) (n : Nat) (f : RxLane → RxLane) : (s.modTwinRx n f).events = s.events := rfl
@[simp] theorem State.modTwinRx_intr (s : State) (n : Nat) (f : RxLane → RxLane) : (s.modTwinRx n f).intr = s.intr := rfl
@[simp] theorem State.modTwinRx_dma (s : State) (n : Nat) (f : RxLane → RxLane) : (s.modTwinRx n f).dma = s.dma := rfl
@[simp] theorem State.modTwinRx_regs (s : State) (n : Nat) (f : RxLane → RxLane) : (s.modTwinRx n f).regs = s.regs := rfl
@[simp] theorem State.modTwinRx_mgmt (s : State) (n : Nat) (f : RxLane → RxLane) : (s.modTwinRx n f).mgmt = s.mgmt := rfl
@[simp] theorem State.modTwinRx_data (s : State) (n : Nat) (f : RxLane → RxLane) : (s.modTwinRx n f).data = s.data := rfl
@[simp] theorem State.modTwinRx_lanes (s : State) (n : Nat) (f : RxLane → RxLane) : (s.modTwinRx n f).lanes = { s.lanes with twinRx := s.lanes.twinRx.modify n f } := rfl
@[simp] theorem State.modTwinRx_clocks (s : State) (n : Nat) (f : RxLane → RxLane) : (s.modTwinRx n f).clocks = s.clocks := rfl
@[simp] theorem State.modTwinRx_cal (s : State) (n : Nat) (f : RxLane → RxLane) : (s.modTwinRx n f).cal = s.cal := rfl
@[simp] theorem State.modTwinRx_twin (s : State) (n : Nat) (f : RxLane → RxLane) : (s.modTwinRx n f).twin = s.twin := rfl
@[simp] theorem State.modTwinRx_fabric (s : State) (n : Nat) (f : RxLane → RxLane) : (s.modTwinRx n f).fabric = s.fabric := rfl
@[simp] theorem State.modTwinRx_health (s : State) (n : Nat) (f : RxLane → RxLane) : (s.modTwinRx n f).health = s.health := rfl
@[simp] theorem State.modTwinRx_power (s : State) (n : Nat) (f : RxLane → RxLane) : (s.modTwinRx n f).power = s.power := rfl
@[simp] theorem State.modTwinRx_crate (s : State) (n : Nat) (f : RxLane → RxLane) : (s.modTwinRx n f).crate = s.crate := rfl
@[simp] theorem State.modTwinRx_free (s : State) (n : Nat) (f : RxLane → RxLane) : (s.modTwinRx n f).free = s.free := rfl
@[simp] theorem State.modTwinRx_out (s : State) (n : Nat) (f : RxLane → RxLane) : (s.modTwinRx n f).out = s.out := rfl

/-! ### modTwinTx -/

@[simp] theorem State.modTwinTx_pending (s : State) (k : Nat) (f : TxLane → TxLane) : (s.modTwinTx k f).pending = s.pending := rfl
@[simp] theorem State.modTwinTx_ident (s : State) (k : Nat) (f : TxLane → TxLane) : (s.modTwinTx k f).ident = s.ident := rfl
@[simp] theorem State.modTwinTx_mail (s : State) (k : Nat) (f : TxLane → TxLane) : (s.modTwinTx k f).mail = s.mail := rfl
@[simp] theorem State.modTwinTx_lease (s : State) (k : Nat) (f : TxLane → TxLane) : (s.modTwinTx k f).lease = s.lease := rfl
@[simp] theorem State.modTwinTx_cfg (s : State) (k : Nat) (f : TxLane → TxLane) : (s.modTwinTx k f).cfg = s.cfg := rfl
@[simp] theorem State.modTwinTx_events (s : State) (k : Nat) (f : TxLane → TxLane) : (s.modTwinTx k f).events = s.events := rfl
@[simp] theorem State.modTwinTx_intr (s : State) (k : Nat) (f : TxLane → TxLane) : (s.modTwinTx k f).intr = s.intr := rfl
@[simp] theorem State.modTwinTx_dma (s : State) (k : Nat) (f : TxLane → TxLane) : (s.modTwinTx k f).dma = s.dma := rfl
@[simp] theorem State.modTwinTx_regs (s : State) (k : Nat) (f : TxLane → TxLane) : (s.modTwinTx k f).regs = s.regs := rfl
@[simp] theorem State.modTwinTx_mgmt (s : State) (k : Nat) (f : TxLane → TxLane) : (s.modTwinTx k f).mgmt = s.mgmt := rfl
@[simp] theorem State.modTwinTx_data (s : State) (k : Nat) (f : TxLane → TxLane) : (s.modTwinTx k f).data = s.data := rfl
@[simp] theorem State.modTwinTx_lanes (s : State) (k : Nat) (f : TxLane → TxLane) : (s.modTwinTx k f).lanes = { s.lanes with twinTx := s.lanes.twinTx.modify k f } := rfl
@[simp] theorem State.modTwinTx_clocks (s : State) (k : Nat) (f : TxLane → TxLane) : (s.modTwinTx k f).clocks = s.clocks := rfl
@[simp] theorem State.modTwinTx_cal (s : State) (k : Nat) (f : TxLane → TxLane) : (s.modTwinTx k f).cal = s.cal := rfl
@[simp] theorem State.modTwinTx_twin (s : State) (k : Nat) (f : TxLane → TxLane) : (s.modTwinTx k f).twin = s.twin := rfl
@[simp] theorem State.modTwinTx_fabric (s : State) (k : Nat) (f : TxLane → TxLane) : (s.modTwinTx k f).fabric = s.fabric := rfl
@[simp] theorem State.modTwinTx_health (s : State) (k : Nat) (f : TxLane → TxLane) : (s.modTwinTx k f).health = s.health := rfl
@[simp] theorem State.modTwinTx_power (s : State) (k : Nat) (f : TxLane → TxLane) : (s.modTwinTx k f).power = s.power := rfl
@[simp] theorem State.modTwinTx_crate (s : State) (k : Nat) (f : TxLane → TxLane) : (s.modTwinTx k f).crate = s.crate := rfl
@[simp] theorem State.modTwinTx_free (s : State) (k : Nat) (f : TxLane → TxLane) : (s.modTwinTx k f).free = s.free := rfl
@[simp] theorem State.modTwinTx_out (s : State) (k : Nat) (f : TxLane → TxLane) : (s.modTwinTx k f).out = s.out := rfl

/-! ### modSpareRx -/

@[simp] theorem State.modSpareRx_pending (s : State) (d : Nat) (f : SpareRx → SpareRx) : (s.modSpareRx d f).pending = s.pending := rfl
@[simp] theorem State.modSpareRx_ident (s : State) (d : Nat) (f : SpareRx → SpareRx) : (s.modSpareRx d f).ident = s.ident := rfl
@[simp] theorem State.modSpareRx_mail (s : State) (d : Nat) (f : SpareRx → SpareRx) : (s.modSpareRx d f).mail = s.mail := rfl
@[simp] theorem State.modSpareRx_lease (s : State) (d : Nat) (f : SpareRx → SpareRx) : (s.modSpareRx d f).lease = s.lease := rfl
@[simp] theorem State.modSpareRx_cfg (s : State) (d : Nat) (f : SpareRx → SpareRx) : (s.modSpareRx d f).cfg = s.cfg := rfl
@[simp] theorem State.modSpareRx_events (s : State) (d : Nat) (f : SpareRx → SpareRx) : (s.modSpareRx d f).events = s.events := rfl
@[simp] theorem State.modSpareRx_intr (s : State) (d : Nat) (f : SpareRx → SpareRx) : (s.modSpareRx d f).intr = s.intr := rfl
@[simp] theorem State.modSpareRx_dma (s : State) (d : Nat) (f : SpareRx → SpareRx) : (s.modSpareRx d f).dma = s.dma := rfl
@[simp] theorem State.modSpareRx_regs (s : State) (d : Nat) (f : SpareRx → SpareRx) : (s.modSpareRx d f).regs = s.regs := rfl
@[simp] theorem State.modSpareRx_mgmt (s : State) (d : Nat) (f : SpareRx → SpareRx) : (s.modSpareRx d f).mgmt = s.mgmt := rfl
@[simp] theorem State.modSpareRx_data (s : State) (d : Nat) (f : SpareRx → SpareRx) : (s.modSpareRx d f).data = s.data := rfl
@[simp] theorem State.modSpareRx_lanes (s : State) (d : Nat) (f : SpareRx → SpareRx) : (s.modSpareRx d f).lanes = { s.lanes with spareRx := s.lanes.spareRx.modify d f } := rfl
@[simp] theorem State.modSpareRx_clocks (s : State) (d : Nat) (f : SpareRx → SpareRx) : (s.modSpareRx d f).clocks = s.clocks := rfl
@[simp] theorem State.modSpareRx_cal (s : State) (d : Nat) (f : SpareRx → SpareRx) : (s.modSpareRx d f).cal = s.cal := rfl
@[simp] theorem State.modSpareRx_twin (s : State) (d : Nat) (f : SpareRx → SpareRx) : (s.modSpareRx d f).twin = s.twin := rfl
@[simp] theorem State.modSpareRx_fabric (s : State) (d : Nat) (f : SpareRx → SpareRx) : (s.modSpareRx d f).fabric = s.fabric := rfl
@[simp] theorem State.modSpareRx_health (s : State) (d : Nat) (f : SpareRx → SpareRx) : (s.modSpareRx d f).health = s.health := rfl
@[simp] theorem State.modSpareRx_power (s : State) (d : Nat) (f : SpareRx → SpareRx) : (s.modSpareRx d f).power = s.power := rfl
@[simp] theorem State.modSpareRx_crate (s : State) (d : Nat) (f : SpareRx → SpareRx) : (s.modSpareRx d f).crate = s.crate := rfl
@[simp] theorem State.modSpareRx_free (s : State) (d : Nat) (f : SpareRx → SpareRx) : (s.modSpareRx d f).free = s.free := rfl
@[simp] theorem State.modSpareRx_out (s : State) (d : Nat) (f : SpareRx → SpareRx) : (s.modSpareRx d f).out = s.out := rfl

/-! ### modSpareTx -/

@[simp] theorem State.modSpareTx_pending (s : State) (d : Nat) (f : SpareTx → SpareTx) : (s.modSpareTx d f).pending = s.pending := rfl
@[simp] theorem State.modSpareTx_ident (s : State) (d : Nat) (f : SpareTx → SpareTx) : (s.modSpareTx d f).ident = s.ident := rfl
@[simp] theorem State.modSpareTx_mail (s : State) (d : Nat) (f : SpareTx → SpareTx) : (s.modSpareTx d f).mail = s.mail := rfl
@[simp] theorem State.modSpareTx_lease (s : State) (d : Nat) (f : SpareTx → SpareTx) : (s.modSpareTx d f).lease = s.lease := rfl
@[simp] theorem State.modSpareTx_cfg (s : State) (d : Nat) (f : SpareTx → SpareTx) : (s.modSpareTx d f).cfg = s.cfg := rfl
@[simp] theorem State.modSpareTx_events (s : State) (d : Nat) (f : SpareTx → SpareTx) : (s.modSpareTx d f).events = s.events := rfl
@[simp] theorem State.modSpareTx_intr (s : State) (d : Nat) (f : SpareTx → SpareTx) : (s.modSpareTx d f).intr = s.intr := rfl
@[simp] theorem State.modSpareTx_dma (s : State) (d : Nat) (f : SpareTx → SpareTx) : (s.modSpareTx d f).dma = s.dma := rfl
@[simp] theorem State.modSpareTx_regs (s : State) (d : Nat) (f : SpareTx → SpareTx) : (s.modSpareTx d f).regs = s.regs := rfl
@[simp] theorem State.modSpareTx_mgmt (s : State) (d : Nat) (f : SpareTx → SpareTx) : (s.modSpareTx d f).mgmt = s.mgmt := rfl
@[simp] theorem State.modSpareTx_data (s : State) (d : Nat) (f : SpareTx → SpareTx) : (s.modSpareTx d f).data = s.data := rfl
@[simp] theorem State.modSpareTx_lanes (s : State) (d : Nat) (f : SpareTx → SpareTx) : (s.modSpareTx d f).lanes = { s.lanes with spareTx := s.lanes.spareTx.modify d f } := rfl
@[simp] theorem State.modSpareTx_clocks (s : State) (d : Nat) (f : SpareTx → SpareTx) : (s.modSpareTx d f).clocks = s.clocks := rfl
@[simp] theorem State.modSpareTx_cal (s : State) (d : Nat) (f : SpareTx → SpareTx) : (s.modSpareTx d f).cal = s.cal := rfl
@[simp] theorem State.modSpareTx_twin (s : State) (d : Nat) (f : SpareTx → SpareTx) : (s.modSpareTx d f).twin = s.twin := rfl
@[simp] theorem State.modSpareTx_fabric (s : State) (d : Nat) (f : SpareTx → SpareTx) : (s.modSpareTx d f).fabric = s.fabric := rfl
@[simp] theorem State.modSpareTx_health (s : State) (d : Nat) (f : SpareTx → SpareTx) : (s.modSpareTx d f).health = s.health := rfl
@[simp] theorem State.modSpareTx_power (s : State) (d : Nat) (f : SpareTx → SpareTx) : (s.modSpareTx d f).power = s.power := rfl
@[simp] theorem State.modSpareTx_crate (s : State) (d : Nat) (f : SpareTx → SpareTx) : (s.modSpareTx d f).crate = s.crate := rfl
@[simp] theorem State.modSpareTx_free (s : State) (d : Nat) (f : SpareTx → SpareTx) : (s.modSpareTx d f).free = s.free := rfl
@[simp] theorem State.modSpareTx_out (s : State) (d : Nat) (f : SpareTx → SpareTx) : (s.modSpareTx d f).out = s.out := rfl

/-! ### modRegs -/

@[simp] theorem State.modRegs_pending (s : State) (f : HostRegs → HostRegs) : (s.modRegs f).pending = s.pending := rfl
@[simp] theorem State.modRegs_ident (s : State) (f : HostRegs → HostRegs) : (s.modRegs f).ident = s.ident := rfl
@[simp] theorem State.modRegs_mail (s : State) (f : HostRegs → HostRegs) : (s.modRegs f).mail = s.mail := rfl
@[simp] theorem State.modRegs_lease (s : State) (f : HostRegs → HostRegs) : (s.modRegs f).lease = s.lease := rfl
@[simp] theorem State.modRegs_cfg (s : State) (f : HostRegs → HostRegs) : (s.modRegs f).cfg = s.cfg := rfl
@[simp] theorem State.modRegs_events (s : State) (f : HostRegs → HostRegs) : (s.modRegs f).events = s.events := rfl
@[simp] theorem State.modRegs_intr (s : State) (f : HostRegs → HostRegs) : (s.modRegs f).intr = s.intr := rfl
@[simp] theorem State.modRegs_dma (s : State) (f : HostRegs → HostRegs) : (s.modRegs f).dma = s.dma := rfl
@[simp] theorem State.modRegs_regs (s : State) (f : HostRegs → HostRegs) : (s.modRegs f).regs = f s.regs := rfl
@[simp] theorem State.modRegs_mgmt (s : State) (f : HostRegs → HostRegs) : (s.modRegs f).mgmt = s.mgmt := rfl
@[simp] theorem State.modRegs_data (s : State) (f : HostRegs → HostRegs) : (s.modRegs f).data = s.data := rfl
@[simp] theorem State.modRegs_lanes (s : State) (f : HostRegs → HostRegs) : (s.modRegs f).lanes = s.lanes := rfl
@[simp] theorem State.modRegs_clocks (s : State) (f : HostRegs → HostRegs) : (s.modRegs f).clocks = s.clocks := rfl
@[simp] theorem State.modRegs_cal (s : State) (f : HostRegs → HostRegs) : (s.modRegs f).cal = s.cal := rfl
@[simp] theorem State.modRegs_twin (s : State) (f : HostRegs → HostRegs) : (s.modRegs f).twin = s.twin := rfl
@[simp] theorem State.modRegs_fabric (s : State) (f : HostRegs → HostRegs) : (s.modRegs f).fabric = s.fabric := rfl
@[simp] theorem State.modRegs_health (s : State) (f : HostRegs → HostRegs) : (s.modRegs f).health = s.health := rfl
@[simp] theorem State.modRegs_power (s : State) (f : HostRegs → HostRegs) : (s.modRegs f).power = s.power := rfl
@[simp] theorem State.modRegs_crate (s : State) (f : HostRegs → HostRegs) : (s.modRegs f).crate = s.crate := rfl
@[simp] theorem State.modRegs_free (s : State) (f : HostRegs → HostRegs) : (s.modRegs f).free = s.free := rfl
@[simp] theorem State.modRegs_out (s : State) (f : HostRegs → HostRegs) : (s.modRegs f).out = s.out := rfl

/-! ### modEvents -/

@[simp] theorem State.modEvents_pending (s : State) (f : EventQueue → EventQueue) : (s.modEvents f).pending = s.pending := rfl
@[simp] theorem State.modEvents_ident (s : State) (f : EventQueue → EventQueue) : (s.modEvents f).ident = s.ident := rfl
@[simp] theorem State.modEvents_mail (s : State) (f : EventQueue → EventQueue) : (s.modEvents f).mail = s.mail := rfl
@[simp] theorem State.modEvents_lease (s : State) (f : EventQueue → EventQueue) : (s.modEvents f).lease = s.lease := rfl
@[simp] theorem State.modEvents_cfg (s : State) (f : EventQueue → EventQueue) : (s.modEvents f).cfg = s.cfg := rfl
@[simp] theorem State.modEvents_events (s : State) (f : EventQueue → EventQueue) : (s.modEvents f).events = f s.events := rfl
@[simp] theorem State.modEvents_intr (s : State) (f : EventQueue → EventQueue) : (s.modEvents f).intr = s.intr := rfl
@[simp] theorem State.modEvents_dma (s : State) (f : EventQueue → EventQueue) : (s.modEvents f).dma = s.dma := rfl
@[simp] theorem State.modEvents_regs (s : State) (f : EventQueue → EventQueue) : (s.modEvents f).regs = s.regs := rfl
@[simp] theorem State.modEvents_mgmt (s : State) (f : EventQueue → EventQueue) : (s.modEvents f).mgmt = s.mgmt := rfl
@[simp] theorem State.modEvents_data (s : State) (f : EventQueue → EventQueue) : (s.modEvents f).data = s.data := rfl
@[simp] theorem State.modEvents_lanes (s : State) (f : EventQueue → EventQueue) : (s.modEvents f).lanes = s.lanes := rfl
@[simp] theorem State.modEvents_clocks (s : State) (f : EventQueue → EventQueue) : (s.modEvents f).clocks = s.clocks := rfl
@[simp] theorem State.modEvents_cal (s : State) (f : EventQueue → EventQueue) : (s.modEvents f).cal = s.cal := rfl
@[simp] theorem State.modEvents_twin (s : State) (f : EventQueue → EventQueue) : (s.modEvents f).twin = s.twin := rfl
@[simp] theorem State.modEvents_fabric (s : State) (f : EventQueue → EventQueue) : (s.modEvents f).fabric = s.fabric := rfl
@[simp] theorem State.modEvents_health (s : State) (f : EventQueue → EventQueue) : (s.modEvents f).health = s.health := rfl
@[simp] theorem State.modEvents_power (s : State) (f : EventQueue → EventQueue) : (s.modEvents f).power = s.power := rfl
@[simp] theorem State.modEvents_crate (s : State) (f : EventQueue → EventQueue) : (s.modEvents f).crate = s.crate := rfl
@[simp] theorem State.modEvents_free (s : State) (f : EventQueue → EventQueue) : (s.modEvents f).free = s.free := rfl
@[simp] theorem State.modEvents_out (s : State) (f : EventQueue → EventQueue) : (s.modEvents f).out = s.out := rfl

/-! ### modIntr -/

@[simp] theorem State.modIntr_pending (s : State) (f : Interrupts → Interrupts) : (s.modIntr f).pending = s.pending := rfl
@[simp] theorem State.modIntr_ident (s : State) (f : Interrupts → Interrupts) : (s.modIntr f).ident = s.ident := rfl
@[simp] theorem State.modIntr_mail (s : State) (f : Interrupts → Interrupts) : (s.modIntr f).mail = s.mail := rfl
@[simp] theorem State.modIntr_lease (s : State) (f : Interrupts → Interrupts) : (s.modIntr f).lease = s.lease := rfl
@[simp] theorem State.modIntr_cfg (s : State) (f : Interrupts → Interrupts) : (s.modIntr f).cfg = s.cfg := rfl
@[simp] theorem State.modIntr_events (s : State) (f : Interrupts → Interrupts) : (s.modIntr f).events = s.events := rfl
@[simp] theorem State.modIntr_intr (s : State) (f : Interrupts → Interrupts) : (s.modIntr f).intr = f s.intr := rfl
@[simp] theorem State.modIntr_dma (s : State) (f : Interrupts → Interrupts) : (s.modIntr f).dma = s.dma := rfl
@[simp] theorem State.modIntr_regs (s : State) (f : Interrupts → Interrupts) : (s.modIntr f).regs = s.regs := rfl
@[simp] theorem State.modIntr_mgmt (s : State) (f : Interrupts → Interrupts) : (s.modIntr f).mgmt = s.mgmt := rfl
@[simp] theorem State.modIntr_data (s : State) (f : Interrupts → Interrupts) : (s.modIntr f).data = s.data := rfl
@[simp] theorem State.modIntr_lanes (s : State) (f : Interrupts → Interrupts) : (s.modIntr f).lanes = s.lanes := rfl
@[simp] theorem State.modIntr_clocks (s : State) (f : Interrupts → Interrupts) : (s.modIntr f).clocks = s.clocks := rfl
@[simp] theorem State.modIntr_cal (s : State) (f : Interrupts → Interrupts) : (s.modIntr f).cal = s.cal := rfl
@[simp] theorem State.modIntr_twin (s : State) (f : Interrupts → Interrupts) : (s.modIntr f).twin = s.twin := rfl
@[simp] theorem State.modIntr_fabric (s : State) (f : Interrupts → Interrupts) : (s.modIntr f).fabric = s.fabric := rfl
@[simp] theorem State.modIntr_health (s : State) (f : Interrupts → Interrupts) : (s.modIntr f).health = s.health := rfl
@[simp] theorem State.modIntr_power (s : State) (f : Interrupts → Interrupts) : (s.modIntr f).power = s.power := rfl
@[simp] theorem State.modIntr_crate (s : State) (f : Interrupts → Interrupts) : (s.modIntr f).crate = s.crate := rfl
@[simp] theorem State.modIntr_free (s : State) (f : Interrupts → Interrupts) : (s.modIntr f).free = s.free := rfl
@[simp] theorem State.modIntr_out (s : State) (f : Interrupts → Interrupts) : (s.modIntr f).out = s.out := rfl

/-! ### modDma -/

@[simp] theorem State.modDma_pending (s : State) (h : Nat) (f : DmaChannel → DmaChannel) : (s.modDma h f).pending = s.pending := rfl
@[simp] theorem State.modDma_ident (s : State) (h : Nat) (f : DmaChannel → DmaChannel) : (s.modDma h f).ident = s.ident := rfl
@[simp] theorem State.modDma_mail (s : State) (h : Nat) (f : DmaChannel → DmaChannel) : (s.modDma h f).mail = s.mail := rfl
@[simp] theorem State.modDma_lease (s : State) (h : Nat) (f : DmaChannel → DmaChannel) : (s.modDma h f).lease = s.lease := rfl
@[simp] theorem State.modDma_cfg (s : State) (h : Nat) (f : DmaChannel → DmaChannel) : (s.modDma h f).cfg = s.cfg := rfl
@[simp] theorem State.modDma_events (s : State) (h : Nat) (f : DmaChannel → DmaChannel) : (s.modDma h f).events = s.events := rfl
@[simp] theorem State.modDma_intr (s : State) (h : Nat) (f : DmaChannel → DmaChannel) : (s.modDma h f).intr = s.intr := rfl
@[simp] theorem State.modDma_dma (s : State) (h : Nat) (f : DmaChannel → DmaChannel) : (s.modDma h f).dma = s.dma.modify h f := rfl
@[simp] theorem State.modDma_regs (s : State) (h : Nat) (f : DmaChannel → DmaChannel) : (s.modDma h f).regs = s.regs := rfl
@[simp] theorem State.modDma_mgmt (s : State) (h : Nat) (f : DmaChannel → DmaChannel) : (s.modDma h f).mgmt = s.mgmt := rfl
@[simp] theorem State.modDma_data (s : State) (h : Nat) (f : DmaChannel → DmaChannel) : (s.modDma h f).data = s.data := rfl
@[simp] theorem State.modDma_lanes (s : State) (h : Nat) (f : DmaChannel → DmaChannel) : (s.modDma h f).lanes = s.lanes := rfl
@[simp] theorem State.modDma_clocks (s : State) (h : Nat) (f : DmaChannel → DmaChannel) : (s.modDma h f).clocks = s.clocks := rfl
@[simp] theorem State.modDma_cal (s : State) (h : Nat) (f : DmaChannel → DmaChannel) : (s.modDma h f).cal = s.cal := rfl
@[simp] theorem State.modDma_twin (s : State) (h : Nat) (f : DmaChannel → DmaChannel) : (s.modDma h f).twin = s.twin := rfl
@[simp] theorem State.modDma_fabric (s : State) (h : Nat) (f : DmaChannel → DmaChannel) : (s.modDma h f).fabric = s.fabric := rfl
@[simp] theorem State.modDma_health (s : State) (h : Nat) (f : DmaChannel → DmaChannel) : (s.modDma h f).health = s.health := rfl
@[simp] theorem State.modDma_power (s : State) (h : Nat) (f : DmaChannel → DmaChannel) : (s.modDma h f).power = s.power := rfl
@[simp] theorem State.modDma_crate (s : State) (h : Nat) (f : DmaChannel → DmaChannel) : (s.modDma h f).crate = s.crate := rfl
@[simp] theorem State.modDma_free (s : State) (h : Nat) (f : DmaChannel → DmaChannel) : (s.modDma h f).free = s.free := rfl
@[simp] theorem State.modDma_out (s : State) (h : Nat) (f : DmaChannel → DmaChannel) : (s.modDma h f).out = s.out := rfl

/-! ### modStack -/

@[simp] theorem State.modStack_pending (s : State) (d : Nat) (f : HbmStack → HbmStack) : (s.modStack d f).pending = s.pending := rfl
@[simp] theorem State.modStack_ident (s : State) (d : Nat) (f : HbmStack → HbmStack) : (s.modStack d f).ident = s.ident := rfl
@[simp] theorem State.modStack_mail (s : State) (d : Nat) (f : HbmStack → HbmStack) : (s.modStack d f).mail = s.mail := rfl
@[simp] theorem State.modStack_lease (s : State) (d : Nat) (f : HbmStack → HbmStack) : (s.modStack d f).lease = s.lease := rfl
@[simp] theorem State.modStack_cfg (s : State) (d : Nat) (f : HbmStack → HbmStack) : (s.modStack d f).cfg = s.cfg := rfl
@[simp] theorem State.modStack_events (s : State) (d : Nat) (f : HbmStack → HbmStack) : (s.modStack d f).events = s.events := rfl
@[simp] theorem State.modStack_intr (s : State) (d : Nat) (f : HbmStack → HbmStack) : (s.modStack d f).intr = s.intr := rfl
@[simp] theorem State.modStack_dma (s : State) (d : Nat) (f : HbmStack → HbmStack) : (s.modStack d f).dma = s.dma := rfl
@[simp] theorem State.modStack_regs (s : State) (d : Nat) (f : HbmStack → HbmStack) : (s.modStack d f).regs = s.regs := rfl
@[simp] theorem State.modStack_mgmt (s : State) (d : Nat) (f : HbmStack → HbmStack) : (s.modStack d f).mgmt = s.mgmt := rfl
@[simp] theorem State.modStack_data (s : State) (d : Nat) (f : HbmStack → HbmStack) : (s.modStack d f).data = s.data := rfl
@[simp] theorem State.modStack_lanes (s : State) (d : Nat) (f : HbmStack → HbmStack) : (s.modStack d f).lanes = s.lanes := rfl
@[simp] theorem State.modStack_clocks (s : State) (d : Nat) (f : HbmStack → HbmStack) : (s.modStack d f).clocks = s.clocks := rfl
@[simp] theorem State.modStack_cal (s : State) (d : Nat) (f : HbmStack → HbmStack) : (s.modStack d f).cal = s.cal := rfl
@[simp] theorem State.modStack_twin (s : State) (d : Nat) (f : HbmStack → HbmStack) : (s.modStack d f).twin = s.twin := rfl
@[simp] theorem State.modStack_fabric (s : State) (d : Nat) (f : HbmStack → HbmStack) : (s.modStack d f).fabric = { s.fabric with hbm := s.fabric.hbm.modify d f } := rfl
@[simp] theorem State.modStack_health (s : State) (d : Nat) (f : HbmStack → HbmStack) : (s.modStack d f).health = s.health := rfl
@[simp] theorem State.modStack_power (s : State) (d : Nat) (f : HbmStack → HbmStack) : (s.modStack d f).power = s.power := rfl
@[simp] theorem State.modStack_crate (s : State) (d : Nat) (f : HbmStack → HbmStack) : (s.modStack d f).crate = s.crate := rfl
@[simp] theorem State.modStack_free (s : State) (d : Nat) (f : HbmStack → HbmStack) : (s.modStack d f).free = s.free := rfl
@[simp] theorem State.modStack_out (s : State) (d : Nat) (f : HbmStack → HbmStack) : (s.modStack d f).out = s.out := rfl

/-! ### setMem -/

@[simp] theorem State.setMem_pending (s : State) (m : List Host.Cell) : (s.setMem m).pending = s.pending := rfl
@[simp] theorem State.setMem_ident (s : State) (m : List Host.Cell) : (s.setMem m).ident = s.ident := rfl
@[simp] theorem State.setMem_mail (s : State) (m : List Host.Cell) : (s.setMem m).mail = s.mail := rfl
@[simp] theorem State.setMem_lease (s : State) (m : List Host.Cell) : (s.setMem m).lease = s.lease := rfl
@[simp] theorem State.setMem_cfg (s : State) (m : List Host.Cell) : (s.setMem m).cfg = s.cfg := rfl
@[simp] theorem State.setMem_events (s : State) (m : List Host.Cell) : (s.setMem m).events = s.events := rfl
@[simp] theorem State.setMem_intr (s : State) (m : List Host.Cell) : (s.setMem m).intr = s.intr := rfl
@[simp] theorem State.setMem_dma (s : State) (m : List Host.Cell) : (s.setMem m).dma = s.dma := rfl
@[simp] theorem State.setMem_regs (s : State) (m : List Host.Cell) : (s.setMem m).regs = s.regs := rfl
@[simp] theorem State.setMem_mgmt (s : State) (m : List Host.Cell) : (s.setMem m).mgmt = s.mgmt := rfl
@[simp] theorem State.setMem_data (s : State) (m : List Host.Cell) : (s.setMem m).data = s.data := rfl
@[simp] theorem State.setMem_lanes (s : State) (m : List Host.Cell) : (s.setMem m).lanes = s.lanes := rfl
@[simp] theorem State.setMem_clocks (s : State) (m : List Host.Cell) : (s.setMem m).clocks = s.clocks := rfl
@[simp] theorem State.setMem_cal (s : State) (m : List Host.Cell) : (s.setMem m).cal = s.cal := rfl
@[simp] theorem State.setMem_twin (s : State) (m : List Host.Cell) : (s.setMem m).twin = s.twin := rfl
@[simp] theorem State.setMem_fabric (s : State) (m : List Host.Cell) : (s.setMem m).fabric = { s.fabric with mem := m } := rfl
@[simp] theorem State.setMem_health (s : State) (m : List Host.Cell) : (s.setMem m).health = s.health := rfl
@[simp] theorem State.setMem_power (s : State) (m : List Host.Cell) : (s.setMem m).power = s.power := rfl
@[simp] theorem State.setMem_crate (s : State) (m : List Host.Cell) : (s.setMem m).crate = s.crate := rfl
@[simp] theorem State.setMem_free (s : State) (m : List Host.Cell) : (s.setMem m).free = s.free := rfl
@[simp] theorem State.setMem_out (s : State) (m : List Host.Cell) : (s.setMem m).out = s.out := rfl

/-! ### memWrite -/

@[simp] theorem State.memWrite_pending (s : State) (a : Nat) (d : List Byte) : (s.memWrite a d).pending = s.pending := rfl
@[simp] theorem State.memWrite_ident (s : State) (a : Nat) (d : List Byte) : (s.memWrite a d).ident = s.ident := rfl
@[simp] theorem State.memWrite_mail (s : State) (a : Nat) (d : List Byte) : (s.memWrite a d).mail = s.mail := rfl
@[simp] theorem State.memWrite_lease (s : State) (a : Nat) (d : List Byte) : (s.memWrite a d).lease = s.lease := rfl
@[simp] theorem State.memWrite_cfg (s : State) (a : Nat) (d : List Byte) : (s.memWrite a d).cfg = s.cfg := rfl
@[simp] theorem State.memWrite_events (s : State) (a : Nat) (d : List Byte) : (s.memWrite a d).events = s.events := rfl
@[simp] theorem State.memWrite_intr (s : State) (a : Nat) (d : List Byte) : (s.memWrite a d).intr = s.intr := rfl
@[simp] theorem State.memWrite_dma (s : State) (a : Nat) (d : List Byte) : (s.memWrite a d).dma = s.dma := rfl
@[simp] theorem State.memWrite_regs (s : State) (a : Nat) (d : List Byte) : (s.memWrite a d).regs = s.regs := rfl
@[simp] theorem State.memWrite_mgmt (s : State) (a : Nat) (d : List Byte) : (s.memWrite a d).mgmt = s.mgmt := rfl
@[simp] theorem State.memWrite_data (s : State) (a : Nat) (d : List Byte) : (s.memWrite a d).data = s.data := rfl
@[simp] theorem State.memWrite_lanes (s : State) (a : Nat) (d : List Byte) : (s.memWrite a d).lanes = s.lanes := rfl
@[simp] theorem State.memWrite_clocks (s : State) (a : Nat) (d : List Byte) : (s.memWrite a d).clocks = s.clocks := rfl
@[simp] theorem State.memWrite_cal (s : State) (a : Nat) (d : List Byte) : (s.memWrite a d).cal = s.cal := rfl
@[simp] theorem State.memWrite_twin (s : State) (a : Nat) (d : List Byte) : (s.memWrite a d).twin = s.twin := rfl
@[simp] theorem State.memWrite_fabric (s : State) (a : Nat) (d : List Byte) : (s.memWrite a d).fabric = { s.fabric with mem := Memory.write s.fabric.mem a d } := rfl
@[simp] theorem State.memWrite_health (s : State) (a : Nat) (d : List Byte) : (s.memWrite a d).health = s.health := rfl
@[simp] theorem State.memWrite_power (s : State) (a : Nat) (d : List Byte) : (s.memWrite a d).power = s.power := rfl
@[simp] theorem State.memWrite_crate (s : State) (a : Nat) (d : List Byte) : (s.memWrite a d).crate = s.crate := rfl
@[simp] theorem State.memWrite_free (s : State) (a : Nat) (d : List Byte) : (s.memWrite a d).free = s.free := rfl
@[simp] theorem State.memWrite_out (s : State) (a : Nat) (d : List Byte) : (s.memWrite a d).out = s.out := rfl

/-! ### modMgmt -/

@[simp] theorem State.modMgmt_pending (s : State) (f : MgmtPort → MgmtPort) : (s.modMgmt f).pending = s.pending := rfl
@[simp] theorem State.modMgmt_ident (s : State) (f : MgmtPort → MgmtPort) : (s.modMgmt f).ident = s.ident := rfl
@[simp] theorem State.modMgmt_mail (s : State) (f : MgmtPort → MgmtPort) : (s.modMgmt f).mail = s.mail := rfl
@[simp] theorem State.modMgmt_lease (s : State) (f : MgmtPort → MgmtPort) : (s.modMgmt f).lease = s.lease := rfl
@[simp] theorem State.modMgmt_cfg (s : State) (f : MgmtPort → MgmtPort) : (s.modMgmt f).cfg = s.cfg := rfl
@[simp] theorem State.modMgmt_events (s : State) (f : MgmtPort → MgmtPort) : (s.modMgmt f).events = s.events := rfl
@[simp] theorem State.modMgmt_intr (s : State) (f : MgmtPort → MgmtPort) : (s.modMgmt f).intr = s.intr := rfl
@[simp] theorem State.modMgmt_dma (s : State) (f : MgmtPort → MgmtPort) : (s.modMgmt f).dma = s.dma := rfl
@[simp] theorem State.modMgmt_regs (s : State) (f : MgmtPort → MgmtPort) : (s.modMgmt f).regs = s.regs := rfl
@[simp] theorem State.modMgmt_mgmt (s : State) (f : MgmtPort → MgmtPort) : (s.modMgmt f).mgmt = f s.mgmt := rfl
@[simp] theorem State.modMgmt_data (s : State) (f : MgmtPort → MgmtPort) : (s.modMgmt f).data = s.data := rfl
@[simp] theorem State.modMgmt_lanes (s : State) (f : MgmtPort → MgmtPort) : (s.modMgmt f).lanes = s.lanes := rfl
@[simp] theorem State.modMgmt_clocks (s : State) (f : MgmtPort → MgmtPort) : (s.modMgmt f).clocks = s.clocks := rfl
@[simp] theorem State.modMgmt_cal (s : State) (f : MgmtPort → MgmtPort) : (s.modMgmt f).cal = s.cal := rfl
@[simp] theorem State.modMgmt_twin (s : State) (f : MgmtPort → MgmtPort) : (s.modMgmt f).twin = s.twin := rfl
@[simp] theorem State.modMgmt_fabric (s : State) (f : MgmtPort → MgmtPort) : (s.modMgmt f).fabric = s.fabric := rfl
@[simp] theorem State.modMgmt_health (s : State) (f : MgmtPort → MgmtPort) : (s.modMgmt f).health = s.health := rfl
@[simp] theorem State.modMgmt_power (s : State) (f : MgmtPort → MgmtPort) : (s.modMgmt f).power = s.power := rfl
@[simp] theorem State.modMgmt_crate (s : State) (f : MgmtPort → MgmtPort) : (s.modMgmt f).crate = s.crate := rfl
@[simp] theorem State.modMgmt_free (s : State) (f : MgmtPort → MgmtPort) : (s.modMgmt f).free = s.free := rfl
@[simp] theorem State.modMgmt_out (s : State) (f : MgmtPort → MgmtPort) : (s.modMgmt f).out = s.out := rfl

/-! ### modSession -/

@[simp] theorem State.modSession_pending (s : State) (n : Nat) (f : Session → Session) : (s.modSession n f).pending = s.pending := rfl
@[simp] theorem State.modSession_ident (s : State) (n : Nat) (f : Session → Session) : (s.modSession n f).ident = s.ident := rfl
@[simp] theorem State.modSession_mail (s : State) (n : Nat) (f : Session → Session) : (s.modSession n f).mail = s.mail := rfl
@[simp] theorem State.modSession_lease (s : State) (n : Nat) (f : Session → Session) : (s.modSession n f).lease = s.lease := rfl
@[simp] theorem State.modSession_cfg (s : State) (n : Nat) (f : Session → Session) : (s.modSession n f).cfg = s.cfg := rfl
@[simp] theorem State.modSession_events (s : State) (n : Nat) (f : Session → Session) : (s.modSession n f).events = s.events := rfl
@[simp] theorem State.modSession_intr (s : State) (n : Nat) (f : Session → Session) : (s.modSession n f).intr = s.intr := rfl
@[simp] theorem State.modSession_dma (s : State) (n : Nat) (f : Session → Session) : (s.modSession n f).dma = s.dma := rfl
@[simp] theorem State.modSession_regs (s : State) (n : Nat) (f : Session → Session) : (s.modSession n f).regs = s.regs := rfl
@[simp] theorem State.modSession_data (s : State) (n : Nat) (f : Session → Session) : (s.modSession n f).data = s.data := rfl
@[simp] theorem State.modSession_lanes (s : State) (n : Nat) (f : Session → Session) : (s.modSession n f).lanes = s.lanes := rfl
@[simp] theorem State.modSession_clocks (s : State) (n : Nat) (f : Session → Session) : (s.modSession n f).clocks = s.clocks := rfl
@[simp] theorem State.modSession_cal (s : State) (n : Nat) (f : Session → Session) : (s.modSession n f).cal = s.cal := rfl
@[simp] theorem State.modSession_twin (s : State) (n : Nat) (f : Session → Session) : (s.modSession n f).twin = s.twin := rfl
@[simp] theorem State.modSession_fabric (s : State) (n : Nat) (f : Session → Session) : (s.modSession n f).fabric = s.fabric := rfl
@[simp] theorem State.modSession_health (s : State) (n : Nat) (f : Session → Session) : (s.modSession n f).health = s.health := rfl
@[simp] theorem State.modSession_power (s : State) (n : Nat) (f : Session → Session) : (s.modSession n f).power = s.power := rfl
@[simp] theorem State.modSession_crate (s : State) (n : Nat) (f : Session → Session) : (s.modSession n f).crate = s.crate := rfl
@[simp] theorem State.modSession_free (s : State) (n : Nat) (f : Session → Session) : (s.modSession n f).free = s.free := rfl
@[simp] theorem State.modSession_out (s : State) (n : Nat) (f : Session → Session) : (s.modSession n f).out = s.out := rfl

/-! ### modTwin -/

@[simp] theorem State.modTwin_pending (s : State) (f : Twin → Twin) : (s.modTwin f).pending = s.pending := rfl
@[simp] theorem State.modTwin_ident (s : State) (f : Twin → Twin) : (s.modTwin f).ident = s.ident := rfl
@[simp] theorem State.modTwin_mail (s : State) (f : Twin → Twin) : (s.modTwin f).mail = s.mail := rfl
@[simp] theorem State.modTwin_lease (s : State) (f : Twin → Twin) : (s.modTwin f).lease = s.lease := rfl
@[simp] theorem State.modTwin_cfg (s : State) (f : Twin → Twin) : (s.modTwin f).cfg = s.cfg := rfl
@[simp] theorem State.modTwin_events (s : State) (f : Twin → Twin) : (s.modTwin f).events = s.events := rfl
@[simp] theorem State.modTwin_intr (s : State) (f : Twin → Twin) : (s.modTwin f).intr = s.intr := rfl
@[simp] theorem State.modTwin_dma (s : State) (f : Twin → Twin) : (s.modTwin f).dma = s.dma := rfl
@[simp] theorem State.modTwin_regs (s : State) (f : Twin → Twin) : (s.modTwin f).regs = s.regs := rfl
@[simp] theorem State.modTwin_mgmt (s : State) (f : Twin → Twin) : (s.modTwin f).mgmt = s.mgmt := rfl
@[simp] theorem State.modTwin_data (s : State) (f : Twin → Twin) : (s.modTwin f).data = s.data := rfl
@[simp] theorem State.modTwin_lanes (s : State) (f : Twin → Twin) : (s.modTwin f).lanes = s.lanes := rfl
@[simp] theorem State.modTwin_clocks (s : State) (f : Twin → Twin) : (s.modTwin f).clocks = s.clocks := rfl
@[simp] theorem State.modTwin_cal (s : State) (f : Twin → Twin) : (s.modTwin f).cal = s.cal := rfl
@[simp] theorem State.modTwin_twin (s : State) (f : Twin → Twin) : (s.modTwin f).twin = f s.twin := rfl
@[simp] theorem State.modTwin_fabric (s : State) (f : Twin → Twin) : (s.modTwin f).fabric = s.fabric := rfl
@[simp] theorem State.modTwin_health (s : State) (f : Twin → Twin) : (s.modTwin f).health = s.health := rfl
@[simp] theorem State.modTwin_power (s : State) (f : Twin → Twin) : (s.modTwin f).power = s.power := rfl
@[simp] theorem State.modTwin_crate (s : State) (f : Twin → Twin) : (s.modTwin f).crate = s.crate := rfl
@[simp] theorem State.modTwin_free (s : State) (f : Twin → Twin) : (s.modTwin f).free = s.free := rfl
@[simp] theorem State.modTwin_out (s : State) (f : Twin → Twin) : (s.modTwin f).out = s.out := rfl

/-! ### setStage -/

@[simp] theorem State.setStage_pending (s : State) (n : Nat) : (s.setStage n).pending = s.pending := rfl
@[simp] theorem State.setStage_ident (s : State) (n : Nat) : (s.setStage n).ident = s.ident := rfl
@[simp] theorem State.setStage_mail (s : State) (n : Nat) : (s.setStage n).mail = s.mail := rfl
@[simp] theorem State.setStage_lease (s : State) (n : Nat) : (s.setStage n).lease = s.lease := rfl
@[simp] theorem State.setStage_cfg (s : State) (n : Nat) : (s.setStage n).cfg = s.cfg := rfl
@[simp] theorem State.setStage_events (s : State) (n : Nat) : (s.setStage n).events = s.events := rfl
@[simp] theorem State.setStage_intr (s : State) (n : Nat) : (s.setStage n).intr = s.intr := rfl
@[simp] theorem State.setStage_dma (s : State) (n : Nat) : (s.setStage n).dma = s.dma := rfl
@[simp] theorem State.setStage_regs (s : State) (n : Nat) : (s.setStage n).regs = s.regs := rfl
@[simp] theorem State.setStage_mgmt (s : State) (n : Nat) : (s.setStage n).mgmt = s.mgmt := rfl
@[simp] theorem State.setStage_data (s : State) (n : Nat) : (s.setStage n).data = s.data := rfl
@[simp] theorem State.setStage_lanes (s : State) (n : Nat) : (s.setStage n).lanes = s.lanes := rfl
@[simp] theorem State.setStage_clocks (s : State) (n : Nat) : (s.setStage n).clocks = s.clocks := rfl
@[simp] theorem State.setStage_cal (s : State) (n : Nat) : (s.setStage n).cal = s.cal := rfl
@[simp] theorem State.setStage_twin (s : State) (n : Nat) : (s.setStage n).twin = s.twin := rfl
@[simp] theorem State.setStage_fabric (s : State) (n : Nat) : (s.setStage n).fabric = s.fabric := rfl
@[simp] theorem State.setStage_health (s : State) (n : Nat) : (s.setStage n).health = s.health := rfl
@[simp] theorem State.setStage_power (s : State) (n : Nat) : (s.setStage n).power = { s.power with stage := n } := rfl
@[simp] theorem State.setStage_crate (s : State) (n : Nat) : (s.setStage n).crate = s.crate := rfl
@[simp] theorem State.setStage_free (s : State) (n : Nat) : (s.setStage n).free = s.free := rfl
@[simp] theorem State.setStage_out (s : State) (n : Nat) : (s.setStage n).out = s.out := rfl

/-! ### emit -/

@[simp] theorem State.emit_pending (s : State) (o : OutItem) : (s.emit o).pending = s.pending := rfl
@[simp] theorem State.emit_ident (s : State) (o : OutItem) : (s.emit o).ident = s.ident := rfl
@[simp] theorem State.emit_mail (s : State) (o : OutItem) : (s.emit o).mail = s.mail := rfl
@[simp] theorem State.emit_lease (s : State) (o : OutItem) : (s.emit o).lease = s.lease := rfl
@[simp] theorem State.emit_cfg (s : State) (o : OutItem) : (s.emit o).cfg = s.cfg := rfl
@[simp] theorem State.emit_events (s : State) (o : OutItem) : (s.emit o).events = s.events := rfl
@[simp] theorem State.emit_intr (s : State) (o : OutItem) : (s.emit o).intr = s.intr := rfl
@[simp] theorem State.emit_dma (s : State) (o : OutItem) : (s.emit o).dma = s.dma := rfl
@[simp] theorem State.emit_regs (s : State) (o : OutItem) : (s.emit o).regs = s.regs := rfl
@[simp] theorem State.emit_mgmt (s : State) (o : OutItem) : (s.emit o).mgmt = s.mgmt := rfl
@[simp] theorem State.emit_data (s : State) (o : OutItem) : (s.emit o).data = s.data := rfl
@[simp] theorem State.emit_lanes (s : State) (o : OutItem) : (s.emit o).lanes = s.lanes := rfl
@[simp] theorem State.emit_clocks (s : State) (o : OutItem) : (s.emit o).clocks = s.clocks := rfl
@[simp] theorem State.emit_cal (s : State) (o : OutItem) : (s.emit o).cal = s.cal := rfl
@[simp] theorem State.emit_twin (s : State) (o : OutItem) : (s.emit o).twin = s.twin := rfl
@[simp] theorem State.emit_fabric (s : State) (o : OutItem) : (s.emit o).fabric = s.fabric := rfl
@[simp] theorem State.emit_health (s : State) (o : OutItem) : (s.emit o).health = s.health := rfl
@[simp] theorem State.emit_power (s : State) (o : OutItem) : (s.emit o).power = s.power := rfl
@[simp] theorem State.emit_crate (s : State) (o : OutItem) : (s.emit o).crate = s.crate := rfl
@[simp] theorem State.emit_free (s : State) (o : OutItem) : (s.emit o).free = s.free := rfl
@[simp] theorem State.emit_out (s : State) (o : OutItem) : (s.emit o).out = o :: s.out := rfl

/-! ### fresh -/

@[simp] theorem State.fresh_value (s : State) : s.fresh.1 = (Config.freeValue s.free).toNat := rfl
@[simp] theorem State.fresh_free (s : State) : s.fresh.2.free = s.free + 1 := rfl
@[simp] theorem State.fresh_pending (s : State) : s.fresh.2.pending = s.pending := rfl
@[simp] theorem State.fresh_ident (s : State) : s.fresh.2.ident = s.ident := rfl
@[simp] theorem State.fresh_mail (s : State) : s.fresh.2.mail = s.mail := rfl
@[simp] theorem State.fresh_lease (s : State) : s.fresh.2.lease = s.lease := rfl
@[simp] theorem State.fresh_cfg (s : State) : s.fresh.2.cfg = s.cfg := rfl
@[simp] theorem State.fresh_events (s : State) : s.fresh.2.events = s.events := rfl
@[simp] theorem State.fresh_intr (s : State) : s.fresh.2.intr = s.intr := rfl
@[simp] theorem State.fresh_dma (s : State) : s.fresh.2.dma = s.dma := rfl
@[simp] theorem State.fresh_regs (s : State) : s.fresh.2.regs = s.regs := rfl
@[simp] theorem State.fresh_mgmt (s : State) : s.fresh.2.mgmt = s.mgmt := rfl
@[simp] theorem State.fresh_data (s : State) : s.fresh.2.data = s.data := rfl
@[simp] theorem State.fresh_lanes (s : State) : s.fresh.2.lanes = s.lanes := rfl
@[simp] theorem State.fresh_clocks (s : State) : s.fresh.2.clocks = s.clocks := rfl
@[simp] theorem State.fresh_cal (s : State) : s.fresh.2.cal = s.cal := rfl
@[simp] theorem State.fresh_twin (s : State) : s.fresh.2.twin = s.twin := rfl
@[simp] theorem State.fresh_fabric (s : State) : s.fresh.2.fabric = s.fabric := rfl
@[simp] theorem State.fresh_health (s : State) : s.fresh.2.health = s.health := rfl
@[simp] theorem State.fresh_power (s : State) : s.fresh.2.power = s.power := rfl
@[simp] theorem State.fresh_crate (s : State) : s.fresh.2.crate = s.crate := rfl
@[simp] theorem State.fresh_out (s : State) : s.fresh.2.out = s.out := rfl

end Sys2Proof.Machine
end

