-- ==== Sys2Proof/Laws/Events.lean ====
section
/-! SUPPORT. What setting causes and flags, raising an event, completing a command and running one can do to State: an equation that says everything,
then one lemma per field that stays. -/

namespace Sys2Proof.Machine

/-! ### Causes and flags (R390, R391) -/

theorem State.sendMessage_eq (s : State) (c : Nat) : ∃ i o, s.sendMessage c = { s with intr := i, out := o } := by
  unfold State.sendMessage
  dsimp only
  split
  · exact ⟨_, _, rfl⟩
  · exact ⟨_, _, rfl⟩

theorem State.setCause_eq (s : State) (c : Nat) : ∃ i o, s.setCause c = { s with intr := i, out := o } := by
  unfold State.setCause
  dsimp only
  split
  · exact ⟨_, _, rfl⟩
  · split
    · exact ⟨_, _, rfl⟩
    · obtain ⟨i, o, h⟩ := State.sendMessage_eq { s with intr := { s.intr with cause := s.intr.cause ||| BitVec.ofNat 16 (2 ^ c) } } c
      exact ⟨i, o, h⟩

/-- A fold whose steps change no more than `intr` and `out` changes no more than those. -/
theorem foldl_intr {α : Type} (f : State → α → State) (h : ∀ s a, ∃ i o, f s a = { s with intr := i, out := o }) (l : List α) (s : State) :
    ∃ i o, l.foldl f s = { s with intr := i, out := o } := by
  induction l generalizing s with
  | nil => exact ⟨_, _, rfl⟩
  | cons a l ih =>
    obtain ⟨i, o, h1⟩ := h s a
    obtain ⟨i', o', h2⟩ := ih (f s a)
    exact ⟨i', o', by rw [List.foldl_cons, h2, h1]⟩

theorem State.setHolding_eq (s : State) (l : List Nat) : ∃ i o, s.setHolding l = { s with intr := i, out := o } := by
  apply foldl_intr
  intro t a
  split
  · exact t.setCause_eq a
  · exact ⟨_, _, rfl⟩

@[simp] theorem State.setCause_pending (s : State) (c : Nat) : (s.setCause c).pending = s.pending := by obtain ⟨_, _, h⟩ := s.setCause_eq c; rw [h]
@[simp] theorem State.setCause_ident (s : State) (c : Nat) : (s.setCause c).ident = s.ident := by obtain ⟨_, _, h⟩ := s.setCause_eq c; rw [h]
@[simp] theorem State.setCause_mail (s : State) (c : Nat) : (s.setCause c).mail = s.mail := by obtain ⟨_, _, h⟩ := s.setCause_eq c; rw [h]
@[simp] theorem State.setCause_lease (s : State) (c : Nat) : (s.setCause c).lease = s.lease := by obtain ⟨_, _, h⟩ := s.setCause_eq c; rw [h]
@[simp] theorem State.setCause_cfg (s : State) (c : Nat) : (s.setCause c).cfg = s.cfg := by obtain ⟨_, _, h⟩ := s.setCause_eq c; rw [h]
@[simp] theorem State.setCause_events (s : State) (c : Nat) : (s.setCause c).events = s.events := by obtain ⟨_, _, h⟩ := s.setCause_eq c; rw [h]
@[simp] theorem State.setCause_dma (s : State) (c : Nat) : (s.setCause c).dma = s.dma := by obtain ⟨_, _, h⟩ := s.setCause_eq c; rw [h]
@[simp] theorem State.setCause_regs (s : State) (c : Nat) : (s.setCause c).regs = s.regs := by obtain ⟨_, _, h⟩ := s.setCause_eq c; rw [h]
@[simp] theorem State.setCause_mgmt (s : State) (c : Nat) : (s.setCause c).mgmt = s.mgmt := by obtain ⟨_, _, h⟩ := s.setCause_eq c; rw [h]
@[simp] theorem State.setCause_data (s : State) (c : Nat) : (s.setCause c).data = s.data := by obtain ⟨_, _, h⟩ := s.setCause_eq c; rw [h]
@[simp] theorem State.setCause_lanes (s : State) (c : Nat) : (s.setCause c).lanes = s.lanes := by obtain ⟨_, _, h⟩ := s.setCause_eq c; rw [h]
@[simp] theorem State.setCause_clocks (s : State) (c : Nat) : (s.setCause c).clocks = s.clocks := by obtain ⟨_, _, h⟩ := s.setCause_eq c; rw [h]
@[simp] theorem State.setCause_cal (s : State) (c : Nat) : (s.setCause c).cal = s.cal := by obtain ⟨_, _, h⟩ := s.setCause_eq c; rw [h]
@[simp] theorem State.setCause_twin (s : State) (c : Nat) : (s.setCause c).twin = s.twin := by obtain ⟨_, _, h⟩ := s.setCause_eq c; rw [h]
@[simp] theorem State.setCause_fabric (s : State) (c : Nat) : (s.setCause c).fabric = s.fabric := by obtain ⟨_, _, h⟩ := s.setCause_eq c; rw [h]
@[simp] theorem State.setCause_health (s : State) (c : Nat) : (s.setCause c).health = s.health := by obtain ⟨_, _, h⟩ := s.setCause_eq c; rw [h]
@[simp] theorem State.setCause_power (s : State) (c : Nat) : (s.setCause c).power = s.power := by obtain ⟨_, _, h⟩ := s.setCause_eq c; rw [h]
@[simp] theorem State.setCause_crate (s : State) (c : Nat) : (s.setCause c).crate = s.crate := by obtain ⟨_, _, h⟩ := s.setCause_eq c; rw [h]
@[simp] theorem State.setCause_free (s : State) (c : Nat) : (s.setCause c).free = s.free := by obtain ⟨_, _, h⟩ := s.setCause_eq c; rw [h]
@[simp] theorem State.setHolding_pending (s : State) (l : List Nat) : (s.setHolding l).pending = s.pending := by obtain ⟨_, _, h⟩ := s.setHolding_eq l; rw [h]
@[simp] theorem State.setHolding_ident (s : State) (l : List Nat) : (s.setHolding l).ident = s.ident := by obtain ⟨_, _, h⟩ := s.setHolding_eq l; rw [h]
@[simp] theorem State.setHolding_mail (s : State) (l : List Nat) : (s.setHolding l).mail = s.mail := by obtain ⟨_, _, h⟩ := s.setHolding_eq l; rw [h]
@[simp] theorem State.setHolding_lease (s : State) (l : List Nat) : (s.setHolding l).lease = s.lease := by obtain ⟨_, _, h⟩ := s.setHolding_eq l; rw [h]
@[simp] theorem State.setHolding_cfg (s : State) (l : List Nat) : (s.setHolding l).cfg = s.cfg := by obtain ⟨_, _, h⟩ := s.setHolding_eq l; rw [h]
@[simp] theorem State.setHolding_events (s : State) (l : List Nat) : (s.setHolding l).events = s.events := by obtain ⟨_, _, h⟩ := s.setHolding_eq l; rw [h]
@[simp] theorem State.setHolding_dma (s : State) (l : List Nat) : (s.setHolding l).dma = s.dma := by obtain ⟨_, _, h⟩ := s.setHolding_eq l; rw [h]
@[simp] theorem State.setHolding_regs (s : State) (l : List Nat) : (s.setHolding l).regs = s.regs := by obtain ⟨_, _, h⟩ := s.setHolding_eq l; rw [h]
@[simp] theorem State.setHolding_mgmt (s : State) (l : List Nat) : (s.setHolding l).mgmt = s.mgmt := by obtain ⟨_, _, h⟩ := s.setHolding_eq l; rw [h]
@[simp] theorem State.setHolding_data (s : State) (l : List Nat) : (s.setHolding l).data = s.data := by obtain ⟨_, _, h⟩ := s.setHolding_eq l; rw [h]
@[simp] theorem State.setHolding_lanes (s : State) (l : List Nat) : (s.setHolding l).lanes = s.lanes := by obtain ⟨_, _, h⟩ := s.setHolding_eq l; rw [h]
@[simp] theorem State.setHolding_clocks (s : State) (l : List Nat) : (s.setHolding l).clocks = s.clocks := by obtain ⟨_, _, h⟩ := s.setHolding_eq l; rw [h]
@[simp] theorem State.setHolding_cal (s : State) (l : List Nat) : (s.setHolding l).cal = s.cal := by obtain ⟨_, _, h⟩ := s.setHolding_eq l; rw [h]
@[simp] theorem State.setHolding_twin (s : State) (l : List Nat) : (s.setHolding l).twin = s.twin := by obtain ⟨_, _, h⟩ := s.setHolding_eq l; rw [h]
@[simp] theorem State.setHolding_fabric (s : State) (l : List Nat) : (s.setHolding l).fabric = s.fabric := by obtain ⟨_, _, h⟩ := s.setHolding_eq l; rw [h]
@[simp] theorem State.setHolding_health (s : State) (l : List Nat) : (s.setHolding l).health = s.health := by obtain ⟨_, _, h⟩ := s.setHolding_eq l; rw [h]
@[simp] theorem State.setHolding_power (s : State) (l : List Nat) : (s.setHolding l).power = s.power := by obtain ⟨_, _, h⟩ := s.setHolding_eq l; rw [h]
@[simp] theorem State.setHolding_crate (s : State) (l : List Nat) : (s.setHolding l).crate = s.crate := by obtain ⟨_, _, h⟩ := s.setHolding_eq l; rw [h]
@[simp] theorem State.setHolding_free (s : State) (l : List Nat) : (s.setHolding l).free = s.free := by obtain ⟨_, _, h⟩ := s.setHolding_eq l; rw [h]

/-! ### Events (R382, R383, R443 to R449) -/

/-- What raising an event can change: the queue, the log and what follows it, causes, the fallback ring, LOG_TAIL, and what leaves the package. -/
def State.EventStep (s t : State) : Prop :=
  ∃ ev i c w h o, t = { s with events := ev, intr := i, cal := c, twin := w, health := h, out := o }

theorem State.EventStep.refl (s : State) : s.EventStep s := ⟨_, _, _, _, _, _, rfl⟩

theorem State.EventStep.trans {s t u : State} (h1 : s.EventStep t) (h2 : t.EventStep u) : s.EventStep u := by
  obtain ⟨_, _, _, _, _, _, rfl⟩ := h1
  obtain ⟨_, _, _, _, _, _, rfl⟩ := h2
  exact ⟨_, _, _, _, _, _, rfl⟩

theorem foldl_eventStep {α : Type} (f : State → α → State) (h : ∀ (s : State) (a : α), s.EventStep (f s a)) (l : List α) (s : State) :
    s.EventStep (l.foldl f s) := by
  induction l generalizing s with
  | nil => exact .refl s
  | cons a l ih => exact (h s a).trans (ih (f s a))

theorem State.EventStep.events (s : State) (q : EventQueue) : s.EventStep { s with events := q } := ⟨_, _, _, _, _, _, rfl⟩

theorem State.EventStep.health (s : State) (h : Health) : s.EventStep { s with health := h } := ⟨_, _, _, _, _, _, rfl⟩

theorem State.setCause_step (s : State) (c : Nat) : s.EventStep (s.setCause c) := by
  obtain ⟨i, o, h⟩ := s.setCause_eq c
  rw [h]
  exact ⟨_, _, _, _, _, _, rfl⟩

theorem State.setHolding_step (s : State) (l : List Nat) : s.EventStep (s.setHolding l) := by
  obtain ⟨i, o, h⟩ := s.setHolding_eq l
  rw [h]
  exact ⟨_, _, _, _, _, _, rfl⟩

theorem State.emit_step (s : State) (o : OutItem) : s.EventStep (s.emit o) := ⟨_, _, _, _, _, _, rfl⟩

theorem State.sendEventDatagrams_step (s : State) (es : List EventEntry) : s.EventStep (s.sendEventDatagrams es) := by
  apply foldl_eventStep
  intro t x
  apply foldl_eventStep
  intro u e
  exact u.emit_step _

theorem State.sendSyslog_step (s : State) (e : LogEntry) : s.EventStep (s.sendSyslog e) := by
  unfold State.sendSyslog
  split
  · exact .refl s
  · exact s.emit_step _

theorem State.newEntry_step (s : State) (code die : Nat) (d : List Byte) : s.EventStep (s.newEntry code die d).2 := ⟨_, _, _, _, _, _, rfl⟩

theorem State.latch_step (s : State) (code : Nat) : s.EventStep (s.latch code) := by
  have h1 : s.EventStep (if severityOf code = 3 then { s with health := { s.health with alarm := true } } else s) := by
    split
    · exact ⟨_, _, _, _, _, _, rfl⟩
    · exact .refl s
  have h2 : ∀ t : State, t.EventStep (if severityOf code = 3 then t.setCause 15 else t) := by
    intro t
    split
    · exact t.setCause_step _
    · exact .refl t
  have h3 : ∀ t : State, t.EventStep (if code = 0x0002 then t.setCause 14 else t) := by
    intro t
    split
    · exact t.setCause_step _
    · exact .refl t
  exact (h1.trans (h2 _)).trans (h3 _)

theorem State.tail_step (s : State) (e : LogEntry) : s.EventStep (s.tail e) := by
  unfold State.tail
  split
  · exact ⟨_, _, _, _, _, _, rfl⟩
  · exact .refl s

theorem State.ringPut_step (s : State) (e : LogEntry) : s.EventStep (s.ringPut e) := ⟨_, _, _, _, _, _, rfl⟩

theorem State.logPut_step (s : State) (e : LogEntry) : s.EventStep (s.logPut e) :=
  State.EventStep.trans (t := { s with
    health := { s.health with log := { s.health.log.put e with badRun := 0 } }
    cal := { s.cal with backup := ringClear s.cal.backup e } }) ⟨_, _, _, _, _, _, rfl⟩ (State.tail_step _ e)

theorem State.badPut_step (s : State) (e : LogEntry) : s.EventStep (s.badPut e) :=
  (State.EventStep.health s _).trans (State.ringPut_step _ e)

theorem State.deliverPlain_step (s : State) (e : LogEntry) (b : Bool) : s.EventStep (s.deliverPlain e b) := by
  unfold State.deliverPlain
  dsimp only
  split
  · refine (s.latch_step e.code).trans ?_
    refine State.EventStep.trans ?_ (State.sendSyslog_step _ e)
    refine State.EventStep.trans ?_ (State.setHolding_step _ _)
    refine State.EventStep.trans ?_ (State.sendEventDatagrams_step _ _)
    exact ⟨_, _, _, _, _, _, rfl⟩
  · exact (s.latch_step e.code).trans (State.sendSyslog_step _ e)

theorem State.logPlain_step (s : State) (e : LogEntry) : s.EventStep (s.logPlain e) := by
  unfold State.logPlain
  split
  · exact s.ringPut_step e
  · split
    · split
      · exact s.badPut_step e
      · exact s.logPut_step e
    · split
      · exact ⟨_, _, _, _, _, _, rfl⟩
      · exact s.ringPut_step _

theorem State.mediaFail_step (push : State → LogEntry → State) (h : ∀ (s : State) (e : LogEntry), s.EventStep (push s e)) (s : State) (seq : Nat) (dead : Bool) :
    s.EventStep (s.mediaFail push seq dead) :=
  (s.newEntry_step 0x0707 0xFF (leBytes 8 seq ++ leBytes 1 (nat01 dead))).trans ((State.ringPut_step _ _).trans (h _ _))

theorem State.badSlot_step (push : State → LogEntry → State) (h : ∀ (s : State) (e : LogEntry), s.EventStep (push s e)) (s : State) (e : LogEntry) :
    s.EventStep (s.badSlot push e) := by
  unfold State.badSlot
  dsimp only
  split
  · exact (s.mediaFail_step push h _ _).trans ((State.EventStep.health _ _).trans (State.mediaFail_step push h _ _ _))
  · exact s.mediaFail_step push h _ _

theorem State.overflowMark_step (s : State) (m : LogEntry) : s.EventStep (s.overflowMark m) := by
  have h : s.EventStep { (s.logPlain m).deliverPlain m true with events := { ((s.logPlain m).deliverPlain m true).events with lost := 0 } } :=
    (s.logPlain_step m).trans ((State.deliverPlain_step _ _ _).trans (.events _ _))
  unfold State.overflowMark
  dsimp only
  split
  · exact h.trans (State.badSlot_step _ (fun s e => s.deliverPlain_step e false) _ _)
  · exact h

theorem State.deliver_step (s : State) (e : LogEntry) : s.EventStep (s.deliver e) := by
  unfold State.deliver
  split
  · exact (s.newEntry_step 0x0001 0xFF (leBytes 4 s.events.lost)).trans ((State.overflowMark_step _ _).trans (State.deliverPlain_step _ e false))
  · exact s.deliverPlain_step e false

theorem State.logStore_step (s : State) (e : LogEntry) : s.EventStep (s.logStore e) := by
  unfold State.logStore
  split
  · exact (s.logPlain_step e).trans (State.badSlot_step _ State.deliver_step _ _)
  · exact s.logPlain_step e

theorem State.plainEntry_step (s : State) (code die : Nat) (d : List Byte) :
    s.EventStep (((s.newEntry code die d).2.logStore (s.newEntry code die d).1).deliver (s.newEntry code die d).1) :=
  (s.newEntry_step _ _ _).trans ((State.logStore_step _ _).trans (State.deliver_step _ _))

theorem State.deferEpisode_step (s : State) (op : HoldOp) : s.EventStep (s.deferEpisode op) := by
  unfold State.deferEpisode
  split
  · exact .refl s
  · exact (State.EventStep.health s _).trans (State.plainEntry_step _ _ _ _)

theorem State.endEpisode_step (s : State) : s.EventStep s.endEpisode := ⟨_, _, _, _, _, _, rfl⟩

theorem State.logWrite_step (s : State) (e : LogEntry) : s.EventStep (s.logWrite e) := by
  unfold State.logWrite
  split
  · exact s.ringPut_step e
  · split
    · exact (s.logPlain_step e).trans (State.deferEpisode_step _ _)
    · exact s.endEpisode_step.trans (State.logStore_step _ _)

theorem State.noteDeath_step (s s0 : State) : s.EventStep (s.noteDeath s0) := by
  unfold State.noteDeath
  split
  · exact ⟨_, _, _, _, _, _, rfl⟩
  · exact .refl s

theorem State.raiseOne_step (s : State) (code die : Nat) (d : List Byte) : s.EventStep (s.raiseOne code die d) := by
  have h : s.EventStep ((((s.newEntry code die d).2).logWrite (s.newEntry code die d).1).deliver (s.newEntry code die d).1) :=
    (s.newEntry_step _ _ _).trans ((State.logWrite_step _ _).trans (State.deliver_step _ _))
  unfold State.raiseOne
  dsimp only
  split
  · exact h.trans ⟨_, _, _, _, _, _, rfl⟩
  · exact h

theorem State.storeNor_step (s : State) : s.EventStep s.storeNor := by
  unfold State.storeNor
  dsimp only
  split
  · exact ⟨_, _, _, _, _, _, rfl⟩
  · exact (State.EventStep.health s _).trans ((State.deferEpisode_step _ _).trans (State.noteDeath_step _ _))

theorem State.record_step (s : State) (u : UnitRecord) : s.EventStep (s.record u) := by
  unfold State.record
  dsimp only
  split
  · exact .refl s
  · exact State.EventStep.trans ⟨_, _, _, _, _, _, rfl⟩ (State.raiseOne_step _ _ _ _)

theorem State.reconcile_step (s : State) : s.EventStep s.reconcile := by
  unfold State.reconcile
  split
  · exact .refl s
  · refine State.EventStep.trans ?_ (State.storeNor_step _)
    refine State.EventStep.trans ?_ (foldl_eventStep _ State.record_step _ _)
    exact ⟨_, _, _, _, _, _, rfl⟩

theorem State.evident_step (s : State) (kind die index new : Nat) : s.EventStep (s.evident kind die index new) := by
  unfold State.evident
  dsimp only
  split
  · exact State.EventStep.trans ⟨_, _, _, _, _, _, rfl⟩ (State.reconcile_step _)
  · exact ⟨_, _, _, _, _, _, rfl⟩

/-- Everything that raising an event can do. -/
theorem State.raise_step (s : State) (code die : Nat) (d : List Byte) : s.EventStep (s.raise code die d) := by
  unfold State.raise
  dsimp only
  split
  · exact (s.raiseOne_step _ _ _).trans (State.evident_step _ _ _ _ _)
  · exact s.raiseOne_step _ _ _

theorem State.policyOverridden_step (s : State) (loop die tick : Nat) : s.EventStep (s.policyOverridden loop die tick) :=
  State.EventStep.trans ⟨_, _, _, _, _, _, rfl⟩ (State.raise_step _ _ _ _)

theorem State.override_step (s : State) (loop key die tick : Nat) : s.EventStep (s.override loop key die tick) := by
  unfold State.override
  dsimp only
  split
  · exact ⟨_, _, _, _, _, _, rfl⟩
  · exact State.EventStep.trans ⟨_, _, _, _, _, _, rfl⟩ (State.policyOverridden_step _ _ _ _)

@[simp] theorem State.raise_pending (s : State) (code die : Nat) (d : List Byte) : (s.raise code die d).pending = s.pending := by obtain ⟨_, _, _, _, _, _, h⟩ := s.raise_step code die d; rw [h]
@[simp] theorem State.raise_ident (s : State) (code die : Nat) (d : List Byte) : (s.raise code die d).ident = s.ident := by obtain ⟨_, _, _, _, _, _, h⟩ := s.raise_step code die d; rw [h]
@[simp] theorem State.raise_mail (s : State) (code die : Nat) (d : List Byte) : (s.raise code die d).mail = s.mail := by obtain ⟨_, _, _, _, _, _, h⟩ := s.raise_step code die d; rw [h]
@[simp] theorem State.raise_lease (s : State) (code die : Nat) (d : List Byte) : (s.raise code die d).lease = s.lease := by obtain ⟨_, _, _, _, _, _, h⟩ := s.raise_step code die d; rw [h]
@[simp] theorem State.raise_cfg (s : State) (code die : Nat) (d : List Byte) : (s.raise code die d).cfg = s.cfg := by obtain ⟨_, _, _, _, _, _, h⟩ := s.raise_step code die d; rw [h]
@[simp] theorem State.raise_dma (s : State) (code die : Nat) (d : List Byte) : (s.raise code die d).dma = s.dma := by obtain ⟨_, _, _, _, _, _, h⟩ := s.raise_step code die d; rw [h]
@[simp] theorem State.raise_regs (s : State) (code die : Nat) (d : List Byte) : (s.raise code die d).regs = s.regs := by obtain ⟨_, _, _, _, _, _, h⟩ := s.raise_step code die d; rw [h]
@[simp] theorem State.raise_mgmt (s : State) (code die : Nat) (d : List Byte) : (s.raise code die d).mgmt = s.mgmt := by obtain ⟨_, _, _, _, _, _, h⟩ := s.raise_step code die d; rw [h]
@[simp] theorem State.raise_data (s : State) (code die : Nat) (d : List Byte) : (s.raise code die d).data = s.data := by obtain ⟨_, _, _, _, _, _, h⟩ := s.raise_step code die d; rw [h]
@[simp] theorem State.raise_lanes (s : State) (code die : Nat) (d : List Byte) : (s.raise code die d).lanes = s.lanes := by obtain ⟨_, _, _, _, _, _, h⟩ := s.raise_step code die d; rw [h]
@[simp] theorem State.raise_clocks (s : State) (code die : Nat) (d : List Byte) : (s.raise code die d).clocks = s.clocks := by obtain ⟨_, _, _, _, _, _, h⟩ := s.raise_step code die d; rw [h]
@[simp] theorem State.raise_fabric (s : State) (code die : Nat) (d : List Byte) : (s.raise code die d).fabric = s.fabric := by obtain ⟨_, _, _, _, _, _, h⟩ := s.raise_step code die d; rw [h]
@[simp] theorem State.raise_power (s : State) (code die : Nat) (d : List Byte) : (s.raise code die d).power = s.power := by obtain ⟨_, _, _, _, _, _, h⟩ := s.raise_step code die d; rw [h]
@[simp] theorem State.raise_crate (s : State) (code die : Nat) (d : List Byte) : (s.raise code die d).crate = s.crate := by obtain ⟨_, _, _, _, _, _, h⟩ := s.raise_step code die d; rw [h]
@[simp] theorem State.raise_free (s : State) (code die : Nat) (d : List Byte) : (s.raise code die d).free = s.free := by obtain ⟨_, _, _, _, _, _, h⟩ := s.raise_step code die d; rw [h]
@[simp] theorem State.evident_pending (s : State) (kind die index new : Nat) : (s.evident kind die index new).pending = s.pending := by obtain ⟨_, _, _, _, _, _, h⟩ := s.evident_step kind die index new; rw [h]
@[simp] theorem State.evident_ident (s : State) (kind die index new : Nat) : (s.evident kind die index new).ident = s.ident := by obtain ⟨_, _, _, _, _, _, h⟩ := s.evident_step kind die index new; rw [h]
@[simp] theorem State.evident_mail (s : State) (kind die index new : Nat) : (s.evident kind die index new).mail = s.mail := by obtain ⟨_, _, _, _, _, _, h⟩ := s.evident_step kind die index new; rw [h]
@[simp] theorem State.evident_lease (s : State) (kind die index new : Nat) : (s.evident kind die index new).lease = s.lease := by obtain ⟨_, _, _, _, _, _, h⟩ := s.evident_step kind die index new; rw [h]
@[simp] theorem State.evident_cfg (s : State) (kind die index new : Nat) : (s.evident kind die index new).cfg = s.cfg := by obtain ⟨_, _, _, _, _, _, h⟩ := s.evident_step kind die index new; rw [h]
@[simp] theorem State.evident_dma (s : State) (kind die index new : Nat) : (s.evident kind die index new).dma = s.dma := by obtain ⟨_, _, _, _, _, _, h⟩ := s.evident_step kind die index new; rw [h]
@[simp] theorem State.evident_regs (s : State) (kind die index new : Nat) : (s.evident kind die index new).regs = s.regs := by obtain ⟨_, _, _, _, _, _, h⟩ := s.evident_step kind die index new; rw [h]
@[simp] theorem State.evident_mgmt (s : State) (kind die index new : Nat) : (s.evident kind die index new).mgmt = s.mgmt := by obtain ⟨_, _, _, _, _, _, h⟩ := s.evident_step kind die index new; rw [h]
@[simp] theorem State.evident_data (s : State) (kind die index new : Nat) : (s.evident kind die index new).data = s.data := by obtain ⟨_, _, _, _, _, _, h⟩ := s.evident_step kind die index new; rw [h]
@[simp] theorem State.evident_lanes (s : State) (kind die index new : Nat) : (s.evident kind die index new).lanes = s.lanes := by obtain ⟨_, _, _, _, _, _, h⟩ := s.evident_step kind die index new; rw [h]
@[simp] theorem State.evident_clocks (s : State) (kind die index new : Nat) : (s.evident kind die index new).clocks = s.clocks := by obtain ⟨_, _, _, _, _, _, h⟩ := s.evident_step kind die index new; rw [h]
@[simp] theorem State.evident_fabric (s : State) (kind die index new : Nat) : (s.evident kind die index new).fabric = s.fabric := by obtain ⟨_, _, _, _, _, _, h⟩ := s.evident_step kind die index new; rw [h]
@[simp] theorem State.evident_power (s : State) (kind die index new : Nat) : (s.evident kind die index new).power = s.power := by obtain ⟨_, _, _, _, _, _, h⟩ := s.evident_step kind die index new; rw [h]
@[simp] theorem State.evident_crate (s : State) (kind die index new : Nat) : (s.evident kind die index new).crate = s.crate := by obtain ⟨_, _, _, _, _, _, h⟩ := s.evident_step kind die index new; rw [h]
@[simp] theorem State.evident_free (s : State) (kind die index new : Nat) : (s.evident kind die index new).free = s.free := by obtain ⟨_, _, _, _, _, _, h⟩ := s.evident_step kind die index new; rw [h]
@[simp] theorem State.storeNor_pending (s : State) : (s.storeNor).pending = s.pending := by obtain ⟨_, _, _, _, _, _, h⟩ := s.storeNor_step; rw [h]
@[simp] theorem State.storeNor_ident (s : State) : (s.storeNor).ident = s.ident := by obtain ⟨_, _, _, _, _, _, h⟩ := s.storeNor_step; rw [h]
@[simp] theorem State.storeNor_mail (s : State) : (s.storeNor).mail = s.mail := by obtain ⟨_, _, _, _, _, _, h⟩ := s.storeNor_step; rw [h]
@[simp] theorem State.storeNor_lease (s : State) : (s.storeNor).lease = s.lease := by obtain ⟨_, _, _, _, _, _, h⟩ := s.storeNor_step; rw [h]
@[simp] theorem State.storeNor_cfg (s : State) : (s.storeNor).cfg = s.cfg := by obtain ⟨_, _, _, _, _, _, h⟩ := s.storeNor_step; rw [h]
@[simp] theorem State.storeNor_dma (s : State) : (s.storeNor).dma = s.dma := by obtain ⟨_, _, _, _, _, _, h⟩ := s.storeNor_step; rw [h]
@[simp] theorem State.storeNor_regs (s : State) : (s.storeNor).regs = s.regs := by obtain ⟨_, _, _, _, _, _, h⟩ := s.storeNor_step; rw [h]
@[simp] theorem State.storeNor_mgmt (s : State) : (s.storeNor).mgmt = s.mgmt := by obtain ⟨_, _, _, _, _, _, h⟩ := s.storeNor_step; rw [h]
@[simp] theorem State.storeNor_data (s : State) : (s.storeNor).data = s.data := by obtain ⟨_, _, _, _, _, _, h⟩ := s.storeNor_step; rw [h]
@[simp] theorem State.storeNor_lanes (s : State) : (s.storeNor).lanes = s.lanes := by obtain ⟨_, _, _, _, _, _, h⟩ := s.storeNor_step; rw [h]
@[simp] theorem State.storeNor_clocks (s : State) : (s.storeNor).clocks = s.clocks := by obtain ⟨_, _, _, _, _, _, h⟩ := s.storeNor_step; rw [h]
@[simp] theorem State.storeNor_fabric (s : State) : (s.storeNor).fabric = s.fabric := by obtain ⟨_, _, _, _, _, _, h⟩ := s.storeNor_step; rw [h]
@[simp] theorem State.storeNor_power (s : State) : (s.storeNor).power = s.power := by obtain ⟨_, _, _, _, _, _, h⟩ := s.storeNor_step; rw [h]
@[simp] theorem State.storeNor_crate (s : State) : (s.storeNor).crate = s.crate := by obtain ⟨_, _, _, _, _, _, h⟩ := s.storeNor_step; rw [h]
@[simp] theorem State.storeNor_free (s : State) : (s.storeNor).free = s.free := by obtain ⟨_, _, _, _, _, _, h⟩ := s.storeNor_step; rw [h]
@[simp] theorem State.override_pending (s : State) (loop key die tick : Nat) : (s.override loop key die tick).pending = s.pending := by obtain ⟨_, _, _, _, _, _, h⟩ := s.override_step loop key die tick; rw [h]
@[simp] theorem State.override_ident (s : State) (loop key die tick : Nat) : (s.override loop key die tick).ident = s.ident := by obtain ⟨_, _, _, _, _, _, h⟩ := s.override_step loop key die tick; rw [h]
@[simp] theorem State.override_mail (s : State) (loop key die tick : Nat) : (s.override loop key die tick).mail = s.mail := by obtain ⟨_, _, _, _, _, _, h⟩ := s.override_step loop key die tick; rw [h]
@[simp] theorem State.override_lease (s : State) (loop key die tick : Nat) : (s.override loop key die tick).lease = s.lease := by obtain ⟨_, _, _, _, _, _, h⟩ := s.override_step loop key die tick; rw [h]
@[simp] theorem State.override_cfg (s : State) (loop key die tick : Nat) : (s.override loop key die tick).cfg = s.cfg := by obtain ⟨_, _, _, _, _, _, h⟩ := s.override_step loop key die tick; rw [h]
@[simp] theorem State.override_dma (s : State) (loop key die tick : Nat) : (s.override loop key die tick).dma = s.dma := by obtain ⟨_, _, _, _, _, _, h⟩ := s.override_step loop key die tick; rw [h]
@[simp] theorem State.override_regs (s : State) (loop key die tick : Nat) : (s.override loop key die tick).regs = s.regs := by obtain ⟨_, _, _, _, _, _, h⟩ := s.override_step loop key die tick; rw [h]
@[simp] theorem State.override_mgmt (s : State) (loop key die tick : Nat) : (s.override loop key die tick).mgmt = s.mgmt := by obtain ⟨_, _, _, _, _, _, h⟩ := s.override_step loop key die tick; rw [h]
@[simp] theorem State.override_data (s : State) (loop key die tick : Nat) : (s.override loop key die tick).data = s.data := by obtain ⟨_, _, _, _, _, _, h⟩ := s.override_step loop key die tick; rw [h]
@[simp] theorem State.override_lanes (s : State) (loop key die tick : Nat) : (s.override loop key die tick).lanes = s.lanes := by obtain ⟨_, _, _, _, _, _, h⟩ := s.override_step loop key die tick; rw [h]
@[simp] theorem State.override_clocks (s : State) (loop key die tick : Nat) : (s.override loop key die tick).clocks = s.clocks := by obtain ⟨_, _, _, _, _, _, h⟩ := s.override_step loop key die tick; rw [h]
@[simp] theorem State.override_fabric (s : State) (loop key die tick : Nat) : (s.override loop key die tick).fabric = s.fabric := by obtain ⟨_, _, _, _, _, _, h⟩ := s.override_step loop key die tick; rw [h]
@[simp] theorem State.override_power (s : State) (loop key die tick : Nat) : (s.override loop key die tick).power = s.power := by obtain ⟨_, _, _, _, _, _, h⟩ := s.override_step loop key die tick; rw [h]
@[simp] theorem State.override_crate (s : State) (loop key die tick : Nat) : (s.override loop key die tick).crate = s.crate := by obtain ⟨_, _, _, _, _, _, h⟩ := s.override_step loop key die tick; rw [h]
@[simp] theorem State.override_free (s : State) (loop key die tick : Nat) : (s.override loop key die tick).free = s.free := by obtain ⟨_, _, _, _, _, _, h⟩ := s.override_step loop key die tick; rw [h]
@[simp] theorem State.logWrite_pending (s : State) (e : LogEntry) : (s.logWrite e).pending = s.pending := by obtain ⟨_, _, _, _, _, _, h⟩ := s.logWrite_step e; rw [h]
@[simp] theorem State.logWrite_ident (s : State) (e : LogEntry) : (s.logWrite e).ident = s.ident := by obtain ⟨_, _, _, _, _, _, h⟩ := s.logWrite_step e; rw [h]
@[simp] theorem State.logWrite_mail (s : State) (e : LogEntry) : (s.logWrite e).mail = s.mail := by obtain ⟨_, _, _, _, _, _, h⟩ := s.logWrite_step e; rw [h]
@[simp] theorem State.logWrite_lease (s : State) (e : LogEntry) : (s.logWrite e).lease = s.lease := by obtain ⟨_, _, _, _, _, _, h⟩ := s.logWrite_step e; rw [h]
@[simp] theorem State.logWrite_cfg (s : State) (e : LogEntry) : (s.logWrite e).cfg = s.cfg := by obtain ⟨_, _, _, _, _, _, h⟩ := s.logWrite_step e; rw [h]
@[simp] theorem State.logWrite_dma (s : State) (e : LogEntry) : (s.logWrite e).dma = s.dma := by obtain ⟨_, _, _, _, _, _, h⟩ := s.logWrite_step e; rw [h]
@[simp] theorem State.logWrite_regs (s : State) (e : LogEntry) : (s.logWrite e).regs = s.regs := by obtain ⟨_, _, _, _, _, _, h⟩ := s.logWrite_step e; rw [h]
@[simp] theorem State.logWrite_mgmt (s : State) (e : LogEntry) : (s.logWrite e).mgmt = s.mgmt := by obtain ⟨_, _, _, _, _, _, h⟩ := s.logWrite_step e; rw [h]
@[simp] theorem State.logWrite_data (s : State) (e : LogEntry) : (s.logWrite e).data = s.data := by obtain ⟨_, _, _, _, _, _, h⟩ := s.logWrite_step e; rw [h]
@[simp] theorem State.logWrite_lanes (s : State) (e : LogEntry) : (s.logWrite e).lanes = s.lanes := by obtain ⟨_, _, _, _, _, _, h⟩ := s.logWrite_step e; rw [h]
@[simp] theorem State.logWrite_clocks (s : State) (e : LogEntry) : (s.logWrite e).clocks = s.clocks := by obtain ⟨_, _, _, _, _, _, h⟩ := s.logWrite_step e; rw [h]
@[simp] theorem State.logWrite_fabric (s : State) (e : LogEntry) : (s.logWrite e).fabric = s.fabric := by obtain ⟨_, _, _, _, _, _, h⟩ := s.logWrite_step e; rw [h]
@[simp] theorem State.logWrite_power (s : State) (e : LogEntry) : (s.logWrite e).power = s.power := by obtain ⟨_, _, _, _, _, _, h⟩ := s.logWrite_step e; rw [h]
@[simp] theorem State.logWrite_crate (s : State) (e : LogEntry) : (s.logWrite e).crate = s.crate := by obtain ⟨_, _, _, _, _, _, h⟩ := s.logWrite_step e; rw [h]
@[simp] theorem State.logWrite_free (s : State) (e : LogEntry) : (s.logWrite e).free = s.free := by obtain ⟨_, _, _, _, _, _, h⟩ := s.logWrite_step e; rw [h]

end Sys2Proof.Machine
end

