-- ==== Sys2Proof/Laws/Command.lean ====
section
/-! SUPPORT. Completing a command in a mailbox, and running one: what they leave, and the one equation that a served command whose tests pass follows. -/

namespace Sys2Proof.Machine

theorem SameButMail.refl (s : State) : SameButMail s s := ⟨_, _, _, _, rfl⟩

theorem SameButMail.trans {s t u : State} (h1 : SameButMail s t) (h2 : SameButMail t u) : SameButMail s u := by
  obtain ⟨_, _, _, _, rfl⟩ := h1
  obtain ⟨_, _, _, _, rfl⟩ := h2
  exact ⟨_, _, _, _, rfl⟩

theorem State.modBox_same (s : State) (m : Nat) (f : Mailbox → Mailbox) : SameButMail s (s.modBox m f) := ⟨_, _, _, _, rfl⟩

theorem State.setCause_same (s : State) (c : Nat) : SameButMail s (s.setCause c) := by
  obtain ⟨i, o, h⟩ := s.setCause_eq c
  rw [h]
  exact ⟨_, _, _, _, rfl⟩

theorem State.pushCompletion_same (s : State) (c : Nat) (e : Completion) : SameButMail s (s.pushCompletion c e) := by
  unfold State.pushCompletion
  exact SameButMail.trans ⟨_, _, _, _, rfl⟩ (State.setCause_same _ _)

theorem State.sendReply_same (s : State) (m : Nat) : SameButMail s (s.sendReply m) := by
  unfold State.sendReply
  split
  · exact .refl s
  · exact ⟨_, _, _, _, rfl⟩

/-- Everything that a completion can change. -/
theorem State.complete_same (s : State) (m : Nat) (st : Status) (d : Nat) (r : List Byte) : SameButMail s (s.complete m st d r) := by
  unfold State.complete
  dsimp only
  refine SameButMail.trans ?_ (State.sendReply_same _ _)
  split
  · exact SameButMail.trans ⟨_, _, _, _, rfl⟩ (State.pushCompletion_same _ _ _)
  · exact ⟨_, _, _, _, rfl⟩

@[simp] theorem State.complete_pending (s : State) (m : Nat) (st : Status) (d : Nat) (r : List Byte) : (s.complete m st d r).pending = s.pending := by
  obtain ⟨_, _, _, _, h⟩ := s.complete_same m st d r
  rw [h]

@[simp] theorem State.complete_ident (s : State) (m : Nat) (st : Status) (d : Nat) (r : List Byte) : (s.complete m st d r).ident = s.ident := by
  obtain ⟨_, _, _, _, h⟩ := s.complete_same m st d r
  rw [h]

@[simp] theorem State.complete_lease (s : State) (m : Nat) (st : Status) (d : Nat) (r : List Byte) : (s.complete m st d r).lease = s.lease := by
  obtain ⟨_, _, _, _, h⟩ := s.complete_same m st d r
  rw [h]

@[simp] theorem State.complete_cfg (s : State) (m : Nat) (st : Status) (d : Nat) (r : List Byte) : (s.complete m st d r).cfg = s.cfg := by
  obtain ⟨_, _, _, _, h⟩ := s.complete_same m st d r
  rw [h]

@[simp] theorem State.complete_events (s : State) (m : Nat) (st : Status) (d : Nat) (r : List Byte) : (s.complete m st d r).events = s.events := by
  obtain ⟨_, _, _, _, h⟩ := s.complete_same m st d r
  rw [h]

@[simp] theorem State.complete_dma (s : State) (m : Nat) (st : Status) (d : Nat) (r : List Byte) : (s.complete m st d r).dma = s.dma := by
  obtain ⟨_, _, _, _, h⟩ := s.complete_same m st d r
  rw [h]

@[simp] theorem State.complete_regs (s : State) (m : Nat) (st : Status) (d : Nat) (r : List Byte) : (s.complete m st d r).regs = s.regs := by
  obtain ⟨_, _, _, _, h⟩ := s.complete_same m st d r
  rw [h]

@[simp] theorem State.complete_data (s : State) (m : Nat) (st : Status) (d : Nat) (r : List Byte) : (s.complete m st d r).data = s.data := by
  obtain ⟨_, _, _, _, h⟩ := s.complete_same m st d r
  rw [h]

@[simp] theorem State.complete_lanes (s : State) (m : Nat) (st : Status) (d : Nat) (r : List Byte) : (s.complete m st d r).lanes = s.lanes := by
  obtain ⟨_, _, _, _, h⟩ := s.complete_same m st d r
  rw [h]

@[simp] theorem State.complete_clocks (s : State) (m : Nat) (st : Status) (d : Nat) (r : List Byte) : (s.complete m st d r).clocks = s.clocks := by
  obtain ⟨_, _, _, _, h⟩ := s.complete_same m st d r
  rw [h]

@[simp] theorem State.complete_cal (s : State) (m : Nat) (st : Status) (d : Nat) (r : List Byte) : (s.complete m st d r).cal = s.cal := by
  obtain ⟨_, _, _, _, h⟩ := s.complete_same m st d r
  rw [h]

@[simp] theorem State.complete_twin (s : State) (m : Nat) (st : Status) (d : Nat) (r : List Byte) : (s.complete m st d r).twin = s.twin := by
  obtain ⟨_, _, _, _, h⟩ := s.complete_same m st d r
  rw [h]

@[simp] theorem State.complete_fabric (s : State) (m : Nat) (st : Status) (d : Nat) (r : List Byte) : (s.complete m st d r).fabric = s.fabric := by
  obtain ⟨_, _, _, _, h⟩ := s.complete_same m st d r
  rw [h]

@[simp] theorem State.complete_health (s : State) (m : Nat) (st : Status) (d : Nat) (r : List Byte) : (s.complete m st d r).health = s.health := by
  obtain ⟨_, _, _, _, h⟩ := s.complete_same m st d r
  rw [h]

@[simp] theorem State.complete_power (s : State) (m : Nat) (st : Status) (d : Nat) (r : List Byte) : (s.complete m st d r).power = s.power := by
  obtain ⟨_, _, _, _, h⟩ := s.complete_same m st d r
  rw [h]

@[simp] theorem State.complete_crate (s : State) (m : Nat) (st : Status) (d : Nat) (r : List Byte) : (s.complete m st d r).crate = s.crate := by
  obtain ⟨_, _, _, _, h⟩ := s.complete_same m st d r
  rw [h]

@[simp] theorem State.complete_free (s : State) (m : Nat) (st : Status) (d : Nat) (r : List Byte) : (s.complete m st d r).free = s.free := by
  obtain ⟨_, _, _, _, h⟩ := s.complete_same m st d r
  rw [h]

@[simp] theorem State.setCause_box (s : State) (c m : Nat) : (s.setCause c).box m = s.box m := by unfold State.box; rw [State.setCause_mail]

@[simp] theorem State.sendReply_box (s : State) (n m : Nat) : (s.sendReply n).box m = s.box m := by
  unfold State.sendReply
  split <;> rfl

theorem getD_modify_same {α : Type} (l : List α) (i : Nat) (f : α → α) (d : α) (h : i < l.length) : (l.modify i f).getD i d = f (l.getD i d) := by
  simp [h]

theorem getD_modify_other {α : Type} (l : List α) (i j : Nat) (f : α → α) (d : α) (h : i ≠ j) : (l.modify i f).getD j d = l.getD j d := by
  simp [h]

theorem State.modBox_box (s : State) (m : Nat) (f : Mailbox → Mailbox) (h : m < s.mail.boxes.length) : (s.modBox m f).box m = f (s.box m) :=
  getD_modify_same _ _ _ _ h

theorem State.modBox_box_other (s : State) (m n : Nat) (f : Mailbox → Mailbox) (h : m ≠ n) : (s.modBox m f).box n = s.box n :=
  getD_modify_other _ _ _ _ _ h

/-- A completion whose queue has room shows in the mailbox (R364). -/
theorem State.complete_answered (s : State) (m : Nat) (st : Status) (d : Nat) (r : List Byte) (hm : m < s.mail.boxes.length)
    (hq : (s.mail.queues.getD (s.box m).cqSel.toNat {}).depth < 16) : Answered (s.complete m st d r) m st r := by
  have hb : (s.complete m st d r).box m = Mailbox.finish { s.box m with
      message := overwrite (s.box m).message 0 r, status := st.code, replyLen := r.length, detail := BitVec.ofNat 32 d } := by
    unfold State.complete
    dsimp only
    rw [State.modBox_box _ _ _ hm]
    dsimp only
    have hq' : ((s.modBox m fun b => { b with
        message := overwrite b.message 0 r, status := st.code, replyLen := r.length, detail := BitVec.ofNat 32 d }).mail.queues.getD
          (s.box m).cqSel.toNat {}).depth < 16 := hq
    rw [if_pos hq', State.sendReply_box]
    unfold State.pushCompletion
    rw [State.setCause_box]
    dsimp only
    rw [State.modBox_box]
    · congr 1
      exact State.modBox_box s m _ hm
    · simpa [State.modBox] using hm
  constructor
  · rw [hb]; unfold Mailbox.finish; dsimp only; split <;> rfl
  · rw [hb]; unfold Mailbox.finish; dsimp only; split <;> rfl
  · rw [hb]; unfold Mailbox.finish; dsimp only; split <;> rfl
  · rw [hb]; unfold Mailbox.finish; dsimp only; split <;> rfl
  · rw [hb]
    have h : ∀ b : Mailbox, b.finish.message = b.message := by intro b; unfold Mailbox.finish; dsimp only; split <;> rfl
    rw [h]
    simp [overwrite]

/-! ### The state as the lead core finds it -/

@[simp] theorem State.refreshPipes_pending (s : State) : s.refreshPipes.pending = s.pending := by
  unfold State.refreshPipes
  split
  · rfl
  · split <;> rfl

@[simp] theorem State.refreshPipes_ident (s : State) : s.refreshPipes.ident = s.ident := by
  unfold State.refreshPipes
  split
  · rfl
  · split <;> rfl

@[simp] theorem State.refreshPipes_mail (s : State) : s.refreshPipes.mail = s.mail := by
  unfold State.refreshPipes
  split
  · rfl
  · split <;> rfl

@[simp] theorem State.refreshPipes_lease (s : State) : s.refreshPipes.lease = s.lease := by
  unfold State.refreshPipes
  split
  · rfl
  · split <;> rfl

@[simp] theorem State.refreshPipes_events (s : State) : s.refreshPipes.events = s.events := by
  unfold State.refreshPipes
  split
  · rfl
  · split <;> rfl

@[simp] theorem State.refreshPipes_intr (s : State) : s.refreshPipes.intr = s.intr := by
  unfold State.refreshPipes
  split
  · rfl
  · split <;> rfl

@[simp] theorem State.refreshPipes_dma (s : State) : s.refreshPipes.dma = s.dma := by
  unfold State.refreshPipes
  split
  · rfl
  · split <;> rfl

@[simp] theorem State.refreshPipes_regs (s : State) : s.refreshPipes.regs = s.regs := by
  unfold State.refreshPipes
  split
  · rfl
  · split <;> rfl

@[simp] theorem State.refreshPipes_mgmt (s : State) : s.refreshPipes.mgmt = s.mgmt := by
  unfold State.refreshPipes
  split
  · rfl
  · split <;> rfl

@[simp] theorem State.refreshPipes_data (s : State) : s.refreshPipes.data = s.data := by
  unfold State.refreshPipes
  split
  · rfl
  · split <;> rfl

@[simp] theorem State.refreshPipes_lanes (s : State) : s.refreshPipes.lanes = s.lanes := by
  unfold State.refreshPipes
  split
  · rfl
  · split <;> rfl

@[simp] theorem State.refreshPipes_clocks (s : State) : s.refreshPipes.clocks = s.clocks := by
  unfold State.refreshPipes
  split
  · rfl
  · split <;> rfl

@[simp] theorem State.refreshPipes_cal (s : State) : s.refreshPipes.cal = s.cal := by
  unfold State.refreshPipes
  split
  · rfl
  · split <;> rfl

@[simp] theorem State.refreshPipes_twin (s : State) : s.refreshPipes.twin = s.twin := by
  unfold State.refreshPipes
  split
  · rfl
  · split <;> rfl

@[simp] theorem State.refreshPipes_fabric (s : State) : s.refreshPipes.fabric = s.fabric := by
  unfold State.refreshPipes
  split
  · rfl
  · split <;> rfl

@[simp] theorem State.refreshPipes_health (s : State) : s.refreshPipes.health = s.health := by
  unfold State.refreshPipes
  split
  · rfl
  · split <;> rfl

@[simp] theorem State.refreshPipes_power (s : State) : s.refreshPipes.power = s.power := by
  unfold State.refreshPipes
  split
  · rfl
  · split <;> rfl

@[simp] theorem State.refreshPipes_crate (s : State) : s.refreshPipes.crate = s.crate := by
  unfold State.refreshPipes
  split
  · rfl
  · split <;> rfl

@[simp] theorem State.refreshPipes_free (s : State) : s.refreshPipes.free = s.free := by
  unfold State.refreshPipes
  split
  · rfl
  · split <;> rfl

@[simp] theorem State.refreshPipes_out (s : State) : s.refreshPipes.out = s.out := by
  unfold State.refreshPipes
  split
  · rfl
  · split <;> rfl

@[simp] theorem State.renew_pending (s : State) (o : Origin) (op : Nat) : (s.renew o op).pending = s.pending := by
  unfold State.renew
  split <;> rfl

@[simp] theorem State.renew_ident (s : State) (o : Origin) (op : Nat) : (s.renew o op).ident = s.ident := by
  unfold State.renew
  split <;> rfl

@[simp] theorem State.renew_mail (s : State) (o : Origin) (op : Nat) : (s.renew o op).mail = s.mail := by
  unfold State.renew
  split <;> rfl

@[simp] theorem State.renew_cfg (s : State) (o : Origin) (op : Nat) : (s.renew o op).cfg = s.cfg := by
  unfold State.renew
  split <;> rfl

@[simp] theorem State.renew_events (s : State) (o : Origin) (op : Nat) : (s.renew o op).events = s.events := by
  unfold State.renew
  split <;> rfl

@[simp] theorem State.renew_intr (s : State) (o : Origin) (op : Nat) : (s.renew o op).intr = s.intr := by
  unfold State.renew
  split <;> rfl

@[simp] theorem State.renew_dma (s : State) (o : Origin) (op : Nat) : (s.renew o op).dma = s.dma := by
  unfold State.renew
  split <;> rfl

@[simp] theorem State.renew_regs (s : State) (o : Origin) (op : Nat) : (s.renew o op).regs = s.regs := by
  unfold State.renew
  split <;> rfl

@[simp] theorem State.renew_mgmt (s : State) (o : Origin) (op : Nat) : (s.renew o op).mgmt = s.mgmt := by
  unfold State.renew
  split <;> rfl

@[simp] theorem State.renew_data (s : State) (o : Origin) (op : Nat) : (s.renew o op).data = s.data := by
  unfold State.renew
  split <;> rfl

@[simp] theorem State.renew_lanes (s : State) (o : Origin) (op : Nat) : (s.renew o op).lanes = s.lanes := by
  unfold State.renew
  split <;> rfl

@[simp] theorem State.renew_clocks (s : State) (o : Origin) (op : Nat) : (s.renew o op).clocks = s.clocks := by
  unfold State.renew
  split <;> rfl

@[simp] theorem State.renew_cal (s : State) (o : Origin) (op : Nat) : (s.renew o op).cal = s.cal := by
  unfold State.renew
  split <;> rfl

@[simp] theorem State.renew_twin (s : State) (o : Origin) (op : Nat) : (s.renew o op).twin = s.twin := by
  unfold State.renew
  split <;> rfl

@[simp] theorem State.renew_fabric (s : State) (o : Origin) (op : Nat) : (s.renew o op).fabric = s.fabric := by
  unfold State.renew
  split <;> rfl

@[simp] theorem State.renew_health (s : State) (o : Origin) (op : Nat) : (s.renew o op).health = s.health := by
  unfold State.renew
  split <;> rfl

@[simp] theorem State.renew_power (s : State) (o : Origin) (op : Nat) : (s.renew o op).power = s.power := by
  unfold State.renew
  split <;> rfl

@[simp] theorem State.renew_crate (s : State) (o : Origin) (op : Nat) : (s.renew o op).crate = s.crate := by
  unfold State.renew
  split <;> rfl

@[simp] theorem State.renew_free (s : State) (o : Origin) (op : Nat) : (s.renew o op).free = s.free := by
  unfold State.renew
  split <;> rfl

@[simp] theorem State.renew_out (s : State) (o : Origin) (op : Nat) : (s.renew o op).out = s.out := by
  unfold State.renew
  split <;> rfl

@[simp] theorem State.taken_pending (s : State) (o : Origin) (op : Nat) (args : List Byte) : (s.taken o op args).pending = s.pending := by
  unfold State.taken
  simp

@[simp] theorem State.taken_ident (s : State) (o : Origin) (op : Nat) (args : List Byte) : (s.taken o op args).ident = s.ident := by
  unfold State.taken
  simp

@[simp] theorem State.taken_events (s : State) (o : Origin) (op : Nat) (args : List Byte) : (s.taken o op args).events = s.events := by
  unfold State.taken
  simp

@[simp] theorem State.taken_intr (s : State) (o : Origin) (op : Nat) (args : List Byte) : (s.taken o op args).intr = s.intr := by
  unfold State.taken
  simp

@[simp] theorem State.taken_dma (s : State) (o : Origin) (op : Nat) (args : List Byte) : (s.taken o op args).dma = s.dma := by
  unfold State.taken
  simp

@[simp] theorem State.taken_regs (s : State) (o : Origin) (op : Nat) (args : List Byte) : (s.taken o op args).regs = s.regs := by
  unfold State.taken
  simp

@[simp] theorem State.taken_mgmt (s : State) (o : Origin) (op : Nat) (args : List Byte) : (s.taken o op args).mgmt = s.mgmt := by
  unfold State.taken
  simp

@[simp] theorem State.taken_data (s : State) (o : Origin) (op : Nat) (args : List Byte) : (s.taken o op args).data = s.data := by
  unfold State.taken
  simp

@[simp] theorem State.taken_lanes (s : State) (o : Origin) (op : Nat) (args : List Byte) : (s.taken o op args).lanes = s.lanes := by
  unfold State.taken
  simp

@[simp] theorem State.taken_clocks (s : State) (o : Origin) (op : Nat) (args : List Byte) : (s.taken o op args).clocks = s.clocks := by
  unfold State.taken
  simp

@[simp] theorem State.taken_cal (s : State) (o : Origin) (op : Nat) (args : List Byte) : (s.taken o op args).cal = s.cal := by
  unfold State.taken
  simp

@[simp] theorem State.taken_twin (s : State) (o : Origin) (op : Nat) (args : List Byte) : (s.taken o op args).twin = s.twin := by
  unfold State.taken
  simp

@[simp] theorem State.taken_fabric (s : State) (o : Origin) (op : Nat) (args : List Byte) : (s.taken o op args).fabric = s.fabric := by
  unfold State.taken
  simp

@[simp] theorem State.taken_health (s : State) (o : Origin) (op : Nat) (args : List Byte) : (s.taken o op args).health = s.health := by
  unfold State.taken
  simp

@[simp] theorem State.taken_power (s : State) (o : Origin) (op : Nat) (args : List Byte) : (s.taken o op args).power = s.power := by
  unfold State.taken
  simp

@[simp] theorem State.taken_crate (s : State) (o : Origin) (op : Nat) (args : List Byte) : (s.taken o op args).crate = s.crate := by
  unfold State.taken
  simp

@[simp] theorem State.taken_free (s : State) (o : Origin) (op : Nat) (args : List Byte) : (s.taken o op args).free = s.free := by
  unfold State.taken
  simp

@[simp] theorem State.taken_out (s : State) (o : Origin) (op : Nat) (args : List Byte) : (s.taken o op args).out = s.out := by
  unfold State.taken
  simp

@[simp] theorem State.refreshPipes_tick (s : State) : s.refreshPipes.cfg.tick = s.cfg.tick := by
  unfold State.refreshPipes
  split
  · rfl
  · split <;> rfl

@[simp] theorem State.renew_owner (s : State) (o : Origin) (op : Nat) : (s.renew o op).lease.owner = s.lease.owner := by
  unfold State.renew
  split <;> rfl

@[simp] theorem State.renew_staged (s : State) (o : Origin) (op : Nat) : (s.renew o op).lease.staged = s.lease.staged := by
  unfold State.renew
  split <;> rfl

@[simp] theorem State.taken_staged (s : State) (o : Origin) (op : Nat) (args : List Byte) : (s.taken o op args).lease.staged = s.lease.staged := by
  unfold State.taken
  simp

@[simp] theorem State.taken_owner (s : State) (o : Origin) (op : Nat) (args : List Byte) : (s.taken o op args).lease.owner = s.lease.owner := by
  unfold State.taken
  simp

@[simp] theorem State.taken_mail (s : State) (o : Origin) (op : Nat) (args : List Byte) :
    (s.taken o op args).mail = { s.mail with boxes := s.mail.boxes.modify o.mailbox (Mailbox.load op args) } := by
  unfold State.taken
  simp

theorem State.taken_tick (s : State) (o : Origin) (op : Nat) (args : List Byte) : (s.taken o op args).cfg.tick = s.cfg.tick := by
  unfold State.taken
  simp

@[simp] theorem State.renew_holds (s : State) (o p : Origin) (op : Nat) : (s.renew o op).holds p = s.holds p := by
  unfold State.renew
  split <;> rfl

@[simp] theorem State.taken_holds (s : State) (o p : Origin) (op : Nat) (args : List Byte) : (s.taken o op args).holds p = s.holds p := by
  unfold State.taken
  rw [State.renew_holds]
  unfold State.holds
  simp

theorem State.taken_box (s : State) (o : Origin) (op : Nat) (args : List Byte) (h : o.mailbox < s.mail.boxes.length) :
    (s.taken o op args).box o.mailbox = Mailbox.load op args (s.box o.mailbox) := by
  unfold State.box
  rw [State.taken_mail]
  exact getD_modify_same _ _ _ _ h

/-- The gates of a command that is known, is not refused by a standby and needs no lease that its sender lacks all pass (R374, R507). -/
theorem State.gates_pass (s : State) (o : Origin) (op : Nat) (args : List Byte) (hn : s.health.fw.recovery = false) (hop : (classOf op).isSome = true)
    (hs : (s.twin.role == .standby && standbyRefuses op args) = false) (hl : classOf op = some .s ∨ classOf op = some .o → s.holds o = true ∨ s.twin.role = .standby) :
    firstFail (s.gates o op args none) = none := by
  have hn' : (classOf op).isNone = false := by rw [← Option.not_isSome, hop]; rfl
  have hs' : (s.twin.role == .standby && !s.claimless && standbyRefuses op args) = false := by rw [Bool.and_right_comm, hs, Bool.false_and]
  unfold State.gates
  simp only [hn, hn', Bool.false_and, Bool.or_false, hs', Bool.not_false, Bool.and_true, Option.isSome_none]
  by_cases h : ((classOf op == some CmdClass.s || classOf op == some CmdClass.o) && s.twin.role != .standby) = true
  · have h' := h
    rw [Bool.and_eq_true, Bool.or_eq_true, beq_iff_eq, beq_iff_eq] at h'
    have hh : s.holds o = true := (hl h'.1).resolve_right (by simpa using h'.2)
    have ho : s.lease.owner.isNone = false := by
      unfold State.holds at hh
      rw [Bool.and_eq_true] at hh
      have := hh.1
      rw [beq_iff_eq] at this
      rw [this]
      rfl
    simp [h, firstFail, State.lockChecks, hh, ho]
  · simp [h, firstFail]

/-- A served command whose gates and own tests pass and that is neither journalled nor CONFIG_COMMIT completes with its reply (R364). -/
theorem State.row_done {s u : State} {o : Origin} {op : Nat} {args : List Byte} {len : List Byte → Option Nat} {cmd : Cmd} {d : Nat} {st : Status}
    {r : List Byte} (h : Served s o) (hlen : args.length ≤ 1024) (hargs : len args = none) (hop : (classOf op).isSome = true)
    (hs : (s.twin.role == .standby && standbyRefuses op args) = false) (hl : classOf op = some .s ∨ classOf op = some .o → s.holds o = true ∨ s.twin.role = .standby)
    (hc : cmd o args (s.taken o op args) = .done st d r u) (hj : journalled op args = false ∨ s.lease.staged.length < u.lease.staged.length)
    (h11 : op ≠ 0x0011) : s.row o op args len cmd = u.complete o.mailbox st d r := by
  unfold State.row
  dsimp only
  have hst : ¬ ((s.modBox o.mailbox (Mailbox.load op args)).power.stage < 3 ∧ ¬ (s.modBox o.mailbox (Mailbox.load op args)).health.fw.recovery) := by
    intro x
    have := h.stage
    simp only [State.modBox_power] at x
    omega
  rw [if_neg hst, if_pos hlen, hargs]
  unfold State.runCommand
  have hg := State.gates_pass (s.taken o op args) o op args (by simpa using h.normal) hop (by simpa using hs) (by simpa using hl)
  unfold State.taken at hg hc
  dsimp only
  rw [hg, hc]
  unfold State.conclude
  have hc1 : ¬(st = .ok ∧ journalled op args = true ∧
      ¬ ((s.modBox o.mailbox (Mailbox.load op args)).refreshPipes.renew o op).lease.staged.length < u.lease.staged.length) := by
    rintro ⟨_, hj1, hj2⟩
    rcases hj with hj | hj
    · rw [hj] at hj1
      exact Bool.noConfusion hj1
    · apply hj2
      simpa using hj
  dsimp only
  rw [if_neg hc1, if_neg (by rintro ⟨_, h1, _⟩; exact h11 h1)]

/-- A served journalled command whose tests pass sends its entry and completes, unless a hot standby must acknowledge it first (R339, R364). -/
theorem State.row_journalled {s u : State} {o : Origin} {op : Nat} {args : List Byte} {len : List Byte → Option Nat} {cmd : Cmd} {d : Nat}
    {r : List Byte} (h : Served s o) (hlen : args.length ≤ 1024) (hargs : len args = none) (hop : (classOf op).isSome = true)
    (hs : (s.twin.role == .standby && standbyRefuses op args) = false)
    (hl : classOf op = some .s ∨ classOf op = some .o → s.holds o = true ∨ s.twin.role = .standby)
    (hc : cmd o args (s.taken o op args) = .done .ok d r u) (hj : journalled op args = true) (hn : ¬ s.lease.staged.length < u.lease.staged.length)
    (hh : (u.journal op args ((s.taken o op args).journalMem op args) 0).awaitsAck op args = false) :
    s.row o op args len cmd = (u.journal op args ((s.taken o op args).journalMem op args) 0).complete o.mailbox .ok d r := by
  unfold State.row
  dsimp only
  have hst : ¬ ((s.modBox o.mailbox (Mailbox.load op args)).power.stage < 3 ∧ ¬ (s.modBox o.mailbox (Mailbox.load op args)).health.fw.recovery) := by
    intro x
    have := h.stage
    simp only [State.modBox_power] at x
    omega
  rw [if_neg hst, if_pos hlen, hargs]
  unfold State.runCommand
  have hg := State.gates_pass (s.taken o op args) o op args (by simpa using h.normal) hop (by simpa using hs) (by simpa using hl)
  unfold State.taken at hg hc hh ⊢
  dsimp only
  rw [hg, hc]
  unfold State.conclude
  dsimp only
  rw [if_pos ⟨rfl, hj, by simpa using hn⟩, hh]
  rfl

/-- A served command that waits stays in progress: BUSY stays set (R364). -/
theorem State.row_wait {s u : State} {o : Origin} {op : Nat} {args : List Byte} {len : List Byte → Option Nat} {cmd : Cmd} {d : Nat} {st : Status}
    {r : List Byte} {w : WaitFor} (h : Served s o) (hlen : args.length ≤ 1024) (hargs : len args = none) (hop : (classOf op).isSome = true)
    (hs : (s.twin.role == .standby && standbyRefuses op args) = false)
    (hl : classOf op = some .s ∨ classOf op = some .o → s.holds o = true ∨ s.twin.role = .standby)
    (hc : cmd o args (s.taken o op args) = .wait w st d r u) :
    s.row o op args len cmd = u.park { origin := o, opcode := op, args := args, waits := w, status := st, detail := d, reply := r } := by
  unfold State.row
  dsimp only
  have hst : ¬ ((s.modBox o.mailbox (Mailbox.load op args)).power.stage < 3 ∧ ¬ (s.modBox o.mailbox (Mailbox.load op args)).health.fw.recovery) := by
    intro x
    have := h.stage
    simp only [State.modBox_power] at x
    omega
  rw [if_neg hst, if_pos hlen, hargs]
  unfold State.runCommand
  have hg := State.gates_pass (s.taken o op args) o op args (by simpa using h.normal) hop (by simpa using hs) (by simpa using hl)
  unfold State.taken at hg hc
  dsimp only
  rw [hg, hc]
  rfl

/-- Its completion shows in the mailbox, when the command itself left the mailboxes alone. -/
theorem State.row_answered {s u : State} {o : Origin} {op : Nat} {args : List Byte} {d : Nat} {st : Status} {r : List Byte} (h : Served s o)
    (hm : u.mail = (s.taken o op args).mail) : Answered (u.complete o.mailbox st d r) o.mailbox st r := by
  have hb : u.box o.mailbox = Mailbox.load op args (s.box o.mailbox) := by
    rw [← State.taken_box s o op args h.mailbox]
    unfold State.box
    rw [hm]
  apply State.complete_answered
  · rw [hm]
    simpa using h.mailbox
  · rw [hb, hm]
    simpa [Mailbox.load] using h.room

/-- A command row of a served sender completes with what its meaning answers (R364, R374, R507). -/
theorem Completes.of_row {i : Instr} {s u : State} {o : Origin} {op : Nat} {args : List Byte} {len : List Byte → Option Nat} {cmd : Cmd} {d : Nat}
    {st : Status} {r : List Byte} (he : exec i s = .next (s.row o op args len cmd)) (h : Served s o) (hlen : args.length ≤ 1024) (hargs : len args = none)
    (hop : (classOf op).isSome = true) (hs : (s.twin.role == .standby && standbyRefuses op args) = false)
    (hl : classOf op = some .s ∨ classOf op = some .o → s.holds o = true ∨ s.twin.role = .standby) (hc : cmd o args (s.taken o op args) = .done st d r u)
    (hm : u.mail = (s.taken o op args).mail) (hj : journalled op args = false ∨ s.lease.staged.length < u.lease.staged.length)
    (h11 : op ≠ 0x0011) : Completes i s o.mailbox st r u :=
  ⟨_, he.trans (congrArg _ (State.row_done h hlen hargs hop hs hl hc hj h11)), State.row_answered h hm, State.complete_same _ _ _ _ _⟩

end Sys2Proof.Machine
end

