-- ==== Sys2Proof/Laws/Memory.lean ====
section
/-! SUPPORT. Package memory: every operation keeps the canonical form; what a read returns after a write or an erase. -/

namespace Sys2Proof.Machine

theorem Memory.wf_iff (m : List Host.Cell) :
    Memory.wf m = true ↔ m.Pairwise (fun c d => c.1 < d.1) ∧ ∀ c ∈ m, c.2 ≠ Memory.background c.1 := by
  induction m with
  | nil => simp [Memory.wf]
  | cons c m ih =>
    cases m with
    | nil => simp [Memory.wf]
    | cons d m =>
      simp only [Memory.wf, Bool.and_eq_true, bne_iff_ne, ne_eq, decide_eq_true_eq, ih, List.pairwise_cons, List.mem_cons, forall_eq_or_imp]
      constructor
      · rintro ⟨⟨h1, h2⟩, ⟨h3, h4⟩, h5, h6⟩
        exact ⟨⟨⟨h2, fun x hx => lt_trans h2 (h3 x hx)⟩, h3, h4⟩, h1, h5, h6⟩
      · rintro ⟨⟨⟨h2, _⟩, h3, h4⟩, h1, h5, h6⟩
        exact ⟨⟨h1, h2⟩, ⟨h3, h4⟩, h5, h6⟩

theorem Memory.cells_mem (d : List Byte) (a : Nat) (c : Host.Cell) (h : c ∈ Memory.cells a d) :
    a ≤ c.1 ∧ c.1 < a + d.length ∧ c.2 ≠ Memory.background c.1 := by
  induction d generalizing a with
  | nil => simp [Memory.cells] at h
  | cons b l ih =>
    simp only [Memory.cells] at h
    split at h
    · have := ih (a + 1) h
      simp only [List.length_cons]
      exact ⟨by omega, by omega, this.2.2⟩
    · rcases List.mem_cons.mp h with rfl | h
      · simp only [List.length_cons]
        exact ⟨le_rfl, by omega, by assumption⟩
      · have := ih (a + 1) h
        simp only [List.length_cons]
        exact ⟨by omega, by omega, this.2.2⟩

theorem Memory.cells_sorted (d : List Byte) (a : Nat) : (Memory.cells a d).Pairwise (fun c e => c.1 < e.1) := by
  induction d generalizing a with
  | nil => simp [Memory.cells]
  | cons b l ih =>
    simp only [Memory.cells]
    split
    · exact ih _
    · refine List.pairwise_cons.mpr ⟨fun c hc => ?_, ih _⟩
      have := (Memory.cells_mem l (a + 1) c hc).1
      simp only
      omega

/-- A write keeps the canonical form. -/
theorem Memory.write_wf (m : List Host.Cell) (a : Nat) (d : List Byte) (h : Memory.wf m = true) : Memory.wf (Memory.write m a d) = true := by
  rw [Memory.wf_iff] at h ⊢
  obtain ⟨hs, hb⟩ := h
  unfold Memory.write
  refine ⟨?_, ?_⟩
  · rw [List.pairwise_append, List.pairwise_append]
    refine ⟨⟨hs.filter _, Memory.cells_sorted d a, ?_⟩, hs.filter _, ?_⟩
    · intro x hx y hy
      have h1 := (List.mem_filter.mp hx).2
      have h2 := (Memory.cells_mem d a y hy).1
      simp only [decide_eq_true_eq] at h1
      omega
    · intro x hx y hy
      have h2 := (List.mem_filter.mp hy).2
      simp only [decide_eq_true_eq] at h2
      rcases List.mem_append.mp hx with hx | hx
      · have h1 := (List.mem_filter.mp hx).2
        simp only [decide_eq_true_eq] at h1
        omega
      · have h1 := (Memory.cells_mem d a x hx).2.1
        omega
  · intro c hc
    rcases List.mem_append.mp hc with hc | hc
    · rcases List.mem_append.mp hc with hc | hc
      · exact hb c (List.mem_filter.mp hc).1
      · exact (Memory.cells_mem d a c hc).2.2
    · exact hb c (List.mem_filter.mp hc).1

/-- An erase keeps the canonical form. -/
theorem Memory.clear_wf (m : List Host.Cell) (a n : Nat) (h : Memory.wf m = true) : Memory.wf (Memory.clear m a n) = true := by
  rw [Memory.wf_iff] at h ⊢
  obtain ⟨hs, hb⟩ := h
  unfold Memory.clear
  refine ⟨?_, ?_⟩
  · rw [List.pairwise_append]
    refine ⟨hs.filter _, hs.filter _, ?_⟩
    intro x hx y hy
    have h1 := (List.mem_filter.mp hx).2
    have h2 := (List.mem_filter.mp hy).2
    simp only [decide_eq_true_eq] at h1 h2
    omega
  · intro c hc
    rcases List.mem_append.mp hc with hc | hc <;> exact hb c (List.mem_filter.mp hc).1

theorem Memory.find_filter (m : List Host.Cell) (p : Host.Cell → Bool) (x : Nat) (h : ∀ c : Host.Cell, c.1 = x → p c = true) :
    (m.filter p).find? (·.1 == x) = m.find? (·.1 == x) := by
  induction m with
  | nil => rfl
  | cons c m ih =>
    by_cases hc : c.1 = x
    · simp [h c hc, hc]
    · by_cases hp : p c = true
      · simp [hp, hc, ih]
      · simp [hp, hc, ih]

theorem Memory.find_filter_none (m : List Host.Cell) (p : Host.Cell → Bool) (x : Nat) (h : ∀ c : Host.Cell, c.1 = x → p c = false) :
    (m.filter p).find? (·.1 == x) = none := by
  rw [List.find?_eq_none]
  intro c hc hx
  have := h c (by simpa using hx)
  rw [(List.mem_filter.mp hc).2] at this
  exact Bool.noConfusion this

theorem Memory.find_cells_none (d : List Byte) (a x : Nat) (h : x < a ∨ a + d.length ≤ x) : (Memory.cells a d).find? (·.1 == x) = none := by
  rw [List.find?_eq_none]
  intro c hc hx
  have h1 := Memory.cells_mem d a c hc
  have h2 : c.1 = x := by simpa using hx
  omega

/-- A byte outside the bytes written reads as before. -/
theorem Memory.get_write_other (m : List Host.Cell) (a x : Nat) (d : List Byte) (h : x < a ∨ a + d.length ≤ x) :
    Memory.get (Memory.write m a d) x = Memory.get m x := by
  unfold Memory.get Memory.write
  rw [List.find?_append, List.find?_append, Memory.find_cells_none d a x h]
  rcases h with h | h
  · rw [Memory.find_filter m _ x (by intro c hc; simp; omega), Memory.find_filter_none m _ x (by intro c hc; simp; omega)]
    simp
  · rw [Memory.find_filter_none m _ x (by intro c hc; simp; omega), Memory.find_filter m _ x (by intro c hc; simp; omega)]
    simp

theorem Memory.get_cells (d : List Byte) (a i : Nat) (h : i < d.length) :
    (((Memory.cells a d).find? (·.1 == a + i)).map (·.2)).getD (Memory.background (a + i)) = d[i] := by
  induction d generalizing a i with
  | nil => simp at h
  | cons b l ih =>
    cases i with
    | zero =>
      simp only [Memory.cells]
      split
      · rw [Memory.find_cells_none l (a + 1) (a + 0) (by omega)]
        simpa using (by assumption : b = Memory.background a).symm
      · simp
    | succ i =>
      have e : a + (i + 1) = a + 1 + i := by omega
      have := ih (a + 1) i (by simpa using h)
      simp only [Memory.cells, e]
      split
      · simpa using this
      · rw [List.find?_cons_of_neg (by simp; omega)]
        simpa using this

/-- A byte written reads as it was written. -/
theorem Memory.get_write_same (m : List Host.Cell) (a i : Nat) (d : List Byte) (h : i < d.length) :
    Memory.get (Memory.write m a d) (a + i) = d[i] := by
  unfold Memory.get Memory.write
  rw [List.find?_append, List.find?_append, Memory.find_filter_none m _ (a + i) (by intro c hc; simp; omega),
    Memory.find_filter_none m (fun c => decide (a + d.length ≤ c.1)) (a + i) (by intro c hc; simp; omega)]
  simpa using Memory.get_cells d a i h

/-- An erased byte reads as an unlisted one. -/
theorem Memory.get_clear (m : List Host.Cell) (a n x : Nat) :
    Memory.get (Memory.clear m a n) x = if a ≤ x ∧ x < a + n then Memory.background x else Memory.get m x := by
  unfold Memory.get Memory.clear
  rw [List.find?_append]
  split
  · rw [Memory.find_filter_none m _ x (by intro c hc; simp; omega), Memory.find_filter_none m _ x (by intro c hc; simp; omega)]
    simp
  · by_cases h : x < a
    · rw [Memory.find_filter m _ x (by intro c hc; simp; omega), Memory.find_filter_none m _ x (by intro c hc; simp; omega)]
      simp
    · rw [Memory.find_filter_none m _ x (by intro c hc; simp; omega), Memory.find_filter m _ x (by intro c hc; simp; omega)]
      simp

end Sys2Proof.Machine
end

