-- ==== Sys2Proof/Laws/Operands.lean ====
section
/-! SUPPORT. Tests of arguments: when none of a list fails (R507), and what each kind of test says. -/

namespace Sys2Proof.Machine

/-- No test of a list fails. -/
theorem firstFail_none (l : Checks) : firstFail l = none ↔ ∀ c ∈ l, c.1 = false := by
  unfold firstFail
  rw [Option.map_eq_none_iff, List.find?_eq_none]
  simp

theorem firstFail_nil : firstFail [] = none := rfl

theorem firstFail_cons (c : Bool × Reason × Nat) (l : Checks) : firstFail (c :: l) = none ↔ c.1 = false ∧ firstFail l = none := by
  rw [firstFail_none, firstFail_none]
  simp

theorem firstFail_append (a b : Checks) : firstFail (a ++ b) = none ↔ firstFail a = none ∧ firstFail b = none := by
  rw [firstFail_none, firstFail_none, firstFail_none]
  constructor
  · intro h
    exact ⟨fun c hc => h c (List.mem_append_left _ hc), fun c hc => h c (List.mem_append_right _ hc)⟩
  · rintro ⟨h1, h2⟩ c hc
    rcases List.mem_append.mp hc with hc | hc
    · exact h1 c hc
    · exact h2 c hc

/-- A command whose tests pass goes on. -/
theorem checked_pass {l : Checks} {s : State} {k : State → CmdOut} (h : firstFail l = none) : checked l s k = k s := by
  unfold checked
  rw [h]

/-- A command one of whose tests fails answers the first of them and changes nothing (R364, R507). -/
theorem checked_fail {l : Checks} {s : State} {k : State → CmdOut} {st : Reason} {d : Nat} (h : firstFail l = some (st, d)) :
    checked l s k = .done st.status d [] s := by
  unfold checked
  rw [h]

/-- A command that its tests do not refuse goes on. -/
theorem checked_accepted {l : Checks} {s : State} {k : State → CmdOut} (h : (checked l s k).accepted = true) : checked l s k = k s := by
  unfold checked at h ⊢
  split
  · rename_i st d hh
    rw [hh] at h
    cases st <;> exact Bool.noConfusion h
  · rfl

theorem bad_fst (off : Nat) (w : Bool) : (bad off w).1 = w := rfl

theorem refusedIf_fst (b : Bool) : (refusedIf b).1 = b := rfl

theorem inRange_fst (args : List Byte) (off n lo hi : Nat) : (inRange args off n lo hi).1 = false ↔ lo ≤ field args off n ∧ field args off n ≤ hi := by
  simp [inRange, bad]

theorem reserved_pass {args : List Byte} {off n : Nat} (h : ZeroBytes args off (off + n)) : firstFail (reserved args off n) = none := by
  rw [firstFail_none]
  intro c hc
  unfold reserved at hc
  rcases List.mem_map.mp hc with ⟨i, hi, rfl⟩
  have := h (off + i) (by omega) (by have := List.mem_range.mp hi; omega)
  rw [bad_fst, this]
  rfl

theorem reservedHigh_fst (args : List Byte) (off lo : Nat) : (reservedHigh args off lo).1 = false ↔ field args off 1 / 2 ^ lo = 0 := by
  simp [reservedHigh, bad]

theorem fixedLen_none (n : Nat) (args : List Byte) (h : args.length = n) : fixedLen n args = none := if_pos h

end Sys2Proof.Machine
end

