-- ==== Sys2Proof/WellFormed.lean ====
section
/-! DEFINITION. Well-formed commands: operands inside the ranges that the hardware's own fields, lanes, dies and mailboxes have. -/

namespace Sys2Proof

/-- A sender: requester ID or session of 16 bits, mailbox 0 to 15 (R362). -/
def Origin.wf (o : Origin) : Bool := decide (o.id < 65536) && decide (o.mailbox < 16)

/-- Arguments fit the message area of 1,024 bytes (R362). -/
def argsWf (args : List Byte) : Bool := decide (args.length ≤ 1024)

/-- A haul frame: PAYLOAD_LEN at most 8,192 bytes (R262). -/
def Frame.wf (f : Frame) : Bool := decide (f.payload.length ≤ 8192)

/-- A haul lane that some variant has (R3). -/
def haulLaneWf (lane : Nat) : Bool := decide (lane < 136)

/-- A twin-link lane (R279). -/
def twinLaneWf (lane : Nat) : Bool := decide (lane < 4)

/-- A lane receiver. -/
def LaneRef.wf : LaneRef → Bool
  | .haul n => haulLaneWf n
  | .twin n => twinLaneWf n

/-- Parity symbols of a codeword of 514 message symbols: 30 on a haul lane, 14 on the twin link (R254, R279). -/
def LaneRef.paritySymbols : LaneRef → Nat
  | .haul _ => 30
  | .twin _ => 14

/-- A die of the largest package (R1). -/
def dieWf (die : Nat) : Bool := decide (die < 8)

/-- A table index (R370). -/
def pipeWf (pipe : Nat) : Bool := decide (pipe < 512)

/-- A tick number of 48 bits (R51). -/
def tickWf (n : Nat) : Bool := decide (n < 2 ^ 48)

/-- A tile position reference: pipe, die, tile of the die (R155, R159). -/
def DumpRef.wf (d : DumpRef) : Bool := pipeWf d.pipe && dieWf d.die && decide (d.tile < 128)

/-- A beam strip reference. -/
def StripRef.wf (d : StripRef) : Bool := pipeWf d.pipe && dieWf d.die && decide (d.tile < 128)

/-- Injected errors name cells of the tile: 4,096 main and 128 checksum cells (R160). -/
def errsWf (es : List TileError) : Bool := es.all fun e => decide (e.cell < 4224)

/-- Injected errors of a strip name its 16,384 results and 256 checksum results (R195). -/
def stripErrsWf (es : List TileError) : Bool := es.all fun e => decide (e.cell < 16640)

/-- A management datagram: mailbox 0 to 15 and at most 1,024 bytes of body (R367). -/
def Datagram.wf (d : Datagram) : Bool := decide (d.mailbox < 16) && decide (d.body.length ≤ 1024) && decide (d.session < 65536)

/-- A crate-bus frame: at most 32 bytes of payload (R479). -/
def CrateFrame.wf (f : CrateFrame) : Bool := decide (f.payload.length ≤ 32)

/-- A reference input code (R290). -/
def refWf (n : Nat) : Bool := decide (1 ≤ n ∧ n ≤ 6)

/-- An element kind of KILN_STATUS (R458). -/
def KilnElement.wf (e : KilnElement) : Bool := decide (1 ≤ e.kind ∧ e.kind ≤ 5) && dieWf e.die

/-- A request of a master: a die that some variant has, and a package address of 40 bits (R396). -/
def MatrixRequest.wf (r : MatrixRequest) : Bool := dieWf r.die && decide (r.addr < 2 ^ 40)

/-- A well-formed command. -/
def Instr.wf : Instr → Bool
  | .nop o a | .configLock o a | .configCommit o a | .configAbort o a | .lockStatus o a | .positionSet o a | .tickConfig o a | .mgmtNet o a
  | .pipeCreate o a | .pipeModify o a | .pipeDestroy o a | .pipeList o a | .ingestInputs o a | .offsetFreeze o a | .ingestStats o a
  | .turnDestSet o a | .delayLoad o a | .gainLoad o a | .gainRead o a | .windowLoad o a | .corrStats o a | .tileMap o a | .beamInputs o a
  | .beamContrib o a | .weightLoad o a | .beamStats o a | .sinkDest o a | .sinkStats o a | .laneConfig o a | .sparePeer o a | .laneSpare o a
  | .laneControlIn o a | .laneStatus o a | .laneTest o a | .laneEye o a | .refConfig o a | .refInputConfig o a | .clockSteer o a | .timeSet o a
  | .logTimeSet o a | .ptpConfig o a | .pulseConfig o a | .clockStatus o a | .refTimeAccept o a | .twinConfig o a | .twinSwitch o a
  | .twinDetach o a | .twinStatus o a | .matrixPriority o a | .matrixSlices o a | .hbmStatus o a | .hbmHammerConfig o a | .sramMap o a
  | .kilnRun o a | .kilnStatus o a | .unitRestore o a _ _ | .policySet o a | .healthStatus o a | .logRead o a | .fwStage o a _ | .fwStatus o a
  | .fwActivate o a | .ownerSeal o a | .holdupStatus o a | .powerState o a | .vcoreOverride o a | .crateConfig o a | .crateStatus o a
  | .sensorRead o a | .packageReset o a => o.wf && argsWf a
  | .mailboxClaim who m | .mailboxRelease who m | .ring who m => decide (who < 65536) && decide (m < 16)
  | .eqConsWrite _ | .eqDroppedRead | .intCauseClear _ | .intMaskWrite _ | .calLoad _ | .calLoadDone | .calSecLoRead => true
  | .cqConsWrite c _ => decide (c < 4)
  | .dmaStart h _ | .dmaAbort h _ | .dmaTransferDone h _ _ _ => decide (h < 8)
  | .registerWrite who off _ => decide (who < 65536) && decide (off % 4 = 0) && decide (off < 2 ^ 20)
  | .bar2Access who _ off len d _ => decide (who < 65536) && decide (off + max len d.length ≤ 2 ^ 36)
  | .smbusSetPointer _ | .smbusBlockRead | .smbusBlockWrite _ => true
  | .mgmtOpen d | .mgmtRequest d | .mgmtKeepalive d | .mgmtClose d => d.wf
  | .sessionTimeout n => decide (n < 65536)
  | .ownerReset _ | .leaseExpiry | .heldCompletionPush | .eqIrqDelayExpiry | .aliveIncrement => true
  | .tickBoundary n | .workWindowEnd n | .tickStart n => tickWf n
  | .tileDump d es | .replayDump d es => d.wf && errsWf es
  | .stripDone d es => d.wf && stripErrsWf es
  | .beamMashFinish p d _ t _ => pipeWf p && dieWf d && tickWf t
  | .spargeDatagramSend p d _ => pipeWf p && dieWf d
  | .scopeEndRecord p _ => pipeWf p
  | .tunRepairTimeout _ => true
  | .grist l f | .turn l f | .beampart l f | .hello l f | .spareRequest l f | .spareDuplicating l f | .spareSwitched l f | .spareRelease l f
  | .spareStopped l f | .spareRefused l f => haulLaneWf l && f.wf
  | .heartbeat l f | .journalAck l f | .repairReq l f | .repairReply l f | .attach l f _ | .switch l f | .switchAck l f => l.wf && f.wf
  | .stateCopy fs _ _ => fs.all fun x => x.1.wf && x.2.wf
  | .journal x fs => (x :: fs).all fun x => x.1.wf && x.2.wf
  | .journalAckTimeout _ | .attachWaitExpiry | .switchOutputDrive | .heartbeatWindow _ _ | .heartbeatWatchdog => true
  | .commaPeriod l _ | .firstBoundaryCheck l _ _ => l.wf
  | .codewordDecode l r p => l.wf && decide (r.length = 514) && decide (p.length = l.paritySymbols)
  | .spareCopyStart d | .spareCopyStop d | .spareConfirmed d | .laneSpareSwitch d | .laneRestoreSwitch d | .spareTimeout d => dieWf d
  | .helloTimer l | .eyeScanDone l _ => haulLaneWf l
  | .gristHoldExpiry p _ | .spallBlockEnd p _ | .offsetBlockEnd p _ | .alcPeriodEnd p => pipeWf p
  | .refDisqualify n _ | .refQualify n | .timeBadClear n => refWf n
  | .wtrExpiry | .dpllLock | .historyValid | .ppsInEdge _ | .timeSetPpsTimeout | .ptpAnnounce _ | .ptpSync _ _ _ _ | .ptpFollowUp _ _
  | .ptpDelayReq _ _ | .ptpDelayResp _ _ | .ptpPdelayReq _ _ _ | .ptpPdelayResp _ _ _ _ _ | .ptpAnnounceTimeout _ | .datapathSecond
  | .calendarSecond | .vbatMeasure _ | .vddAuxLoss | .calOscStopDetect => true
  | .ptpTxInterval w _ => decide (w < 3)
  | .hbmRefresh d _ | .refreshWindowEnd d => dieWf d
  | .hbmActivate d b r => dieWf d && decide (b < 1024) && decide (r < 32768)
  | .scrubRead d _ _ => dieWf d
  | .hbmRequest d r _ _ _ => dieWf d && r.wf
  | .tunAdderOp p d b _ _ _ => pipeWf p && dieWf d && decide (b < 2)
  | .matrixRequest r => r.wf
  | .neighbourRefreshSecond => true
  | .kilnDue e | .kilnPassDone e _ => e.wf
  | .thermalReading d _ => dieWf d
  | .thermalTrip | .logDeferRetry _ | .holdupRetry _ | .startUp _ | .hbmTrainingDone _ | .startupKilnDone _ | .laneBringupDone | .clockLockTimeout
  | .ready | .resetAssert | .supplyMonitorTrip _ | .wakeNEdge | .powerTransitionDone | .avsFloorUpdate _ | .avsRequestStep
  | .crateHeartbeatPeriod | .crateTxOpportunity => true
  | .ack f | .crateHeartbeat f | .announce f | .boot f | .sleepPropose f | .sleepVote f | .sleepCommit f | .sleepAbort f | .wake f => f.wf
  | .crateAckTimeout | .crateRetryWait | .crateAloneAnnounce => true
  | .nodeHeardExpiry n | .activatingTimeout n => decide (n < 32)
  | .sleepVoteTimeout | .sleepOutcomeTimeout | .vddAuxReturn | .calendarDomainPowerOn | .pulseWidthEnd _ | .arpRequest _
  | .neighbourSolicitation _ | .norOperationDone _ => true

end Sys2Proof
end

