-- ==== Sys2Proof/Tests/Slice0.lean ====
section
/-! SUPPORT. Tests: the well-formedness checks refuse what they should; each statement's hypotheses are met by a concrete state; a few single steps. -/

namespace Sys2Proof.Tests

open Sys2Proof Sys2Proof.Machine

set_option Elab.async false

/-! ### Well-formedness refuses -/

theorem test_wf_origin : Instr.wf (.nop { id := 65536 } []) = false ∧ Instr.wf (.nop { mailbox := 16 } []) = false ∧
    Instr.wf (.ring 65536 0) = false ∧ Instr.wf (.mailboxClaim 0 16) = false ∧ Instr.wf (.nop { id := 65535, mailbox := 15 } []) = true := by decide

theorem test_wf_args : Instr.wf (.nop {} (List.replicate 1025 0)) = false ∧ Instr.wf (.nop {} (List.replicate 1024 0)) = true := by decide +kernel

theorem test_wf_frame : Instr.wf (.grist 0 { payload := List.replicate 8193 0 }) = false ∧ Instr.wf (.grist 0 { payload := List.replicate 8192 0 }) = true ∧
    Instr.wf (.turn 136 {}) = false ∧ Instr.wf (.helloTimer 136) = false ∧ Instr.wf (.switch (.twin 4) {}) = false ∧ Instr.wf (.switch (.haul 136) {}) = false ∧
    Instr.wf (.switch (.twin 3) {}) = true ∧ Instr.wf (.journal (.twin 3, {}) [(.twin 4, {})]) = false ∧ Instr.wf (.stateCopy [(.haul 136, {})] {} 0) = false := by decide +kernel

theorem test_wf_lanes : Instr.wf (.commaPeriod (.haul 136) {}) = false ∧ Instr.wf (.commaPeriod (.twin 4) {}) = false ∧
    Instr.wf (.firstBoundaryCheck (.twin 4) 0 0) = false ∧ Instr.wf (.codewordDecode (.haul 0) [0] [0]) = false ∧
    Instr.wf (.codewordDecode (.haul 136) (List.replicate 514 0) (List.replicate 30 0)) = false ∧
    Instr.wf (.codewordDecode (.haul 135) (List.replicate 514 0) (List.replicate 30 0)) = true ∧
    Instr.wf (.codewordDecode (.twin 3) (List.replicate 514 0) (List.replicate 30 0)) = false ∧
    Instr.wf (.codewordDecode (.twin 3) (List.replicate 514 0) (List.replicate 14 0)) = true := by decide +kernel

theorem test_wf_dies : Instr.wf (.spareTimeout 8) = false ∧ Instr.wf (.hbmRefresh 8 0) = false ∧ Instr.wf (.scrubRead 8 0 .clean) = false ∧
    Instr.wf (.thermalReading 8 0) = false ∧ Instr.wf (.hbmActivate 8 0 0) = false ∧ Instr.wf (.hbmActivate 0 1024 0) = false ∧
    Instr.wf (.hbmActivate 0 0 32768) = false ∧ Instr.wf (.hbmActivate 7 1023 32767) = true := by decide

theorem test_wf_pipes_and_ticks : Instr.wf (.alcPeriodEnd 512) = false ∧ Instr.wf (.scopeEndRecord 512 true) = false ∧
    Instr.wf (.spargeDatagramSend 0 8 true) = false ∧ Instr.wf (.tickBoundary (2 ^ 48)) = false ∧ Instr.wf (.tickBoundary (2 ^ 48 - 1)) = true ∧
    Instr.wf (.beamMashFinish 512 0 0 0 0) = false ∧ Instr.wf (.tunAdderOp 0 0 2 0 (.satWrite true) .clean) = false := by decide

theorem test_wf_dumps : Instr.wf (.tileDump { pipe := 512 } []) = false ∧ Instr.wf (.tileDump { die := 8 } []) = false ∧
    Instr.wf (.replayDump { tile := 128 } []) = false ∧ Instr.wf (.tileDump {} [{ cell := 4224 }]) = false ∧ Instr.wf (.tileDump {} [{ cell := 4223 }]) = true ∧
    Instr.wf (.stripDone { tile := 128 } []) = false ∧ Instr.wf (.stripDone {} [{ cell := 16640 }]) = false ∧
    Instr.wf (.stripDone {} [{ cell := 16639 }]) = true := by decide

theorem test_wf_datagrams : Instr.wf (.mgmtOpen { mailbox := 16 }) = false ∧ Instr.wf (.mgmtRequest { session := 65536 }) = false ∧
    Instr.wf (.mgmtRequest { body := List.replicate 1025 0 }) = false ∧ Instr.wf (.sessionTimeout 65536) = false ∧
    Instr.wf (.ack { payload := List.replicate 33 0 }) = false ∧ Instr.wf (.ack { payload := List.replicate 32 0 }) = true ∧
    Instr.wf (.nodeHeardExpiry 32) = false := by decide +kernel

theorem test_wf_registers : Instr.wf (.cqConsWrite 4 0) = false ∧ Instr.wf (.dmaStart 8 0) = false ∧ Instr.wf (.dmaTransferDone 8 [] false .clean) = false ∧
    Instr.wf (.registerWrite 0 2 0) = false ∧ Instr.wf (.registerWrite 0 (2 ^ 20) 0) = false ∧ Instr.wf (.registerWrite 65536 0 0) = false ∧
    Instr.wf (.bar2Access 0 false (2 ^ 36) 1 [] .clean) = false ∧ Instr.wf (.bar2Access 0 false 0 (2 ^ 36) [] .clean) = true := by decide

theorem test_wf_codes : Instr.wf (.refQualify 0) = false ∧ Instr.wf (.refQualify 7) = false ∧ Instr.wf (.refQualify 6) = true ∧
    Instr.wf (.ptpTxInterval 3 {}) = false ∧ Instr.wf (.kilnDue { kind := 0 }) = false ∧ Instr.wf (.kilnDue { kind := 6 }) = false ∧
    Instr.wf (.kilnDue { die := 8 }) = false ∧ Instr.wf (.matrixRequest { die := 8 }) = false ∧ Instr.wf (.matrixRequest { addr := 2 ^ 40 }) = false := by decide

/-! ### Meeting hypotheses -/

theorem zeroBytes_of {args : List Byte} {lo hi : Nat} (h : ((List.range hi).all fun i => decide (i < lo) || field args i 1 == 0) = true) :
    ZeroBytes args lo hi := by
  intro i hl hh
  have := List.all_eq_true.1 h i (List.mem_range.2 hh)
  simp only [Bool.or_eq_true, decide_eq_true_eq, beq_iff_eq] at this
  omega

/-- The conditions of `Served`, evaluated. -/
def serves (s : State) (o : Origin) : Bool :=
  decide (3 ≤ s.power.stage) && !s.health.fw.recovery && decide (o.mailbox < s.mail.boxes.length) &&
    decide ((s.mail.queues.getD (s.box o.mailbox).cqSel.toNat {}).depth < 16)

theorem served_of {s : State} {o : Origin} (h : serves s o = true) : Served s o := by
  simp only [serves, Bool.and_eq_true, decide_eq_true_eq, Bool.not_eq_true'] at h
  exact ⟨h.1.1.1, h.1.1.2, h.1.2, h.2⟩

theorem leads_of {s : State} {o : Origin} (h : (serves s o && (s.holds o || decide (s.twin.role = .standby))) = true) : Leads s o := by
  simp only [Bool.and_eq_true, Bool.or_eq_true, decide_eq_true_eq] at h
  exact ⟨served_of h.1, h.2⟩

theorem holds_of {s : State} {o : Origin} (h : (serves s o && s.holds o && decide (s.twin.role ≠ .standby)) = true) : Holds s o := by
  simp only [Bool.and_eq_true, decide_eq_true_eq] at h
  exact ⟨served_of h.1.1, h.1.2, h.2⟩

theorem box_none {s : State} (h : s.mail.boxes.all (fun b => b.waiting.isNone) = true) (m : Nat) : (s.box m).waiting = none := by
  unfold State.box
  by_cases hm : m < s.mail.boxes.length
  · rw [List.getD_eq_getElem _ _ hm]
    exact Option.isNone_iff_eq_none.1 (List.all_eq_true.1 h _ (List.getElem_mem hm))
  · rw [List.getD_eq_default _ _ (Nat.le_of_not_lt hm)]

theorem quiet_of {s : State} (h : (s.hostUp && s.mail.boxes.all (fun b => b.waiting.isNone)) = true) : HostQuiet s := by
  rw [Bool.and_eq_true] at h
  exact ⟨h.1, box_none h.2⟩

/-- A package that is up and READY (start-up complete). -/
def up : State := { State.reset with power := { State.reset.power with inReset := false, stage := 9, ready := true } }

/-- The host's sender, through mailbox 0. -/
def host : Origin := { id := 5 }

/-- The package with its lease held by the host. -/
def led : State := { up with lease := { owner := some (false, 5), leftMs := 5000, fullMs := 5000 } }

/-- An INGEST, a CORR, a BEAM and a SINK block whose arguments are in range. -/
def ingestBlk : IngestCfg :=
  { chanLog2 := 6, rateNum := 65536, samplesPerFrame := 1024, inputCount := 2, sysChannelBase := 0 }

def corrBlk : CorrCfg := { sink := 0x40010003, dieCh := [1, 0, 0, 0, 0, 0, 0, 0], groupSize := 2 :: List.replicate 15 0, jobs := [{}] }

def beamBlk : BeamCfg := { sink := 0x40010003, dieCh := [1, 0, 0, 0, 0, 0, 0, 0], voltage := true, voltMode := 1 }

def sinkBlk : SinkCfg := { srcMacA := [2, 0, 0, 0, 0, 1], srcMacB := [2, 0, 0, 0, 0, 2], srcIp := List.replicate 16 0 }

/-- The four pipes at entries 0 to 3, in a state, starting at a tick; an entry past the end of the list reads as free. -/
def fourPipes (st : PipeState) (t : Nat) : List PipeEntry :=
  [{ state := st, cfg := .ingest ingestBlk, startTick := t, inputs := [{ input := 7 }] }, { state := st, cfg := .corr corrBlk, startTick := t },
   { state := st, cfg := .beam beamBlk, startTick := t }, { state := .running, cfg := .sink sinkBlk }]

/-- A package with a tick of one second, time valid at second 100, and the four pipes; lane 0 is a grist lane, TX lanes 0 to 3 a port, 4 haul. -/
def pipes (st : PipeState) (t : Nat) : State :=
  { led with
    cfg := { position := 3, positionValid := true, tick := some { closeNs := 1000, guardNs := 1000 }, pipes := fourPipes st t
             rxCfg := { role := .grist } :: List.replicate 135 {}
             txCfg := List.replicate 4 { role := .ethernet } ++ { role := .haul } :: List.replicate 131 {} }
    clocks := { led.clocks with time := { valid := true, sec := 100 } } }

/-- The pipes run. -/
def running : State := pipes .running 0

/-- The pipes are PENDING. -/
def waiting : State := pipes .pending 2000

/-- The host leads a package without pipes. -/
def bare : State := { led with cfg := { led.cfg with pipes := [] } }

/-- A standby whose partner is active. -/
def standby : State := { led with twin := { mode := .hot, role := .standby, partner := some { role := .active } } }

/-- An active whose partner is a standby, with a tick. -/
def active : State :=
  { led with twin := { mode := .warm, role := .active, partner := some {} }, cfg := { led.cfg with tick := some {} } }

/-! ### The whole block -/

theorem test_reset_memory : State.reset.Sound ∧ step State.reset = .next State.reset.idle := ⟨rfl, rfl⟩

theorem test_no_word_decodes (nbits w : Nat) : decodeTableWord nbits w = none := rfl

theorem test_StepRunsTheFrontCommand : ({ up with pending := [.thermalTrip, .ready] } : State).pending = .thermalTrip :: [.ready] := rfl

theorem test_StepKeepsMemorySound : running.Sound ∧ ∃ t, step running = .next t := ⟨rfl, _, rfl⟩

theorem test_LineRowsKeepTheRest : lineRow (.hbmActivate 0 0 0) = true ∧ ∃ t, exec (.hbmActivate 0 0 0) up = .next t := ⟨rfl, _, rfl⟩

theorem test_SendersWithoutTheLeaseAreRefused :
    Served up host ∧ up.twin.role ≠ .standby ∧ up.lease.owner = none ∧
    Served led { host with id := 6 } ∧ led.twin.role ≠ .standby ∧ led.lease.owner ≠ none ∧ led.holds { host with id := 6 } = false ∧
    Served standby { host with id := 6 } ∧ standby.twin.role = .standby ∧
    pipeLen (leBytes 56 4) = none ∧ (leBytes 56 4).length ≤ 1024 ∧ standby.claimless = false ∧ standby.health.fw.resetDue = false ∧
    listLen 8 8 4 2 [0, 0, 1, 0, 1, 0, 0, 0, 7, 0, 0, 0, 0, 0, 0, 0] = none ∧ field [2, 1] 1 1 = 1 ∧ up.power.stage ≠ 6 := by
  and_intros <;> first | exact served_of (by decide +kernel) | decide +kernel

/-- No row of these lists is of another class, and none of the class is missing. -/
theorem test_rows_of_a_class :
    ((sRows ++ oRows {} false []).all fun x => classOf x.op == some (if x.op ∈ sRows.map (·.op) then .s else .o)) = true ∧
    (activeRows.all fun x => standbyRefuses x.op []) = true ∧
    ((List.range 0x0A00).all fun op => !(classOf op == some .s || classOf op == some .o) ||
      decide (op ∈ (sRows ++ oRows {} false []).map (·.op) ++ [0x0500, 0x0808, 0x0905])) = true := by
  and_intros <;> decide +kernel

/-- An INGEST slot whose offset block is complete, with `clipped` over-range samples. -/
def slot (clipped : Nat) : Chain := { cfg := { ingestBlk with offsetLog2 := 10, offsetClipMax := 3 }, sumSeen := 1024, sumClipped := clipped }

theorem test_ClippedOffsetBlockIsHeld (clipped : Nat) :
    let s : State := { running with data := { chains := [slot clipped] } }
    s.works = true ∧ slot clipped ∈ s.data.chains ∧ Chain.isOf 0 0 (slot clipped) = true ∧ (slot clipped).cfg.offsetLog2 ≠ 0 ∧
      (slot clipped).sumSeen = 2 ^ (slot clipped).cfg.offsetLog2 ∧ ((slot 4).cfg.offsetClipMax < (slot 4).sumClipped) ∧
      (slot 3).sumClipped ≤ (slot 3).cfg.offsetClipMax ∧ (slot clipped).freezeNext = [] ∧ (slot clipped).frozen = false := by
  exact ⟨rfl, List.mem_singleton.2 rfl, rfl, nofun, rfl, by decide, by decide, rfl, rfl⟩

theorem test_MatrixSlicesSetsLinks :
    Leads bare host ∧ Leads running host ∧ field [7, 6, 3, 0] 0 1 < bare.dies ∧ field [7, 6, 3, 0] 1 1 < bare.dies ∧ field [7, 255, 3, 0] 1 1 = 0xFF ∧
      ((bare.taken host 0x0701 [7, 6, 3, 0]).cfg.dataPipes || (bare.taken host 0x0701 [7, 6, 3, 0]).candidate.dataPipes) = false ∧
      ((running.taken host 0x0701 [7, 6, 3, 0]).cfg.dataPipes || (running.taken host 0x0701 [7, 6, 3, 0]).candidate.dataPipes) = true := by
  and_intros <;> first | exact leads_of (by decide +kernel) | decide +kernel

theorem test_CrateConfigSetsItsFlags : Leads led host ∧ field [3, 0, 0, 0] 0 1 < 4 ∧ ZeroBytes [3, 0, 0, 0] 1 4 ∧ 4 ≤ field [4, 0, 0, 0] 0 1 ∧
    Leads { led with health := { led.health with holdupMv := 12000 } } host ∧ ({ led with health := { led.health with holdupMv := 12000 } } : State).holdOk .page = true ∧
    ¬ ZeroBytes [3, 0, 0, 1] 1 4 := by
  refine ⟨leads_of (by decide +kernel), by decide, zeroBytes_of (by decide), by decide, leads_of (by decide +kernel), by decide +kernel, fun h => ?_⟩
  exact absurd (h 3 (by decide) (by decide)) (by decide)

/-! ### Reads -/

theorem test_PlainReadsComplete_and_StatusReadsComplete : Served up host ∧ Served standby { host with mailbox := 15 } :=
  ⟨served_of (by decide +kernel), served_of (by decide +kernel)⟩

theorem test_NamedReadsComplete :
    Served up host ∧ field [7, 0, 0, 0] 0 1 < up.dies ∧ ZeroBytes [7, 0, 0, 0] 1 4 ∧ up.hasElement (elementArg [1, 7, 127, 0]) = true ∧
    up.hasElement (elementArg [5, 0, 1, 0]) = true ∧ up.hasLane (field [135, 1, 0, 0] 0 1) = true ∧ field [135, 1, 0, 0] 1 1 ≤ 1 ∧ ZeroBytes [135, 1, 0, 0] 2 4 ∧
    field [1, 0, 0, 0, 0, 0, 0, 0, 0, 0, 0, 0, 15] 12 1 ≤ 15 ∧ ZeroBytes [1, 0, 0, 0, 0, 0, 0, 0, 0, 0, 0, 0, 15] 1 4 ∧ ZeroBytes [255, 1, 0, 0] 2 4 := by
  and_intros <;> first | exact served_of (by decide +kernel) | exact zeroBytes_of (by decide +kernel) | decide +kernel

/-- The running package as the lead core finds it when a read of a pipe's counters arrives. -/
def reading : State := running.taken host 0x0202 (leBytes 4 0x10010000 ++ [7, 0, 0, 0])

def gainReadArgs : List Byte := leBytes 4 0x10010000 ++ [7, 0, 0, 0, 1, 0, 0, 0]

theorem test_PipeReadsComplete :
    Served running host ∧ reading.cfg.stale 0x10010000 = false ∧ bits 0x10010000 28 4 = 1 ∧ reading.isStagedPipe host 0x10010000 = false ∧
    (reading.cfg.entry 0x10010000).assigned 7 = true ∧ ZeroBytes gainReadArgs 10 12 ∧
    (let t := running.taken host 0x0213 gainReadArgs
     t.isStagedPipe host 0x10010000 = false ∧ (t.cfg.entry 0x10010000).assigned (field gainReadArgs 4 2) = true ∧
       field gainReadArgs 6 2 + field gainReadArgs 8 2 ≤ ((t.cfg.entry 0x10010000).ingestAt (t.gainTick (field gainReadArgs 0 2) (field gainReadArgs 4 2))).chCount) ∧
    reading.cfg.stale 0x20010001 = false ∧ reading.cfg.stale 0x30010002 = false ∧ reading.cfg.stale 0x40010003 = false ∧
    reading.isStagedPipe host 0x20010001 = false ∧ reading.isStagedPipe host 0x30010002 = false ∧ reading.isStagedPipe host 0x40010003 = false ∧
    ZeroBytes (leBytes 4 0x20010001 ++ [7, 0, 0, 0]) 5 8 := by
  and_intros <;> first | exact served_of (by decide +kernel) | exact zeroBytes_of (by decide +kernel) | decide +kernel

/-! ### Staging, the lease and the tables -/

/-- The tests of a command pass on these arguments. -/
abbrev Passes (cmd : Cmd) (op : Nat) (s : State) (a : List Byte) : Prop := (cmd host a (s.taken host op a)).accepted = true

/-- A SINK block for PIPE_CREATE or PIPE_MODIFY of handle `h`. -/
def sinkArgs (h : Nat) : List Byte :=
  leBytes 4 4 ++ leBytes 4 h ++ [4, 0, 0, 0, 0, 0, 1, 0] ++ [2, 0, 0, 0, 0, 1, 2, 0, 0, 0, 0, 2] ++ [1, 0, 0, 0] ++ List.replicate 24 0

def tickArgs : List Byte := leBytes 12 0 ++ leBytes 4 1 ++ leBytes 8 1 ++ leBytes 4 1000 ++ leBytes 4 1000 ++ leBytes 4 0

theorem test_StagedCommandsAppend_position :
    Holds bare host ∧ bare.power.ready = true ∧ field [255, 3, 0, 0] 1 1 < 4 ∧ ZeroBytes [255, 3, 0, 0] 2 4 ∧
    ((bare.taken host 0x0020 [255, 3, 0, 0]).candidate.anyPipe || (bare.taken host 0x0020 [255, 3, 0, 0]).cfg.anyPipe) = false := by
  and_intros <;> first | exact holds_of (by decide +kernel) | exact zeroBytes_of (by decide +kernel) | decide +kernel

theorem test_StagedCommandsAppend_package :
    Holds { running with cfg := bare.cfg } host ∧ tickArgs.length = 36 ∧ Passes cmdTickConfig 0x0021 { running with cfg := bare.cfg } tickArgs ∧
    Passes cmdLaneConfig 0x0400 bare [127, 1, 2, 0, 0, 0, 0, 0] ∧ Passes cmdSparePeer 0x0401 bare [7, 0, 255, 3, 0, 255, 0, 0] := by
  and_intros <;> first | exact holds_of (by decide +kernel) | decide +kernel

def destroyArgs : List Byte := leBytes 4 0x20010001 ++ leBytes 4 0 ++ leBytes 8 200
def turnArgs : List Byte := leBytes 4 0x10010000 ++ [1, 0, 0, 0] ++ leBytes 8 200 ++ leBytes 2 0 ++ leBytes 2 1 ++ [5, 0, 9, 0, 4, 1, 0, 0]
def destArgs : List Byte := leBytes 4 0x40010003 ++ [1, 0, 0, 0] ++ [0, 0, 0, 0] ++ [2, 0, 0, 0, 0, 9] ++ [1, 0] ++ List.replicate 20 0

theorem test_StagedCommandsAppend_pipes :
    Holds running host ∧ running.power.ready = true ∧ pipeLen (sinkArgs 0) = none ∧ pipeLen (sinkArgs 0x40010003) = none ∧
    Passes cmdPipeCreate 0x0100 running (sinkArgs 0) ∧ Passes cmdPipeModify 0x0101 running (sinkArgs 0x40010003) ∧
    destroyArgs.length = 16 ∧ Passes cmdPipeDestroy 0x0102 running destroyArgs ∧ listLen 16 12 4 2 turnArgs = none ∧
    Passes cmdTurnDestSet 0x0210 running turnArgs ∧ listLen 8 32 4 2 destArgs = none ∧ Passes cmdSinkDest 0x0320 running destArgs := by
  and_intros <;> first | exact holds_of (by decide +kernel) | decide +kernel

def inputArgs : List Byte := leBytes 4 0x10010000 ++ [1, 0, 0, 0] ++ [8, 0, 0, 0, 0, 0, 0, 0]
def setArgs : List Byte := leBytes 4 0x30010002 ++ [1, 0, 0, 0] ++ [0, 0, 0, 0, 7, 0, 0, 0]
def contribArgs : List Byte := leBytes 4 0x30010002 ++ [1, 0, 0, 0] ++ [255, 3, 7, 0, 1, 0, 0, 0]

theorem test_StagedCommandsAppend_inputs :
    Holds waiting host ∧ listLen 8 8 4 2 inputArgs = none ∧ Passes cmdIngestInputs 0x0200 waiting inputArgs ∧ listLen 8 8 4 2 setArgs = none ∧
    Passes cmdBeamInputs 0x0310 waiting setArgs ∧ listLen 8 8 4 2 contribArgs = none ∧ Passes cmdBeamContrib 0x0311 waiting contribArgs := by
  and_intros <;> first | exact holds_of (by decide +kernel) | decide +kernel

def netArgs : List Byte := leBytes 80 (128 * 2 ^ 480)

theorem test_LeaseAndNetworkCommandsComplete :
    Served up host ∧ up.twin.role ≠ .standby ∧ field [1, 0, 0xE8, 3] 2 2 = 1000 ∧ field [2, 0, 0x60, 0xEA] 2 2 = 60000 ∧ Served led host ∧
    led.holds host = true ∧ led.lease.staged = [] ∧ Leads led host ∧ netArgs.length = 80 ∧ field netArgs 60 1 ≤ 128 ∧ field netArgs 4 1 ≤ 32 ∧
    field netArgs 61 1 = 0 := by
  and_intros <;> first | exact served_of (by decide +kernel) | exact leads_of (by decide +kernel) | decide +kernel

/-- The package with a staged POSITION_SET. -/
def staging : State := { bare with lease := { led.lease with staged := [{ opcode := 0x0020, args := [9, 0, 0, 0] }] } }

theorem test_CommitTakesTheCandidate :
    let t := staging.taken host 0x0011 []
    Holds staging host ∧ (t.commitLate).1 = false ∧ t.shortPipes = false ∧ t.hotPair = false ∧
      ∃ c, placeAll t.dies t.data.scopes (touched t.lease.staged) t.candidate = .ok c := by
  refine ⟨holds_of (by decide +kernel), by decide +kernel, by decide +kernel, by decide +kernel, _, rfl⟩

def freezeArgs : List Byte := leBytes 4 0x10010000 ++ [7, 0, 2, 0] ++ leBytes 4 4064 ++ leBytes 8 200
def delayArgs : List Byte := leBytes 4 0x10010000 ++ leBytes 8 200 ++ [1, 0, 1, 0] ++ [7, 0, 0, 0] ++ List.replicate 32 0
def gainArgs : List Byte := leBytes 4 0x10010000 ++ [7, 0, 0, 0, 1, 0, 0, 0] ++ leBytes 8 200 ++ leBytes 4 0x7FFFFF
def windowArgs (h : Nat) : List Byte := leBytes 4 h ++ [1, 0, 1, 0] ++ leBytes 4 16383 ++ leBytes 4 131071
def weightArgs : List Byte :=
  leBytes 4 0x30010002 ++ leBytes 8 2000 ++ leBytes 2 1 ++ leBytes 2 1 ++ leBytes 8 0x2000000 ++ leBytes 2 0 ++ leBytes 2 1 ++ leBytes 2 0 ++ leBytes 2 1 ++
    leBytes 4 0 ++ leBytes 4 1

theorem test_TableCommandsComplete :
    Served running host ∧ running.twin.role ≠ .standby ∧ (running.taken host 0x0201 freezeArgs).isStagedPipe host 0x10010000 = false ∧
    (running.taken host 0x0201 freezeArgs).hotPair = false ∧ freezeArgs.length = 20 ∧ Passes cmdOffsetFreeze 0x0201 running freezeArgs ∧
    listLen 16 36 14 2 delayArgs = none ∧ Passes cmdDelayLoad 0x0211 running delayArgs ∧ listLen 20 4 8 2 gainArgs = none ∧
    Passes cmdGainLoad 0x0212 running gainArgs ∧ listLen 12 4 6 2 (windowArgs 0x10010000) = none ∧
    Passes cmdWindowLoad 0x0214 running (windowArgs 0x10010000) ∧ weightArgs.length = 40 ∧ Passes cmdWeightLoad 0x0312 running weightArgs := by
  and_intros <;> first | exact served_of (by decide +kernel) | decide +kernel

/-- A package that has staged an INGEST pipe at entry 4. -/
def stagedPipe : State :=
  { running with lease := { running.lease with staged := [{ opcode := 0x0100, handle := 0x10010004, args := leBytes 4 1 ++ leBytes 80 0 }] } 
                 cfg := { running.cfg with pipes := running.cfg.pipes ++ [{}] } }

theorem test_TableCommandsComplete_staged :
    Served stagedPipe host ∧ (stagedPipe.taken host 0x0214 (windowArgs 0x10010004)).isStagedPipe host 0x10010004 = true ∧
    Passes cmdWindowLoad 0x0214 stagedPipe (windowArgs 0x10010004) := by
  and_intros <;> first | exact served_of (by decide +kernel) | decide +kernel

/-! ### Operations -/

def refArgs : List Byte := [1, 127, 0xFF, 0xFF] ++ leBytes 4 100000000 ++ [1, 2, 3, 4, 5, 6, 0, 0] ++ leBytes 4 10 ++ [0xFF, 0xFF, 0x10, 0x27]
def refInputArgs : List Byte := [1, 0] ++ leBytes 2 3600 ++ leBytes 4 100000000 ++ List.replicate 12 0
def ptpArgs : List Byte := [2, 11, 127, 255, 255, 4, 255, 5, 10, 0, 0, 0] ++ leBytes 4 1000000 ++ leBytes 4 0 ++ leBytes 4 1000000
def pulseArgs : List Byte := leBytes 4 500000 ++ leBytes 4 500 ++ leBytes 4 1000000 ++ [25, 3, 0, 0]

theorem test_ClockCommandsComplete :
    Leads led host ∧ refArgs.length = 24 ∧ Passes cmdRefConfig 0x0500 led refArgs ∧ refInputArgs.length = 20 ∧
    Passes cmdRefInputConfig 0x0501 led refInputArgs ∧ (fieldS (leBytes 4 200000000) 0 4).natAbs ≤ 200000000 ∧ led.clocks.dpll.state ≠ .acquire ∧
    led.clocks.dpll.state ≠ .locked ∧ led.lanesQuiet = true ∧ ptpArgs.length = 24 ∧ Passes cmdPtpConfig 0x0505 led ptpArgs ∧ pulseArgs.length = 16 ∧
    Passes cmdPulseConfig 0x0506 led pulseArgs ∧ field [4, 0, 0, 0] 0 1 = 4 ∧ ZeroBytes [4, 0, 0, 0] 1 4 ∧ 4 ≤ led.clocks.dpll.inputs.length ∧
    led.clocks.dpll.code ≠ some 4 ∧ ({ led.clocks.dpll with entries := [4], selected := some 0 } : Dpll).code = some 4 := by
  and_intros <;> first | exact leads_of (by decide +kernel) | exact zeroBytes_of (by decide +kernel) | decide +kernel

/-- LOG_TIME_SET with SET_INC and SET_TIME, and with STEP alone. -/
def logTimeArgs (flags : Byte) : List Byte := [flags, 5, 0, 0] ++ leBytes 4 7 ++ leBytes 8 (2 ^ 48 - 1) ++ leBytes 4 999999999

theorem test_ClockCommandsComplete_times :
    field (logTimeArgs 3) 0 1 < 8 ∧ 3 ≤ field (logTimeArgs 4) 1 1 ∧ field (logTimeArgs 4) 1 1 ≤ 5 ∧
    ¬((field (logTimeArgs 3) 0 1).testBit 1 = true ∧ (field (logTimeArgs 3) 0 1).testBit 2 = true) ∧ ZeroBytes (logTimeArgs 3) 2 4 ∧ field (logTimeArgs 3) 1 1 = 5 ∧ field (logTimeArgs 3) 8 8 < 2 ^ 48 ∧
    field (logTimeArgs 3) 16 4 < 10 ^ 9 ∧ (field (logTimeArgs 3) 0 1).testBit 1 = true ∧ led.health.log.dead = false ∧ led.health.log.badMedia = [] ∧
    ({ led with health := { led.health with holdupMv := 12000 } } : State).holdOk .log = true ∧ field [0, 6] 1 1 = 6 ∧ (field (logTimeArgs 4) 0 1).testBit 1 = false ∧ Leads bare host ∧
    (bare.taken host 0x0503 (leBytes 8 5 ++ leBytes 4 999999999 ++ [1, 0, 0, 0])).stepAllowed = true ∧
    ZeroBytes (leBytes 8 5 ++ leBytes 4 999999999 ++ [1, 0, 0, 0]) 13 16 := by
  and_intros <;> first | exact leads_of (by decide +kernel) | exact zeroBytes_of (by decide +kernel) | decide +kernel

/-- A receiver that delivers frames. -/
def live (x : RxLane) : RxLane := { x with lock := .locked, delivering := true, walkHeld := false }

/-- The link has lane 0 LOCKED. -/
def linked (s : State) : State := { s with lanes := { s.lanes with twinRx := live {} :: List.replicate 3 {} } }

def switchArgs : List Byte := leBytes 8 1000 ++ [1, 0, 0, 0]

theorem test_TwinAndFabricCommandsComplete :
    Leads led host ∧ field [2, 0, 0x60, 0xEA, 0, 0, 0, 0] 2 2 = 60000 ∧ ZeroBytes [2, 0, 0x60, 0xEA, 0, 0, 0, 0] 4 8 ∧ led.clocks.dpll.wide = false ∧
    Leads active host ∧ active.cfg.tick.isSome = true ∧ led.cfg.tick.isNone = true ∧ Leads standby host ∧ standby.twin.partner.isSome = true ∧
    field [7, 3, 2, 7] 0 1 < led.dies ∧ field [7, 3, 2, 7] 2 1 ∈ targetsOf (field [7, 3, 2, 7] 1 1) ∧ field [255, 2, 0, 8] 2 2 = 2048 ∧
    led.dies ≤ led.fabric.hbm.length ∧ active.twin.role = .active ∧ active.twin.partner.isSome = true ∧ switchArgs.length = 12 ∧ ZeroBytes switchArgs 9 12 ∧
    active.switchLate (field switchArgs 0 8) = false ∧ Leads (linked active) host ∧ (linked active).linkLanes ≠ 0 ∧
    (linked active).freeLanes ≠ [] ∧ (linked active).twin.waiting = [] ∧ (linked active).switchLate (field switchArgs 0 8) = false ∧ active.linkLanes = 0 ∧ (field switchArgs 8 1).testBit 0 = true ∧
    active.twin.fault = none := by
  and_intros <;> first | exact leads_of (by decide +kernel) | exact zeroBytes_of (by decide +kernel) | decide +kernel

/-- The power state IDLE. -/
def idling : State := { bare with power := { bare.power with mode := .idle } }

theorem test_PowerCommandsComplete :
    Leads bare host ∧ field [0x20, 3, 0, 0] 0 2 = 800 ∧ ZeroBytes [0x20, 3, 0, 0] 2 4 ∧ (bare.taken host 0x0900 [2, 0, 0, 0]).sleepAllowed = true ∧
    bare.power.mode = .run ∧ Leads idling host ∧ idling.power.mode = .idle ∧ idling.power.target = none ∧ idling.crate.sleep.proposal = none ∧
    (bare.taken host 0x0900 [1, 0, 0, 0]).sleepAllowed = true ∧ bare.twin.role ≠ .active ∧ (bare.taken host 0x0905 [0, 0, 0, 0]).protectRuns = false ∧
    (field [1, 0, 0, 0] 0 1).testBit 0 = true := by
  and_intros <;> first | exact leads_of (by decide +kernel) | exact zeroBytes_of (by decide +kernel) | decide +kernel

def policyArgs : List Byte := [1, 100, 103, 20] ++ leBytes 4 86400 ++ leBytes 4 1000000 ++ leBytes 2 15000 ++ leBytes 2 1000
def controlArgs : List Byte := [0x1F, 0, 5, 7] ++ leBytes 4 9 ++ leBytes 16 0

/-- RX lane 127 is LOCKED. -/
def locked : State := { led with lanes := { led.lanes with rx := led.lanes.rx.set 127 { lock := .locked } } }

theorem test_HealthAndLaneCommandsComplete :
    Leads led host ∧ policyArgs.length = 16 ∧ led.twin.role ≠ .standby ∧ Passes cmdPolicySet 0x0803 led policyArgs ∧ led.hotPair = false ∧
    (({ led with health := { led.health with holdupMv := 15000 } } : State).applyPolicy policyArgs).holdOk .page = false ∧
    (({ led with health := { led.health with holdupMv := 25000 } } : State).applyPolicy policyArgs).holdOk .page = true ∧
    Passes cmdKilnRun 0x0800 led [5, 0, 1, 0] ∧ Passes cmdKilnRun 0x0800 led [1, 0, 135, 0] ∧ Passes cmdKilnRun 0x0800 led [2, 0, 135, 0] ∧
    Passes cmdKilnRun 0x0800 led [3, 0, 7, 0] ∧ Passes cmdKilnRun 0x0800 led [4, 7, 0, 0] ∧ (led.die 7).tiles.getD 135 2 = 1 ∧ field [1, 7, 135, 0] 1 1 < led.dies ∧ led.unitOut 1 7 135 = false ∧ led.hasLane 135 = true ∧
    led.unitOut 3 0 135 = false ∧ Leads locked host ∧ locked.hasLane 127 = true ∧ (locked.spareRx (dieOfLane 127)).isFree = true ∧
    (locked.rx 127).lock = .locked ∧ (locked.rx 127).inTolerance = true ∧ dieOfLane 127 < locked.lanes.spareRx.length ∧
    field [127, 1, 0, 0] 0 1 < 128 ∧ ZeroBytes [127, 1, 0, 0] 2 4 ∧ ZeroBytes [135, 1, 2, 3, 64, 40, 0, 0] 6 8 ∧ (led.tx 135).role = .off ∧
    controlArgs.length = 24 ∧ field controlArgs 0 1 ∈ [0x01, 0x10, 0x11, 0x12, 0x13, 0x14, 0x1F] ∧ field controlArgs 13 1 = 0 ∧ ZeroBytes controlArgs 20 24 ∧
    Served locked host ∧ (fieldS [127, 2, 32, 63, 40, 0, 0, 0] 3 1).natAbs ≤ 63 ∧ ZeroBytes [127, 2, 32, 63, 40, 0, 0, 0] 5 8 := by
  and_intros <;> first | exact served_of (by decide +kernel) | exact leads_of (by decide +kernel) | exact zeroBytes_of (by decide +kernel) | decide +kernel

/-- RX lane 135 and stack 7 have failed, and an area of a pipe stands on the die or not. -/
def restoring (area : Bool) : State :=
  { led with
    lanes := { led.lanes with rx := led.lanes.rx.set 135 { failed := true } }
    fabric := { led.fabric with hbm := List.replicate 7 {} ++ [{ trainState := 2 }] }
    cfg := { led.cfg with pipes := [{ areas := if area then [{ die := 7, granules := 1 }] else [] }] } }

/-- The readings of a lane that does not choose between phases, and of a stack that trains or does not. -/
def flatReading (ok : Bool) : KilnReading := { offsets := List.replicate 3 (List.replicate 16 0), passed := ok }

theorem test_HealthAndLaneCommandsComplete_restore :
    field [2, 0, 135, 0] 0 1 = 2 ∧ (restoring false).hasLane (field [2, 0, 135, 0] 2 1) = true ∧ field [4, 7, 0, 0] 1 1 < led.dies ∧
    (restoring false).unitOut 2 0 135 = true ∧ ((restoring false).taken host 0x0802 [2, 0, 135, 0]).areaOn 7 = false ∧ (restoring false).unitOut 4 7 0 = true ∧
    (((restoring false).taken host 0x0802 [4, 7, 0, 0]).unitTest 4 7 0 (flatReading false)).1 = false ∧
    (((restoring false).taken host 0x0802 [4, 7, 0, 0]).unitTest 4 7 0 (flatReading true)).1 = true ∧
    (((restoring false).taken host 0x0802 [2, 0, 135, 0]).unitTest 2 0 135 (flatReading true)).1 = true ∧
    (restoring true).unitOut 4 7 0 = true ∧ ((restoring true).taken host 0x0802 [4, 7, 0, 0]).areaOn 7 = true ∧ Leads (restoring true) host ∧
    Leads (restoring false) host := by
  and_intros <;> first | exact leads_of (by decide +kernel) | decide +kernel

/-- Die 7's spare stands as given for RX lane 127. -/
def standing (step : SpareStep) : State :=
  { led with lanes := { led.lanes with spareRx := List.replicate 7 {} ++ [{ step := step, lane := 127 }] } }

theorem test_HealthAndLaneCommandsComplete_lanes :
    Leads (standing .carrying) host ∧ field [127, 2, 0, 0] 1 1 = 2 ∧ ((standing .carrying).spareRx (dieOfLane 127)).lane = 127 ∧
    ((standing .carrying).spareRx (dieOfLane 127)).carries = true ∧ Leads (standing .confirmed) host ∧
    ((standing .confirmed).spareRx (dieOfLane 127)).carries = false ∧ ((standing .confirmed).spareRx (dieOfLane 127)).isFree = false ∧
    (standing .confirmed).mail.running = [] ∧ dieOfLane 127 < (standing .confirmed).lanes.spareRx.length ∧
    led.mayTest 135 1 = true ∧ led.mayTest 127 0 = true ∧ 127 < led.lanes.rx.length ∧ ZeroBytes [127, 0, 1, 0, 0, 0, 0, 0] 6 8 ∧
    led.mail.running = [] := by
  and_intros <;> first | exact leads_of (by decide +kernel) | exact zeroBytes_of (by decide +kernel) | decide +kernel

/-! ### Firmware and the stores -/

/-- The hold-up input is charged. -/
def charged : State := { bare with health := { bare.health with holdupMv := 12000 } }

def stageArgs (op : Byte) (src : Nat) : List Byte := [op, 0, 0, 0] ++ leBytes 4 256 ++ leBytes 4 256 ++ leBytes 4 0 ++ leBytes 8 src

/-- An image of one byte is written whole in bank 1. -/
def imaged : State :=
  { charged with
    fabric := { charged.fabric with mem := Memory.write [] (norBase + bankBase 1 + 8) [1, 0, 0, 0] }
    health := { charged.health with fw := { charged.health.fw with written := [(0, 257)], staged := some 1 } } }

theorem test_FwStageRuns :
    Leads charged host ∧ (stageArgs 1 0).length = 24 ∧ Passes (cmdFwStage []) 0x0806 charged (stageArgs 1 0) ∧ charged.health.fw.ops = [] ∧
    Passes (cmdFwStage []) 0x0806 charged (stageArgs 2 0) ∧ Passes (cmdFwStage [5]) 0x0806 charged (stageArgs 2 (2 ^ 63)) ∧ Leads imaged host ∧
    Passes (cmdFwStage []) 0x0806 imaged (stageArgs 3 0) := by
  and_intros <;> first | exact leads_of (by decide +kernel) | decide +kernel

/-- A package with a seal and a voltage at HOLDUP_SENSE. -/
def sealed (mv : Nat) : State :=
  { led with health := { led.health with holdupMv := mv, fw := { led.health.fw with ownerSeal := some (sha512 (leBytes 8 9)), sealFails := 7 } } }

theorem test_FwActivateAndSealRun :
    Leads imaged host ∧ Passes cmdFwActivate 0x0808 imaged [0, 0, 0, 0] ∧ Passes cmdFwActivate 0x0808 imaged [0, 1, 0, 0] ∧
    imaged.health.fw.resetDue = false ∧ imaged.twin.role = .alone ∧ led.health.fw.ownerSeal = none ∧ field ([1, 0, 0, 0] ++ leBytes 8 9) 4 8 ≠ 0 ∧
    Leads led host ∧ led.holdOk .page = false ∧ Leads charged host ∧ charged.holdOk .page = true ∧ charged.health.fw.ownerSeal = none ∧
    (sealed 12000).holdOk .page = true ∧ (sealed 0).holdOk .page = false ∧ (sealed 0).health.fw.ownerSeal = some (sha512 (([2, 0, 0, 0] ++ leBytes 8 9).drop 4)) ∧
    Leads (sealed 12000) host ∧ ZeroBytes ([2, 0, 0, 0] ++ leBytes 8 9) 2 4 ∧ (sealed 12000).health.fw.sealFails < 8 ∧
    (sealed 12000).health.fw.ownerSeal = some (sha512 (([2, 0, 0, 0] ++ leBytes 8 9).drop 4)) ∧
    (sealed 12000).health.fw.ownerSeal ≠ some (sha512 (([2, 0, 0, 0] ++ leBytes 8 8).drop 4)) := by
  and_intros <;> first | exact leads_of (by decide +kernel) | exact zeroBytes_of (by decide +kernel) | decide +kernel

/-- A deferred entry, a write of the copies, and an operation that waits or has started. -/
def deferring (due started erase : Bool) : State :=
  { charged with health := { charged.health with
      norDue := due, configDue := due, log := { charged.health.log with deferred := [{}] }
      fw := { charged.health.fw with ops := [{ erase := erase, ends := some false, range := (0, 256) }], opStarted := started } } }

theorem test_StoreRetriesRun :
    (deferring true false true).holdOk .log = true ∧ (deferring true false true).health.log.deferred.length ≤ 1024 ∧ led.holdOk .log = false ∧
    led.health.log.dead = false ∧ (deferring true false true).holdOk .page = true ∧ (deferring true false true).health.norDue = true ∧
    (deferring true false true).health.configDue = true ∧
    (deferring false false true).holdOk .erase = true ∧ (deferring false false true).health.norDue = false ∧
    (∃ op l, (deferring false true false).health.fw.ops = op :: l ∧ op.erase = false ∧ op.ends.isSome = true) ∧
    (∃ op l, (deferring false true true).health.fw.ops = op :: l ∧ op.erase = true) ∧ (deferring false true true).health.fw.opStarted = true :=
  ⟨by decide +kernel, by decide, by decide +kernel, rfl, by decide +kernel, rfl, rfl, by decide +kernel, rfl, ⟨_, _, rfl, rfl, rfl⟩, ⟨_, _, rfl, rfl⟩, rfl⟩

/-- The event queue holds `depth` entries, about to wrap, and `lost` are lost; the log is as given. -/
def evented (depth lost : Nat) (f : CellarLog → CellarLog) : State :=
  { charged with events := { prod := 2047, cons := 2047 - depth, lost := lost, minSeverity := 1 }, health := { charged.health with episode := true, log := f charged.health.log } }

theorem test_StoreRetriesRun_events :
    (List.replicate 32 (0 : Byte)).length ≤ 32 ∧ (evented 0 0 id).health.log.dead = false ∧ (evented 0 0 id).holdOk .log = true ∧ (evented 0 0 id).health.log.badMedia = [] ∧
    severityOf 0x040B < (evented 0 0 id).events.minSeverity ∧ (evented 0 0 id).events.minSeverity ≤ severityOf 0x0707 ∧ (evented 1022 0 id).events.room = 2 ∧
    (evented 1023 5 id).events.room = 1 ∧ (evented 1024 0 id).events.room = 0 ∧ (evented 1022 5 id).events.lost ≠ 0 ∧ (evented 0 0 id).events.slots.length = 1024 ∧
    (evented 0 0 fun l => { l with dead := true }).health.log.dead = true ∧ ({ evented 0 0 id with health := { bare.health with episode := true } } : State).holdOk .log = false ∧
    (evented 0 0 fun l => { l with nextSeq := 262144, badMedia := [0], badRun := 62 }).health.log.nextSeq % 262144 ∈
      (evented 0 0 fun l => { l with nextSeq := 262144, badMedia := [0], badRun := 62 }).health.log.badMedia := by
  and_intros <;> decide +kernel

/-- An event of two entries that finds one slot after a loss: OVERFLOW_MARK takes it, and the event is counted afresh (R382). -/
theorem test_overflow_mark :
    let t := (evented 1023 5 id).raise 0x0707 3 (List.replicate 17 1)
    t.events.prod = 0 ∧ t.events.lost = 2 ∧ (t.events.slots.getD 1023 {}).code = 1 ∧ (t.events.slots.getD 1023 {}).detail.take 4 = [5, 0, 0, 0] ∧
      t.health.log.nextSeq = 2 := by
  and_intros <;> decide +kernel

/-! ### The host's registers -/

/-- Mailbox 15 is owned by requester 5 and is as given. -/
def boxed (s : State) (busy : Bool) : State := s.modBox 15 fun b => { b with owned := true, ownerId := 5, busy := busy, opcode := 1 }

/-- Reset is over, and start-up step 3 is not. -/
def early : State := { up with power := { up.power with stage := 2, ready := false } }

theorem test_MailboxRegistersAct :
    HostQuiet up ∧ 15 < up.mail.boxes.length ∧ (up.box 15).owned = false ∧ HostQuiet (boxed up false) ∧ ((boxed up false).box 15).owned = true ∧
    ((boxed up false).box 15).ownedBy (some 6) = false ∧ ((boxed up false).box 15).ownedBy (some 5) = true ∧ ((boxed up false).box 15).busy = false ∧
    HostQuiet (boxed up true) ∧ ((boxed up true).box 15).ownedBy (some 5) = true ∧ ((boxed up true).box 15).busy = true ∧ HostQuiet (boxed early false) ∧
    (boxed early false).serves = false ∧ Served (boxed up false) { id := 5, mailbox := 15 } ∧ (boxed up false).power.inReset = false ∧
    ((boxed up false).box 15).opcode = 0x0001 ∧ ((boxed up false).box 15).argLen = 0 := by
  and_intros <;> first | exact served_of (by decide +kernel) | exact quiet_of (by decide +kernel) | decide +kernel

/-- The event queue and completion queue 3 hold one entry each, about to wrap, and a completion is held. -/
def queued : State :=
  { up with
    events := { prod := 0, cons := 2047, irqDelayUs := 10 }
    mail := { up.mail with queues := List.replicate 3 {} ++ [{ prod := 0, cons := 31 }], held := [(3, { mailbox := 15 })] } }

theorem test_QueueRegistersAct :
    HostQuiet queued ∧ ((0 : Word).toNat % 2048 + 2048 - queued.events.cons) % 2048 ≤ queued.events.depth ∧
    queued.events.depth < ((1 : Word).toNat % 2048 + 2048 - queued.events.cons) % 2048 ∧ 3 < queued.mail.queues.length ∧
    (queued.mail.queues.getD 3 {}).depth < ((1 : Word).toNat % 32 + 32 - (queued.mail.queues.getD 3 {}).cons) % 32 ∧
    queued.mail.held = [(3, { mailbox := 15 })] ∧ (queued.mail.queues.getD 3 {}).depth < 16 ∧ 15 < queued.mail.boxes.length ∧ up.mail.held = [] ∧
    ((0 : Word).toNat % 32 + 32 - (up.mail.queues.getD 3 {}).cons) % 32 ≤ (up.mail.queues.getD 3 {}).depth ∧ queued.events.irqDelayUs ≠ 0 ∧
    queued.events.depth ≠ 0 := by
  and_intros <;> first | exact quiet_of (by decide +kernel) | decide +kernel

theorem test_InterruptAndRegisterWritesAct :
    HostQuiet queued ∧ queued.condition 4 = true ∧ queued.condition 15 = false ∧ (0xFFFF : Word).getLsbD 15 = true ∧ queued.power.inReset = false ∧
    3 ≤ queued.power.stage := by
  and_intros <;> first | exact quiet_of (by decide +kernel) | decide +kernel

/-- DMA channel 7 is as given. -/
def dma7 (c : DmaChannel) : State := { up with dma := List.replicate 7 {} ++ [c] }

/-- A transfer from host memory to package address 4 that runs. -/
def fromHost : DmaChannel := { src := 1 <<< 63, dst := 4, count := 2, busy := true }

/-- A fill of the 5 bytes from package address 4 that runs. -/
def filling : DmaChannel := { dst := 4, count := 5, busy := true, mode := 1 }

theorem test_DmaRuns :
    HostQuiet (dma7 { count := 4 }) ∧ 7 < (dma7 { count := 4 }).dma.length ∧ ((dma7 { count := 4 }).dmaChannel 7).busy = false ∧
    ({ count := 4, mode := BitVec.ofNat 6 (0x80000008 : Word).toNat } : DmaChannel).misaligned = false ∧ (4 : Word) ≠ 0 ∧
    ((dma7 {}).dmaChannel 7).count = 0 ∧ ({ count := 3, mode := BitVec.ofNat 6 (0x80000008 : Word).toNat } : DmaChannel).misaligned = true ∧
    HostQuiet (dma7 fromHost) ∧ ((dma7 fromHost).dmaChannel 7).busy = true ∧ (dma7 fromHost).dmaStalled 7 = false ∧ (0x80000008 : Word).getLsbD 30 = false ∧ (0x40000000 : Word).getLsbD 31 = false ∧
    fromHost.op = 0 ∧ fromHost.src.getLsbD 63 = true ∧ fromHost.dst.getLsbD 63 = false ∧ fromHost.mode.getLsbD 3 = false ∧ fromHost.error = false ∧
    (∀ i, i < fromHost.count.toNat → (dma7 fromHost).dmaReaches true (fromHost.dst.toNat + i) = true) ∧ inRegs fromHost.dst.toNat = false ∧
    fromHost.mode.getLsbD 4 = false ∧ (dma7 fromHost).inHbm fromHost.dst.toNat = true ∧ fromHost.dst.toNat % 32 ≠ 0 ∧ ({ fromHost with mode := 16 } : DmaChannel).mode.getLsbD 4 = true ∧ HostQuiet (dma7 filling) ∧ filling.op = 1 ∧
    filling.mode.getLsbD 3 = false ∧ (∀ i, i < filling.count.toNat → (dma7 filling).dmaReaches true (filling.dst.toNat + i) = true) ∧
    ({ filling with mode := 2 } : DmaChannel).op = 2 ∧ (dma7 filling).pending = [] ∧ (dma7 filling).power.mode ≠ .off ∧
    (dma7 filling).power.inReset = false ∧ (dma7 filling).fabric.held = [] := by
  and_intros <;> first | exact quiet_of (by decide +kernel) | decide +kernel

theorem test_Bar2Reaches :
    HostQuiet up ∧ up.reaches .pcie 0 true (2 ^ 34 - 1) 1 = true ∧ inRegs (2 ^ 34 - 1) = false ∧ controllerIdle up ((2 ^ 34 - 1) / 2 ^ 36) = true ∧
    up.reaches .pcie 0 false (2 ^ 34 - 2) 2 = true ∧ up.reaches .pcie 0 false (14 * 2 ^ 36) 1 = false ∧ up.reaches .pcie 0 true (14 * 2 ^ 36) 1 = false ∧
    up.reaches .pcie 0 true sramBase 1 = true ∧ up.inHbm sramBase = false ∧ inRegs sramBase = false ∧ up.inHbm (2 ^ 34 - 1) = true ∧ up.fabric.held = [] := by
  and_intros <;> first | exact quiet_of (by decide +kernel) | decide +kernel

/-- The real-time ports are in panic. -/
def panicked (s : State) : State := { s with fabric := { s.fabric with hbm := List.replicate 8 { panic := true } } }

theorem test_Bar2Reaches_panic :
    HostQuiet (panicked up) ∧ (panicked up).reaches .pcie 0 true (2 ^ 34 - 1) 1 = true ∧ inRegs (2 ^ 34 - 1) = false ∧
    ((panicked up).stack ((2 ^ 34 - 1) / 2 ^ 36)).panic = true ∧ (panicked up).inHbm (2 ^ 34 - 1) = true ∧
    (∀ w ∈ ((panicked up).stack ((2 ^ 34 - 1) / 2 ^ 36)).behind, w.realTime = false) ∧ (panicked up).fabric.held = [] ∧
    HostQuiet (panicked (dma7 fromHost)) ∧ ((panicked (dma7 fromHost)).dmaChannel 7).busy = true ∧ (panicked (dma7 fromHost)).dmaStalled 7 = true := by
  and_intros <;> first | exact quiet_of (by decide +kernel) | decide +kernel

/-- The SMBus pointer points at word `p` with bit 15 set, in a power state. -/
def pointed (p : Half) (m : PowerMode) : State := { up with regs := { up.regs with smbusPointer := 0x8000 ||| p }, power := { up.power with mode := m } }

theorem test_SmbusActs :
    (pointed 0x03C .run).regs.smbusPointer.getLsbD 15 = true ∧ (pointed 0x03C .run).power.mode ≠ .off ∧ (pointed 0x03C .off).power.mode = .off ∧
    (pointed 0x03C .run).cal.fromVbat = false ∧ ({ up with cal := { up.cal with fromVbat := true } } : State).cal.fromVbat = true ∧
    (pointed 0x03C .run).regs.smbusPointer.toNat % 4096 = 0x03C ∧ (pointed 0x020 .run).regs.smbusPointer.toNat % 4096 < 0x024 := by
  and_intros <;> decide +kernel

/-- A datagram of session 9 with its CRC. -/
def dgram (type : Nat) (seq : Word) : Datagram :=
  let d : Datagram := { mailbox := 15, session := 9, seq := seq, opcode := 1 }
  { d with crc := crc32c (datagramBytes type d) }

/-- Session 9 is open on mailbox 15, which it owns. -/
def session (s : State) : State :=
  { s.modBox 15 (fun b => { b with owned := true, ethernet := true, ownerId := 9 }) with
    mgmt := { s.mgmt with sessions := [{ number := 9, mailbox := 15, lastSeq := 4, cached := some [1], quietMs := 3000 }], lastSession := 9 } }

theorem test_SessionsAct :
    HostQuiet up ∧ up.datagramOk 1 (dgram 1 0) = true ∧ up.mgmt.allows (dgram 1 0).srcAddr = true ∧ (dgram 1 0).mailbox < up.mail.boxes.length ∧
    (up.box 15).owned = false ∧ up.mgmt.sessions.length < 8 ∧ HostQuiet (session up) ∧ ((session up).box 15).owned = true ∧
    (session up).datagramOk 1 (dgram 1 0) = true ∧ (session up).datagramOk 5 (dgram 5 0) = true ∧ (session up).datagramOk 3 (dgram 3 4) = true ∧
    (session up).datagramOk 3 (dgram 3 5) = true ∧
    (session up).sessionOf (dgram 3 4) = some { number := 9, mailbox := 15, lastSeq := 4, cached := some [1], quietMs := 3000 } ∧ ((session up).box 15).busy = false ∧
    HostQuiet (session early) ∧ (session early).serves = false ∧ Served (session up) { ethernet := true, id := 9, mailbox := 15 } ∧
    (session up).power.inReset = false ∧ (session up).datagramOk 6 (dgram 6 0) = true ∧ ((session up).sessionOf (dgram 6 0)).isSome = true ∧
    (∃ x ∈ (session up).mgmt.sessions, x.number = 9 ∧ 3000 ≤ x.quietMs) := by
  and_intros <;> first | exact served_of (by decide +kernel) | exact quiet_of (by decide +kernel) | decide +kernel

theorem test_LeaseAndOwnersEnd :
    ({ led with lease := { led.lease with leftMs := 0 } } : State).lease.leftMs = 0 ∧ led.lease.owner.isSome = true ∧ up.hostUp = true ∧
    ({ up with mgmt := { up.mgmt with addr4 := 1, addr6 := 1 } } : State).mgmt.addr4 ≠ 0 ∧ led.lease.owner = some (false, 5) := by
  and_intros <;> decide +kernel

/-! ### The data path -/

/-- The running package in the work window of tick 0: entry 0 with its chain, entry 1 with mashes of one sample so that a test evaluates fast, entry 2 with an
input and a contributor; RX lane 0 takes grist and lane 1 haul frames, TX lanes 0 to 3 form port 0. -/
def working : State :=
  { running with
    cfg := { running.cfg with pipes :=
      [{ state := .running, cfg := .ingest ingestBlk, inputs := [{ input := 7 }] }, { state := .running, cfg := .corr { corrBlk with tLog2 := 0 } },
       { state := .running, cfg := .beam { beamBlk with contribCount := 1 }, beamInputs := [{ input := 7 }], contribs := [{ position := 5, die := 7 }] },
       { state := .running, cfg := .sink sinkBlk }] }
    lanes := { running.lanes with
      rx := [live { role := .grist }, live { role := .haul }] ++ List.replicate 134 {}
      tx := List.replicate 4 { role := .ethernet } ++ List.replicate 132 {} }
    data := { boundary := some 1, chains := [{ cfg := ingestBlk, input := 7 }], dies := { reserve := 4096, busy := [{ item := .dump { pipe := 1 } }] } :: List.replicate 7 { reserve := 4096 } } }

def gristFrame : Frame := sealFrame 1 { tick := 1, layout := 1, spec := 7 * 2 ^ 32, payload := [5] }
def turnFrame (tick : BitVec 48) : Frame := sealFrame 2 { tick := tick, pipe := 1, layout := 1, spec := 0, payload := [1, 0, 0, 0] ++ [0, 0, 0, 0] ++ [0x11] }
def partFrame : Frame := sealFrame 3 { pipe := 2, source := 5, layout := 7 * 256, payload := leBytes 8 9 }

theorem test_HaulFramesArrive :
    0 < working.lanes.rx.length ∧ working.works = true ∧ (working.receive 0 1 gristFrame).1 = true ∧ 0 ∈ working.cfg.indices [1] ∧
    (∃ e, working.pipeAt 0 gristFrame.tick.toNat = some e ∧ (∃ x ∈ e.inputs, x.input = gristFrame.spec.toNat / 2 ^ 32 % 65536 ∧ x.die = dieOfLane 0) ∧
      gristMalformed e.cfg.ingestCfg gristFrame = false) ∧
    (∃ c ∈ working.data.chains, Chain.isOf 0 (gristFrame.spec.toNat / 2 ^ 32 % 65536) c = true) ∧ (working.receive 1 2 (turnFrame 1)).1 = true ∧
    (working.stack (dieOfLane 1)).turnBuffer < 2 ^ 21 ∧ (∃ d xs, ({ working with clocks := { working.clocks with time := { valid := true, sec := 1, ns := 0 } } } : State).turnJudge 0 (turnFrame 1) = (.fresh, d, xs)) ∧
    (working.receive 1 2 (turnFrame 0)).1 = true ∧ (∃ d xs, working.turnJudge 0 (turnFrame 0) = (.late, d, xs) ∧ d < working.data.dies.length) ∧
    (working.receive 1 3 partFrame).1 = true ∧ (∃ d e, working.partJudge 0 partFrame = (.fresh, d, e)) := by
  refine ⟨by decide +kernel, by decide +kernel, by decide +kernel, by decide +kernel, ⟨_, rfl, ⟨_, List.mem_singleton.2 rfl, by decide +kernel, rfl⟩, by decide +kernel⟩,
    ⟨_, List.mem_singleton.2 rfl, by decide +kernel⟩, by decide +kernel, by decide +kernel, ⟨_, _, rfl⟩, by decide +kernel, ⟨_, _, rfl, by decide +kernel⟩,
    by decide +kernel, ⟨_, _, rfl⟩⟩

/-- The turn write buffers are full. -/
def crowded : State :=
  { working with
    clocks := { working.clocks with time := { valid := true, sec := 1, ns := 0 } }, fabric := { working.fabric with hbm := List.replicate 8 { turnBuffer := 2 ^ 21 } } }

theorem test_HaulFramesArrive_full :
    1 < crowded.lanes.rx.length ∧ crowded.works = true ∧ (crowded.receive 1 2 (turnFrame 1)).1 = true ∧
    (∃ d xs, crowded.turnJudge (dieOfLane 1) (turnFrame 1) = (.fresh, d, xs) ∧ 2 ^ 21 ≤ (crowded.stack d).turnBuffer) :=
  ⟨by decide +kernel, by decide +kernel, by decide +kernel, _, _, rfl, by decide +kernel⟩

theorem test_BadTrailerIsCounted :
    (0 : Nat) < working.lanes.rx.length ∧ working.deliverRole 0 ≠ .off ∧ (working.rx 0).frames.headD false = false ∧ frameCrcOk 1 {} = false ∧ frameCrcOk 2 {} = false ∧ frameCrcOk 3 {} = false ∧
    frameCrcOk 4 {} = false := by
  and_intros <;> decide +kernel

/-- Chain states at the end of a spall block and of an offset block. -/
def blockEnd (c : Chain) : State := { working with data := { working.data with chains := [c] } }

theorem test_ChainStepsRun (c : Chain) (h : c = { cfg := ingestBlk, input := 7, spallSeen := 4096 } ∨
      c = { cfg := { ingestBlk with offsetLog2 := 20 }, input := 7, sumSeen := 2 ^ 20, sumClipped := 256 }) :
    (blockEnd c).works = true ∧ c ∈ (blockEnd c).data.chains ∧ Chain.isOf 0 7 c = true ∧
    (c.spallSeen = 4096 ∨ (c.cfg.offsetLog2 ≠ 0 ∧ c.sumSeen = 2 ^ c.cfg.offsetLog2 ∧ c.cfg.offsetClipMax < c.sumClipped)) := by
  rcases h with rfl | rfl
  · exact ⟨rfl, List.mem_singleton.2 rfl, rfl, .inl rfl⟩
  · exact ⟨rfl, List.mem_singleton.2 rfl, rfl, .inr ⟨nofun, rfl, by decide⟩⟩

theorem test_ChainStepsRun_hold :
    let c : Chain := { cfg := ingestBlk, input := 7 }
    let e : Chain := { c with next := 3 * ingestBlk.samplesPerTick }
    let s : State := { working with cfg := { working.cfg with pipes := [{ state := .draining, cfg := .ingest ingestBlk, endTick := 2 }] }, data := { chains := [e] } }
    working.chain 0 7 = some c ∧ (working.cfg.pipes.getD 0 {}).ended (c.next / max c.cfg.samplesPerTick 1) = false ∧ c.moves = [] ∧
    (∀ g ∈ [c.next, c.next - (c.cfg.w - 1) / 2], (((working.pipeAt 0 (g / max c.cfg.samplesPerTick 1)).map (·.cfg.ingestCfg)).getD c.cfg) = c.cfg) ∧
    (∀ x ∈ working.data.chains, x.pipe = 0 → x.input = 7 → x.finish = none) ∧ c.nextSample = none ∧
    s.works = true ∧ s.chain 0 7 = some e ∧ (s.cfg.pipes.getD 0 {}).ended (e.next / max e.cfg.samplesPerTick 1) = true := by
  intro c e s
  and_intros <;> decide +kernel

/-! Tile runs whose cells are all zero: over zero samples, and over one sample of 2,048 + 2,048j, whose product with its conjugate wraps the 23-bit accumulator
to zero. -/

theorem getD_zeros (n i : Nat) : (List.replicate n ((0 : Int), (0 : Int))).getD i (0, 0) = (0, 0) := by
  rw [List.getD_eq_getElem?_getD, List.getElem?_replicate]
  split <;> rfl

/-- The verdict on a tile whose cells are all zero rests on its checksum cells. -/
def zeroVerdict (r : TileRun) : Bool :=
  ((List.range 64).all fun v => agree (List.replicate 64 (0, 0)) [r.ccol.getD v (0, 0)]) &&
    ((List.range 64).all fun u => agree (List.replicate 64 (0, 0)) [r.crow.getD u (0, 0)]) && agree r.ccol r.crow

theorem verified_of_zeros (r : TileRun) (hc : ∀ p ∈ r.cells, p = (0, 0)) : r.verified = zeroVerdict r := by
  have e (f : Nat → Nat) : (List.range 64).map (fun u => r.cells.getD (f u) (0, 0)) = List.replicate 64 (0, 0) := by
    rw [List.eq_replicate_iff.2 ⟨rfl, hc⟩]
    simp only [getD_zeros]
    rfl
  unfold TileRun.verified
  simp only [e]
  rfl

/-- The dump of the one tile position. -/
def dump : DumpRef := { pipe := 1 }

/-- The CORR entry of the working package. -/
def corrEntry : PipeEntry := working.cfg.pipes.getD 1 {}

/-- Input 0 sends one great sample in tick 0. -/
def loud : State := { working with data := { working.data with turn := [{ pipe := 1, re := 2048, im := 2048 }] } }

/-- A replay of the dump waits, or runs on tile 0; the reserve is as given. -/
def replaying (reserve : Int) (runs : Bool) : State :=
  { working with data := { working.data with dies :=
      { reserve := reserve, replays := if runs then [] else [{ ref := dump }]
        busy := if runs then [{ item := .dump dump, replay := some { ref := dump } }] else [] } :: List.replicate 7 {} } }

/-- One row or column of zero samples each, after a first of `x`. -/
def inputsOf (x : Int × Int) : List (List (Int × Int)) := [x] :: List.replicate 63 [(0, 0)]

def corrOne : CorrCfg := { corrBlk with tLog2 := 0 }

theorem quiet_run (errs : List TileError) :
    (working.runTile corrOne dump false errs).1 = tileRun false (inputsOf (0, 0)) (inputsOf (0, 0)) errs := by
  show tileRun false _ _ errs = _
  congr 1

theorem loud_run : (loud.runTile corrOne dump false []).1 = tileRun false (inputsOf (2048, 2048)) (inputsOf (2048, 2048)) [] := by
  show tileRun false _ _ _ = _
  congr 1

theorem length_pairs {α β γ : Type} (f : α → β → γ) (l : List α) (m : List β) : (l.flatMap fun x => m.map (f x)).length = l.length * m.length := by
  induction l with
  | nil => simp
  | cons a l ih => simp [ih, Nat.add_mul, Nat.add_comm]

/-- Every cell of such a run ends at zero, when errors hit only its checksum cells. -/
theorem cells_zero (x : Int × Int) (hx : x = (0, 0) ∨ x = (2048, 2048)) (errs : List TileError) (he : ∀ e ∈ errs, 4096 ≤ e.cell) :
    ∀ p ∈ (tileRun false (inputsOf x) (inputsOf x) errs).cells, p = (0, 0) := by
  intro p hp
  simp only [tileRun, List.mem_map] at hp
  obtain ⟨⟨v, k⟩, hv, rfl⟩ := hp
  have hk := List.snd_lt_of_mem_zipIdx hv
  have hraw := List.fst_mem_of_mem_zipIdx hv
  have hnone : errs.filter (·.cell == k) = [] := by
    rw [List.filter_eq_nil_iff]
    intro e h
    have := he e h
    rw [length_pairs] at hk
    have : k < 4096 := hk
    simp
    omega
  unfold flipAt
  rw [hnone]
  simp only [List.mem_flatMap, List.mem_map] at hraw
  obtain ⟨a, ha, b, hb, rfl⟩ := hraw
  have one (l : List (Int × Int)) (h : l ∈ inputsOf x) : l = [x] ∨ l = [(0, 0)] := by
    rcases List.mem_cons.1 h with h | h
    · exact .inl h
    · exact .inr (List.eq_of_mem_replicate h)
  rcases hx with rfl | rfl <;> rcases one a ha with rfl | rfl <;> rcases one b hb with rfl | rfl <;>
    (show (cellRun false [_] [_]).1 = (0, 0); decide +kernel)

theorem quiet_verified : (working.runTile corrOne dump false []).1.verified = true := by
  rw [quiet_run, verified_of_zeros _ (cells_zero _ (.inl rfl) _ (by simp))]
  decide +kernel

theorem loud_verified : (loud.runTile corrOne dump false []).1.verified = true := by
  rw [loud_run, verified_of_zeros _ (cells_zero _ (.inr rfl) _ (by simp))]
  decide +kernel

theorem wrong_verified : (working.runTile corrOne dump false [{ cell := 4096, re := 1 }]).1.verified = false := by
  rw [quiet_run, verified_of_zeros _ (cells_zero _ (.inl rfl) _ (by simp))]
  decide +kernel

theorem test_TileDumpsReachTheTun :
    working.tilesRun = true ∧ dump.die < working.data.dies.length ∧ (∃ e, working.corrAt dump = some e ∧ e.cfg.corrCfg = corrOne) ∧
    (∃ b, (working.die dump.die).working dump.tile (.dump (DumpRef.key dump)) false = some b) ∧
    (working.runTile corrOne dump false []).1.overflow = false ∧ (loud.runTile corrOne dump false []).1.overflow = true ∧
    working.tilePos 1 0 (corrEntry.bankAt working.workTick) 0 0 = { pipe := 1, bank := corrEntry.bankAt working.workTick } ∧
    (∃ b, ((replaying 4096 true).die dump.die).working dump.tile (.dump (DumpRef.key dump)) true = some b) ∧ ((replaying 4096 true).corrAt dump).isSome = true ∧
    ((replaying 4096 false).die 0).replays = { ref := dump } :: [] ∧
    (((replaying 4096 false).itemCost (Replay.item { ref := dump }) : Nat) : Int) ≤ ((replaying 4096 false).die 0).reserve ∧
    ((replaying 4096 false).die 0).freeTile = some 0 ∧ ((replaying 0 false).die 0).reserve < (((replaying 0 false).itemCost (Replay.item { ref := dump }) : Nat) : Int) ∧
    ((replaying 0 false).corrAt dump).isSome = true := by
  rw [quiet_run, loud_run]
  refine ⟨by decide +kernel, by decide +kernel, ⟨_, rfl, rfl⟩, ⟨_, rfl⟩, by decide +kernel, by decide +kernel, by decide +kernel, ⟨_, rfl⟩, by decide +kernel,
    by decide +kernel, by decide +kernel, by decide +kernel, by decide +kernel, by decide +kernel⟩

def strip : StripRef := { pipe := 2, strip := 3 }

theorem sumC_zeros (l : List (Int × Int)) (h : ∀ p ∈ l, p = (0, 0)) : sumC l = (0, 0) := by
  have e : l = List.replicate l.length (0, 0) := List.eq_replicate_iff.2 ⟨rfl, h⟩
  rw [e]
  simp [sumC]

/-- A strip over zero samples, with the errors of its checksum column alone. -/
theorem strip_zeros (ws : List (List (Int × Int))) (errs : List TileError) (he : ∀ e ∈ errs, 16384 ≤ e.cell) :
    ∀ y ∈ (stripRun ws [List.replicate 256 (0, 0)] errs).1, y = (0, 0) := by
  intro y hy
  simp only [stripRun, List.mem_flatMap, List.mem_map, List.mem_range] at hy
  obtain ⟨t, ht, u, hu, rfl⟩ := hy
  have : errs.filter (·.cell == 64 * t + u) = [] := by
    rw [List.filter_eq_nil_iff]
    intro e h
    have := he e h
    simp
    omega
  unfold flipAt
  rw [this]
  refine sumC_zeros _ fun p hp => ?_
  rw [List.mem_map] at hp
  obtain ⟨q, hq, rfl⟩ := hp
  rw [List.mem_singleton.1 (List.of_mem_zip hq).2, getD_zeros]
  simp [mulPlain]

theorem stripVerified_zeros (ys ck : List (Int × Int)) (h : ∀ y ∈ ys, y = (0, 0)) :
    stripVerified ys ck = (List.range 256).all fun t => (0 - (ck.getD t (0, 0)).1) % 2 ^ 32 == 0 && (0 - (ck.getD t (0, 0)).2) % 2 ^ 32 == 0 := by
  unfold stripVerified
  congr 1
  funext t
  rw [sumC_zeros _ fun p hp => h p (List.mem_of_mem_drop (List.mem_of_mem_take hp))]

/-- The BEAM entry of the working package. -/
def beamEntry : PipeEntry := working.cfg.pipes.getD 2 {}

theorem strip_data : working.stripData beamEntry strip = ([List.replicate 64 (0, 0)], [List.replicate 256 (0, 0)]) := by decide +kernel

/-- The verdict on the strip with these errors of its checksum column. -/
def stripOk (errs : List TileError) : Bool :=
  stripVerified (stripRun (working.stripData beamEntry strip).1 (working.stripData beamEntry strip).2 errs).1
    (stripRun (working.stripData beamEntry strip).1 (working.stripData beamEntry strip).2 errs).2

theorem stripOk_cases : stripOk [] = true ∧ stripOk [{ cell := 16384, re := 1 }] = false := by
  unfold stripOk
  rw [strip_data, stripVerified_zeros _ _ (strip_zeros _ [] (by simp)), stripVerified_zeros _ _ (strip_zeros _ _ (by simp))]
  exact ⟨by decide +kernel, by decide +kernel⟩

/-- The strip runs on tile 0. -/
def stripping : State :=
  { working with data := { working.data with dies := { busy := [{ item := .strip strip }] } :: List.replicate 7 {} } }

theorem test_BeamWorkRuns :
    stripping.tilesRun = true ∧ stripping.beamAt 2 0 0 0 = some beamEntry ∧ strip.die < stripping.data.dies.length ∧
    ((stripping.die strip.die).busy.find? (fun b => b.tile == strip.tile && b.item == .strip (StripRef.key strip))).isSome = true ∧
    stripping.weightsBad beamEntry strip = 0 ∧ stripping.contrib 2 ownStrips 0 stripping.workSlot 0 0 = none ∧
    ({ working with data := { working.data with boundary := some 3 } } : State).finishable 2 0 0 0 = some beamEntry ∧
    finishDie (({ working with data := { working.data with boundary := some 3 } } : State).cfgAt 0) beamEntry 0 0 = 0 := by
  and_intros <;> decide +kernel

/-- The integration scope of entry 1 is open on ports 0 and 1; its reader is done or has a record in hand. -/
def scope (done : Bool) (record : Option OpenRecord) : Scope :=
  { pipe := 1, sink := 3, cfg := .corr corrBlk, sinkCfg := sinkBlk, records := 3, readers := [{ done := done, record := record }], ports := [{}, { port := 1 }] }

def sending (done : Bool) (record : Option OpenRecord) : State :=
  { working with data := { working.data with scopes := [scope done record], repairs := [{ transaction := 0xFFFFFFFF, pipe := 1 }] } }

theorem test_SpargeRuns :
    (sending false none).scopeOf 1 false = some (scope false none) ∧ (scope false none).ports ≠ [] ∧ (sending false none).transmits = true ∧
    (scope false none).readers.find? (·.die == 0) = some {} ∧
    (∃ r, (scope false none).list[0]? = some r ∧ ((sending false none).repairFirst (scope false none) r).1 = false) ∧
    (sending false none).mergeWaits (scope false none) = false ∧
    (sending true none).scopeOf 1 false = some (scope true none) ∧ (scope true none).readers.all (·.done) = true ∧
    ((sending true none).data.repairs.find? (·.transaction.toNat == 0xFFFFFFFF)) = some { transaction := 0xFFFFFFFF, pipe := 1 } := by
  refine ⟨by decide +kernel, nofun, by decide +kernel, by decide +kernel, ⟨_, rfl, by decide +kernel⟩, by decide +kernel, by decide +kernel, by decide +kernel,
    by decide +kernel⟩

theorem test_SpargeRuns_record (o : OpenRecord) (_ : o.port = { port := 1 } ∨ o.port = { port := 2 }) :
    (sending false (some o)).scopeOf 1 false = some (scope false (some o)) ∧ (scope false (some o)).readers.find? (·.die == 0) = some { record := some o } ∧
    ((scope false (some o)).list[0]?).isSome = true ∧ (sending false (some o)).mergeWaits (scope false (some o)) = false ∧
    ({ port := 1 } : SinkDest) ∈ (scope false (some o)).ports ∧ ({ port := 2 } : SinkDest) ∉ (scope false (some o)).ports := by
  refine ⟨rfl, rfl, rfl, rfl, List.mem_cons_of_mem _ (List.mem_singleton.2 rfl), fun h => ?_⟩
  exact absurd (show ({ port := 2 } : SinkDest) ∈ [({} : SinkDest), { port := 1 }] from h) (by decide)

/-- The tick 1 of the working package has begun its work: nothing has reached the tun. -/
theorem test_TickRowsRun :
    working.cfg.tick.isSome = true ∧ (∀ b, working.data.boundary = some b → b < 2 ^ 48 - 1) ∧ working.power.inReset = false ∧
    working.health.fw.resetDue = false ∧ (∃ b, working.data.boundary = some b ∧ 1 ≤ b) ∧ up.cfg.tick = none ∧ working.data.boundary = some 1 ∧
    working.works = true ∧ working.twin.role = .alone ∧ working.twin.nextMode = none ∧ working.twin.switchAt = none ∧ working.switchWaiting = none ∧
    working.twin.detachDue = false :=
  ⟨rfl, fun _ h => Option.some.inj h ▸ by decide, rfl, rfl, ⟨1, rfl, by decide⟩, rfl, rfl, rfl, rfl, rfl, rfl, by decide +kernel, rfl⟩

/-- An active, a standby with a takeover declared for boundary 5, one that has agreed to a switch there, and one that leaves. -/
def handing : State := { active with twin := { active.twin with switchAt := some 5 } }
def standingBy (f : Twin → Twin) : State := { active with twin := f { active.twin with role := .standby, mode := .hot } }

theorem test_TickRowsRun_twins :
    active.cfg.tick = some {} ∧ active.data.boundary = none ∧ active.power.inReset = false ∧ active.health.fw.resetDue = false ∧ active.twin.nextMode = none ∧
    active.switchWaiting = none ∧ (standingBy id).twin.role = .standby ∧ (standingBy id).twin.detachDue = false ∧ (standingBy id).highestClaim < 2 ^ 32 - 1 ∧
    (standingBy fun w => { w with declared := some (0, 5) }).twin.declared = some (0, 5) ∧ (standingBy fun w => { w with switchAt := some 5 }).twin.switchAt = some 5 ∧
    (standingBy id).twin.declared = none ∧ (standingBy id).twin.switchAt = none ∧ (standingBy id).twin.partner.isSome = true ∧ (standingBy id).switchWaiting = none ∧
    (standingBy fun w => { w with detachDue := true }).twin.detachDue = true ∧ handing.twin.role = .active ∧ handing.twin.switchAt = some 5 ∧
    handing.switchWaiting = none ∧ active.twin.role = .active ∧ active.twin.switchAt = none ∧ active.twin.declared = none ∧ active.twin.partner.isSome = true := by
  and_intros <;> decide +kernel

theorem test_TickRowsRun_times :
    (∃ c, working.cfg.tick = some c ∧ 0 < c.den ∧ c.boundaryNs (2 ^ 20) < 2 ^ 48 * nsPerSec ∧ c.boundaryNs 2 - c.guardNs < 2 ^ 48 * nsPerSec) ∧
    .dump dump ∈ working.owed 0 ∧ (working.corrAt dump).isSome = true :=
  ⟨⟨_, rfl, by decide +kernel, by decide +kernel, by decide +kernel⟩, by decide +kernel, by decide +kernel⟩

/-! ### Lanes and sparing -/

/-- RX lane 127 is as given. -/
def lane127 (x : RxLane) : State := { led with lanes := { led.lanes with rx := led.lanes.rx.set 127 x } }

/-- A comma as a transmitter sends it, and one with `wrong` bits of PATTERN flipped. -/
def commaOf (lane phase : Nat) : CommaSeen := { bits := commaBits lane phase }
def commaWrong (lane phase wrong : Nat) : CommaSeen := { bits := commaBits lane phase ^^^ BitVec.ofNat 144 ((2 ^ wrong - 1) * 65536) }

theorem test_CommaSearchAndLock :
    127 < (lane127 {}).lanes.rx.length ∧ ((lane127 {}).rx 127).inPass = false ∧ ((lane127 {}).rx 127).lock = .search ∧
    (lane127 {}).power.mode ≠ .dormant ∧ ({ lane127 {} with power := { led.power with mode := .dormant } } : State).power.mode = .dormant ∧
    CommaSeen.pattern (commaOf 9 4) = commaPattern ∧ CommaSeen.phase? (commaOf 9 4) = some 4 ∧ CommaSeen.pattern (commaWrong 9 4 1) ≠ commaPattern ∧
    ((lane127 { lock := .candidate 2, remoteLane := 9, phase := 4 }).rx 127).lock = .candidate 2 ∧ CommaSeen.lane (commaOf 9 0) = 9 ∧
    CommaSeen.check (commaOf 9 0) = commaCheck 9 ((4 + 1) % 5) ∧ ((lane127 { lock := .candidate 1, remoteLane := 9, phase := 4 }).rx 127).lock = .candidate 1 ∧
    CommaSeen.check (commaOf 9 1) ≠ commaCheck 9 ((4 + 1) % 5) ∧ ((lane127 { lock := .locked, missRun := 3 }).rx 127).lock = .locked ∧
    CommaSeen.wrong (commaWrong 9 0 8) ≤ 8 ∧ CommaSeen.lane (commaOf 9 0) ≠ ((lane127 { lock := .locked }).rx 127).remoteLane ∧
    8 < CommaSeen.wrong (commaWrong 9 0 9) ∧ ((lane127 { lock := .locked, missRun := 2 }).rx 127).missRun < 3 ∧
    ((lane127 { lock := .locked, missRun := 3 }).rx 127).missRun = 3 ∧ (∀ k ∈ List.range 8, 120 + k ≠ 127 → ((lane127 {}).rx (120 + k)).lock ≠ .locked) ∧
    ((lane127 {}).rx 127).carried = false ∧ (lane127 {}).clocks.dpll.inputs.length = 6 := by
  and_intros <;> decide +kernel

/-- Die 7's spare carries lane 127, which serves or not; twin lane 3 is as given. -/
def carrying (x : RxLane) : State :=
  { charged with lanes := { charged.lanes with
      rx := (charged.lanes.rx.set 127 x).set 135 { lock := .locked, missRun := 3 }, spareRx := List.replicate 7 {} ++ [{ lane := 127, step := .carrying }] } }
def twin3 (x : RxLane) : State := { charged with lanes := { charged.lanes with twinRx := List.replicate 3 {} ++ [x] } }

theorem test_CommaSearchAndLock_others :
    135 < (carrying {}).lanes.rx.length ∧ ((carrying {}).rx 135).inPass = false ∧ ((carrying {}).rx 135).lock = .locked ∧ ((carrying {}).rx 135).missRun = 3 ∧
    ((carrying {}).spareRx 7).lane < 128 ∧ ((carrying {}).spareRx 7).carries = true ∧ ((carrying (live {})).rx 127).lock = .locked ∧
    ((carrying (live {})).rx 127).inTolerance = true ∧ ((carrying (live {})).rx 127).failed = false ∧ ((carrying {}).rx 127).lock ≠ .locked ∧
    3 < (twin3 {}).lanes.twinRx.length ∧ (twin3 {}).clocks.dpll.wide = false ∧ (twin3 {}).power.mode ≠ .dormant ∧
    ((twin3 { lock := .candidate 2, remoteLane := 9, phase := 4 }).lanes.twinRx.getD 3 {}).lock = .candidate 2 ∧
    ((twin3 { lock := .locked, missRun := 3 }).lanes.twinRx.getD 3 {}).missRun = 3 ∧ (twin3 {}).health.log.dead = false ∧ (twin3 {}).holdOk .log = true ∧
    (twin3 {}).health.log.badMedia = [] := by
  and_intros <;> decide +kernel

/-- PAM4 levels of every bit pair (R247), and a short code of the kind of R254 that corrects two symbols and no third. -/
theorem test_line_code :
    pam4Of [false, false, false, true, true, true, true, false] = [-3, -1, 1, 3] ∧ bitsOfPam4 [-3, -1, 1, 3] = [false, false, false, true, true, true, true, false] ∧
    (let c : RsCode := { n := 8, parity := 4 }
     let w := c.encode [1, 1023, 5, 0]
     c.decode w = some (0, w) ∧ c.decode (w.set 0 7 |>.set 5 900) = some (2, w) ∧ c.decode (w.set 0 7 |>.set 5 900 |>.set 2 6) = none) := by
  and_intros <;> decide +kernel

/-- A receiver whose FIRST_BOUNDARY fields are gathered; its walk stands `left` bytes before the end of a frame, or is held. -/
def bounded (complement : Half) (held : Bool) (left : Nat) : RxLane :=
  { live {} with block := 40, fieldBlocks := 32, boundaryField := 5, complementField := complement, walkHeld := held, walkLeft := left }

theorem test_CodewordsAndBoundaries :
    127 < (lane127 (live {})).lanes.rx.length ∧ ((lane127 (live {})).rx 127).lock = .locked ∧ ((lane127 (live {})).rx 127).test = .service ∧
    ((lane127 { test := .prbs31 }).rx 127).test ≠ .service ∧ (lane127 { test := .prbs31 }).power.mode ≠ .dormant ∧
    ({ lane127 { test := .prbs31 } with power := { mode := .dormant } } : State).power.mode = .dormant ∧ (bounded 0xFFFA true 0).boundaryField = ~~~(bounded 0xFFFA true 0).complementField ∧
    (bounded 0 true 0).boundaryField ≠ ~~~(bounded 0 true 0).complementField ∧ (bounded 0xFFFA true 0).walkBuf = [] ∧ (bounded 0xFFFA true 0).walkHeld = true ∧
    (bounded 0xFFFA false 5).walkHeld = false ∧ (bounded 0xFFFA false 5).nextBoundary = some (bounded 0xFFFA false 5).boundaryField.toNat ∧
    (bounded 0xFFFA false 4).nextBoundary = some 4 ∧ 4 ≠ (bounded 0xFFFA false 4).boundaryField.toNat ∧ (bounded 0xFFFA false 4).lock = .locked ∧
    (bounded 0xFFFA false 4).fieldBlocks = 32 ∧ (live {}).fieldBlocks = 0 ∧ (live {}).walkBuf = [] ∧ (5 : Half) = ~~~0xFFFA ∧ (5 : Half) ≠ ~~~0 := by
  and_intros <;> decide +kernel

/-- RX lane 0 takes haul frames; die 7's spare receiver and sender are as given. -/
def sparing (x : SpareRx) (y : SpareTx) : State :=
  { led with lanes := { led.lanes with
      rx := live { role := .haul } :: List.replicate 135 {}, spareRx := List.replicate 7 {} ++ [x], spareTx := List.replicate 7 {} ++ [y] } }

/-- A CONTROL frame of MSG `msg` about TX lane 112 and RX lane 113, TRANSACTION 9, to position 0. -/
def control (msg : Half) : Frame := sealFrame 4 { layout := msg, spec := 9 * 2 ^ 32, payload := [112, 135, 113, 135] ++ List.replicate 12 0 }

def copyingTx : SpareTx := { lane := some 112, copying := true, holders := [(0, 9)] }

theorem test_ControlMessagesAct_holders : ∀ x ∈ ((sparing {} copyingTx).spareTx (dieOfLane 112)).holders, x.1 = (control 0x13).source := by
  have h : ((sparing {} copyingTx).spareTx (dieOfLane 112)).holders = [(0, 9)] := by decide +kernel
  have h' : (control 0x13).source = 0 := by decide +kernel
  rw [h, h']
  intro x hx
  rw [List.mem_singleton.1 hx]

theorem test_ControlMessagesAct :
    0 < (sparing {} {}).lanes.rx.length ∧ ((sparing {} {}).receive 0 4 (control 0x01)).1 = true ∧ (control 0x01).pipe = 0 ∧ (control 0x01).payload.length = 16 ∧
    (control 0x01).layout.toNat % 256 = 0x01 ∧ (sparing {} {}).addressed ((control 0x10).spec.toNat % 65536) = true ∧
    ((sparing {} {}).receive 0 4 (control 0x10)).1 = true ∧ (sparing {} {}).hasLane (field (control 0x10).payload 0 1) = true ∧
    field (control 0x10).payload 1 1 = 128 + dieOfLane 112 ∧ dieOfLane 112 < (sparing {} {}).lanes.spareTx.length ∧ ((sparing {} {}).spareTx 7).lane = none ∧
    ((sparing { step := .requested false, lane := 113, transaction := 9 } {}).receive 0 4 (control 0x11)).1 = true ∧
    (sparing { step := .requested false, lane := 113, transaction := 9 } {}).extraOf (transactionOf (control 0x11)) = none ∧
    (sparing { step := .requested false, lane := 113, transaction := 9 } {}).spareOf (transactionOf (control 0x11)) (control 0x11).payload = some 7 ∧
    ((sparing { step := .requested false, lane := 113, transaction := 9 } {}).receive 0 4 (control 0x1F)).1 = true ∧
    ((sparing {} copyingTx).receive 0 4 (control 0x12)).1 = true ∧ ((sparing {} copyingTx).receive 0 4 (control 0x13)).1 = true ∧
    ((sparing {} copyingTx).spareTx (dieOfLane 112)).lane = some 112 ∧ ((sparing {} copyingTx).spareTx (dieOfLane 112)).copying = true ∧
    ((sparing { step := .released, lane := 113, transaction := 9 } {}).receive 0 4 (control 0x14)).1 = true ∧
    (sparing { step := .released, lane := 113, transaction := 9 } {}).spareOf (transactionOf (control 0x14)) (control 0x14).payload = some 7 ∧
    ((sparing { step := .released, lane := 113, transaction := 9 } {}).spareRx 7).step = .released := by
  and_intros <;> decide +kernel

/-- The copied lane has role HAUL. -/
def hauling : State := { sparing {} copyingTx with lanes := { (sparing {} copyingTx).lanes with tx := (sparing {} copyingTx).lanes.tx.set 112 { role := .haul } } }

theorem test_ControlMessagesAct_window :
    (hauling.receive 0 4 (control 0x12)).1 = true ∧ (hauling.spareTx (dieOfLane 112)).copying = true ∧ hauling.windowPass 112 = true ∧
    112 < hauling.lanes.tx.length := by
  and_intros <;> decide +kernel

/-- Die 7 spares RX lane 113, and both receivers see the same boundaries. -/
def spared (step : SpareStep) (lock : LockState) : State :=
  let x : RxLane := { lock := lock, remoteLane := 112, boundaries := [3, 4] }
  { sparing { step := step, lane := 113, txLane := 112 } {} with
    lanes := { (sparing { step := step, lane := 113, txLane := 112 } {}).lanes with rx := (List.replicate 136 ({} : RxLane)).set 113 x |>.set 135 x } }

/-- RX lane 113 is spared for its kiln pass. -/
def kilnSpared : State :=
  let s := sparing { step := .switching, lane := 113, txLane := 112, reason := 2 } {}
  { s with health := { s.health with kiln := [{ element := { kind := 1, die := 7, index := 113 }, due := true }] } }

theorem test_SparingStepsRun_kiln :
    kilnSpared.lanes.spareRx.length = 8 ∧ kilnSpared.lanes.spareTx.length = 8 ∧ (kilnSpared.spareRx 7).step = .switching ∧ (kilnSpared.spareRx 7).reason = 2 ∧
    dieOfLane (kilnSpared.spareRx 7).lane = 7 ∧ (kilnSpared.spareRx 7).lane < 128 ∧ (kilnSpared.spareRx 7).releaseAsked = false ∧
    kilnSpared.passRuns { kind := 1, index := 113 } = false ∧ (kilnSpared.kilnRecord { kind := 1, index := 113 }).due = true ∧
    (kilnSpared.kilnRecord { kind := 1, index := 113 }).inPass = false ∧ 113 < kilnSpared.lanes.rx.length := by
  and_intros <;> decide +kernel

/-- TX lane 135 sends haul frames, and a LANE_EYE of lane 135 is in progress. -/
def eyeing : State :=
  { led with lanes := { led.lanes with tx := led.lanes.tx.set 135 { role := .haul } }
             mail := { led.mail with running := [{ opcode := 0x0406, waits := .eye 135 40 }] } }

theorem test_SparingStepsRun :
    (7 : Nat) < 8 ∧ (spared .idle .locked).lanes.spareRx.length = 8 ∧ (spared .idle .locked).lanes.spareTx.length = 8 ∧
    ((sparing {} { lane := some 112 }).spareTx 7).lane = some 112 ∧ ((sparing {} { lane := some 112 }).spareTx 7).copying = false ∧
    ((sparing {} { lane := some 112, stopping := true }).spareTx 7).stopping = true ∧ ((spared (.requested true) .locked).spareRx 7).step = .requested true ∧
    ((spared (.requested true) .locked).rx (128 + 7)).lock = .locked ∧ ((spared (.requested true) .locked).rx (128 + 7)).remoteLane = 112 ∧
    ((spared (.requested true) .locked).rx (128 + 7)).inTolerance = true ∧ ((spared (.requested true) .locked).rx (128 + 7)).boundaries.length = 2 ∧
    ((spared (.requested true) .locked).rx (128 + 7)).boundaries = ((spared (.requested true) .locked).rx 113).boundaries ∧
    ((spared .switching .locked).spareRx 7).step = .switching ∧ 113 < (spared .switching .locked).lanes.rx.length ∧
    ((spared .confirmed .search).rx 113).lock ≠ .locked ∧ ((spared .returning .locked).rx 113).lock = .locked ∧
    ((spared .returning .locked).rx 113).inTolerance = true ∧ ((spared .returning .locked).rx (128 + dieOfLane 113)).inTolerance = true ∧ ((spared .returning .locked).rx 113).failed = false ∧ eyeing.txSends 135 = true ∧
    eyeing.mail.running.find? (fun r => match r.waits with | .eye l _ => l == 135 | _ => false) = some { opcode := 0x0406, waits := .eye 135 40 } ∧
    0 < eyeing.mail.boxes.length ∧ (eyeing.mail.queues.getD (eyeing.box 0).cqSel.toNat {}).depth < 16 := by
  and_intros <;> decide +kernel

/-! ### The twin pair -/

/-- A twin link frame of MSG `msg`, and one with SEGMENT and TRANSACTION as given. -/
def twinFrame (msg : Half) (payload : List Byte) : Frame := sealFrame 5 { layout := msg, payload := payload }
def twinSegment (msg : Half) (segment transaction : Nat) (payload : List Byte) : Frame :=
  sealFrame 5 { layout := msg, spec := BitVec.ofNat 64 (segment + 2 ^ 32 * transaction), payload := payload }

/-- The lowest lane of the twin link. -/
abbrev twin0 : LaneRef := .twin 0

/-- A standby that is ready, with its link LOCKED. -/
def readyStandby : State :=
  linked { standby with twin := { standby.twin with inSync := true, copyOk := (true, true), shadowed := true, windows := [{}, {}] }
                        cfg := { standby.cfg with tick := some {} } }

def linkedActive : State := linked active

/-- The frames of a copy of boundary 0 in one segment, and of one that lacks its last. -/
def copyFrames (last : Bool) : List (LaneRef × Frame) := [(twin0, twinSegment 2 (if last then 2 ^ 31 else 0) 0 [5])]

theorem test_TwinHeartbeatsAndCopies :
    readyStandby.twin.partner.isSome = true ∧ (readyStandby.twinReceive twin0 1 16 (twinFrame 1 ([0, 1, 1, 0] ++ leBytes 12 0))).1 = true ∧
    readyStandby.twin.role = .standby ∧ field ([0, 1, 1, 0] ++ leBytes 12 0) 1 1 = 1 ∧ (field ([0, 1, 1, 0] ++ leBytes 12 0) 2 2).testBit 0 = true ∧
    readyStandby.twin.declared = none ∧ (linkedActive.twinReceive twin0 1 16 (twinFrame 1 ([7, 2, 6, 0] ++ leBytes 12 0))).1 = true ∧
    (twinFrame 1 ([7, 2, 6, 0] ++ leBytes 12 0)).claim.toNat ≤ linkedActive.twin.claim ∧
    (field ([7, 2, 6, 0] ++ leBytes 12 0) 2 2).testBit 3 = false ∧ linkedActive.twin.role = .active ∧
    (readyStandby.twinFrames 2 (fun n => decide (n ≤ 8192)) (copyFrames true)).1 = [twinSegment 2 (2 ^ 31) 0 [5]] ∧
    wholeCopy 0 [twinSegment 2 (2 ^ 31) 0 [5]] = true ∧ wholeCopy 0 [twinSegment 2 0 0 [5]] = false ∧
    (readyStandby.twinFrames 2 (fun n => decide (n ≤ 8192)) (copyFrames false)).1 = [twinSegment 2 0 0 [5]] ∧
    readyStandby.data.boundary.getD 0 ≤ ({} : StateCopy).tick ∧
    ({} : StateCopy).tick < ({ readyStandby with data := { boundary := some 5 } } : State).data.boundary.getD 0 ∧ readyStandby.cfg.tick.isSome = true ∧
    readyStandby.twin.mode ≠ .untwinned ∧ readyStandby.twin.detached = false ∧
    ({ readyStandby.twin with seen := { any := true, active := true } } : Twin).seen.active = true ∧ readyStandby.freeLanes ≠ [] ∧
    readyStandby.twin.waiting = [] ∧ readyStandby.twin.windows = {} :: {} :: [] ∧ readyStandby.linkLanes ≠ 0 ∧ readyStandby.twin.seen = {} ∧
    readyStandby.ownPosition (twinFrame 1 ([0, 1, 1, 0] ++ leBytes 12 0)) = true ∧ readyStandby.twin.crcBad = false ∧ readyStandby.twin.incompatible = false := by
  and_intros <;> decide +kernel

def policyEntry (seq : Nat) : JournalEntry := { seq := seq, opcode := 0x0803, args := leBytes 16 0 }

/-- Part `k` of two that carry a journal entry. -/
def journalPart (e : JournalEntry) (k : Nat) : LaneRef × Frame :=
  let l := journalBytes e
  (twin0, twinSegment 3 0 e.seq (leBytes 4 e.seq ++ leBytes 2 k ++ [2, 0] ++ (if k = 0 then l.take 9 else l.drop 9)))

/-- A command waits for the acknowledgement of entry 4, and a repair for its reply. -/
def awaiting : State :=
  { linkedActive with mail := { linkedActive.mail with running := [{ opcode := 0x0803, waits := .journal 4 }] }
                      twin := { linkedActive.twin with journalSeq := 4 }, data := { linkedActive.data with repairs := [{ transaction := 0, pipe := 1 }] } }

theorem test_TwinJournalAndRepair :
    wholeEntry (readyStandby.twinFrames 3 (fun n => decide (8 ≤ n)) (journalPart (policyEntry 1) 0 :: [journalPart (policyEntry 1) 1])).1 = some (policyEntry 1) ∧
    wholeEntry (readyStandby.twinFrames 3 (fun n => decide (8 ≤ n)) (journalPart (policyEntry 3) 0 :: [journalPart (policyEntry 3) 1])).1 = some (policyEntry 3) ∧
    readyStandby.twin.role = .standby ∧ readyStandby.twin.partner.isSome = true ∧
    (policyEntry 1).seq = readyStandby.twin.journalSeq + 1 ∧ readyStandby.lacksPipe (policyEntry 1) = false ∧
    (policyEntry 3).seq ≠ readyStandby.twin.journalSeq + 1 ∧ (policyEntry 3).seq ≠ 1 ∧ readyStandby.freeLanes ≠ [] ∧
    (awaiting.twinReceive twin0 4 8 (twinFrame 4 (leBytes 8 4))).1 = true ∧ awaiting.twin.role = .active ∧ field (leBytes 8 4) 0 4 = awaiting.twin.journalSeq ∧
    (∃ r ∈ awaiting.mail.running, r.waits = .journal 4) ∧ (readyStandby.twinReceive twin0 5 16 (twinFrame 5 (leBytes 16 0x20010001))).1 = true ∧
    (awaiting.twinReceive twin0 6 36 (twinFrame 6 (leBytes 36 (5 * 2 ^ 32)))).1 = true ∧
    awaiting.data.repairs.find? (·.transaction.toNat == twinTransaction (twinFrame 6 (leBytes 36 (5 * 2 ^ 32)))) = some { transaction := 0, pipe := 1 } ∧
    field (leBytes 36 (5 * 2 ^ 32)) 0 1 = 0 ∧ (awaiting.twinReceive twin0 6 36 (twinFrame 6 (leBytes 36 1))).1 = true ∧ field (leBytes 36 1) 0 1 ≠ 0 := by
  and_intros <;> decide +kernel

/-- A package in start-up that waits for its twin, in a role. -/
def attaching (role : TwinRole) : State := linked { led with twin := { mode := .hot, role := role } }

/-- An active that has sent ATTACH with TRANSACTION 0 and is attached. -/
def replied : State := linked { led with twin := { active.twin with attachSent := true } }

/-- ATTACH of a package of `dies` dies in role `role`. -/
def attachFrame (dies role : Byte) : Frame := twinFrame 7 ([dies, 1, 1, role] ++ leBytes 12 0)

/-- A TWIN_SWITCH at tick 9 waits for SWITCH_ACK, with or without FORCE. -/
def switching : State :=
  { linkedActive with mail := { linkedActive.mail with running := [{ opcode := 0x0601, args := leBytes 12 9, waits := .switchAck }] }
                      twin := { linkedActive.twin with driveDue := true } }

theorem test_TwinAttachesAndSwitches :
    ((attaching .alone).twinReceive twin0 7 16 (attachFrame 8 2)).1 = true ∧ (attaching .alone).twin.detached = false ∧ 7 ≤ (attaching .alone).power.stage ∧
    field (attachFrame 8 2).payload 0 1 = (attaching .alone).dies ∧ (attaching .alone).ident.twinWindow.toNat % 16 ≤ field (attachFrame 8 2).payload 2 1 ∧
    field (attachFrame 8 2).payload 1 1 ≤ (attaching .alone).ident.twinWindow.toNat / 16 ∧
    ((attaching .alone).twinReceive twin0 7 16 (attachFrame 4 2)).1 = true ∧ field (attachFrame 4 2).payload 0 1 ≠ (attaching .alone).dies ∧
    field (attachFrame 8 2).payload 3 1 = 2 ∧ (attaching .alone).twin.partner = none ∧ (replied.twinReceive twin0 7 16 (attachFrame 8 2)).1 = true ∧
    replied.twin.attachSent = true ∧ twinTransaction (attachFrame 8 2) = replied.twin.attachTransaction ∧ replied.twin.partner.isSome = true ∧
    ((attaching .standby).twinReceive twin0 7 16 (attachFrame 8 1)).1 = true ∧
    field (attachFrame 8 1).payload 3 1 = 1 ∧ (attaching .standby).twin.mode ≠ .untwinned ∧ (attaching .standby).twin.partner = none ∧
    (attaching .standby).highestClaim < 2 ^ 32 - 1 ∧ (readyStandby.twinReceive twin0 8 8 (twinFrame 8 (leBytes 8 9))).1 = true ∧ readyStandby.standbyReady = true ∧
    standby.standbyReady = false ∧ readyStandby.freeLanes ≠ [] ∧ readyStandby.twin.waiting = [] ∧ (switching.twinReceive twin0 9 8 (twinFrame 9 (leBytes 8 9))).1 = true ∧
    switching.switchWaiting = some { opcode := 0x0601, args := leBytes 12 9, waits := .switchAck } ∧ field (leBytes 12 9) 0 6 = field (leBytes 8 9) 0 6 ∧
    0 < switching.mail.boxes.length ∧ (switching.mail.queues.getD (switching.box 0).cqSel.toNat {}).depth < 16 ∧ field (leBytes 8 9) 6 2 = 0 ∧
    (switching.twinReceive twin0 9 8 (twinFrame 9 (leBytes 6 9 ++ [1, 0]))).1 = true ∧ field (leBytes 6 9 ++ [1, 0]) 6 2 ≠ 0 ∧
    (field (leBytes 12 9) 8 1).testBit 0 = false ∧ switching.twin.driveDue = true := by
  and_intros <;> decide +kernel

/-! ### Clocks, time, PTP and the calendar -/

/-- The DPLL is as given, and the pipes are those of `s`. -/
def clocked (s : State) (d : Dpll) : State := { s with clocks := { s.clocks with dpll := d } }

/-- The table holds inputs 6, 3 and 1; those of `good` are qualified. -/
def dpll (good : List Nat) : Dpll :=
  { entries := [6, 3, 1, 0, 0, 0], inputs := (List.range 6).map fun k => { qualified := good.contains (k + 1), wtrRunning := good.contains (k + 1), wtrLeftS := k } }

/-- Input `c` of `d` qualified, or not. -/
def withInput (d : Dpll) (c : Nat) (q : Bool) : Dpll := { d with inputs := d.inputs.modify (c - 1) fun y => { y with qualified := q, wtrRunning := false } }

theorem test_ReferencesAreSelected_qualify :
    (clocked led (dpll [])).clocksRun = true ∧ (dpll []).inputs.length = 6 ∧ ((clocked led (dpll [])).refInput 1).qualified = false ∧
    (clocked led (dpll [])).refPasses 1 = true ∧ (clocked led (dpll [])).refPasses 2 = true ∧ (dpll []).selected = none ∧
    ({ dpll [] with inputs := (dpll []).inputs.modify (6 - 1) fun y => { y with qualified := true } } : Dpll).best = some 0 ∧
    ({ dpll [] with inputs := (dpll []).inputs.modify (1 - 1) fun y => { y with qualified := true } } : Dpll).best = some 2 ∧
    2 ∉ (dpll []).entries ∧ (dpll []).best = none ∧ (clocked led (dpll [])).refPasses 6 = false ∧ (clocked led (dpll [])).ident.variant = .s8 ∧
    ((clocked led { dpll [] with inputs := List.replicate 6 { timeBad := true } }).refInput 4).timeBad = true := by
  and_intros <;> decide +kernel

theorem test_ReferencesAreSelected_lose :
    ((clocked led { dpll [6, 3] with selected := some 0 }).refInput 6).qualified = true ∧ ({ dpll [6, 3] with selected := some 0 } : Dpll).code = some 6 ∧
    (withInput { dpll [6, 3] with selected := some 0 } 6 false).best = some 1 ∧ ({ dpll [1] with selected := some 2 } : Dpll).code = some 1 ∧
    (withInput { dpll [1] with selected := some 2, historyValid := true } 1 false).best = none ∧
    ({ dpll [1] with selected := some 2, historyValid := true } : Dpll).historyValid = true ∧ ({ dpll [1] with selected := some 2 } : Dpll).historyValid = false ∧
    (∀ j, j < 2 → (dpll [6, 3, 1]).good j = true ∧ ((dpll [6, 3, 1]).inputs.getD ((dpll [6, 3, 1]).entries.getD j 0 - 1) {}).wtrRunning = true) ∧
    ((dpll [6, 3, 1]).inputs.getD ((dpll [6, 3, 1]).entries.getD 1 0 - 1) {}).wtrLeftS < ((dpll [6, 3, 1]).inputs.getD ((dpll [6, 3, 1]).entries.getD 0 0 - 1) {}).wtrLeftS ∧
    ({ dpll [6, 3, 1] with selected := some 2, revertive := true } : Dpll).revertive = true ∧ (clocked led (dpll [])).clocksRun = true ∧ ({ dpll [6] with state := .acquire } : Dpll).state = .acquire ∧
    ({ dpll [6] with state := .locked } : Dpll).state = .locked ∧ (dpll [6]).code ≠ some 3 ∧ (dpll [6]).code ≠ some 4 := by
  and_intros <;> decide +kernel

/-- Input 3 is selected. -/
def onPps (s : State) (accepted : Bool) : State := clocked s { dpll [3] with selected := some 1, acceptedSinceSelect := accepted }

theorem test_TimeInputsMeasure :
    (onPps running true).clocksRun = true ∧ (onPps bare false).clocksRun = true ∧ (onPps running true).waitingPps = none ∧ (onPps running true).clocks.dpll.code = some 3 ∧ (onPps running true).stepAllowed = false ∧
    (onPps running true).clocks.dpll.inputs.length = 6 ∧ (100 * 1000 - ((onPps running true).refInput 3).delayPs).natAbs ≤ (onPps running true).clocks.dpll.jumpLimitPs ∧
    (onPps running true).clocks.dpll.jumpLimitPs < (-101 * 1000 - ((onPps running true).refInput 3).delayPs).natAbs ∧
    ((onPps running true).refInput 3).accepted = false ∧ ((onPps running true).refInput 3).qualified = true ∧ (onPps bare false).stepAllowed = true ∧
    ({ onPps bare false with clocks := { (onPps bare false).clocks with time := { valid := true } } } : State).clocks.time.valid = true ∧
    (onPps bare false).clocks.dpll.acceptedSinceSelect = false ∧ bare.clocks.dpll.code ≠ some 3 ∧ (onPps bare true).stepAllowed = true ∧
    (onPps bare true).clocks.dpll.acceptedSinceSelect = true ∧ (onPps bare false).clocks.time.valid = false ∧ (onPps bare false).waitingPps = none := by
  and_intros <;> decide +kernel

/-- A TIME_SET of second `sec` waits for the edge. -/
def timeSetting (sec : Nat) : State :=
  { onPps bare false with mail := { bare.mail with running := [{ opcode := 0x0503, waits := .pps sec, origin := host }] } }

theorem test_TimeInputsMeasure_waits :
    (timeSetting (2 ^ 48 - 1)).waitingPps = some ({ opcode := 0x0503, waits := .pps (2 ^ 48 - 1), origin := host }, 2 ^ 48 - 1) ∧
    host.mailbox < (timeSetting (2 ^ 48 - 1)).mail.boxes.length ∧ (timeSetting 0).clocksRun = true ∧
    (timeSetting 0).mail.running.erase { opcode := 0x0503, waits := .pps 0, origin := host } = [] ∧
    ((timeSetting 0).mail.queues.getD ((timeSetting 0).box host.mailbox).cqSel.toNat {}).depth < 16 ∧
    ((timeSetting 0).refInput 3).qualified = true ∧ (timeSetting 0).stepAllowed = true ∧
    ((((2 ^ 48 - 1) * nsPerSec : Nat) : Int) + rndDiv ((timeSetting (2 ^ 48 - 1)).refInput 3).delayPs 1000).toNat < 2 ^ 48 * nsPerSec := by
  and_intros <;> decide +kernel

/-- The PTP port is as given. -/
def ported (p : Ptp) : State := { led with clocks := { led.clocks with ptp := p, dpll := dpll [4] } }

/-- A message of source `id` in domain 127. -/
def fromPort (id : BitVec 64) : PtpHeader := { domain := 127, sourceId := id, seq := 1 }

def slavePort (delay : Bool) : Ptp :=
  { mode := 1, domain := 127, role := .slave, best := some { header := fromPort 9 }, syncWait := some (1, 7), seqDelay := 1, peerDelay := delay }

theorem test_PtpPortRuns_announce :
    ∃ a : PtpAnnounce, Ptp.takes { mode := 1, domain := 127 } a.header = true ∧ a.grandmaster ≠ Config.clockIdentity ∧ a.stepsRemoved < 255 ∧
      (ported { mode := 1, domain := 127 }).clocks.ptp.best = none ∧ (ported { mode := 1, domain := 127 }).clocks.ptp.foreign = [] ∧
      samePort a a = true ∧ (ported {}).timeNs ≤ 0 + (({} : Ptp).foreignWindow) ∧ better { a with priority1 := 129 } a = false := by
  refine ⟨{ header := fromPort 9, grandmaster := ~~~Config.clockIdentity }, rfl, fun h => ?_, by decide, rfl, rfl, by simp [samePort], by decide +kernel, by simp [better, announceKey, lexLess]⟩
  have := congrArg (fun x : BitVec 64 => x.getLsbD 0) h
  simp at this

theorem test_PtpPortRuns_answers : answersOwn { fromPort 9 with requestingId := Config.clockIdentity, requestingPort := 1 } = true := by
  simp [answersOwn]

theorem test_PtpPortRuns_slave :
    (ported (slavePort false)).clocksRun = true ∧
    (slavePort false).takes (fromPort 8) = true ∧ (slavePort false).best = some { header := fromPort 9 } ∧
    samePort { header := fromPort 8, clockClass := 249 } { header := fromPort 9 } = false ∧ better { header := fromPort 8, clockClass := 249 } { header := fromPort 9 } = false ∧
    (slavePort false).mode = 1 ∧ (slavePort false).fromMaster (fromPort 9) = true ∧ (ported (slavePort false)).clocks.dpll.code ≠ some 4 ∧
    (slavePort false).syncWait = some ((fromPort 9).seq, 7) ∧ (slavePort false).peerDelay = false ∧ (fromPort 9).seq = (slavePort false).seqDelay ∧
    (slavePort true).peerDelay = true ∧ (slavePort true).takes (fromPort 9) = true ∧ (ported (slavePort true)).clocks.dpll.inputs.length = 6 ∧
    ((ported (slavePort true)).refInput 4).qualified = true := by
  and_intros <;> decide +kernel

theorem test_PtpPortRuns_master :
    Ptp.takes { mode := 2, domain := 127, role := .master } (fromPort 9) = true ∧ ({ mode := 2, role := .master, oneStep := true } : Ptp).oneStep = true ∧
    Ptp.takes { mode := 2, domain := 127, peerDelay := true, oneStep := true } (fromPort 9) = true ∧ Ptp.takes { mode := 2, domain := 127, peerDelay := true } (fromPort 9) = true := by
  and_intros <;> decide +kernel

/-- The time is valid, the pulses are as given, and a tick is set. -/
def ticking (p : Pulses) : State :=
  { led with cfg := { led.cfg with tick := some {} }, clocks := { led.clocks with pulses := p, time := { valid := true } }, cal := { led.cal with syncEn := true } }

theorem test_PulsesAndSecondsRun :
    (ticking {}).clocksRun = true ∧ (ticking { driven := true }).clocks.pulses.driven = true ∧ (ticking { driven := false }).clocks.pulses.driven = false ∧ (ticking {}).cfg.tick = some {} ∧
    (ticking {}).clocks.time.valid = true ∧ ((({} : TickCfg).startNs 9 : Int) + (ticking {}).clocks.pulses.cfg.tickOffsetNs).toNat < 2 ^ 48 * nsPerSec ∧
    (ticking {}).cal.syncEn = true ∧ led.cal.syncEn = false ∧ led.clocks.time.valid = false := by
  and_intros <;> decide +kernel

/-- The calendar stands at 2024-01-01 with a leap armed for second `at`. -/
def leaping (at_ : Nat) : State :=
  { led with cal := { led.cal with count := 1704067237, set := true, utcOffset := 37, leapArm := true, leapLo := BitVec.ofNat 32 at_, load := true } }

theorem test_CalendarRuns :
    (leaping 0).cal.load = true ∧ led.cal.set = false ∧ (leaping 0).cal.fields = some (2024 * 65536 + 257, 2 ^ 24) ∧
    (leaping 1704067238).cal.leapArm = true ∧ (leaping 1704067238).cal.leap ≤ ((leaping 1704067238).cal.count + 1) % 2 ^ 48 ∧
    ((leaping 1704067239).cal.count + 1) % 2 ^ 48 < (leaping 1704067239).cal.leap ∧ led.cal.leapArm = false ∧ (leaping 0).clocks.log.started = false ∧
    (leaping 0).coresRun = true ∧ led.cal.fromVbat = false := by
  and_intros <;> decide +kernel

/-! ### Package memory and the matrix -/

/-- Stack 7 is as given. -/
def stacked (h : HbmStack) : State := { led with fabric := { led.fabric with hbm := List.replicate 7 {} ++ [h] } }

/-- Row 5 of bank 1023 has been activated `n` times. -/
def activated (n : Nat) : HbmStack := { tables := [(1023, [{ row := 5, count := n }])], nextHammer := some (512, 2) }

theorem test_HbmRefreshesAndActivates :
    7 < (stacked {}).fabric.hbm.length ∧ ((stacked {}).stack 7).selfRefresh = false ∧
    ((stacked { nextLane := 255 }).stack 7).nextLane < ((stacked { nextLane := 255 }).stack 7).taps.length ∧
    ((stacked { selfRefresh := true }).stack 7).selfRefresh = true ∧
    ((stacked (activated 9)).stack 7).tables.find? (·.1 == 1023) = some (1023, [{ row := 5, count := 9 }]) ∧
    ([{ row := 5, count := 9 }] : List ActEntry).find? (·.row == 5) = some { row := 5, count := 9 } ∧ 2046 + 1 < (activated 2046).thresh ∧
    (activated 2047).thresh ≤ 2047 + 1 ∧ 1 ≤ (activated 0).radius ∧ ((stacked {}).stack 7).tables.find? (·.1 == 1023) = none ∧ 1 < (stacked {} |>.stack 7).thresh ∧
    ((stacked (activated 9)).stack 7).nextHammer = some (512, 2) ∧ ((stacked {}).stack 7).nextHammer = none ∧ 7 < (stacked {}).dies := by
  and_intros <;> decide +kernel

/-- The table of bank 1023 is full: 16 rows, the last with the least count. -/
def fullRows (least : Nat) : List ActEntry := (List.range 15).map (fun k => { row := k, count := least + 1 }) ++ [{ row := 32767, count := least }]
def fullTable (least : Nat) : HbmStack := { tables := [(1023, fullRows least)], nbrSecond := 3 }

theorem test_HbmRefreshesAndActivates_absent :
    ((stacked (fullTable 7)).stack 7).tables.find? (·.1 == 1023) = some (1023, fullRows 7) ∧ (fullRows 7).length = 16 ∧
    (fullRows 7).find? (·.row == 99) = none ∧
    ([{ row := 5, count := 9 }] : List ActEntry).find? (·.row == 99) = none ∧ 7 + 1 < (fullTable 7).thresh ∧ (fullTable 2047).thresh ≤ 2047 + 1 ∧
    (fullTable 7).nbrSecond ≠ 0 ∧ (stacked {}).health.log.dead = false ∧ charged.holdOk .log = true ∧ charged.health.log.badMedia = [] ∧
    (∀ k, k < led.dies → (led.stack k).nbrSecond = 0) := by
  and_intros <;> decide +kernel

/-- A write of 32 bytes to the HBM of die 7, and requests that a master may not make. -/
def hbmWrite : MatrixRequest := { master := .dma, die := 7, write := true, addr := 7 * 2 ^ 36, data := List.replicate 32 5 }
def hbmRead (space : Bool) : MatrixRequest := { master := .dma, die := 7, addr := 8 * 2 ^ 36 - 1, len := 1, responseSpace := space }

theorem test_MatrixAndControllerServe :
    led.reaches hbmWrite.master 7 true hbmWrite.addr 32 = true ∧ led.reaches .dma 7 false (8 * 2 ^ 36 - 1) 1 = true ∧
    led.reaches .dma 7 false (2 ^ 40 - 1) 1 = false ∧ led.reaches .laneReceive 0 true (2 ^ 40 - 2) 4 = false ∧ led.inHbm hbmWrite.addr = true ∧
    led.fabric.held = [] ∧ (led.stack 7).selfRefresh = false ∧ 7 < led.fabric.hbm.length ∧ (led.stack 7).behind = [] ∧ (∀ c ∈ led.dma, c.waits = none) ∧
    hbmWrite.op = none ∧ (led.hbmArrive hbmWrite).2.atHead (led.hbmArrive hbmWrite).1 = true ∧ partialWrite hbmWrite = false ∧
    partialWrite { hbmWrite with addr := 7 * 2 ^ 36 + 1 } = true ∧ (2 ^ 21 : Nat) ≤ 2 ^ 21 ∧ (hbmRead true).master ≠ .pcie ∧
    controllerIdle led 7 = true ∧ led.reaches .pcie 0 false (2 ^ 40 - 1) 1 = false := by
  and_intros <;> decide +kernel

/-- A write of another master to the word of `hbmWrite` that came to the controller before it. -/
def overtaken : State := { led with fabric := { led.fabric with inFlight := [({ hbmWrite with master := .zwiter }, 0), (hbmWrite, 1)] } }

theorem test_MatrixAndControllerServe_order :
    (overtaken.hbmArrive hbmWrite).2.atHead (overtaken.hbmArrive hbmWrite).1 = false ∧ overtaken.fabric.held = [] ∧ (∀ c ∈ overtaken.dma, c.waits = none) := by
  and_intros <;> decide +kernel

theorem test_MatrixAndControllerServe_waiting : ∀ m, (led.box m).waiting = none := box_none (by decide +kernel)

/-- The scrubber of die 7 stands at the die offset `next`. -/
def scrubbing (next : Nat) : State := stacked { scrubNext := next }

theorem test_MatrixAndControllerServe_scrub :
    (scrubbing 0).scrubs 7 0 = false ∧ (scrubbing 0).scrubs 7 (2 ^ 36 - 32) = true ∧ (scrubbing 0).scrubDue 7 (2 ^ 36 - 32) = false ∧
    (scrubbing (2 ^ 36 - 32)).scrubDue 7 (2 ^ 36 - 32) = true ∧ (scrubbing 0).scrubs 7 0xF80000000 = true ∧ (scrubbing 0).scrubDue 7 0xF80000000 = true := by
  and_intros <;> decide +kernel

theorem test_MatrixAndControllerServe_held : led.holdsBack [] (hbmRead false) = true := by
  unfold State.holdsBack
  rw [show (!(hbmRead false).write && !(hbmRead false).responseSpace) = true from rfl, Bool.or_true]

theorem test_MatrixAndControllerServe_forwarded : led.holdsBack (led.fabric.held.map (·.1)) hbmWrite = false := by
  unfold State.holdsBack
  rw [show led.fabric.held = [] from rfl, show led.fabric.inFlight = [] from rfl]
  simp [hbmWrite]

/-- A read of the byte at SRAM address 0 of die 7, which met an error. -/
def sramRead (m : SramSeen) : MatrixRequest := { master := .dma, die := 7, addr := sramBase + 7 * 2 ^ 28, len := 1, sram := m }

theorem test_MatrixAndControllerServe_sram :
    led.reaches .dma 7 false (sramBase + 7 * 2 ^ 28) 1 = true ∧ led.inHbm (sramBase + 7 * 2 ^ 28) = false ∧ led.inSram (sramBase + 7 * 2 ^ 28) = true ∧
    (sramBase + 7 * 2 ^ 28 - sramBase) / 2 ^ 28 = 7 ∧ (sramRead .corrected).master ≠ .pcie ∧ (stacked { panic := true }).fabric.held = [] ∧
    ((stacked { panic := true }).stack 7).panic = true ∧ ((stacked {}).stack 7).panic = false ∧ ((stacked {}).stack 7).behind = [] ∧
    ((stacked {}).stack 7).selfRefresh = false := by
  and_intros <;> decide +kernel

theorem test_MatrixAndControllerServe_tun : (led.bankEntry 511).tunWord 7 1 0 = none := by decide +kernel

/-! ### Health -/

/-- Element `e` has a record with a pass in progress or not. -/
def kilned (e : KilnElement) (inPass : Bool) : State := { led with health := { led.health with kiln := [{ element := e, inPass := inPass }] } }

/-- RX lane 127. -/
def rx127 : KilnElement := { kind := 1, die := 7, index := 127 }

theorem test_KilnAndThermalGuardRun :
    led.hasElement { kind := 5, die := 7, index := 0 } = true ∧ led.hasElement rx127 = true ∧ rx127.kind ≠ 4 ∧ rx127.index < led.lanes.rx.length ∧
    (led.rx 127).role = .off ∧ led.passRuns rx127 = false ∧ (led.kilnRecord rx127).inPass = false ∧ led.hasElement { kind := 1, index := 136 } = false ∧
    ((kilned rx127 true).kilnRecord rx127).inPass = true ∧ ((kilned rx127 false).kilnRecord rx127).inPass = false ∧
    kilnPassed rx127 (kilnSets rx127 [] { offsets := List.replicate 3 (List.replicate 16 49), temp := 400 }) { offsets := List.replicate 3 (List.replicate 16 49), temp := 400 } = false ∧
    7 < led.dies ∧ 7 < led.health.guards.length := by
  and_intros <;> decide +kernel

/-- The guard of die 7 stands at `level`. -/
def guarded (level : Nat) : State := { led with health := { led.health with guards := List.replicate 7 {} ++ [{ level := level }] } }

theorem test_KilnAndThermalGuardRun_guard :
    ((guarded 0).guard 7).level = 0 ∧ atLevel 1599 (guarded 0).health.policy.withdrawC = false ∧ atLevel 1600 (guarded 0).health.policy.withdrawC = true ∧
    atLevel 1647 (guarded 0).health.policy.takeoverC = false ∧ ((guarded 1).guard 7).level < 2 ∧ atLevel 1648 (guarded 1).health.policy.takeoverC = true ∧
    ((guarded 2).guard 7).level = 2 ∧ atLevel 1647 (guarded 2).health.policy.takeoverC = false := by
  and_intros <;> decide +kernel

/-! ### Start-up, power, reset -/

/-- The SHA-512 of "abc" as FIPS 180-4's published example gives it. -/
def abcDigest : Nat :=
  0xDDAF35A193617ABACC417349AE20413112E6FA4E89A97EA20A9EEEE64B55D39A2192992A274FC1A836BA3C23A3FEEBBD454D4423643CE80E2A9AC94FA54CA49F

theorem test_sha512 : sha512 [0x61, 0x62, 0x63] = BitVec.ofNat 512 abcDigest := by decide +kernel

/-- A header for the image "abc" (R450). -/
def abcHeader : List Byte := leBytes 4 0x48544541 ++ [1, 0, 0, 7, 3, 0, 0, 0] ++ leBytes 4 0x01020304 ++ [9, 0, 0, 0] ++ List.replicate 12 0 ++ beBytes 64 abcDigest ++ List.replicate 96 0

/-- The package in reset with the image in `banks`. -/
def holding (banks : List Nat) : State :=
  { State.reset with fabric := { State.reset.fabric with mem := banks.foldl (fun m b =>
      Memory.write (Memory.write m (norBase + bankBase b) abcHeader) (norBase + bankBase b + 256) [0x61, 0x62, 0x63]) [] } }

theorem test_StartUpRuns_boot :
    (holding [0]).power.inReset = true ∧ (holding [0]).health.fw.bootPointer % 2 = 0 ∧ ((holding [0]).stepOne {}).bankCheck {} 0 = 0 ∧
    ((holding [1]).stepOne {}).bankCheck {} 0 ≠ 0 ∧ ((holding [1]).stepOne {}).bankCheck {} 1 = 0 ∧
    ((holding [0, 1]).stepOne { signatureOk := (false, true), keys := 1 }).bankCheck { signatureOk := (false, true), keys := 1 } 0 = 6 ∧
    ((holding []).stepOne {}).bankCheck {} 0 ≠ 0 ∧ ((holding []).stepOne {}).bankCheck {} 1 ≠ 0 := by
  and_intros <;> decide +kernel

theorem test_StartUpRuns_waiting : ∀ m, ((holding [0]).box m).waiting = none := box_none (by decide +kernel)

/-- Start-up stands at `stage`. -/
def staged (stage : Nat) (d : Dpll) : State :=
  { up with power := { up.power with stage := stage, ready := false }, clocks := { up.clocks with dpll := d } }

theorem test_StartUpRuns_steps :
    (staged 3 {}).power.stage = 3 ∧ 7 < (staged 3 {}).dies ∧ 7 < (staged 3 {}).fabric.hbm.length ∧ (staged 4 {}).power.stage = 4 ∧
    135 < (staged 4 {}).lanes.rx.length ∧ 135 < (staged 4 {}).lanes.tx.length ∧ (staged 5 {}).power.stage = 5 ∧ (staged 5 {}).clocks.dpll.state ≠ .locked ∧
    (∃ c ∈ (staged 5 { entries := [6, 0, 0, 0, 0, 0] }).clocks.dpll.entries, c ≠ 0) ∧ (staged 5 { state := .locked }).clocks.dpll.state = .locked ∧
    (staged 5 {}).highestClaim < 2 ^ 32 - 1 ∧ (staged 5 {}).twin.mode = .untwinned ∧ (staged 6 {}).power.stage = 6 ∧ standby.twin.mode ≠ .untwinned ∧
    (staged 8 {}).power.stage = 8 := by
  and_intros <;> decide +kernel

/-- A package with a byte in HBM and one in the NOR store. -/
def stored : State := { led with fabric := { led.fabric with mem := Memory.write [] 0 [5] ++ Memory.write [] norBase [6] } }

theorem test_ResetKeepsTheStores_sound : stored.Sound := by
  show Memory.wf _ = true
  decide +kernel

theorem test_ResetKeepsTheStores :
    stored.health.fw.opStarted = false ∧ (0 : Nat) < norBase ∧ Memory.get stored.fabric.mem 0 ≠ Memory.get State.reset.fabric.mem 0 ∧
    Memory.get stored.fabric.mem norBase ≠ Memory.get State.reset.fabric.mem norBase ∧ (0 : BitVec 10) = 0 := by
  and_intros <;> decide +kernel

/-- The power state as given. -/
def powered (f : Power → Power) : State := { bare with power := f bare.power }

theorem test_PowerFollowsItsRules :
    (powered fun p => { p with target := some (.dormant, 2) }).power.target = some (.dormant, 2) ∧ bare.power.exitAfter = none ∧ bare.power.target = none ∧
    (powered fun p => { p with target := some (.idle, 1) }).power.target = some (.idle, 1) ∧ bare.power.inReset = false ∧
    (powered fun p => { p with mode := .dormant }).power.mode = .dormant ∧ bare.power.mode ≠ .dormant ∧ bare.crate.sleep.voted = none ∧
    bare.crate.sleep.committed = false ∧ bare.crate.sleep.proposal = none ∧ State.reset.power.inReset = true ∧ ([650, 796] : List Nat) ≠ [] ∧
    (powered fun p => { p with mode := .off }).power.mode = .off ∧ bare.power.mode ≠ .off ∧
    (powered fun p => { p with target := some (.dormant, 2), exitAfter := some (.idle, 3) }).power.exitAfter = some (.idle, 3) ∧
    (powered fun p => { p with overrideMv := 655, requestMv := 650 }).power.overrideMv ≠ 0 ∧
    max (powered fun p => { p with overrideMv := 655, requestMv := 650 }).power.overrideMv bare.power.floorMv = 650 + 5 := by
  and_intros <;> decide +kernel

/-! ### The crate bus -/

/-- The node 3 with the crate bus as given. -/
def crated (c : Crate) : State := { bare with crate := c, ident := { bare.ident with nodeId := 3 } }

/-- A valid frame from node 31 to node 3. -/
def crateFrame (type : Nat) (payload : List Byte) : CrateFrame := sealCrate type { src := 31, dest := 3, acker := 3, seq := 5, payload := payload }

/-- A BOOT from here to node 31. -/
def crateBoot : CrateTx := { type := 4, dest := 31, payload := [9, 0, 0, 0, 0, 0, 0, 0], seq := some 5 }

theorem test_CrateFramesAreSent :
    (crated {}).crateUp = true ∧ (crated { alone := true }).crate.alone = true ∧ (crated {}).crate.awaiting = none ∧ (crateBoot.type ≠ 3 ∨ crateBoot.dest ≠ 0xFF) ∧
    (crated { plain := [crateBoot] }).crate.queue = [] ∧ (crated { plain := [crateBoot] }).crate.plain = crateBoot :: [] ∧
    (crated { queue := [crateBoot] }).crate.queue = crateBoot :: [] ∧ (crated { queue := [crateBoot] }).crate.retryWait = false ∧
    (crated { queue := [crateBoot] }).ackerFor crateBoot ≠ 0xFF ∧ (crated {}).crate.queue = [] ∧ (crated {}).crate.plain = [] ∧
    (crated { queue := [crateBoot], awaiting := some (31, 5), attempts := 7 }).crate.awaiting = some (31, 5) ∧ crateBoot.type ≠ 0x12 ∧
    crateValid 1 (crateFrame 1 []) = true ∧ (crateFrame 1 []).src.toNat % 32 = 31 ∧ (crateFrame 1 []).seq = 5 ∧ (crated {}).power.inReset = false ∧
    (6 : Nat) < 7 ∧ (crated { queue := [crateBoot], awaiting := some (31, 5), attempts := 7 }).crate.attempts = 7 := by
  and_intros <;> decide +kernel

/-- A state block of position `p`, present, with claim `claim`. -/
def block (p claim : Nat) : List Byte := leBytes 2 (p + 2048) ++ [0, 0] ++ leBytes 4 claim

/-- The package's position is 0. -/
def positioned : State := { crated {} with cfg := { bare.cfg with positionValid := true } }

theorem test_CrateFramesArrive :
    (crated {}).power.inReset = false ∧ crateValid 2 { crateFrame 2 (block 7 9) with crc := 0 } = false ∧ crateValid 0x14 (crateFrame 0x13 [0, 0, 0, 0]) = false ∧
    (field (block 1023 9) 0 2).testBit 11 = true ∧ (crated {}).lanes.claims.length = 1024 ∧ crateValid 2 (crateFrame 2 (block 1023 9)) = true ∧
    field (crateFrame 2 (block 1023 9)).payload 0 2 % 1024 ≠ (crated {}).cfg.position ∧ crateValid 3 (crateFrame 3 (block 1023 9)) = true ∧
    crateValid 3 (crateFrame 3 (block 0 9)) = true ∧ field (crateFrame 3 (block 0 9)).payload 0 2 % 1024 = positioned.cfg.position ∧
    positioned.cfg.positionValid = true ∧ positioned.crateUp = true ∧ positioned.claimOf 0 ≤ 9 ∧ positioned.twin.claim < 9 ∧ positioned.twin.role ≠ .standby ∧
    positioned.health.fw.resetDue = false ∧ ((crated {}).crateReceive 4 (crateFrame 4 [9, 0, 0, 0, 0, 0, 0, 0])).1 = true ∧
    ((crated {}).crateReceive 4 (crateFrame 4 [5, 1, 0, 0, 0, 0, 0, 0])).1 = true ∧ (field (crateFrame 4 [5, 1, 0, 0, 0, 0, 0, 0]).payload 1 1).testBit 1 = false ∧
    (field (crateFrame 4 [5, 1, 0, 0, 0, 0, 0, 0]).payload 1 1).testBit 0 = true ∧ (crated {}).repeated 3 (crateFrame 3 (block 0 9)) = false ∧
    (crated { lastSeq := [(95, 5)] }).repeated 2 (crateFrame 2 (block 1023 9)) = true ∧
    crateValid 2 (crateFrame 2 (leBytes 8 0)) = true ∧ (field (crateFrame 2 (leBytes 8 0)).payload 0 2).testBit 11 = false := by
  and_intros <;> decide +kernel

/-- The crate bus with the sleep agreement as given. -/
def sleeping (y : Sleep) : State := crated { sleep := y }

theorem test_SleepAgreementRuns :
    ((sleeping {}).crateReceive 0x10 (crateFrame 0x10 [31, 0, 0, 0])).1 = true ∧ (sleeping {}).crateUp = true ∧ (sleeping {}).crate.sleep.proposal = none ∧
    (sleeping {}).crate.sleep.voted = none ∧ (sleeping {}).health.fw.activated = false ∧ (sleeping {}).health.fw.resetDue = false ∧
    (sleeping {}).health.fw.recovery = false ∧ ((sleeping { proposal := some 3, waiting := [31] }).crateReceive 0x11 (crateFrame 0x11 [3, 0, 1, 0])).1 = true ∧
    field (crateFrame 0x11 [3, 0, 1, 0]).payload 0 2 = 3 ∧ field (crateFrame 0x11 [3, 0, 1, 0]).payload 2 1 = 1 ∧
    (∀ k ∈ ([31] : List Nat), k = (crateFrame 0x11 [3, 0, 1, 0]).src.toNat % 32) ∧ (∃ k ∈ ([31, 4] : List Nat), k ≠ (crateFrame 0x11 [3, 0, 1, 0]).src.toNat % 32) ∧
    field (crateFrame 0x11 [3, 0, 0, 0]).payload 2 1 ≠ 1 ∧ ((sleeping { proposal := some 3 }).crateReceive 0x11 (crateFrame 0x11 [3, 0, 0, 0])).1 = true ∧
    ((sleeping { voted := some (31, true, 31), wakeHeld := true }).crateReceive 0x12 (crateFrame 0x12 [31, 0, 0, 0])).1 = true ∧
    (sleeping { voted := some (31, true, 31), wakeHeld := true }).crate.sleep.voted = some (field (crateFrame 0x12 [31, 0, 0, 0]).payload 0 2, true, 31) ∧
    ((sleeping { voted := some (31, false, 31) }).crateReceive 0x13 (crateFrame 0x13 [31, 0, 0, 0])).1 = true ∧
    ((sleeping { proposal := some 3 }).crateReceive 0x14 (crateFrame 0x14 [3, 0])).1 = true ∧
    (sleeping { proposal := some 3 }).crate.sleep.committed = false ∧ (sleeping { committed := true }).crate.sleep.committed = true := by
  and_intros <;> decide +kernel

/-- A package in DORMANT. -/
def dormantNode : State := { sleeping {} with power := { bare.power with mode := .dormant } }

theorem test_SleepAgreementRuns_wake :
    (dormantNode.crateReceive 0x14 (crateFrame 0x14 [0, 0])).1 = true ∧
    dormantNode.crate.sleep.proposal ≠ some (field (crateFrame 0x14 [0, 0]).payload 0 2) ∧ dormantNode.power.mode = .dormant ∧
    dormantNode.power.target = none ∧ dormantNode.crate.sleep.voted = none ∧ dormantNode.crate.alone = false ∧ dormantNode.crate.wakeCrate = false ∧
    dormantNode.power.inReset = false ∧
    ({ dormantNode with crate := { sleep := { voted := some (31, true, 31) } } } : State).crate.sleep.voted = some (31, true, 31) := by
  and_intros <;> decide +kernel

end Sys2Proof.Tests
end

/-! PROOFS. Every command runs (R1, R360). -/

namespace Sys2Proof.Machine

/-- What no command changes: the waiting commands, the variant and the serial number. -/
def State.kept (s : State) : List Instr × Variant × Dword := (s.pending, s.ident.variant, s.ident.serial)

@[simp] theorem State.kept_update (s : State) (mail : Mail) (lease : Lease) (cfg : PackageCfg) (events : EventQueue) (intr : Interrupts)
    (dma : List DmaChannel) (regs : HostRegs) (mgmt : MgmtPort) (data : DataPath) (lanes : Lanes) (clocks : Clocks) (cal : Calendar) (twin : Twin)
    (fabric : Fabric) (health : Health) (power : Power) (crate : Crate) (free : Nat) (out : List OutItem) :
    State.kept { s with
      mail := mail, lease := lease, cfg := cfg, events := events, intr := intr, dma := dma, regs := regs, mgmt := mgmt, data := data
      lanes := lanes, clocks := clocks, cal := cal, twin := twin, fabric := fabric, health := health, power := power, crate := crate
      free := free, out := out } = s.kept := rfl

@[simp] theorem State.ite_kept (c : Prop) [Decidable c] (a b : State) : (if c then a else b).kept = if c then a.kept else b.kept :=
  apply_ite _ _ _ _

theorem foldl_kept {α : Type} {f : State → α → State} (h : ∀ s a, (f s a).kept = s.kept) (l : List α) (s : State) :
    (l.foldl f s).kept = s.kept := by
  induction l generalizing s with
  | nil => rfl
  | cons a l ih => rw [List.foldl_cons, ih, h]

/-- The same for a fold that gathers something beside the state. -/
theorem foldl_fst_kept {α β : Type} {f : State × β → α → State × β} (h : ∀ acc a, (f acc a).1.kept = acc.1.kept) (l : List α) (acc : State × β) :
    (l.foldl f acc).1.kept = acc.1.kept := by
  induction l generalizing acc with
  | nil => rfl
  | cons a l ih => rw [List.foldl_cons, ih, h]

theorem foldl_snd_kept {α β : Type} {f : β × State → α → β × State} (h : ∀ acc a, (f acc a).2.kept = acc.2.kept) (l : List α) (acc : β × State) :
    (l.foldl f acc).2.kept = acc.2.kept := by
  induction l generalizing acc with
  | nil => rfl
  | cons a l ih => rw [List.foldl_cons, ih, h]

/-- The state a command leaves. -/
def CmdOut.state : CmdOut → State
  | .done _ _ _ s => s
  | .wait _ _ _ _ s => s

@[simp] theorem CmdOut.state_done (st : Status) (d : Nat) (r : List Byte) (s : State) : (CmdOut.done st d r s).state = s := rfl

@[simp] theorem CmdOut.state_wait (w : WaitFor) (st : Status) (d : Nat) (r : List Byte) (s : State) : (CmdOut.wait w st d r s).state = s := rfl

@[simp] theorem CmdOut.ite_state (c : Prop) [Decidable c] (a b : CmdOut) : (if c then a else b).state = if c then a.state else b.state :=
  apply_ite _ _ _ _

theorem State.EventStep.kept {s t : State} (h : s.EventStep t) : t.kept = s.kept := by
  obtain ⟨_, _, _, _, _, _, rfl⟩ := h
  rfl

theorem SameButMail.kept {s t : State} (h : SameButMail s t) : t.kept = s.kept := by
  obtain ⟨_, _, _, _, rfl⟩ := h
  rfl

/-- A command runs: it answers a next state, with the waiting commands, the variant and the serial number as they were. -/
def RunsKept (r : Host.Outcome State Fault Refusal) (s : State) : Prop := ∃ t, r = .next t ∧ t.kept = s.kept

theorem RunsKept.next {s t : State} (h : t.kept = s.kept) : RunsKept (.next t) s := ⟨t, rfl, h⟩

@[simp] theorem runsKept_next (s t : State) : RunsKept (.next t) s ↔ t.kept = s.kept := by simp [RunsKept]

/-! ### Ops.lean -/

@[simp] theorem State.setMem_kept (s : State) (m : List Host.Cell) : (s.setMem m).kept = s.kept := rfl

@[simp] theorem State.memWrite_kept (s : State) (a : Nat) (d : List Byte) : (s.memWrite a d).kept = s.kept := by
  rw [State.memWrite, State.setMem_kept]

@[simp] theorem State.emit_kept (s : State) (o : OutItem) : (s.emit o).kept = s.kept :=
  (s.emit_step o).kept

@[simp] theorem State.fresh_kept (s : State) : s.fresh.2.kept = s.kept := by
  simp [State.fresh]

@[simp] theorem State.setTimeNs_kept (s : State) (t : Nat) : (s.setTimeNs t).kept = s.kept := rfl

/-! ### Flags.lean -/

@[simp] theorem State.sendMessage_kept (s : State) (cause : Nat) : (s.sendMessage cause).kept = s.kept := by
  unfold State.sendMessage
  dsimp only
  split
  · rfl
  · rw [State.emit_kept]

@[simp] theorem State.setCause_kept (s : State) (cause : Nat) : (s.setCause cause).kept = s.kept :=
  (s.setCause_same cause).kept

@[simp] theorem State.setHolding_kept (s : State) (causes : List Nat) : (s.setHolding causes).kept = s.kept :=
  (s.setHolding_step causes).kept

@[simp] theorem State.setGlobalErr_kept (s : State) (bit : Nat) : (s.setGlobalErr bit).kept = s.kept := by
  unfold State.setGlobalErr
  dsimp only
  rw [State.setCause_kept]
  rfl

@[simp] theorem State.setDefaultTarget_kept (s : State) (addr : Nat) : (s.setDefaultTarget addr).kept = s.kept := by
  unfold State.setDefaultTarget
  rw [State.setGlobalErr_kept]
  rfl

/-! ### Events.lean -/

@[simp] theorem State.ringPut_kept (s : State) (e : LogEntry) : (s.ringPut e).kept = s.kept :=
  (s.ringPut_step e).kept

@[simp] theorem State.deferEpisode_kept (s : State) (op : HoldOp) : (s.deferEpisode op).kept = s.kept :=
  (s.deferEpisode_step op).kept

@[simp] theorem State.endEpisode_kept (s : State) : s.endEpisode.kept = s.kept :=
  s.endEpisode_step.kept

@[simp] theorem State.logWrite_kept (s : State) (e : LogEntry) : (s.logWrite e).kept = s.kept :=
  (s.logWrite_step e).kept

@[simp] theorem State.noteDeath_kept (s s0 : State) : (s.noteDeath s0).kept = s.kept :=
  (s.noteDeath_step s0).kept

@[simp] theorem State.storeNor_kept (s : State) : s.storeNor.kept = s.kept :=
  s.storeNor_step.kept

@[simp] theorem State.reconcile_kept (s : State) : s.reconcile.kept = s.kept :=
  s.reconcile_step.kept

@[simp] theorem State.evident_kept (s : State) (kind die index new : Nat) : (s.evident kind die index new).kept = s.kept :=
  (s.evident_step kind die index new).kept

@[simp] theorem State.raise_kept (s : State) (code die : Nat) (detail : List Byte) : (s.raise code die detail).kept = s.kept :=
  (s.raise_step code die detail).kept

@[simp] theorem State.policyOverridden_kept (s : State) (loop die tick : Nat) : (s.policyOverridden loop die tick).kept = s.kept :=
  (s.policyOverridden_step loop die tick).kept

@[simp] theorem State.override_kept (s : State) (loop key die tick : Nat) : (s.override loop key die tick).kept = s.kept :=
  (s.override_step loop key die tick).kept

/-! ### Address.lean -/

@[simp] theorem State.healWords_kept (s : State) (a n : Nat) : (s.healWords a n).kept = s.kept := rfl

@[simp] theorem State.meetBad_kept (s : State) (die n : Nat) : (s.meetBad die n).kept = s.kept := by
  unfold State.meetBad
  split <;> rfl

@[simp] theorem State.healItems_kept (s : State) (e : PipeEntry) (die : Nat) (kind : AreaKind) (keys : List (List Nat)) :
    (s.healItems e die kind keys).kept = s.kept := by
  unfold State.healItems
  split
  · rfl
  · dsimp only
    rfl

@[simp] theorem State.pokeLog_kept (s : State) (a : Nat) (b : Byte) : (s.pokeLog a b).kept = s.kept := by
  unfold State.pokeLog
  dsimp only
  rfl

@[simp] theorem State.pokeLogs_kept (s : State) (a : Nat) (d : List Byte) : (s.pokeLogs a d).kept = s.kept := by
  unfold State.pokeLogs
  rw [foldl_kept]
  intro s a
  simp

@[simp] theorem State.pkgRead_kept (s : State) (a n : Nat) : (s.pkgRead a n).2.kept = s.kept := by
  unfold State.pkgRead
  dsimp only
  split <;> rfl

@[simp] theorem State.pkgWrite_kept (s : State) (a : Nat) (d : List Byte) : (s.pkgWrite a d).kept = s.kept := by
  unfold State.pkgWrite
  dsimp only
  rw [State.healWords_kept, State.memWrite_kept]
  split <;> rfl

/-! ### Frames.lean -/

@[simp] theorem State.modRx_kept (s : State) (n : Nat) (f : RxLane → RxLane) : (s.modRx n f).kept = s.kept := rfl

@[simp] theorem State.modTx_kept (s : State) (n : Nat) (f : TxLane → TxLane) : (s.modTx n f).kept = s.kept := rfl

@[simp] theorem State.modTwinRx_kept (s : State) (n : Nat) (f : RxLane → RxLane) : (s.modTwinRx n f).kept = s.kept := rfl

@[simp] theorem State.modReceiver_kept (s : State) (l : LaneRef) (f : RxLane → RxLane) : (s.modReceiver l f).kept = s.kept := by
  unfold State.modReceiver
  split
  · rw [State.modRx_kept]
  · rw [State.modTwinRx_kept]

@[simp] theorem State.enterClaim_kept (s : State) (pos claim : Nat) : (s.enterClaim pos claim).kept = s.kept := rfl

@[simp] theorem State.hear_kept (s : State) (pos : Nat) : (s.hear pos).kept = s.kept := by
  unfold State.hear
  dsimp only
  rfl

@[simp] theorem State.popFrame_kept (s : State) (l : LaneRef) : (s.popFrame l).kept = s.kept := by
  unfold State.popFrame
  split
  · rfl
  · rw [State.modReceiver_kept]

@[simp] theorem State.versionDrop_kept (s : State) (l : LaneRef) (version : Nat) : (s.versionDrop l version).kept = s.kept := by
  unfold State.versionDrop
  dsimp only
  split
  · rw [State.modReceiver_kept]
  · rw [State.raise_kept, State.modReceiver_kept]

@[simp] theorem State.receiveOn_kept (s : State) (l : LaneRef) (type : Nat) (f : Frame) : (s.receiveOn l type f).2.kept = s.kept := by
  unfold State.receiveOn
  dsimp only
  split_ifs <;> simp

@[simp] theorem State.receive_kept (s : State) (lane type : Nat) (f : Frame) : (s.receive lane type f).2.kept = s.kept := by
  unfold State.receive
  dsimp only
  split
  · rw [State.hear_kept, State.receiveOn_kept]
  · rw [State.receiveOn_kept]

@[simp] theorem State.frameOk_kept (s : State) (lane : Nat) : (s.frameOk lane).kept = s.kept := by
  rw [State.frameOk, State.modRx_kept]

@[simp] theorem State.sendHaul_kept (s : State) (lane type : Nat) (f : Frame) : (s.sendHaul lane type f).kept = s.kept := by
  unfold State.sendHaul
  split
  · dsimp only
    rw [foldl_kept]
    · rw [State.modTx_kept]
    · intro s a
      rw [State.emit_kept]
  · rfl

/-! ### Receiver.lean -/

@[simp] theorem State.linkReport_kept (before : Nat) (s : State) : (s.linkReport before).kept = s.kept := by
  unfold State.linkReport
  split
  · rfl
  · split <;> rw [State.raise_kept]

@[simp] theorem State.modSpareRx_kept (s : State) (d : Nat) (f : SpareRx → SpareRx) : (s.modSpareRx d f).kept = s.kept := rfl

@[simp] theorem State.loseLock_kept (s : State) (l : LaneRef) : (s.loseLock l).kept = s.kept := by
  unfold State.loseLock
  dsimp only
  split
  · rw [State.linkReport_kept, State.modReceiver_kept]
  · split
    · split <;> simp
    · split
      · rw [State.evident_kept, State.raise_kept]
        simp
      · simp

@[simp] theorem State.noteSkew_kept (s : State) (l : LaneRef) : (s.noteSkew l).kept = s.kept := by
  unfold State.noteSkew
  dsimp only
  split
  · rw [State.raise_kept, State.modReceiver_kept]
  · rw [State.modReceiver_kept]

@[simp] theorem State.arrive_kept (s : State) (l : LaneRef) (atPs : Nat) : (s.arrive l atPs).kept = s.kept := by
  unfold State.arrive
  dsimp only
  rw [foldl_kept]
  · rw [State.modReceiver_kept]
  · intro s a
    rw [State.noteSkew_kept]

@[simp] theorem State.comma_kept (s : State) (l : LaneRef) (c : CommaSeen) : (s.comma l c).kept = s.kept := by
  unfold State.comma
  dsimp only
  split
  · split
    · rw [State.modReceiver_kept]
    · rfl
  · split
    · split
      · simp
      · rw [State.modReceiver_kept]
    · rw [State.modReceiver_kept]
  · split
    · rw [State.arrive_kept, State.modReceiver_kept]
    · split
      · rw [State.loseLock_kept, State.modReceiver_kept]
      · rw [State.modReceiver_kept]

@[simp] theorem State.decodeCodeword_kept (s : State) (l : LaneRef) (symbols : List (BitVec 10)) : (s.decodeCodeword l symbols).kept = s.kept := by
  unfold State.decodeCodeword
  dsimp only
  rw [State.modReceiver_kept]

theorem execCodewordDecode_runsKept (lane : LaneRef) (message parity : List (BitVec 10)) (s : State) :
    RunsKept (execCodewordDecode lane message parity s) s := by
  unfold execCodewordDecode
  apply RunsKept.next
  split
  · split
    · rfl
    · rw [State.modReceiver_kept]
  · split
    · rw [State.decodeCodeword_kept]
    · rfl

theorem execFirstBoundaryCheck_runsKept (lane : LaneRef) (field complement : Half) (s : State) :
    RunsKept (execFirstBoundaryCheck lane field complement s) s := by
  unfold execFirstBoundaryCheck
  apply RunsKept.next
  split
  · rw [State.modReceiver_kept]
  · rfl

@[simp] theorem State.modKiln_kept (s : State) (e : KilnElement) (f : KilnRecord → KilnRecord) : (s.modKiln e f).kept = s.kept := rfl

/-! ### TwinLink.lean -/

@[simp] theorem State.modTwinTx_kept (s : State) (k : Nat) (f : TxLane → TxLane) : (s.modTwinTx k f).kept = s.kept := rfl

@[simp] theorem State.twinGive_kept (s : State) (lane : Nat) (f : Frame) : (s.twinGive lane f).kept = s.kept := by
  unfold State.twinGive
  dsimp only
  rw [State.emit_kept, State.kept_update, State.modTwinTx_kept]

@[simp] theorem State.twinPump_kept (n : Nat) (s : State) : (State.twinPump n s).kept = s.kept := by
  induction n generalizing s with
  | zero => rfl
  | succ n ih =>
    unfold State.twinPump
    split
    · rw [ih]
      simp
    · rfl

@[simp] theorem State.twinQueue_kept (s : State) (f : Frame) : (s.twinQueue f).kept = s.kept := by
  unfold State.twinQueue
  split
  · rfl
  · rw [State.twinPump_kept]
    rfl

@[simp] theorem State.sendTwin_kept (s : State) (msg transaction : Nat) (payload : List Byte) :
    (s.sendTwin msg transaction payload).kept = s.kept := by
  rw [State.sendTwin, State.twinQueue_kept]

@[simp] theorem State.sendSegments_kept (s : State) (tick : Nat) (bytes : List Byte) : (s.sendSegments tick bytes).kept = s.kept := by
  unfold State.sendSegments
  dsimp only
  rw [foldl_kept]
  intro s a
  rw [State.twinQueue_kept]

@[simp] theorem State.sendEntry_kept (s : State) (e : JournalEntry) : (s.sendEntry e).kept = s.kept := by
  unfold State.sendEntry
  dsimp only
  rw [foldl_kept]
  intro s a
  rw [State.twinQueue_kept]

@[simp] theorem State.drainLines_kept (s : State) : s.drainLines.kept = s.kept := by
  unfold State.drainLines
  dsimp only
  rw [State.kept_update, foldl_kept]
  · rfl
  · intro s a
    split
    · rfl
    · rw [State.twinGive_kept]

@[simp] theorem State.askRepair_kept (s : State) (r : Repair) : (s.askRepair r).kept = s.kept := by
  unfold State.askRepair
  dsimp only
  rw [State.sendTwin_kept]
  rfl

/-! ### Command.lean -/

theorem checked_kept {l : Checks} {s : State} {k : State → CmdOut} (h : (k s).state.kept = s.kept) : (checked l s k).state.kept = s.kept := by
  unfold checked
  split
  · rfl
  · exact h

@[simp] theorem okay_kept (s : State) : (okay s).state.kept = s.kept := by
  simp [okay]

@[simp] theorem State.renew_kept (s : State) (o : Origin) (op : Nat) : (s.renew o op).kept = s.kept := by
  unfold State.renew
  split <;> rfl

@[simp] theorem State.modBox_kept (s : State) (m : Nat) (f : Mailbox → Mailbox) : (s.modBox m f).kept = s.kept :=
  (s.modBox_same m f).kept

@[simp] theorem State.pushCompletion_kept (s : State) (c : Nat) (e : Completion) : (s.pushCompletion c e).kept = s.kept :=
  (s.pushCompletion_same c e).kept

@[simp] theorem State.complete_kept (s : State) (m : Nat) (st : Status) (detail : Nat) (reply : List Byte) : (s.complete m st detail reply).kept = s.kept :=
  (s.complete_same m st detail reply).kept

@[simp] theorem State.releaseHeld_kept (n c : Nat) (s : State) : (State.releaseHeld n c s).kept = s.kept := by
  induction n generalizing s with
  | zero => rfl
  | succ n ih =>
    unfold State.releaseHeld
    split
    · rfl
    · split
      · rw [ih, State.pushCompletion_kept, State.kept_update]
      · rfl

@[simp] theorem State.journal_kept (s : State) (op : Nat) (args mem : List Byte) (handle : Nat) : (s.journal op args mem handle).kept = s.kept := by
  unfold State.journal
  dsimp only
  split
  · rw [State.sendEntry_kept]
    rfl
  · rfl

@[simp] theorem State.applyPolicy_kept (s : State) (args : List Byte) : (s.applyPolicy args).kept = s.kept := by
  unfold State.applyPolicy
  dsimp only
  rfl

@[simp] theorem State.storeConfig_kept (s : State) : s.storeConfig.kept = s.kept := by
  unfold State.storeConfig
  split
  · dsimp only
    rw [State.kept_update, State.endEpisode_kept]
  · rw [State.noteDeath_kept, State.deferEpisode_kept]
    rfl

@[simp] theorem State.keepSettings_kept (s before : State) : (s.keepSettings before).kept = s.kept := by
  unfold State.keepSettings
  split
  · rfl
  · rw [State.storeConfig_kept]

@[simp] theorem State.stage_kept (s : State) (x : Staged) : (s.stage x).kept = s.kept := rfl

@[simp] theorem State.park_kept (s : State) (r : Running) : (s.park r).kept = s.kept := rfl

theorem State.conclude_kept (o : Origin) (op : Nat) (args : List Byte) (before : State) (r : CmdOut) :
    (State.conclude o op args before r).kept = r.state.kept := by
  cases r with
  | wait w st d reply s => simp [State.conclude]
  | done st d reply s => simp [State.conclude]

@[simp] theorem State.refreshPipes_kept (s : State) : s.refreshPipes.kept = s.kept := by
  unfold State.refreshPipes
  split
  · rfl
  · split <;> rfl

theorem State.runCommand_kept {cmd : Cmd} (h : ∀ o args s, (cmd o args s).state.kept = s.kept) (o : Origin) (op : Nat) (args : List Byte)
    (len : Option Nat) (s : State) : (State.runCommand o op args len cmd s).kept = s.kept := by
  unfold State.runCommand
  dsimp only
  split
  · simp
  · rw [State.conclude_kept, h]
    simp

theorem State.row_kept {cmd : Cmd} (h : ∀ o args s, (cmd o args s).state.kept = s.kept) (o : Origin) (op : Nat) (args : List Byte)
    (len : List Byte → Option Nat) (s : State) : (State.row o op args len cmd s).kept = s.kept := by
  unfold State.row
  dsimp only
  split
  · simp
  · rw [State.runCommand_kept h]
    simp

@[simp] theorem State.finishRunning_kept (s : State) (r : Running) : (s.finishRunning r).kept = s.kept := by
  unfold State.finishRunning
  dsimp only
  rw [State.complete_kept, State.kept_update]
  split
  · rw [State.applyPolicy_kept]
  · rfl

/-! ### Turn.lean -/

@[simp] theorem State.modDie_kept (s : State) (d : Nat) (f : DieWork → DieWork) : (s.modDie d f).kept = s.kept := rfl

@[simp] theorem State.healTurn_kept (s : State) (xs : List TurnSample) : (s.healTurn xs).kept = s.kept := by
  unfold State.healTurn
  split
  · rfl
  · rw [foldl_kept]
    intro s a
    rw [foldl_kept]
    intro s a
    rw [State.healItems_kept]

@[simp] theorem State.turnWrite_kept (s : State) (xs : List TurnSample) : (s.turnWrite xs).kept = s.kept := by
  unfold State.turnWrite
  dsimp only
  rw [State.healTurn_kept]
  rfl

@[simp] theorem State.turnAccept_kept (s : State) (die : Nat) (f : Frame) : (s.turnAccept die f).kept = s.kept := by
  unfold State.turnAccept
  split
  split <;> simp

theorem execTurn_runsKept (lane : Nat) (f : Frame) (s : State) : RunsKept (execTurn lane f s) s := by
  simp [execTurn]

/-! ### Ingest.lean -/

@[simp] theorem State.modChains_kept (s : State) (p : Chain → Bool) (f : Chain → Chain) : (s.modChains p f).kept = s.kept := rfl

@[simp] theorem State.makeChains_kept (s : State) (i t : Nat) : (s.makeChains i t).kept = s.kept := by
  unfold State.makeChains
  dsimp only
  split <;> rfl

@[simp] theorem State.makeChangeChains_kept (s : State) (i : Nat) : (s.makeChangeChains i).kept = s.kept := by
  unfold State.makeChangeChains
  dsimp only
  rfl

@[simp] theorem State.assignChains_kept (s : State) : s.assignChains.kept = s.kept := by
  unfold State.assignChains
  dsimp only
  rw [State.modChains_kept]

theorem execGrist_runsKept (lane : Nat) (f : Frame) (s : State) : RunsKept (execGrist lane f s) s := by
  simp [execGrist]

@[simp] theorem State.dealTurn_kept (s : State) (pipe die k : Nat) (d : TurnDest) (f : Frame) : (s.dealTurn pipe die k d f).kept = s.kept := by
  unfold State.dealTurn
  split
  · rw [State.turnAccept_kept]
  · dsimp only
    rw [State.sendHaul_kept]
    rfl

@[simp] theorem State.frameBlock_kept (s : State) (c : Chain) (block : List OutSample) : (s.frameBlock c block).kept = s.kept := by
  unfold State.frameBlock
  dsimp only
  split
  · rfl
  · rw [foldl_kept]
    intro s a
    rw [foldl_kept]
    intro s a
    rw [State.dealTurn_kept]

@[simp] theorem State.tapOutputs_kept (s : State) (c : Chain) (outs : List OutSample) : (s.tapOutputs c outs).kept = s.kept := by
  unfold State.tapOutputs
  rw [foldl_kept]
  intro s a
  rw [State.turnWrite_kept]

@[simp] theorem State.drainOuts_kept (n : Nat) (c : Chain) (s : State) : (State.drainOuts n c s).1.kept = s.kept := by
  induction n generalizing c s with
  | zero => rfl
  | succ n ih =>
    unfold State.drainOuts
    split
    · rfl
    · dsimp only
      split
      · rw [ih, State.frameBlock_kept]
      · rfl

@[simp] theorem State.silence_kept (s : State) (c : Chain) : (s.silence c).1.kept = s.kept := by
  unfold State.silence
  split
  · simp
  · dsimp only
    split <;> simp

@[simp] theorem State.delayTraffic_kept (s : State) (e : PipeEntry) (c c2 : Chain) : (s.delayTraffic e c c2).kept = s.kept := by
  unfold State.delayTraffic
  split
  · rfl
  · dsimp only
    rw [State.healItems_kept, State.meetBad_kept]

@[simp] theorem State.stepChain_kept (s : State) (c : Chain) (x : Option Sample) (last : Bool) : (s.stepChain c x last).1.kept = s.kept := by
  unfold State.stepChain
  dsimp only
  split
  · simp
  · rw [State.silence_kept, State.drainOuts_kept, State.tapOutputs_kept, State.delayTraffic_kept]

theorem execGristHoldExpiry_runsKept (pipe input : Nat) (s : State) : RunsKept (execGristHoldExpiry pipe input s) s := by
  unfold execGristHoldExpiry
  apply RunsKept.next
  split
  · rfl
  · dsimp only
    split
    · rfl
    · rw [State.kept_update, State.stepChain_kept, foldl_fst_kept]
      · rfl
      · intro acc c
        exact State.stepChain_kept _ _ _ _

/-! ### Corr.lean -/

@[simp] theorem State.modCorr_kept (s : State) (pipe die : Nat) (f : CorrCount → CorrCount) : (s.modCorr pipe die f).kept = s.kept := by
  unfold State.modCorr
  dsimp only
  rfl

@[simp] theorem State.modTile_kept (s : State) (pipe die bank ch q : Nat) (f : TilePos → TilePos) :
    (s.modTile pipe die bank ch q f).kept = s.kept := by
  unfold State.modTile
  dsimp only
  rfl

@[simp] theorem State.addDigest_kept (s : State) (tick : Nat) (record : List Byte) : (s.addDigest tick record).kept = s.kept := by
  unfold State.addDigest
  dsimp only
  rfl

@[simp] theorem State.markCorrupt_kept (s : State) (pipe die bank ch q : Nat) : (s.markCorrupt pipe die bank ch q).kept = s.kept := by
  unfold State.markCorrupt
  split
  · rfl
  · dsimp only
    rw [State.raise_kept, State.modCorr_kept, State.modTile_kept]

@[simp] theorem State.noteSaturation_kept (s : State) (pipe die bank ch q : Nat) : (s.noteSaturation pipe die bank ch q).kept = s.kept := by
  unfold State.noteSaturation
  dsimp only
  split
  · split
    · rw [State.modTile_kept]
    · rw [State.raise_kept, State.kept_update, State.modTile_kept]
  · split
    · rw [State.modCorr_kept, State.modTile_kept]
    · rw [State.raise_kept, State.kept_update, State.modCorr_kept, State.modTile_kept]

@[simp] theorem State.poisonWords_kept (s : State) (pipe die bank ch q : Nat) (ws : List Nat) :
    (s.poisonWords pipe die bank ch q ws).kept = s.kept := by
  unfold State.poisonWords
  rw [foldl_kept]
  intro s a
  split
  · rw [State.modCorr_kept, State.modTile_kept]
  · rw [State.markCorrupt_kept]

@[simp] theorem State.storeSums_kept (s : State) (e : PipeEntry) (pipe die bank ch q first : Nat) (badWs : List Nat) (res : List (Int × Bool)) :
    (s.storeSums e pipe die bank ch q first badWs res).kept = s.kept := by
  unfold State.storeSums
  dsimp only
  split
  · rw [State.poisonWords_kept, State.modTile_kept, State.healWords_kept, State.memWrite_kept]
  · rw [State.noteSaturation_kept, State.poisonWords_kept, State.modTile_kept, State.healWords_kept, State.memWrite_kept]

@[simp] theorem State.tunAdd_kept (s : State) (e : PipeEntry) (pipe die bank ch q : Nat) (vs : List Int) :
    (s.tunAdd e pipe die bank ch q vs).kept = s.kept := by
  unfold State.tunAdd
  dsimp only
  rw [State.modTile_kept, State.storeSums_kept, State.meetBad_kept]

@[simp] theorem State.addWord_kept (s : State) (e : PipeEntry) (pipe die bank ch q w : Nat) (vs : List Int) (broken : Bool) :
    (s.addWord e pipe die bank ch q w vs broken).kept = s.kept := by
  unfold State.addWord
  dsimp only
  rw [State.storeSums_kept]

@[simp] theorem State.writeFull_kept (s : State) (e : PipeEntry) (d : DumpRef) : (s.writeFull e d).kept = s.kept := by
  unfold State.writeFull
  dsimp only
  rw [State.kept_update, State.modDie_kept, State.addDigest_kept, State.modCorr_kept, State.modTile_kept, State.healWords_kept, State.memWrite_kept]

@[simp] theorem State.requestReplay_kept (s : State) (d : DumpRef) (fault : Bool) : (s.requestReplay d fault).kept = s.kept := by
  rw [State.requestReplay, State.modDie_kept]

@[simp] theorem State.noteFault_kept (s : State) (die p channel tp : Nat) : (s.noteFault die p channel tp).kept = s.kept := by
  unfold State.noteFault
  dsimp only
  rw [State.raise_kept, State.modDie_kept]

@[simp] theorem State.tileOut_kept (s : State) (die p : Nat) : (s.tileOut die p).kept = s.kept := by
  rw [State.tileOut, State.modDie_kept]

@[simp] theorem State.tileFault_kept (s : State) (d : DumpRef) : (s.tileFault d).kept = s.kept := by
  unfold State.tileFault
  dsimp only
  rw [State.tileOut_kept, State.requestReplay_kept, State.noteFault_kept]

@[simp] theorem State.addMisses_kept (s : State) (pipe die bank ch q : Nat) (counts : List Nat) :
    (s.addMisses pipe die bank ch q counts).kept = s.kept := by
  unfold State.addMisses
  split
  · rfl
  · dsimp only
    split <;> rw [State.modTile_kept]

@[simp] theorem State.dumpAdd_kept (s : State) (e : PipeEntry) (d : DumpRef) (cells : List (Int × Int)) (replayed : Bool) (misses : List Nat) :
    (s.dumpAdd e d cells replayed misses).kept = s.kept := by
  unfold State.dumpAdd
  dsimp only
  rw [State.modDie_kept]
  split
  · rw [State.modTile_kept, State.addMisses_kept, State.addDigest_kept, State.tunAdd_kept]
  · rw [State.addMisses_kept, State.addDigest_kept, State.tunAdd_kept]

@[simp] theorem State.retireTile_kept (s : State) (die p : Nat) : (s.retireTile die p).kept = s.kept := by
  unfold State.retireTile
  dsimp only
  split
  · rw [State.modDie_kept]
  · split
    · rw [State.raise_kept, State.raise_kept, State.modDie_kept]
    · rw [State.raise_kept, State.modDie_kept]

@[simp] theorem cmdCorrStats_kept (o : Origin) (args : List Byte) (s : State) : (cmdCorrStats o args s).state.kept = s.kept := by
  unfold cmdCorrStats
  dsimp only
  apply checked_kept
  simp

@[simp] theorem cmdTileMap_kept (o : Origin) (args : List Byte) (s : State) : (cmdTileMap o args s).state.kept = s.kept := by
  unfold cmdTileMap
  dsimp only
  apply checked_kept
  simp

/-! ### Tables.lean -/

theorem tableCommand_kept {op kind : Nat} {early : Checks} {state : State → Checks} {late : State → PipeEntry → Checks} {deadline : State → Checks}
    {f : State → State} (h : ∀ s, (f s).kept = s.kept) (o : Origin) (args : List Byte) (s : State) :
    (tableCommand op kind early state late deadline f o args s).state.kept = s.kept := by
  unfold tableCommand
  apply checked_kept
  split
  · simp
  · simp [h]

@[simp] theorem applyOffsetFreeze_kept (args : List Byte) (s : State) : (applyOffsetFreeze args s).kept = s.kept := by
  unfold applyOffsetFreeze
  dsimp only
  rw [State.modChains_kept]

@[simp] theorem cmdOffsetFreeze_kept (o : Origin) (args : List Byte) (s : State) : (cmdOffsetFreeze o args s).state.kept = s.kept := by
  unfold cmdOffsetFreeze
  rw [tableCommand_kept]
  intro s
  rw [applyOffsetFreeze_kept]

@[simp] theorem applyDelayLoad_kept (args : List Byte) (s : State) : (applyDelayLoad args s).kept = s.kept := by
  unfold applyDelayLoad
  dsimp only
  rw [foldl_kept]
  · rfl
  · intro s a
    rw [State.modChains_kept]

@[simp] theorem cmdDelayLoad_kept (o : Origin) (args : List Byte) (s : State) : (cmdDelayLoad o args s).state.kept = s.kept := by
  unfold cmdDelayLoad
  dsimp only
  rw [tableCommand_kept]
  intro s
  rw [applyDelayLoad_kept]

@[simp] theorem applyGainLoad_kept (args : List Byte) (s : State) : (applyGainLoad args s).kept = s.kept := by
  unfold applyGainLoad
  dsimp only
  rw [State.modChains_kept]

@[simp] theorem cmdGainLoad_kept (o : Origin) (args : List Byte) (s : State) : (cmdGainLoad o args s).state.kept = s.kept := by
  unfold cmdGainLoad
  dsimp only
  rw [tableCommand_kept]
  intro s
  rw [applyGainLoad_kept]

@[simp] theorem cmdGainRead_kept (o : Origin) (args : List Byte) (s : State) : (cmdGainRead o args s).state.kept = s.kept := by
  unfold cmdGainRead
  dsimp only
  apply checked_kept
  simp

@[simp] theorem applyWindowLoad_kept (args : List Byte) (s : State) : (applyWindowLoad args s).kept = s.kept := by
  unfold applyWindowLoad
  dsimp only
  apply foldl_kept
  intro s k
  rfl

@[simp] theorem cmdWindowLoad_kept (o : Origin) (args : List Byte) (s : State) : (cmdWindowLoad o args s).state.kept = s.kept := by
  unfold cmdWindowLoad
  dsimp only
  rw [tableCommand_kept]
  intro s
  rw [applyWindowLoad_kept]

@[simp] theorem cmdIngestStats_kept (o : Origin) (args : List Byte) (s : State) : (cmdIngestStats o args s).state.kept = s.kept := by
  unfold cmdIngestStats
  dsimp only
  apply checked_kept
  simp

/-! ### Pipes.lean -/

@[simp] theorem State.stageChecked_kept (s : State) (x : Staged) (detail : Nat) (early state late : Checks) (admits : Bool) :
    (s.stageChecked x detail early state late admits).state.kept = s.kept := by
  unfold State.stageChecked
  apply checked_kept
  simp

@[simp] theorem cmdPositionSet_kept (o : Origin) (args : List Byte) (s : State) : (cmdPositionSet o args s).state.kept = s.kept := by
  rw [cmdPositionSet, State.stageChecked_kept]

@[simp] theorem cmdTickConfig_kept (o : Origin) (args : List Byte) (s : State) : (cmdTickConfig o args s).state.kept = s.kept := by
  rw [cmdTickConfig, State.stageChecked_kept]

@[simp] theorem cmdPipeCreate_kept (o : Origin) (args : List Byte) (s : State) : (cmdPipeCreate o args s).state.kept = s.kept := by
  unfold cmdPipeCreate
  dsimp only
  rw [State.stageChecked_kept]

@[simp] theorem cmdPipeModify_kept (o : Origin) (args : List Byte) (s : State) : (cmdPipeModify o args s).state.kept = s.kept := by
  unfold cmdPipeModify
  dsimp only
  rw [State.stageChecked_kept]

@[simp] theorem cmdPipeDestroy_kept (o : Origin) (args : List Byte) (s : State) : (cmdPipeDestroy o args s).state.kept = s.kept := by
  unfold cmdPipeDestroy
  dsimp only
  rw [State.stageChecked_kept]

@[simp] theorem cmdIngestInputs_kept (o : Origin) (args : List Byte) (s : State) : (cmdIngestInputs o args s).state.kept = s.kept := by
  unfold cmdIngestInputs
  dsimp only
  rw [State.stageChecked_kept]

@[simp] theorem cmdBeamInputs_kept (o : Origin) (args : List Byte) (s : State) : (cmdBeamInputs o args s).state.kept = s.kept := by
  unfold cmdBeamInputs
  dsimp only
  rw [State.stageChecked_kept]

@[simp] theorem cmdBeamContrib_kept (o : Origin) (args : List Byte) (s : State) : (cmdBeamContrib o args s).state.kept = s.kept := by
  unfold cmdBeamContrib
  dsimp only
  rw [State.stageChecked_kept]

@[simp] theorem cmdTurnDestSet_kept (o : Origin) (args : List Byte) (s : State) : (cmdTurnDestSet o args s).state.kept = s.kept := by
  unfold cmdTurnDestSet
  dsimp only
  rw [State.stageChecked_kept]

@[simp] theorem cmdSinkDest_kept (o : Origin) (args : List Byte) (s : State) : (cmdSinkDest o args s).state.kept = s.kept := by
  unfold cmdSinkDest
  dsimp only
  rw [State.stageChecked_kept]

@[simp] theorem cmdLaneConfig_kept (o : Origin) (args : List Byte) (s : State) : (cmdLaneConfig o args s).state.kept = s.kept := by
  unfold cmdLaneConfig
  dsimp only
  rw [State.stageChecked_kept]

@[simp] theorem cmdSparePeer_kept (o : Origin) (args : List Byte) (s : State) : (cmdSparePeer o args s).state.kept = s.kept := by
  rw [cmdSparePeer, State.stageChecked_kept]

@[simp] theorem cmdPipeList_kept (o : Origin) (args : List Byte) (s : State) : (cmdPipeList o args s).state.kept = s.kept := by
  unfold cmdPipeList
  apply checked_kept
  dsimp only
  simp

/-! ### Beam.lean -/

@[simp] theorem State.modBeam_kept (s : State) (pipe : Nat) (f : BeamWork → BeamWork) : (s.modBeam pipe f).kept = s.kept := by
  unfold State.modBeam
  dsimp only
  rfl

@[simp] theorem State.healWeights_kept (s : State) (pipe : Nat) (ws : List Weight) : (s.healWeights pipe ws).kept = s.kept := by
  unfold State.healWeights
  rw [foldl_kept]
  intro s a
  rw [State.healItems_kept]

@[simp] theorem State.startRamp_kept (s : State) (pipe m : Nat) (l : WeightLoad) : (s.startRamp pipe m l).kept = s.kept := by
  unfold State.startRamp
  dsimp only
  split
  · rw [State.modBeam_kept]
  · rw [State.healWeights_kept, State.modBeam_kept, State.kept_update, State.modBeam_kept]

@[simp] theorem State.stepRamp_kept (s : State) (pipe : Nat) : (s.stepRamp pipe).kept = s.kept := by
  unfold State.stepRamp
  split
  · rfl
  · rw [State.healWeights_kept]

@[simp] theorem State.modContrib_kept (s : State) (k : ContribMash) (f : ContribMash → ContribMash) : (s.modContrib k f).kept = s.kept := by
  unfold State.modContrib
  dsimp only
  rfl

@[simp] theorem State.addCell_kept (s : State) (k : BeamCell) (vs : List (Int × Int)) : (s.addCell k vs).kept = s.kept := by
  unfold State.addCell
  dsimp only
  split
  · rfl
  · rw [State.healItems_kept]
    rfl

@[simp] theorem State.modBeamCount_kept (s : State) (pipe die : Nat) (f : BeamCount → BeamCount) : (s.modBeamCount pipe die f).kept = s.kept := by
  unfold State.modBeamCount
  dsimp only
  rfl

@[simp] theorem State.nextLane_kept (s : State) (pipe first count : Nat) : (s.nextLane pipe first count).2.kept = s.kept := by
  unfold State.nextLane
  dsimp only
  rfl

@[simp] theorem State.sendPart_kept (s : State) (b : BeamCfg) (d : StripRef) (f : Frame) : (s.sendPart b d f).kept = s.kept := by
  simp [State.sendPart]

@[simp] theorem State.stripOut_kept (s : State) (e : PipeEntry) (d : StripRef) (ys : List (Int × Int)) : (s.stripOut e d ys).kept = s.kept := by
  unfold State.stripOut
  dsimp only
  rw [foldl_kept]
  intro s a
  split
  · rw [State.sendPart_kept]
  · rw [State.addCell_kept]

@[simp] theorem State.sendCount_kept (s : State) (b : BeamCfg) (d : StripRef) (r : ContribMash) : (s.sendCount b d r).kept = s.kept := by
  rw [State.sendCount, State.sendPart_kept]

@[simp] theorem State.rampCheck_kept (s : State) (e : PipeEntry) (d : StripRef) : (s.rampCheck e d).kept = s.kept := by
  unfold State.rampCheck
  dsimp only
  split
  · rw [State.raise_kept, State.modBeam_kept]
  · rfl

@[simp] theorem State.stripSettle_kept (s : State) (e : PipeEntry) (d : StripRef) (written : Bool) : (s.stripSettle e d written).kept = s.kept := by
  unfold State.stripSettle
  dsimp only
  rw [State.rampCheck_kept]
  split
  · split
    · rw [State.sendCount_kept, State.modContrib_kept]
    · rw [State.modContrib_kept]
  · split
    · rw [State.sendCount_kept, State.modContrib_kept]
    · rw [State.modContrib_kept]

@[simp] theorem State.stripLost_kept (s : State) (e : PipeEntry) (d : StripRef) : (s.stripLost e d).kept = s.kept := by
  unfold State.stripLost
  dsimp only
  rw [State.stripSettle_kept]
  split
  · rw [State.modBeamCount_kept]
  · rw [State.raise_kept, State.modDie_kept, State.modBeamCount_kept]

@[simp] theorem State.beamOpen_kept (s : State) (pipe : Nat) : (s.beamOpen pipe).kept = s.kept := by
  unfold State.beamOpen
  split
  · rfl
  · dsimp only
    rw [foldl_kept]
    · rw [State.kept_update]
      split
      · split <;> simp
      · simp
    · intro s die
      rw [foldl_kept]
      intro s l
      rw [foldl_kept]
      intro s mash
      split <;> simp

@[simp] theorem State.partAdd_kept (s : State) (e : PipeEntry) (die : Nat) (f : Frame) : (s.partAdd e die f).kept = s.kept := by
  unfold State.partAdd
  dsimp only
  split
  · rw [State.modContrib_kept, State.modBeamCount_kept]
  · rw [State.addCell_kept, State.modContrib_kept, State.modBeamCount_kept]

theorem execBeampart_runsKept (lane : Nat) (f : Frame) (s : State) : RunsKept (execBeampart lane f s) s := by
  have h1 := s.receive_kept lane 3 f
  unfold execBeampart
  split
  next ok s1 hr =>
  rw [hr] at h1
  split
  apply RunsKept.next
  dsimp only at h1 ⊢
  split
  · exact h1
  · split <;> simp [h1]

@[simp] theorem State.partMissing_kept (s : State) (pipe die position fromDie tick : Nat) :
    (s.partMissing pipe die position fromDie tick).kept = s.kept := by
  rw [State.partMissing, State.raise_kept]

@[simp] theorem State.noteMixed_kept (s : State) (e : PipeEntry) (pipe die tick : Nat) (r : ContribMash) :
    (s.noteMixed e pipe die tick r).kept = s.kept := by
  unfold State.noteMixed
  dsimp only
  split
  · rfl
  · rw [State.raise_kept, State.modBeam_kept]

@[simp] theorem State.finishMash_kept (s : State) (e : PipeEntry) (pipe tick ch mash : Nat) : (s.finishMash e pipe tick ch mash).kept = s.kept := by
  unfold State.finishMash
  dsimp only
  split
  · rw [State.noteMixed_kept, State.modBeam_kept, foldl_kept]
    · rw [State.modBeamCount_kept, State.meetBad_kept]
      rfl
    · intro s a
      rw [State.partMissing_kept]
  · rw [State.modBeam_kept, foldl_kept]
    · rw [State.modBeamCount_kept, State.meetBad_kept]
      rfl
    · intro s a
      rw [State.partMissing_kept]

theorem execBeamMashFinish_runsKept (pipe die channel tick mash : Nat) (s : State) :
    RunsKept (execBeamMashFinish pipe die channel tick mash s) s := by
  unfold execBeamMashFinish
  apply RunsKept.next
  split
  · split
    · rw [State.finishMash_kept]
    · rfl
  · rfl

@[simp] theorem State.finishTick_kept (s : State) (e : PipeEntry) (pipe tick : Nat) : (s.finishTick e pipe tick).kept = s.kept := by
  unfold State.finishTick
  dsimp only
  rw [foldl_kept]
  intro s a
  rw [foldl_kept]
  intro s a
  split
  · rfl
  · rw [State.finishMash_kept]

@[simp] theorem State.freeSlot_kept (s : State) (pipe tick : Nat) : (s.freeSlot pipe tick).kept = s.kept := rfl

@[simp] theorem applyWeights_kept (args mem : List Byte) (s : State) : (applyWeights args mem s).kept = s.kept := by
  unfold applyWeights
  dsimp only
  rw [State.modBeam_kept, State.healWeights_kept]

@[simp] theorem cmdWeightLoad_kept (o : Origin) (args : List Byte) (s : State) : (cmdWeightLoad o args s).state.kept = s.kept := by
  unfold cmdWeightLoad
  dsimp only
  rw [tableCommand_kept]
  intro s
  rw [applyWeights_kept, State.pkgRead_kept]

@[simp] theorem cmdBeamStats_kept (o : Origin) (args : List Byte) (s : State) : (cmdBeamStats o args s).state.kept = s.kept := by
  unfold cmdBeamStats
  dsimp only
  apply checked_kept
  simp

/-! ### Sparing.lean -/

@[simp] theorem State.sendControl_kept (s : State) (die msg : Nat) (dest : Half) (transaction : Word) (body : List Byte) :
    (s.sendControl die msg dest transaction body).kept = s.kept := by
  unfold State.sendControl
  dsimp only
  split
  · rw [State.raise_kept]
  · rw [State.sendHaul_kept]

@[simp] theorem State.sendAsReceiver_kept (s : State) (d msg code atTick : Nat) : (s.sendAsReceiver d msg code atTick).kept = s.kept := by
  unfold State.sendAsReceiver
  dsimp only
  rw [State.sendControl_kept]

@[simp] theorem State.startSpare_kept (s : State) (lane reason : Nat) : (s.startSpare lane reason).kept = s.kept := by
  unfold State.startSpare
  dsimp only
  rw [State.sendControl_kept, State.modSpareRx_kept]
  rfl

@[simp] theorem State.spareFailed_kept (s : State) (lane refusal : Nat) : (s.spareFailed lane refusal).kept = s.kept := by
  rw [State.spareFailed, State.raise_kept]

@[simp] theorem State.releaseSent_kept (s : State) (lane : Nat) : (s.releaseSent lane).kept = s.kept := by
  unfold State.releaseSent
  split
  rw [foldl_kept]
  · rfl
  · intro s r
    simp

@[simp] theorem State.releaseSpare_kept (s : State) (d : Nat) : (s.releaseSpare d).kept = s.kept := by
  unfold State.releaseSpare
  dsimp only
  rw [State.releaseSent_kept, State.modSpareRx_kept, State.sendAsReceiver_kept]

@[simp] theorem State.returnLane_kept (s : State) (d : Nat) (failed : Bool) : (s.returnLane d failed).kept = s.kept := by
  unfold State.returnLane
  dsimp only
  split
  · rw [State.spareFailed_kept, State.releaseSpare_kept, State.modRx_kept]
  · rw [State.raise_kept, State.releaseSpare_kept, State.modRx_kept]

@[simp] theorem State.spareLost_kept (s : State) (d : Nat) : (s.spareLost d).kept = s.kept := by
  unfold State.spareLost
  dsimp only
  split
  · rw [State.returnLane_kept]
  · rfl

theorem execSpareConfirmed_runsKept (die : Nat) (s : State) : RunsKept (execSpareConfirmed die s) s := by
  unfold execSpareConfirmed
  dsimp only
  apply RunsKept.next
  split
  · split
    · rw [State.modSpareRx_kept]
    · rfl
  · rfl

theorem execLaneRestoreSwitch_runsKept (die : Nat) (s : State) : RunsKept (execLaneRestoreSwitch die s) s := by
  unfold execLaneRestoreSwitch
  dsimp only
  apply RunsKept.next
  split
  · rw [State.returnLane_kept]
  · rfl

@[simp] theorem State.kilnRefused_kept (s : State) (x : SpareRx) : (s.kilnRefused x).kept = s.kept := by
  unfold State.kilnRefused
  split <;> rfl

theorem execSpareTimeout_runsKept (die : Nat) (s : State) : RunsKept (execSpareTimeout die s) s := by
  unfold execSpareTimeout
  dsimp only
  apply RunsKept.next
  split
  · rw [State.releaseSpare_kept, State.kilnRefused_kept, State.spareFailed_kept]
  · split
    · rw [State.spareFailed_kept, State.modSpareRx_kept]
    · rw [State.sendControl_kept, State.spareFailed_kept, State.modSpareRx_kept]
  · rfl

@[simp] theorem State.sparingBoundary_kept (s : State) (n d : Nat) : (s.sparingBoundary n d).kept = s.kept := by
  unfold State.sparingBoundary
  dsimp only
  rw [foldl_kept]
  · rw [foldl_kept]
    · split
      · rw [State.modSpareRx_kept]
      · split
        · rw [State.modSpareRx_kept]
        · rfl
    · intro s a
      rw [State.startSpare_kept]
  · intro s a
    rw [State.modRx_kept]

@[simp] theorem State.modSpareTx_kept (s : State) (e : Nat) (f : SpareTx → SpareTx) : (s.modSpareTx e f).kept = s.kept := rfl

@[simp] theorem State.answer_kept (s : State) (e msg txLane code : Nat) (r : Half × Word × Nat × Nat × Nat) :
    (s.answer e msg txLane code r).kept = s.kept := by
  rw [State.answer, State.sendControl_kept]

@[simp] theorem State.spareRequestIn_kept (s : State) (src : Half) (transaction : Word) (body : List Byte) (lane : Nat) :
    (s.spareRequestIn src transaction body lane).kept = s.kept := by
  unfold State.spareRequestIn
  dsimp only
  split
  · rw [State.answer_kept]
  · split
    · rw [State.answer_kept]
    · split
      · rw [State.modSpareTx_kept]
      · simp

theorem execSpareCopyStart_runsKept (die : Nat) (s : State) : RunsKept (execSpareCopyStart die s) s := by
  unfold execSpareCopyStart
  dsimp only
  apply RunsKept.next
  split
  · split
    · rfl
    · rw [foldl_kept]
      · rw [State.modSpareTx_kept]
      · intro s a
        rw [State.answer_kept]
  · rfl

@[simp] theorem State.spareReleaseIn_kept (s : State) (src : Half) (transaction : Word) (body : List Byte) (lane : Nat) :
    (s.spareReleaseIn src transaction body lane).kept = s.kept := by
  unfold State.spareReleaseIn
  dsimp only
  split
  · rfl
  · split
    · rw [foldl_kept]
      · rw [State.modSpareTx_kept]
      · intro s a
        rw [State.answer_kept]
    · rw [State.modSpareTx_kept]

@[simp] theorem State.dropRequester_kept (s : State) (src : Half) : (s.dropRequester src).kept = s.kept := rfl

theorem execSpareCopyStop_runsKept (die : Nat) (s : State) : RunsKept (execSpareCopyStop die s) s := by
  unfold execSpareCopyStop
  dsimp only
  apply RunsKept.next
  split
  · split
    · rw [foldl_kept]
      · rw [State.modSpareTx_kept]
      · intro s a
        rw [State.answer_kept]
    · rfl
  · rfl

@[simp] theorem State.spareSwitchedIn_kept (s : State) (_src : Half) (_transaction : Word) (body : List Byte) :
    (s.spareSwitchedIn _src _transaction body).kept = s.kept := by
  unfold State.spareSwitchedIn
  dsimp only
  split
  · split
    · rw [State.modTx_kept, State.modKiln_kept, State.modSpareTx_kept]
    · rw [State.modSpareTx_kept]
  · rfl

@[simp] theorem State.dropExtra_kept (s : State) (d : Nat) (transaction : Word) : (s.dropExtra d transaction).kept = s.kept := by
  rw [State.dropExtra, State.modSpareRx_kept]

@[simp] theorem State.spareDuplicatingIn_kept (s : State) (transaction : Word) (body : List Byte) :
    (s.spareDuplicatingIn transaction body).kept = s.kept := by
  unfold State.spareDuplicatingIn
  split
  · rw [State.dropExtra_kept]
  · rw [State.modSpareRx_kept]
  · rfl

@[simp] theorem State.spareStoppedIn_kept (s : State) (transaction : Word) (body : List Byte) :
    (s.spareStoppedIn transaction body).kept = s.kept := by
  unfold State.spareStoppedIn
  split
  · rw [State.modSpareRx_kept]
  · rfl

@[simp] theorem State.spareRefusedIn_kept (s : State) (transaction : Word) (body : List Byte) :
    (s.spareRefusedIn transaction body).kept = s.kept := by
  unfold State.spareRefusedIn
  split
  · rw [State.spareFailed_kept, State.dropExtra_kept]
  · split
    · dsimp only
      split
      · rw [State.releaseSent_kept, State.spareFailed_kept, State.modSpareRx_kept]
      · rw [State.kilnRefused_kept, State.releaseSent_kept, State.spareFailed_kept, State.modSpareRx_kept]
    · rfl
  · rfl

@[simp] theorem State.sparingIn_kept (s : State) (msg : Nat) (src : Half) (transaction : Word) (body : List Byte) (lane : Nat) :
    (s.sparingIn msg src transaction body lane).kept = s.kept := by
  unfold State.sparingIn
  split
  · rw [State.spareRequestIn_kept]
  · rw [State.spareDuplicatingIn_kept]
  · rw [State.spareSwitchedIn_kept]
  · rw [State.spareReleaseIn_kept]
  · rw [State.spareStoppedIn_kept]
  · rw [State.spareRefusedIn_kept]
  · rfl

theorem State.controlFrameIn_kept {act : State → State} (h : ∀ s, (act s).kept = s.kept) (s : State) (msg lane : Nat) (f : Frame) :
    (s.controlFrameIn msg lane f act).kept = s.kept := by
  simp [State.controlFrameIn, h]

@[simp] theorem State.sparingFrame_kept (s : State) (msg lane : Nat) (f : Frame) : (s.sparingFrame msg lane f).kept = s.kept := by
  unfold State.sparingFrame
  rw [State.controlFrameIn_kept]
  intro s
  rw [State.sparingIn_kept]

@[simp] theorem cmdLaneSpare_kept (o : Origin) (args : List Byte) (s : State) : (cmdLaneSpare o args s).state.kept = s.kept := by
  unfold cmdLaneSpare
  dsimp only
  apply checked_kept
  split
  · rw [okay_kept, State.startSpare_kept]
  · split
    · simp
    · rw [okay_kept, State.releaseSpare_kept]

@[simp] theorem cmdLaneControlIn_kept (o : Origin) (args : List Byte) (s : State) : (cmdLaneControlIn o args s).state.kept = s.kept := by
  unfold cmdLaneControlIn
  apply checked_kept
  rw [okay_kept, State.sparingIn_kept]

@[simp] theorem cmdLaneStatus_kept (o : Origin) (args : List Byte) (s : State) : (cmdLaneStatus o args s).state.kept = s.kept := by
  unfold cmdLaneStatus
  dsimp only
  apply checked_kept
  simp

@[simp] theorem cmdLaneTest_kept (o : Origin) (args : List Byte) (s : State) : (cmdLaneTest o args s).state.kept = s.kept := by
  unfold cmdLaneTest
  dsimp only
  apply checked_kept
  split <;> simp

@[simp] theorem cmdLaneEye_kept (o : Origin) (args : List Byte) (s : State) : (cmdLaneEye o args s).state.kept = s.kept := by
  unfold cmdLaneEye
  dsimp only
  apply checked_kept
  simp

theorem execEyeScanDone_runsKept (lane mismatches : Nat) (s : State) : RunsKept (execEyeScanDone lane mismatches s) s := by
  unfold execEyeScanDone
  apply RunsKept.next
  split
  · rfl
  · dsimp only
    rw [State.complete_kept]
    rfl

/-! ### Clock.lean -/

@[simp] theorem State.modDpll_kept (s : State) (f : Dpll → Dpll) : (s.modDpll f).kept = s.kept := rfl

@[simp] theorem State.modRef_kept (s : State) (code : Nat) (f : RefInput → RefInput) : (s.modRef code f).kept = s.kept := by
  rw [State.modRef, State.modDpll_kept]

@[simp] theorem State.freshWithin_kept (s : State) (lim : Nat) : (s.freshWithin lim).2.kept = s.kept := by
  simp [State.freshWithin]

@[simp] theorem State.switchPhase_kept (s : State) (code : Nat) : (s.switchPhase code).2.2.kept = s.kept := by
  unfold State.switchPhase
  dsimp only
  split <;> simp

@[simp] theorem State.selectEntry_kept (s : State) (k : Nat) : (s.selectEntry k).kept = s.kept := by
  unfold State.selectEntry
  dsimp only
  rw [State.raise_kept, State.modDpll_kept, State.switchPhase_kept]

@[simp] theorem State.loseReference_kept (s : State) : s.loseReference.kept = s.kept := by
  unfold State.loseReference
  split
  · simp
  · rw [State.raise_kept, State.modDpll_kept]

@[simp] theorem State.reselect_kept (s : State) : s.reselect.kept = s.kept := by
  unfold State.reselect
  split
  · rw [State.selectEntry_kept]
  · rw [State.loseReference_kept]

@[simp] theorem State.startWtr_kept (s : State) : s.startWtr.kept = s.kept := by
  unfold State.startWtr
  dsimp only
  split
  · split <;> rw [State.modDpll_kept]
  · rfl

@[simp] theorem State.disqualify_kept (s : State) (code test : Nat) : (s.disqualify code test).kept = s.kept := by
  unfold State.disqualify
  split
  · dsimp only
    split
    · rw [State.reselect_kept, State.modDpll_kept, State.raise_kept, State.modRef_kept]
    · rw [State.modDpll_kept, State.raise_kept, State.modRef_kept]
  · rfl

@[simp] theorem State.refCheck_kept (s : State) : s.refCheck.kept = s.kept := by
  unfold State.refCheck
  dsimp only
  split
  · split
    · rfl
    · rw [State.disqualify_kept]
  · split
    · rw [State.disqualify_kept]
    · rw [State.disqualify_kept, State.disqualify_kept]

theorem execRefQualify_runsKept (input : Nat) (s : State) : RunsKept (execRefQualify input s) s := by
  unfold execRefQualify
  apply RunsKept.next
  split
  · rfl
  · dsimp only
    split
    · rw [State.startWtr_kept, State.raise_kept, State.modRef_kept]
    · split
      · rw [State.selectEntry_kept, State.raise_kept, State.modRef_kept]
      · rw [State.raise_kept, State.modRef_kept]

theorem execWtrExpiry_runsKept (s : State) : RunsKept (execWtrExpiry s) s := by
  unfold execWtrExpiry
  dsimp only
  apply RunsKept.next
  split
  · split
    · rw [State.selectEntry_kept]
    · rfl
  · rfl

@[simp] theorem State.dpllLock_kept (s : State) : s.dpllLock.kept = s.kept := by
  unfold State.dpllLock
  split
  · simp
  · rfl

theorem execHistoryValid_runsKept (s : State) : RunsKept (execHistoryValid s) s := by
  unfold execHistoryValid
  apply RunsKept.next
  split
  · rw [State.modDpll_kept]
  · rfl

@[simp] theorem State.stepTime_kept (s : State) (ns source : Nat) : (s.stepTime ns source).kept = s.kept := by
  unfold State.stepTime
  dsimp only
  split
  · rw [State.kept_update, State.setTimeNs_kept]
  · rw [State.raise_kept, State.kept_update, State.setTimeNs_kept]

@[simp] theorem State.inputTime_kept (s : State) (code : Nat) (offsetPs : Int) : (s.inputTime code offsetPs).2.kept = s.kept := by
  unfold State.inputTime
  split <;> simp

@[simp] theorem State.pullIn_kept (s : State) (code : Nat) (offsetPs : Int) : (s.pullIn code offsetPs).kept = s.kept := by
  rw [State.pullIn, State.modDpll_kept, State.modRef_kept]

@[simp] theorem State.measure_kept (s : State) (code : Nat) (offsetPs : Int) : (s.measure code offsetPs).kept = s.kept := by
  unfold State.measure
  dsimp only
  split
  · rw [State.modRef_kept]
  · split
    · split
      · rw [State.pullIn_kept, State.modDpll_kept, State.modRef_kept]
      · rw [State.pullIn_kept, State.stepTime_kept, State.inputTime_kept, State.modDpll_kept, State.modRef_kept]
    · split
      · rw [State.pullIn_kept, State.modDpll_kept, State.modRef_kept]
      · rw [State.disqualify_kept, State.raise_kept, State.modDpll_kept, State.modRef_kept, State.modDpll_kept, State.modRef_kept]

@[simp] theorem State.finishDetail_kept (s : State) (r : Running) (st : Status) (detail : Nat) : (s.finishDetail r st detail).kept = s.kept := by
  unfold State.finishDetail
  rw [State.complete_kept]
  rfl

@[simp] theorem State.finishWith_kept (s : State) (r : Running) (st : Status) : (s.finishWith r st).kept = s.kept := by
  rw [State.finishWith, State.finishDetail_kept]

@[simp] theorem State.ppsTimeSet_kept (s : State) (r : Running) (sec : Nat) : (s.ppsTimeSet r sec).kept = s.kept := by
  unfold State.ppsTimeSet
  split
  · rw [State.finishWith_kept, State.stepTime_kept]
  · rw [State.finishWith_kept]

@[simp] theorem State.ppsTimeSets_kept (n : Nat) (s : State) : (State.ppsTimeSets n s).kept = s.kept := by
  induction n generalizing s with
  | zero => rfl
  | succ n ih =>
    unfold State.ppsTimeSets
    split
    · rw [ih, State.ppsTimeSet_kept]
    · rfl

theorem execPpsInEdge_runsKept (offsetNs : Int) (s : State) : RunsKept (execPpsInEdge offsetNs s) s := by
  unfold execPpsInEdge
  dsimp only
  apply RunsKept.next
  split
  · rfl
  · split
    · split
      · rw [State.ppsTimeSets_kept]
      · rfl
    · rw [State.measure_kept]
      split
      · rw [State.ppsTimeSets_kept]
      · rfl

theorem execTimeSetPpsTimeout_runsKept (s : State) : RunsKept (execTimeSetPpsTimeout s) s := by
  unfold execTimeSetPpsTimeout
  apply RunsKept.next
  split
  · rw [State.finishWith_kept]
  · rfl

theorem execTimeBadClear_runsKept (input : Nat) (s : State) : RunsKept (execTimeBadClear input s) s := by
  unfold execTimeBadClear
  apply RunsKept.next
  split
  · rw [State.modRef_kept]
  · rfl

@[simp] theorem State.refSelect_kept (s : State) (old : Dpll) : (s.refSelect old).kept = s.kept := by
  unfold State.refSelect
  dsimp only
  split
  · split
    · rw [State.selectEntry_kept]
    · rfl
  · split
    · rw [State.reselect_kept, State.modDpll_kept]
    · split
      · simp
      · rw [State.modDpll_kept]

@[simp] theorem cmdRefConfig_kept (o : Origin) (args : List Byte) (s : State) : (cmdRefConfig o args s).state.kept = s.kept := by
  unfold cmdRefConfig
  dsimp only
  apply checked_kept
  rw [okay_kept, State.refCheck_kept, State.refSelect_kept, State.modDpll_kept]

@[simp] theorem cmdRefInputConfig_kept (o : Origin) (args : List Byte) (s : State) : (cmdRefInputConfig o args s).state.kept = s.kept := by
  unfold cmdRefInputConfig
  dsimp only
  apply checked_kept
  rw [okay_kept, State.modRef_kept]

@[simp] theorem cmdClockSteer_kept (o : Origin) (args : List Byte) (s : State) : (cmdClockSteer o args s).state.kept = s.kept := by
  unfold cmdClockSteer
  dsimp only
  apply checked_kept
  rw [okay_kept, State.modDpll_kept]

@[simp] theorem cmdTimeSet_kept (o : Origin) (args : List Byte) (s : State) : (cmdTimeSet o args s).state.kept = s.kept := by
  unfold cmdTimeSet
  dsimp only
  apply checked_kept
  split
  · simp
  · rw [okay_kept, State.stepTime_kept]

@[simp] theorem State.stepLog_kept (s : State) (sec ns : Nat) : (s.stepLog sec ns).kept = s.kept := by
  unfold State.stepLog
  dsimp only
  rw [State.raise_kept]
  rfl

@[simp] theorem cmdLogTimeSet_kept (o : Origin) (args : List Byte) (s : State) : (cmdLogTimeSet o args s).state.kept = s.kept := by
  unfold cmdLogTimeSet
  dsimp only
  apply checked_kept
  rw [okay_kept]
  split
  · rw [State.stepLog_kept]
    split <;> rfl
  · split
    · rw [State.stepLog_kept]
      split <;> rfl
    · split <;> rfl

@[simp] theorem cmdPulseConfig_kept (o : Origin) (args : List Byte) (s : State) : (cmdPulseConfig o args s).state.kept = s.kept := by
  unfold cmdPulseConfig
  dsimp only
  apply checked_kept
  rw [okay_kept]
  rfl

@[simp] theorem State.stampFrac_kept (s : State) : s.stampFrac.2.kept = s.kept := s.fresh_kept

@[simp] theorem State.freqOffset_kept (s : State) : s.freqOffset.2.kept = s.kept := by
  unfold State.freqOffset
  dsimp only
  split
  · split
    · simp
    · rw [State.freshWithin_kept]
  · simp

@[simp] theorem cmdClockStatus_kept (o : Origin) (args : List Byte) (s : State) : (cmdClockStatus o args s).state.kept = s.kept := by
  simp [cmdClockStatus]

@[simp] theorem cmdRefTimeAccept_kept (o : Origin) (args : List Byte) (s : State) : (cmdRefTimeAccept o args s).state.kept = s.kept := by
  unfold cmdRefTimeAccept
  dsimp only
  apply checked_kept
  rw [okay_kept]
  split
  · rw [State.pullIn_kept, State.modRef_kept]
  · rw [State.modRef_kept]

@[simp] theorem State.modPulses_kept (s : State) (f : Pulses → Pulses) : (s.modPulses f).kept = s.kept := rfl

@[simp] theorem State.advanceTo_kept (s : State) (ns : Nat) : (s.advanceTo ns).kept = s.kept := by
  unfold State.advanceTo
  split
  · rw [State.drainLines_kept, State.setTimeNs_kept]
  · rfl

theorem execTickStart_runsKept (n : Nat) (s : State) : RunsKept (execTickStart n s) s := by
  unfold execTickStart
  dsimp only
  apply RunsKept.next
  split
  · split
    · split
      · rw [State.modPulses_kept, State.refreshPipes_kept, State.advanceTo_kept]
      · rw [State.refreshPipes_kept, State.advanceTo_kept]
    · rfl
  · rfl

@[simp] theorem State.dpllSecond_kept (s : State) : s.dpllSecond.kept = s.kept := by
  simp [State.dpllSecond]

/-! ### Calendar.lean -/

@[simp] theorem State.modCal_kept (s : State) (f : Calendar → Calendar) : (s.modCal f).kept = s.kept := rfl

@[simp] theorem State.readCalSec_kept (s : State) : s.readCalSec.2.kept = s.kept := by
  unfold State.readCalSec
  dsimp only
  rw [State.modCal_kept]
  split <;> simp

theorem execCalSecLoRead_runsKept (s : State) : RunsKept (execCalSecLoRead s) s := by
  simp [execCalSecLoRead]

@[simp] theorem State.raiseCal_kept (s : State) (code : Nat) (detail : List Byte) : (s.raiseCal code detail).kept = s.kept := by
  unfold State.raiseCal
  split
  · rw [State.raise_kept]
  · rfl

@[simp] theorem State.calCount_kept (s : State) (n : Nat) : (s.calCount n).kept = s.kept := by
  unfold State.calCount
  dsimp only
  split
  · rw [State.raiseCal_kept, State.kept_update, State.modCal_kept]
  · rw [State.modCal_kept]

theorem execCalendarSecond_runsKept (s : State) : RunsKept (execCalendarSecond s) s := by
  unfold execCalendarSecond
  dsimp only
  apply RunsKept.next
  split
  · rw [State.calCount_kept]
  · rw [State.kept_update, State.calCount_kept]

theorem execVbatMeasure_runsKept (mv : Nat) (s : State) : RunsKept (execVbatMeasure mv s) s := by
  unfold execVbatMeasure
  dsimp only
  apply RunsKept.next
  split
  · rfl
  · split
    · rw [State.raiseCal_kept, State.modCal_kept]
    · rw [State.modCal_kept]

theorem execCalendarDomainPowerOn_runsKept (s : State) : RunsKept (execCalendarDomainPowerOn s) s := by
  unfold execCalendarDomainPowerOn
  dsimp only
  apply RunsKept.next
  rfl

@[simp] theorem State.writeCalCtrl_kept (s : State) (v : Word) : (s.writeCalCtrl v).kept = s.kept := by
  rw [State.writeCalCtrl, State.modCal_kept]

theorem execCalLoadDone_runsKept (s : State) : RunsKept (execCalLoadDone s) s := by
  unfold execCalLoadDone
  apply RunsKept.next
  split
  · rw [State.modCal_kept]
  · rfl

@[simp] theorem State.calFromPtp_kept (s : State) : s.calFromPtp.kept = s.kept := by
  unfold State.calFromPtp
  split
  · split
    · dsimp only
      split
      · rw [State.modCal_kept, State.modCal_kept]
      · rw [State.modCal_kept]
    · rfl
  · rfl

@[simp] theorem State.calSync_kept (s : State) : s.calSync.kept = s.kept := by
  unfold State.calSync
  split
  · rw [State.calFromPtp_kept, State.modCal_kept, State.calCount_kept]
  · rw [State.modCal_kept]

@[simp] theorem State.applyTdc_kept (s : State) : s.applyTdc.kept = s.kept := by
  unfold State.applyTdc
  dsimp only
  rfl

theorem execDatapathSecond_runsKept (s : State) : RunsKept (execDatapathSecond s) s := by
  unfold execDatapathSecond
  dsimp only
  apply RunsKept.next
  split
  · rfl
  · rw [State.dpllSecond_kept, State.applyTdc_kept, State.calSync_kept, State.modPulses_kept, State.kept_update]
    split
    · rw [State.refreshPipes_kept, State.setTimeNs_kept]
    · rfl

/-! ### Sparge.lean -/

@[simp] theorem State.dropPort_kept (s : State) (port : Nat) : (s.dropPort port).kept = s.kept := rfl

@[simp] theorem State.portsUpdate_kept (s : State) : s.portsUpdate.kept = s.kept := by
  unfold State.portsUpdate
  rw [foldl_kept]
  intro s a
  dsimp only
  split
  · rw [State.kept_update]
    split
    · rfl
    · rw [State.dropPort_kept]
  · split <;> split <;> simp

@[simp] theorem State.rejoin_kept (s : State) (sink : Nat) : (s.rejoin sink).kept = s.kept := by
  unfold State.rejoin
  rw [foldl_kept]
  intro s a
  split
  · rw [State.raise_kept]
    rfl
  · rfl

@[simp] theorem State.modSink_kept (s : State) (i : Nat) (f : SinkCount → SinkCount) : (s.modSink i f).kept = s.kept := by
  unfold State.modSink
  dsimp only
  rfl

@[simp] theorem State.meetDetected_kept (s : State) (sc : Scope) (r : SpargeRec) : (s.meetDetected sc r).kept = s.kept := by
  unfold State.meetDetected
  split
  · rw [State.meetBad_kept]
  · rfl

@[simp] theorem State.sendRecord_kept (s : State) (sc : Scope) (d : SinkDest) (bytes : List Byte) : (s.sendRecord sc d bytes).kept = s.kept := by
  unfold State.sendRecord
  split
  · dsimp only
    rw [State.modSink_kept, State.kept_update, State.emit_kept]
  · rfl

@[simp] theorem State.setScope_kept (s : State) (sc : Scope) : (s.setScope sc).kept = s.kept := rfl

@[simp] theorem State.dropRecords_kept (s : State) (sc : Scope) (n : Nat) : (s.dropRecords sc n).kept = s.kept := by
  unfold State.dropRecords
  split
  · rfl
  · dsimp only
    rw [State.raise_kept, State.kept_update, State.modSink_kept]

@[simp] theorem State.removeScope_kept (s : State) (pipe : Nat) (tickScope : Bool) : (s.removeScope pipe tickScope).kept = s.kept := rfl

@[simp] theorem State.closeScope_kept (s : State) (pipe : Nat) (tickScope : Bool) : (s.closeScope pipe tickScope).kept = s.kept := by
  unfold State.closeScope
  split
  · rfl
  · rw [State.dropRecords_kept, State.removeScope_kept]

@[simp] theorem State.startScope_kept (s : State) (pipe handle : Nat) (old : PipeEntry) (tickScope : Bool) (tick bank : Nat) (beams : List BeamMash) :
    (s.startScope pipe handle old tickScope tick bank beams).kept = s.kept := by
  unfold State.startScope
  dsimp only
  rw [State.kept_update, State.rejoin_kept, State.removeScope_kept]

@[simp] theorem State.openScope_kept (s : State) (pipe handle : Nat) (old : PipeEntry) (tickScope : Bool) (tick bank : Nat) (beams : List BeamMash) :
    (s.openScope pipe handle old tickScope tick bank beams).kept = s.kept := by
  rw [State.openScope, State.startScope_kept, State.closeScope_kept]

@[simp] theorem State.giveUpWords_kept (s : State) (pipe die bank ch q : Nat) (ws : List Nat) :
    (s.giveUpWords pipe die bank ch q ws).kept = s.kept := by
  rw [State.giveUpWords, State.markCorrupt_kept, State.modTile_kept]

@[simp] theorem State.repairFirst_kept (s : State) (sc : Scope) (r : SpargeRec) : (s.repairFirst sc r).2.kept = s.kept := by
  unfold State.repairFirst
  split
  · rfl
  · split
    · rfl
    · dsimp only
      split
      · rfl
      · split
        · dsimp only
          rw [foldl_kept]
          · simp
          · intro s w
            simp
        · simp

@[simp] theorem State.giveUpRecord_kept (s : State) (sc : Scope) (rd : Reader) (hasPlane : Bool) : (s.giveUpRecord sc rd hasPlane).kept = s.kept := by
  rw [State.giveUpRecord, State.setScope_kept]

@[simp] theorem State.sendFragment_kept (s : State) (sc : Scope) (rd : Reader) (r : SpargeRec) (o : OpenRecord) (hasPlane : Bool) :
    (s.sendFragment sc rd r o hasPlane).kept = s.kept := by
  unfold State.sendFragment
  dsimp only
  split
  · rw [State.modSink_kept, State.setScope_kept, State.sendRecord_kept]
  · rw [State.setScope_kept, State.sendRecord_kept]

@[simp] theorem State.readerTurn_kept (s : State) (sc : Scope) (rd : Reader) (r : SpargeRec) : (s.readerTurn sc rd r).kept = s.kept := by
  unfold State.readerTurn
  dsimp only
  split
  · split
    · rw [State.giveUpRecord_kept]
    · rw [State.sendFragment_kept]
  · split
    · rw [State.repairFirst_kept]
    · split
      · rw [State.giveUpRecord_kept, State.repairFirst_kept]
      · rw [State.sendFragment_kept, State.meetDetected_kept, State.repairFirst_kept]

theorem execSpargeDatagramSend_runsKept (pipe die : Nat) (tickScope : Bool) (s : State) :
    RunsKept (execSpargeDatagramSend pipe die tickScope s) s := by
  unfold execSpargeDatagramSend
  apply RunsKept.next
  split
  · rfl
  · split
    · rfl
    · split
      · rfl
      · simp

@[simp] theorem State.clearPipe_kept (s : State) (i : Nat) : (s.clearPipe i).kept = s.kept := by
  unfold State.clearPipe
  dsimp only
  rfl

@[simp] theorem State.freeDrained_kept (s : State) (i n : Nat) : (s.freeDrained i n).kept = s.kept := by
  unfold State.freeDrained
  dsimp only
  split
  · rw [State.clearPipe_kept]
    rfl
  · rfl

theorem execScopeEndRecord_runsKept (pipe : Nat) (tickScope : Bool) (s : State) : RunsKept (execScopeEndRecord pipe tickScope s) s := by
  unfold execScopeEndRecord
  apply RunsKept.next
  split
  · rfl
  · dsimp only
    split
    · rfl
    · split
      · rw [State.setScope_kept]
      · rw [State.freeDrained_kept, State.dropRecords_kept, State.removeScope_kept]
        simp

@[simp] theorem State.addToOwner_kept (s : State) (e : PipeEntry) (r : Repair) (owner : Nat) (vs : List Int) :
    (s.addToOwner e r owner vs).kept = s.kept := by
  unfold State.addToOwner
  dsimp only
  rw [State.addWord_kept, State.meetBad_kept]

@[simp] theorem State.endRepair_kept (s : State) (r : Repair) : (s.endRepair r).kept = s.kept := rfl

@[simp] theorem State.repairWith_kept (s : State) (r : Repair) (word : List Byte) : (s.repairWith r word).kept = s.kept := by
  unfold State.repairWith
  dsimp only
  rw [State.raise_kept, State.modCorr_kept]
  split
  · rw [State.modTile_kept, State.healWords_kept, State.memWrite_kept, State.endRepair_kept]
  · rw [State.addToOwner_kept, State.endRepair_kept]

@[simp] theorem State.repairFails_kept (s : State) (r : Repair) : (s.repairFails r).kept = s.kept := by
  unfold State.repairFails
  dsimp only
  split
  · rw [State.giveUpWords_kept, State.endRepair_kept]
  · rw [State.markCorrupt_kept, State.addToOwner_kept, State.endRepair_kept]

theorem execTunRepairTimeout_runsKept (transaction : Nat) (s : State) : RunsKept (execTunRepairTimeout transaction s) s := by
  unfold execTunRepairTimeout
  apply RunsKept.next
  split
  · rw [State.repairFails_kept]
  · rfl

@[simp] theorem State.mergeTile_kept (s : State) (e : PipeEntry) (pipe owner die bank ch q : Nat) :
    (s.mergeTile e pipe owner die bank ch q).kept = s.kept := by
  unfold State.mergeTile
  extract_lets c n per tp a badWs ask vs held given s1 oa bounds s2 s3 s4 s5
  have h2 : s2.kept = s.kept := by
    dsimp only [s2, s1]
    rw [foldl_kept, State.tunAdd_kept, State.meetBad_kept]
    intro s x
    rw [State.modTile_kept, State.memWrite_kept]
  have h4 : s4.kept = s.kept := by
    dsimp only [s4, s3]
    rw [State.addMisses_kept, State.modTile_kept, h2]
  have h5 : s5.kept = s.kept := by
    dsimp only [s5]
    split
    · rw [foldl_kept, h4]
      intro s w
      rw [State.askRepair_kept]
    · exact h4
  split
  · rfl
  · split
    · rw [State.markCorrupt_kept, h5]
    · exact h5

@[simp] theorem State.mergeBank_kept (s : State) (e : PipeEntry) (pipe bank : Nat) : (s.mergeBank e pipe bank).kept = s.kept := by
  unfold State.mergeBank
  dsimp only
  split
  · rfl
  · rw [foldl_kept]
    intro s a
    rw [foldl_kept]
    intro s a
    rw [foldl_kept]
    intro s a
    rw [State.mergeTile_kept]

@[simp] theorem State.freshBank_kept (s : State) (pipe bank : Nat) : (s.freshBank pipe bank).kept = s.kept := rfl

@[simp] theorem State.swapBank_kept (s : State) (pipe n : Nat) : (s.swapBank pipe n).2.kept = s.kept := by
  unfold State.swapBank
  extract_lets old new begins
  clear_value old new begins
  split
  next ends s1 hr =>
  have h1 : s1.kept = s.kept := by
    split at hr
    · split at hr
      · cases hr
        rw [State.startScope_kept, State.mergeBank_kept]
      · cases hr
        rfl
    · cases hr
      rfl
  split
  · split
    · rw [State.freshBank_kept, h1]
    · exact h1
  · exact h1

@[simp] theorem State.healDetected_kept (s : State) (e : PipeEntry) (tick : Nat) (ms : List BeamMash) : (s.healDetected e tick ms).kept = s.kept := by
  unfold State.healDetected
  dsimp only
  split
  · rfl
  · rw [foldl_kept]
    intro s a
    rw [State.healItems_kept]

@[simp] theorem State.releaseTick_kept (s : State) (pipe r : Nat) (e : PipeEntry) : (s.releaseTick pipe r e).2.kept = s.kept := by
  unfold State.releaseTick
  dsimp only
  split
  · simp
  · split <;> simp

@[simp] theorem State.releaseBeam_kept (s : State) (pipe n : Nat) : (s.releaseBeam pipe n).2.kept = s.kept := by
  unfold State.releaseBeam
  rw [foldl_snd_kept]
  intro acc a
  split
  · rfl
  · dsimp only
    rw [State.releaseTick_kept]

theorem State.stepThree_kept {f : State → Nat → Ending × State} (h : ∀ s i, (f s i).2.kept = s.kept) (s : State) (kind : Nat) :
    (s.stepThree kind f).2.kept = s.kept :=
  foldl_snd_kept (f := fun acc i => let x := f acc.2 i; (acc.1 ++ x.1, x.2)) (fun acc i => h acc.2 i) _ _

@[simp] theorem State.swapAndRelease_kept (s : State) (n : Nat) : (s.swapAndRelease n).kept = s.kept := by
  unfold State.swapAndRelease
  dsimp only
  rw [foldl_kept]
  · rw [State.stepThree_kept, State.stepThree_kept]
    · intro s i
      simp
    · intro s i
      simp
  · intro s x
    simp

@[simp] theorem State.countHalf_kept (s : State) (pipe n : Nat) : (s.countHalf pipe n).kept = s.kept := by
  unfold State.countHalf
  split
  · rfl
  · split
    · rfl
    · dsimp only
      rw [foldl_kept]
      · rfl
      · intro s a
        rw [State.meetBad_kept]

@[simp] theorem cmdSinkStats_kept (o : Origin) (args : List Byte) (s : State) : (cmdSinkStats o args s).state.kept = s.kept := by
  unfold cmdSinkStats
  dsimp only
  apply checked_kept
  simp

/-! ### CrateLink.lean -/

@[simp] theorem State.readyCheck_kept (s : State) : s.readyCheck.kept = s.kept := by
  unfold State.readyCheck
  dsimp only
  split
  · rfl
  · split
    · rw [State.raise_kept]
      rfl
    · rw [State.raise_kept]
      rfl

@[simp] theorem State.modCrate_kept (s : State) (f : Crate → Crate) : (s.modCrate f).kept = s.kept := rfl

@[simp] theorem State.crateSend_kept (s : State) (type dest : Nat) (payload : List Byte) : (s.crateSend type dest payload).kept = s.kept := by
  unfold State.crateSend
  dsimp only
  rw [State.modCrate_kept]

@[simp] theorem State.announce_kept (s : State) : s.announce.kept = s.kept := by
  rw [State.announce, State.crateSend_kept]

/-! ### Lease.lean -/

@[simp] theorem State.commitChains_kept (s : State) (i : Nat) : (s.commitChains i).kept = s.kept := by
  unfold State.commitChains
  dsimp only
  split
  · rfl
  · split
    · rw [State.makeChangeChains_kept, State.makeChains_kept]
    · split
      · rw [State.makeChangeChains_kept]
      · rfl

@[simp] theorem applyTable_kept (x : Staged) (s : State) : (applyTable x s).kept = s.kept := by
  unfold applyTable
  split
  · rw [applyOffsetFreeze_kept]
  · rw [applyDelayLoad_kept]
  · rw [applyGainLoad_kept]
  · rw [applyWindowLoad_kept]
  · rw [applyWeights_kept]
  · rfl

@[simp] theorem State.enact_kept (s : State) (c : PackageCfg) (xs : List Staged) : (s.enact c xs).kept = s.kept := by
  unfold State.enact
  dsimp only
  rw [State.portsUpdate_kept, foldl_kept]
  · rw [foldl_kept]
    · rw [State.assignChains_kept, foldl_kept]
      · rw [foldl_kept]
        · split <;> rfl
        · intro s a
          split
          · rfl
          · split
            · rfl
            · rw [State.clearPipe_kept]
      · intro s a
        rw [State.commitChains_kept]
    · intro s a
      rw [applyTable_kept]
  · intro s a
    rfl

@[simp] theorem State.journalStaged_kept (s : State) (xs : List Staged) : (s.journalStaged xs).kept = s.kept := by
  unfold State.journalStaged
  rw [foldl_kept]
  intro s a
  rw [State.journal_kept]

@[simp] theorem cmdConfigCommit_kept (o : Origin) (args : List Byte) (s : State) : (cmdConfigCommit o args s).state.kept = s.kept := by
  unfold cmdConfigCommit
  dsimp only
  apply checked_kept
  split
  · rw [okay_kept]
  · rw [okay_kept, State.journalStaged_kept, State.enact_kept]
    rfl

@[simp] theorem State.abortStaging_kept (s : State) : s.abortStaging.kept = s.kept := by
  unfold State.abortStaging
  dsimp only
  rfl

@[simp] theorem cmdConfigAbort_kept (o : Origin) (args : List Byte) (s : State) : (cmdConfigAbort o args s).state.kept = s.kept := by
  unfold cmdConfigAbort
  apply checked_kept
  rw [okay_kept, State.abortStaging_kept]

@[simp] theorem State.freeLease_kept (s : State) : s.freeLease.kept = s.kept := rfl

@[simp] theorem cmdConfigLock_kept (o : Origin) (args : List Byte) (s : State) : (cmdConfigLock o args s).state.kept = s.kept := by
  unfold cmdConfigLock
  dsimp only
  apply checked_kept
  split
  · rw [okay_kept, State.freeLease_kept]
  · rw [okay_kept]
    rfl

@[simp] theorem cmdLockStatus_kept (o : Origin) (args : List Byte) (s : State) : (cmdLockStatus o args s).state.kept = s.kept := by
  simp [cmdLockStatus]

@[simp] theorem cmdNop_kept (o : Origin) (args : List Byte) (s : State) : (cmdNop o args s).state.kept = s.kept := by
  simp [cmdNop]

@[simp] theorem State.breakLease_kept (s : State) (cause : Nat) : (s.breakLease cause).kept = s.kept := by
  unfold State.breakLease
  split
  · rfl
  · rw [State.raise_kept, State.freeLease_kept, State.abortStaging_kept]

theorem execLeaseExpiry_runsKept (s : State) : RunsKept (execLeaseExpiry s) s := by
  unfold execLeaseExpiry
  apply RunsKept.next
  split
  · rw [State.breakLease_kept]
  · rfl

theorem execOwnerReset_runsKept (kind : OwnerResetKind) (s : State) : RunsKept (execOwnerReset kind s) s := by
  unfold execOwnerReset
  dsimp only
  apply RunsKept.next
  split
  · split
    · rw [State.breakLease_kept]
      rfl
    · rfl
  · split
    · rw [State.breakLease_kept]
      rfl
    · rfl
  · split
    · rw [State.breakLease_kept]
      rfl
    · rfl
  · split
    · rw [State.breakLease_kept]
      rfl
    · rfl

/-! ### Reset.lean -/

@[simp] theorem State.norApply_kept (s : State) (op : NorOp) : (s.norApply op).kept = s.kept := by
  unfold State.norApply
  split
  · rw [State.setMem_kept]
  · rw [State.memWrite_kept]

@[simp] theorem State.enterReset_kept (s : State) (activation : Bool) : (s.enterReset activation).kept = s.kept := by
  unfold State.enterReset
  dsimp only
  rfl

@[simp] theorem State.resetIfDue_kept (s : State) : s.resetIfDue.kept = s.kept := by
  unfold State.resetIfDue
  split
  · rw [State.enterReset_kept]
  · rfl

/-! ### Twin.lean -/

@[simp] theorem State.modTwin_kept (s : State) (f : Twin → Twin) : (s.modTwin f).kept = s.kept := rfl

@[simp] theorem State.drivePins_kept (s : State) (on : Bool) : (s.drivePins on).kept = s.kept := by
  rw [State.drivePins, State.modPulses_kept]

@[simp] theorem State.takeRole_kept (s : State) (role : TwinRole) : (s.takeRole role).2.kept = s.kept := by
  unfold State.takeRole
  split
  · simp
  · dsimp only
    rw [State.announce_kept, State.modTwin_kept]

@[simp] theorem State.becomeAlone_kept (s : State) : s.becomeAlone.kept = s.kept := by
  simp [State.becomeAlone]

@[simp] theorem State.roleReconciled_kept (s : State) : s.roleReconciled.kept = s.kept := by
  simp [State.roleReconciled]

@[simp] theorem State.demote_kept (s : State) (claim source : Nat) : (s.demote claim source).kept = s.kept := by
  unfold State.demote
  dsimp only
  rw [State.resetIfDue_kept, State.roleReconciled_kept, State.raise_kept, State.kept_update, State.modTwin_kept, State.drivePins_kept]

@[simp] theorem State.seeClaim_kept (s : State) (claim role source : Nat) : (s.seeClaim claim role source).kept = s.kept := by
  unfold State.seeClaim
  dsimp only
  split
  · split
    · rw [State.demote_kept, State.modTwin_kept]
    · rw [State.modTwin_kept]
  · split
    · rw [State.modTwin_kept, State.modTwin_kept]
    · rw [State.modTwin_kept]

@[simp] theorem State.twinMalformed_kept (s : State) (lane : LaneRef) : (s.twinMalformed lane).kept = s.kept := by
  rw [State.twinMalformed, State.modReceiver_kept]

@[simp] theorem State.twinAccept_kept (s : State) (lane : LaneRef) (msg : Nat) (lenOk : Nat → Bool) (f : Frame) :
    (s.twinAccept lane msg lenOk f).2.kept = s.kept := by
  unfold State.twinAccept
  split
  · rw [State.receive_kept]
  next k =>
    split
    · rfl
    · have h1 := s.receiveOn_kept (.twin k) 5 f
      split
      next ok s1 hr =>
      rw [hr] at h1
      dsimp only at h1
      split
      · exact h1
      · split
        · rw [State.twinMalformed_kept, h1]
        · rw [State.modReceiver_kept, h1]

@[simp] theorem State.twinReceive_kept (s : State) (lane : LaneRef) (msg len : Nat) (f : Frame) : (s.twinReceive lane msg len f).2.kept = s.kept := by
  rw [State.twinReceive, State.twinAccept_kept]

@[simp] theorem State.twinFrames_kept (s : State) (msg : Nat) (lenOk : Nat → Bool) (frames : List (LaneRef × Frame)) :
    (s.twinFrames msg lenOk frames).2.kept = s.kept := by
  induction frames generalizing s with
  | nil => rfl
  | cons x rest ih =>
    unfold State.twinFrames
    exact (ih _).trans (State.twinAccept_kept _ _ _ _ _)

@[simp] theorem State.sendHeartbeat_kept (s : State) (window role : Nat) : (s.sendHeartbeat window role).kept = s.kept := by
  rw [State.sendHeartbeat, State.sendTwin_kept]

@[simp] theorem State.sendJournal_kept (s : State) : s.sendJournal.kept = s.kept := by
  unfold State.sendJournal
  dsimp only
  rw [foldl_kept]
  · rw [State.modTwin_kept]
  · intro s a
    rw [State.sendEntry_kept]

@[simp] theorem State.attached_kept (s : State) : s.attached.kept = s.kept := by
  unfold State.attached
  split
  · dsimp only
    rw [State.raise_kept, State.modTwin_kept]
  · rfl

@[simp] theorem State.clearConfig_kept (s : State) : s.clearConfig.kept = s.kept := by
  unfold State.clearConfig
  dsimp only
  rw [State.modTwin_kept, State.kept_update, foldl_kept]
  intro s a
  split
  · rfl
  · rw [State.clearPipe_kept]

@[simp] theorem State.journalDone_kept (s : State) (seq : Nat) : (s.journalDone seq).kept = s.kept := by
  unfold State.journalDone
  rw [State.keepSettings_kept, foldl_kept]
  intro s a
  rw [State.finishRunning_kept]

theorem execJournalAck_runsKept (lane : LaneRef) (f : Frame) (s : State) : RunsKept (execJournalAck lane f s) s := by
  simp [execJournalAck]

theorem execJournalAckTimeout_runsKept (seq : Nat) (s : State) : RunsKept (execJournalAckTimeout seq s) s := by
  unfold execJournalAckTimeout
  apply RunsKept.next
  split
  · dsimp only
    split
    · rw [State.sendJournal_kept, State.journalDone_kept]
    · rw [State.journalDone_kept]
  · rfl

@[simp] theorem State.attachFrame_kept (s : State) (transaction : Nat) : (s.attachFrame transaction).kept = s.kept := by
  rw [State.attachFrame, State.sendTwin_kept]

@[simp] theorem State.sendAttach_kept (s : State) : s.sendAttach.kept = s.kept := by
  unfold State.sendAttach
  dsimp only
  rw [State.attachFrame_kept, State.modTwin_kept]

@[simp] theorem State.linkUp_kept (s : State) : s.linkUp.kept = s.kept := by
  unfold State.linkUp
  split
  · rw [State.modTwin_kept]
  · split
    · rw [State.sendAttach_kept]
    · rfl

@[simp] theorem State.detachPartner_kept (s : State) (cause : Nat) : (s.detachPartner cause).kept = s.kept := by
  unfold State.detachPartner
  dsimp only
  rw [State.raise_kept, State.journalDone_kept, State.modTwin_kept]

@[simp] theorem State.settle_kept (s : State) (p : Partner) (claim : Nat) : (s.settle p claim).kept = s.kept := by
  unfold State.settle
  dsimp only
  split
  · rw [State.sendJournal_kept, State.modTwin_kept, State.modTwin_kept]
  · split
    · rw [State.clearConfig_kept, State.modTwin_kept, State.drivePins_kept, State.modTwin_kept]
    · split <;> simp

@[simp] theorem State.settleDone_kept (s : State) : s.settleDone.kept = s.kept := by
  unfold State.settleDone
  split
  · rw [State.attached_kept]
  · rfl

@[simp] theorem State.stepEight_kept (s : State) : s.stepEight.kept = s.kept := by
  unfold State.stepEight
  split <;> rfl

theorem execAttach_runsKept (lane : LaneRef) (f : Frame) (rxNs : Nat) (s : State) : RunsKept (execAttach lane f rxNs s) s := by
  simp [execAttach]

theorem execAttachWaitExpiry_runsKept (s : State) : RunsKept (execAttachWaitExpiry s) s := by
  unfold execAttachWaitExpiry
  apply RunsKept.next
  split
  · rw [State.stepEight_kept, State.becomeAlone_kept]
  · rfl

theorem execCommaPeriod_runsKept (lane : LaneRef) (seen : CommaSeen) (s : State) : RunsKept (execCommaPeriod lane seen s) s := by
  unfold execCommaPeriod
  apply RunsKept.next
  rw [State.refCheck_kept]
  split
  · dsimp only
    split
    · split
      · rw [State.spareLost_kept]
      · rfl
    · split
      · rw [State.spareLost_kept, State.comma_kept]
      · rw [State.comma_kept]
  · split
    · rfl
    · rw [State.readyCheck_kept, State.linkUp_kept, State.comma_kept]

@[simp] theorem State.declare_kept (s : State) (cause boundary : Nat) : (s.declare cause boundary).kept = s.kept := by
  unfold State.declare
  split
  · rfl
  · dsimp only
    rw [State.modTwin_kept]

theorem execHeartbeat_runsKept (lane : LaneRef) (f : Frame) (s : State) : RunsKept (execHeartbeat lane f s) s := by
  simp [execHeartbeat]

@[simp] theorem State.judgeWindows_kept (s : State) (t : TickCfg) (n : Nat) : (s.judgeWindows t n).kept = s.kept := by
  unfold State.judgeWindows
  extract_lets standby ws shown backup fails
  have hf : (fails s).kept = s.kept := by
    dsimp only [fails]
    split
    · rw [State.declare_kept]
    · rw [State.detachPartner_kept]
  split
  · split
    · split
      · rw [State.modTwin_kept]
      · exact hf
    · rfl
  · split
    · exact hf
    · rfl

theorem execHeartbeatWindow_runsKept (n w : Nat) (s : State) : RunsKept (execHeartbeatWindow n w s) s := by
  unfold execHeartbeatWindow
  apply RunsKept.next
  split
  · rfl
  · dsimp only
    split
    · rw [State.advanceTo_kept]
    · rw [State.readyCheck_kept, State.sendHeartbeat_kept]
      split
      · rw [State.modTwin_kept, State.advanceTo_kept]
      · rw [State.judgeWindows_kept, State.modTwin_kept, State.modTwin_kept, State.advanceTo_kept]

theorem execHeartbeatWatchdog_runsKept (s : State) : RunsKept (execHeartbeatWatchdog s) s := by
  unfold execHeartbeatWatchdog
  apply RunsKept.next
  rw [State.drivePins_kept, State.modTwin_kept]

@[simp] theorem State.backupHeartbeat_kept (s : State) (role flags : Nat) : (s.backupHeartbeat role flags).kept = s.kept := by
  unfold State.backupHeartbeat
  dsimp only
  split
  · rw [State.declare_kept, State.modTwin_kept]
  · rw [State.modTwin_kept]

@[simp] theorem State.setFault_kept (s : State) (cause : Nat) : (s.setFault cause).kept = s.kept := by
  unfold State.setFault
  split
  · rw [State.modTwin_kept]
  · rfl

@[simp] theorem State.compareCopy_kept (s : State) (c : StateCopy) : (s.compareCopy c).kept = s.kept := by
  unfold State.compareCopy
  extract_lets tick own digestBad journalBad s1 s2 s3
  have h1 : s1.kept = s.kept := by
    dsimp only [s1]
    split
    · rw [State.modTwin_kept]
    · rfl
  have h3 : s3.kept = s.kept := by
    dsimp only [s3, s2]
    rw [State.sendHeartbeat_kept, State.raise_kept, State.modTwin_kept, h1]
  split
  · split
    · rw [State.sendAttach_kept, State.modTwin_kept, h3]
    · exact h3
  · split
    · rw [State.modTwin_kept, h1]
    · exact h1

@[simp] theorem State.twinOffset_kept (s : State) (c : StateCopy) (rxNs : Nat) : (s.twinOffset c rxNs).kept = s.kept := by
  unfold State.twinOffset
  dsimp only
  split
  · rw [State.raise_kept, State.modTwin_kept]
  · rw [State.modTwin_kept]

@[simp] theorem State.dropEnded_kept (s : State) (c : StateCopy) : (s.dropEnded c).kept = s.kept := rfl

@[simp] theorem State.copyLate_kept (s : State) (n : Nat) : (s.copyLate n).kept = s.kept := by
  unfold State.copyLate
  split
  · rfl
  · rw [State.modTwin_kept]

theorem execStateCopy_runsKept (frames : List (LaneRef × Frame)) (c : StateCopy) (rxNs : Nat) (s : State) :
    RunsKept (execStateCopy frames c rxNs s) s := by
  have h1 := s.twinFrames_kept 2 (fun n => decide (n ≤ 8192)) frames
  unfold execStateCopy
  split
  next fs s1 hr =>
  rw [hr] at h1
  dsimp only at h1
  apply RunsKept.next
  split
  · exact h1
  · extract_lets s2 s3 s4
    have h2 : s2.kept = s.kept := by
      dsimp only [s2]
      split
      · rw [State.seeClaim_kept, h1]
      · exact h1
    have h4 : s4.kept = s.kept := by
      dsimp only [s4, s3]
      rw [State.twinOffset_kept, State.dropEnded_kept, State.modTwin_kept, h2]
    split
    · exact h2
    · split
      · rw [State.copyLate_kept, h2]
      · rw [State.readyCheck_kept, State.refCheck_kept]
        split
        · rw [State.compareCopy_kept, h4]
        · exact h4

theorem execRepairReq_runsKept (lane : LaneRef) (f : Frame) (s : State) : RunsKept (execRepairReq lane f s) s := by
  simp [execRepairReq]

theorem execRepairReply_runsKept (lane : LaneRef) (f : Frame) (s : State) : RunsKept (execRepairReply lane f s) s := by
  have h1 := s.twinReceive_kept lane 6 36 f
  unfold execRepairReply
  split
  next ok s1 hr =>
  rw [hr] at h1
  dsimp only at h1
  apply RunsKept.next
  split
  · exact h1
  · split
    · split <;> simp [h1]
    · exact h1

theorem execSwitch_runsKept (lane : LaneRef) (f : Frame) (s : State) : RunsKept (execSwitch lane f s) s := by
  simp [execSwitch]

@[simp] theorem State.switchRefused_kept (s : State) (r : Running) : (s.switchRefused r).kept = s.kept := by
  unfold State.switchRefused
  split
  · rw [State.finishWith_kept, State.setFault_kept]
  · rw [State.finishWith_kept]

theorem execSwitchAck_runsKept (lane : LaneRef) (f : Frame) (s : State) : RunsKept (execSwitchAck lane f s) s := by
  have h1 := s.twinReceive_kept lane 9 8 f
  unfold execSwitchAck
  split
  next ok s1 hr =>
  rw [hr] at h1
  dsimp only at h1
  apply RunsKept.next
  split
  · exact h1
  · split
    · split
      · exact h1
      · split <;> simp [h1]
    · exact h1

theorem execSwitchOutputDrive_runsKept (s : State) : RunsKept (execSwitchOutputDrive s) s := by
  unfold execSwitchOutputDrive
  apply RunsKept.next
  split
  · rw [State.drivePins_kept, State.modTwin_kept]
  · rfl

@[simp] theorem cmdTwinSwitch_kept (o : Origin) (args : List Byte) (s : State) : (cmdTwinSwitch o args s).state.kept = s.kept := by
  unfold cmdTwinSwitch
  dsimp only
  apply checked_kept
  split
  · rw [okay_kept, State.setFault_kept]
  · simp

@[simp] theorem cmdTwinDetach_kept (o : Origin) (args : List Byte) (s : State) : (cmdTwinDetach o args s).state.kept = s.kept := by
  unfold cmdTwinDetach
  apply checked_kept
  rw [okay_kept, State.modTwin_kept]

@[simp] theorem State.setMode_kept (s : State) (m : TwinMode) : (s.setMode m).kept = s.kept := by
  unfold State.setMode
  dsimp only
  split
  · split
    · rw [State.stepEight_kept, State.becomeAlone_kept, State.modTwin_kept, State.modTwin_kept]
    · rw [State.modTwin_kept, State.modTwin_kept, State.modTwin_kept]
  · rw [State.readyCheck_kept, State.linkUp_kept]
    split
    · rw [State.modTwin_kept, State.modTwin_kept]
    · rw [State.modTwin_kept]

@[simp] theorem cmdTwinConfig_kept (o : Origin) (args : List Byte) (s : State) : (cmdTwinConfig o args s).state.kept = s.kept := by
  unfold cmdTwinConfig
  dsimp only
  apply checked_kept
  split
  · rw [okay_kept, State.modTwin_kept, State.modTwin_kept]
  · split
    · rw [okay_kept, State.setMode_kept, State.modTwin_kept]
    · rw [okay_kept, State.modTwin_kept, State.modTwin_kept]

@[simp] theorem cmdTwinStatus_kept (o : Origin) (args : List Byte) (s : State) : (cmdTwinStatus o args s).state.kept = s.kept := by
  unfold cmdTwinStatus
  dsimp only
  simp

/-! ### Takeover.lean -/

@[simp] theorem State.resumeSparge_kept (s : State) (c : StateCopy) : (s.resumeSparge c).kept = s.kept := rfl

@[simp] theorem State.dropSparge_kept (s : State) (c : StateCopy) : (s.dropSparge c).kept = s.kept := by
  unfold State.dropSparge
  dsimp only
  rw [foldl_kept]
  · rfl
  · intro s a
    split
    · rw [State.closeScope_kept, State.setScope_kept, State.openScope_kept]
    · rw [State.openScope_kept]

@[simp] theorem State.coldChains_kept (s : State) (m i : Nat) : (s.coldChains m i).kept = s.kept := by
  unfold State.coldChains
  dsimp only
  split
  · split <;> rfl
  · rfl

@[simp] theorem State.coldCounts_kept (s : State) (i t : Nat) : (s.coldCounts i t).kept = s.kept := by
  unfold State.coldCounts
  split
  · rfl
  · dsimp only
    split <;> rfl

@[simp] theorem State.coldBeam_kept (s : State) (m i : Nat) : (s.coldBeam m i).kept = s.kept := by
  unfold State.coldBeam
  split
  · rfl
  · dsimp only
    split <;> rfl

@[simp] theorem State.coldStart_kept (s : State) (m : Nat) : (s.coldStart m).kept = s.kept := by
  unfold State.coldStart
  dsimp only
  rw [State.modTwin_kept, foldl_kept]
  · rw [foldl_kept]
    · rfl
    · intro s a
      rw [State.coldCounts_kept, State.coldCounts_kept, State.coldChains_kept]
  · intro s a
    rw [State.coldBeam_kept]

@[simp] theorem State.resumeCopies_kept (s : State) (c : StateCopy) : (s.resumeCopies c).kept = s.kept := by
  unfold State.resumeCopies
  rw [foldl_kept]
  intro s a
  simp

@[simp] theorem State.inheritLease_kept (s : State) (c : StateCopy) : (s.inheritLease c).kept = s.kept := rfl

@[simp] theorem State.takeover_kept (s : State) (cause m : Nat) (ready : Bool) : (s.takeover cause m ready).kept = s.kept := by
  unfold State.takeover
  dsimp only
  split
  · rw [State.modTwin_kept, State.takeRole_kept]
  · split
    · rw [State.resumeSparge_kept, State.resumeCopies_kept, State.inheritLease_kept, State.modTwin_kept, State.takeRole_kept]
    · rw [State.coldStart_kept, State.dropSparge_kept, State.resumeCopies_kept, State.inheritLease_kept, State.modTwin_kept, State.takeRole_kept]

@[simp] theorem State.announced_kept (s : State) : s.announced.kept = s.kept := by
  unfold State.announced
  dsimp only
  split
  · rw [State.modTwin_kept]
  · rw [State.raise_kept]
    split
    · rw [State.modTwin_kept]
    · rw [State.drivePins_kept, State.modTwin_kept]

/-! ### Crate.lean -/

@[simp] theorem State.beginPower_kept (s : State) (target : PowerMode) (cause : Nat) : (s.beginPower target cause).kept = s.kept := rfl

@[simp] theorem State.sleepNow_kept (s : State) (cause : Nat) : (s.sleepNow cause).kept = s.kept := by
  unfold State.sleepNow
  split
  · rw [State.beginPower_kept]
  · split <;> rfl

@[simp] theorem State.modSleep_kept (s : State) (f : Sleep → Sleep) : (s.modSleep f).kept = s.kept := by
  rw [State.modSleep, State.modCrate_kept]

@[simp] theorem State.crateTransmit_kept (s : State) (x : CrateTx) (acker : Nat) : (s.crateTransmit x acker).kept = s.kept := by
  unfold State.crateTransmit
  dsimp only
  split
  · rw [State.announced_kept, State.emit_kept, State.modCrate_kept]
  · rw [State.emit_kept, State.modCrate_kept]

@[simp] theorem State.crateGone_kept (s : State) (x : CrateTx) : (s.crateGone x).kept = s.kept := by
  unfold State.crateGone
  split
  · rw [State.sleepNow_kept, State.modSleep_kept]
  · rfl

@[simp] theorem State.crateFail_kept (s : State) : s.crateFail.kept = s.kept := by
  unfold State.crateFail
  split
  · rfl
  · dsimp only
    split
    · rw [State.modCrate_kept]
    · rw [State.raise_kept, foldl_kept]
      · rw [State.modCrate_kept, State.modCrate_kept]
      · intro s a
        rw [State.crateGone_kept]

theorem execCrateTxOpportunity_runsKept (s : State) : RunsKept (execCrateTxOpportunity s) s := by
  unfold execCrateTxOpportunity
  apply RunsKept.next
  split
  · rfl
  · split
    · dsimp only
      split
      · rw [State.crateFail_kept, State.modCrate_kept, State.crateTransmit_kept]
      · rw [State.modCrate_kept, State.modCrate_kept, State.crateTransmit_kept]
    · rw [State.crateTransmit_kept, State.modCrate_kept]
    · rfl

theorem execCrateAckTimeout_runsKept (s : State) : RunsKept (execCrateAckTimeout s) s := by
  unfold execCrateAckTimeout
  apply RunsKept.next
  split
  · rw [State.crateFail_kept]
  · rfl

theorem execCrateHeartbeatPeriod_runsKept (s : State) : RunsKept (execCrateHeartbeatPeriod s) s := by
  unfold execCrateHeartbeatPeriod
  apply RunsKept.next
  split
  · rw [State.crateSend_kept]
  · rfl

theorem execCrateAloneAnnounce_runsKept (s : State) : RunsKept (execCrateAloneAnnounce s) s := by
  unfold execCrateAloneAnnounce
  apply RunsKept.next
  split
  · rw [State.announce_kept]
  · rfl

@[simp] theorem State.crateReceive_kept (s : State) (type : Nat) (f : CrateFrame) : (s.crateReceive type f).2.kept = s.kept := by
  unfold State.crateReceive
  dsimp only
  split
  · simp
  · split <;> simp

theorem execAck_runsKept (f : CrateFrame) (s : State) : RunsKept (execAck f s) s := by
  have h1 := s.crateReceive_kept 1 f
  unfold execAck
  split
  next ok s1 hr =>
  rw [hr] at h1
  dsimp only at h1
  apply RunsKept.next
  split
  · split <;> simp [h1]
  · exact h1

@[simp] theorem State.noteBlock_kept (s : State) (node source role claim : Nat) : (s.noteBlock node source role claim).kept = s.kept := by
  unfold State.noteBlock
  dsimp only
  split
  · rw [State.dropRequester_kept, State.modCrate_kept]
  · rw [State.modCrate_kept]

@[simp] theorem State.loseNode_kept (s : State) (node : Nat) : (s.loseNode node).kept = s.kept := by
  unfold State.loseNode
  dsimp only
  rw [foldl_kept]
  · rw [State.modCrate_kept]
  · intro s a
    rw [State.dropRequester_kept]

@[simp] theorem State.stateBlockIn_kept (s : State) (type : Nat) (f : CrateFrame) : (s.stateBlockIn type f).kept = s.kept := by
  simp [State.stateBlockIn]

theorem execBoot_runsKept (f : CrateFrame) (s : State) : RunsKept (execBoot f s) s := by
  simp [execBoot]

@[simp] theorem State.sendBoot_kept (s : State) : s.sendBoot.kept = s.kept := by
  rw [State.sendBoot, State.crateSend_kept]

@[simp] theorem State.sleepAborted_kept (s : State) (proposal cause node : Nat) : (s.sleepAborted proposal cause node).kept = s.kept := by
  rw [State.sleepAborted, State.raise_kept, State.modCrate_kept]

@[simp] theorem State.abortProposal_kept (s : State) (cause node : Nat) : (s.abortProposal cause node).kept = s.kept := by
  unfold State.abortProposal
  split
  · rfl
  · rw [State.sleepAborted_kept]
    split <;> simp

theorem execSleepPropose_runsKept (f : CrateFrame) (s : State) : RunsKept (execSleepPropose f s) s := by
  have h1 := s.crateReceive_kept 0x10 f
  unfold execSleepPropose
  split
  next ok s1 hr =>
  rw [hr] at h1
  dsimp only at h1
  apply RunsKept.next
  split
  · exact h1
  · dsimp only
    rw [State.ite_kept, State.modSleep_kept, ite_self, State.crateSend_kept]
    split
    · split
      · rw [State.abortProposal_kept, h1]
      · exact h1
    · exact h1

theorem execSleepVote_runsKept (f : CrateFrame) (s : State) : RunsKept (execSleepVote f s) s := by
  have h1 := s.crateReceive_kept 0x11 f
  unfold execSleepVote
  split
  next ok s1 hr =>
  rw [hr] at h1
  dsimp only at h1
  apply RunsKept.next
  split
  · exact h1
  · split
    · rw [State.abortProposal_kept, h1]
    · dsimp only
      split
      · split
        · rw [State.finishRunning_kept, State.crateSend_kept, State.modSleep_kept, h1]
        · rw [State.crateSend_kept, State.modSleep_kept, h1]
      · rw [State.modSleep_kept, h1]

theorem execSleepCommit_runsKept (f : CrateFrame) (s : State) : RunsKept (execSleepCommit f s) s := by
  have h1 := s.crateReceive_kept 0x12 f
  unfold execSleepCommit
  split
  next ok s1 hr =>
  rw [hr] at h1
  dsimp only at h1
  apply RunsKept.next
  split
  · split
    · dsimp only
      split
      · rw [State.sleepNow_kept, State.modSleep_kept, h1]
      · split
        · rw [State.modSleep_kept, h1]
        · rw [State.beginPower_kept, State.kept_update, State.modSleep_kept, h1]
    · exact h1
  · exact h1

theorem execSleepAbort_runsKept (f : CrateFrame) (s : State) : RunsKept (execSleepAbort f s) s := by
  have h1 := s.crateReceive_kept 0x13 f
  unfold execSleepAbort
  split
  next ok s1 hr =>
  rw [hr] at h1
  dsimp only at h1
  apply RunsKept.next
  split
  · split <;> simp [h1]
  · exact h1

@[simp] theorem State.leaveDormant_kept (s : State) (named : Option PowerMode) : (s.leaveDormant named).kept = s.kept := by
  unfold State.leaveDormant
  dsimp only
  split
  · rw [State.beginPower_kept]
    rfl
  · rfl

@[simp] theorem State.wakeRequest_kept (s : State) (named : Option PowerMode) (local_ : Bool) : (s.wakeRequest named local_).kept = s.kept := by
  unfold State.wakeRequest
  extract_lets s1 sl s2 entering
  have h1 : s1.kept = s.kept := by
    dsimp only [s1]
    split
    · rw [State.crateSend_kept]
    · rfl
  have h2 : s2.kept = s1.kept := by
    dsimp only [s2]
    split
    · rw [State.crateSend_kept, State.modSleep_kept]
    · split
      · rw [State.abortProposal_kept]
      · rfl
  rw [← h1, ← h2]
  clear_value s2 entering sl
  split
  · rfl
  · split
    · rw [State.leaveDormant_kept]
    · split_ifs
      · rfl
      · rfl
      · rfl
      · rw [State.modSleep_kept]

theorem execWake_runsKept (f : CrateFrame) (s : State) : RunsKept (execWake f s) s := by
  simp [execWake]

theorem execSleepVoteTimeout_runsKept (s : State) : RunsKept (execSleepVoteTimeout s) s := by
  unfold execSleepVoteTimeout
  apply RunsKept.next
  split
  · rfl
  · rw [State.abortProposal_kept]

theorem execSleepOutcomeTimeout_runsKept (s : State) : RunsKept (execSleepOutcomeTimeout s) s := by
  unfold execSleepOutcomeTimeout
  apply RunsKept.next
  split
  · rw [State.sleepAborted_kept, State.modSleep_kept]
  · rfl

@[simp] theorem cmdCrateConfig_kept (o : Origin) (args : List Byte) (s : State) : (cmdCrateConfig o args s).state.kept = s.kept := by
  unfold cmdCrateConfig
  apply checked_kept
  rw [okay_kept, State.modCrate_kept]

@[simp] theorem cmdCrateStatus_kept (o : Origin) (args : List Byte) (s : State) : (cmdCrateStatus o args s).state.kept = s.kept := by
  unfold cmdCrateStatus
  dsimp only
  simp

/-! ### Matrix.lean -/

@[simp] theorem State.modStack_kept (s : State) (die : Nat) (f : HbmStack → HbmStack) : (s.modStack die f).kept = s.kept := rfl

@[simp] theorem State.eccRead_kept (s : State) (die a : Nat) (ecc : EccSeen) : (s.eccRead die a ecc).kept = s.kept := by
  unfold State.eccRead
  split
  · rfl
  · rfl
  · rw [State.modStack_kept]
  · rw [State.modStack_kept]

@[simp] theorem State.defaultTarget_kept (s : State) (m : Master) (die a : Nat) : (s.defaultTarget m die a).kept = s.kept := by
  unfold State.defaultTarget
  dsimp only
  split
  · rw [State.setDefaultTarget_kept]
    split
    · rw [State.raise_kept]
      rfl
    · rfl
  · split
    · rw [State.raise_kept]
      rfl
    · rfl
  · split
    · rw [State.raise_kept]
      rfl
    · rfl
  · rw [State.setFault_kept]
    split
    · rw [State.raise_kept]
      rfl
    · rfl

/-! ### HostRegs.lean -/

@[simp] theorem State.modRegs_kept (s : State) (f : HostRegs → HostRegs) : (s.modRegs f).kept = s.kept := rfl

@[simp] theorem State.modEvents_kept (s : State) (f : EventQueue → EventQueue) : (s.modEvents f).kept = s.kept := rfl

@[simp] theorem State.modIntr_kept (s : State) (f : Interrupts → Interrupts) : (s.modIntr f).kept = s.kept := rfl

@[simp] theorem State.modDma_kept (s : State) (h : Nat) (f : DmaChannel → DmaChannel) : (s.modDma h f).kept = s.kept := rfl

@[simp] theorem State.readReg_kept (s : State) (off : Nat) : (s.readReg off).2.kept = s.kept := by
  unfold State.readReg
  split
  · rw [State.readCalSec_kept]
  · dsimp only
    split
    · rw [State.modEvents_kept]
    · rfl

@[simp] theorem State.mbDenied_kept (s : State) : s.mbDenied.kept = s.kept := by
  rw [State.mbDenied, State.setGlobalErr_kept]

@[simp] theorem State.claimBox_kept (s : State) (who : Option Nat) (m : Nat) : (s.claimBox who m).kept = s.kept := by
  unfold State.claimBox
  dsimp only
  split
  · split
    · rw [State.modBox_kept]
    · split
      · rfl
      · rw [State.mbDenied_kept]
  · rw [State.mbDenied_kept]

@[simp] theorem State.releaseBox_kept (s : State) (who : Option Nat) (m : Nat) : (s.releaseBox who m).kept = s.kept := by
  unfold State.releaseBox
  split
  · rw [State.modBox_kept]
  · rw [State.mbDenied_kept]

@[simp] theorem State.ringBox_kept (s : State) (who : Option Nat) (m : Nat) : (s.ringBox who m).kept = s.kept := by
  unfold State.ringBox
  dsimp only
  split
  · rw [State.mbDenied_kept]
  · split
    · rfl
    · rw [State.modBox_kept]

@[simp] theorem State.ownerWrite_kept (s : State) (who : Option Nat) (m : Nat) (f : Mailbox → Mailbox) : (s.ownerWrite who m f).kept = s.kept := by
  unfold State.ownerWrite
  dsimp only
  split
  · rw [State.mbDenied_kept]
  · split
    · rw [State.setGlobalErr_kept]
    · rw [State.modBox_kept]

@[simp] theorem State.writeBox_kept (s : State) (who : Option Nat) (m off : Nat) (v : Word) : (s.writeBox who m off v).kept = s.kept := by
  unfold State.writeBox
  split
  · rw [State.ownerWrite_kept]
  · split
    · split
      · rfl
      · simp
    · split
      · rw [State.ownerWrite_kept]
      · simp

@[simp] theorem State.writeEqCons_kept (s : State) (v : Word) : (s.writeEqCons v).kept = s.kept := by
  unfold State.writeEqCons
  dsimp only
  split
  · rw [State.setGlobalErr_kept]
  · rw [State.modEvents_kept]

@[simp] theorem State.writeCqCons_kept (s : State) (c : Nat) (v : Word) : (s.writeCqCons c v).kept = s.kept := by
  unfold State.writeCqCons
  dsimp only
  split
  · rw [State.setGlobalErr_kept]
  · rw [State.releaseHeld_kept]
    rfl

@[simp] theorem State.writeIrqThresh_kept (s : State) (v : Word) : (s.writeIrqThresh v).kept = s.kept := by
  unfold State.writeIrqThresh
  dsimp only
  rw [State.setHolding_kept, State.modEvents_kept]

@[simp] theorem State.writeQueue_kept (s : State) (off : Nat) (v : Word) : (s.writeQueue off v).kept = s.kept := by
  unfold State.writeQueue
  split
  · rw [State.writeEqCons_kept]
  · split
    · rw [State.writeIrqThresh_kept]
    · split
      · rw [State.writeCqCons_kept]
      · rfl

@[simp] theorem State.clearCauses_kept (s : State) (v : Word) : (s.clearCauses v).kept = s.kept := by
  unfold State.clearCauses
  dsimp only
  rw [State.setHolding_kept, State.modIntr_kept]

@[simp] theorem State.writeMask_kept (s : State) (v : Word) : (s.writeMask v).kept = s.kept := by
  unfold State.writeMask
  dsimp only
  rw [foldl_kept]
  · rw [State.modIntr_kept]
  · intro s a
    rw [State.sendMessage_kept]

@[simp] theorem State.writeTable_kept (s : State) (k : Nat) (v : Word) : (s.writeTable k v).kept = s.kept := by
  unfold State.writeTable
  dsimp only
  split
  · rw [State.emit_kept, State.modIntr_kept, State.modIntr_kept]
  · rw [State.modIntr_kept]

@[simp] theorem State.writeInterrupt_kept (s : State) (off : Nat) (v : Word) : (s.writeInterrupt off v).kept = s.kept := by
  unfold State.writeInterrupt
  split
  · rw [State.writeTable_kept]
  · split
    · rw [State.clearCauses_kept]
    · split
      · rw [State.writeMask_kept]
      · simp

@[simp] theorem State.dmaCause_kept (s : State) (h : Nat) : (s.dmaCause h).kept = s.kept := by
  unfold State.dmaCause
  split
  · rw [State.setCause_kept]
  · rfl

@[simp] theorem State.dmaDone_kept (s : State) (h : Nat) : (s.dmaDone h).kept = s.kept := by
  rw [State.dmaDone, State.dmaCause_kept, State.modDma_kept]

@[simp] theorem State.dmaError_kept (s : State) (h code : Nat) : (s.dmaError h code).kept = s.kept := by
  rw [State.dmaError, State.dmaCause_kept, State.modDma_kept]

@[simp] theorem State.dmaBegin_kept (s : State) (h : Nat) : (s.dmaBegin h).kept = s.kept := by
  unfold State.dmaBegin
  dsimp only
  split
  · rw [State.setGlobalErr_kept, State.modDma_kept]
  · split
    · rw [State.dmaError_kept]
    · split
      · rw [State.dmaDone_kept]
      · rw [State.modDma_kept]

@[simp] theorem State.freshBytes_kept (s : State) (n : Nat) : (s.freshBytes n).2.kept = s.kept := by
  simp [State.freshBytes]

@[simp] theorem State.overlapped_kept (s : State) (c : DmaChannel) (d : List Byte) : (s.overlapped c d).2.kept = s.kept := by
  unfold State.overlapped
  dsimp only
  split <;> simp

@[simp] theorem State.dmaOp_kept (s : State) (c : DmaChannel) : (s.dmaOp c).2.kept = s.kept := by
  unfold State.dmaOp
  split <;> simp

@[simp] theorem State.someOf_kept (s : State) (fixed : Bool) (n : Nat) : (s.someOf fixed n).2.kept = s.kept := by
  simp [State.someOf]

@[simp] theorem State.dmaPut_kept (s : State) (a : Nat) (fixed : Bool) (d : List Byte) : (s.dmaPut a fixed d).kept = s.kept := by
  unfold State.dmaPut
  split
  · rw [foldl_kept]
    intro s a
    rw [State.pkgWrite_kept]
  · rw [State.pkgWrite_kept]

@[simp] theorem State.dmaPartial_kept (s : State) (c : DmaChannel) : (s.dmaPartial c).kept = s.kept := by
  have h0 := s.dmaOp_kept c
  unfold State.dmaPartial
  split
  next op s0 hr =>
  rw [hr] at h0
  dsimp only at h0
  extract_lets n fs fd
  split
  · exact h0
  · have h1 := s0.someOf_kept (fd || (fs && op == 0)) (min (if op = 0 then s0.dmaStop c.src fs false n else n) (s0.dmaStop c.dst fd true n))
    split
    next k s1 hk =>
    rw [hk] at h1
    dsimp only at h1
    split
    next d s2 hd =>
    have h2 : s2.kept = s1.kept := by
      split at hd
      · cases hd
        rfl
      · split at hd
        · rw [← s1.freshBytes_kept k, hd]
        · exact (congrArg (fun p => p.2.kept) hd).symm.trans ((State.overlapped_kept ..).trans (s1.pkgRead_kept ..))
    split
    · rw [State.emit_kept, h2, h1, h0]
    · rw [State.dmaPut_kept, h2, h1, h0]

@[simp] theorem State.dmaControl_kept (s : State) (h : Nat) (v : Word) : (s.dmaControl h v).kept = s.kept := by
  unfold State.dmaControl
  dsimp only
  split
  · rw [State.dmaError_kept, State.dmaPartial_kept]
    split
    · rw [State.dmaBegin_kept, State.modDma_kept]
    · rw [State.modDma_kept]
  · split
    · rw [State.dmaBegin_kept, State.modDma_kept]
    · rw [State.modDma_kept]

@[simp] theorem State.writeDma_kept (s : State) (h off : Nat) (v : Word) : (s.writeDma h off v).kept = s.kept := by
  unfold State.writeDma
  split
  · split
    · rfl
    · rw [State.modDma_kept]
  · split
    · rw [State.dmaControl_kept]
    · split
      · rw [State.modDma_kept]
      · rfl

@[simp] theorem State.writeCal_kept (s : State) (off : Nat) (v : Word) : (s.writeCal off v).kept = s.kept := by
  unfold State.writeCal
  split
  · rw [State.modCal_kept]
  · split
    · rw [State.modCal_kept]
    · split
      · rw [State.modCal_kept]
      · simp

@[simp] theorem State.writeIdentity_kept (s : State) (off : Nat) (v : Word) : (s.writeIdentity off v).kept = s.kept := by
  unfold State.writeIdentity
  split
  · rw [State.modRegs_kept]
  · split <;> rfl

@[simp] theorem State.writeReg_kept (s : State) (m : Master) (who : Option Nat) (off : Nat) (v : Word) : (s.writeReg m who off v).kept = s.kept := by
  unfold State.writeReg
  split
  · rw [State.defaultTarget_kept]
  · split
    · rw [State.writeIdentity_kept]
    · split
      · rw [State.writeInterrupt_kept]
      · simp

@[simp] theorem State.regsWrite_kept (s : State) (m : Master) (who : Option Nat) (off : Nat) (d : List Byte) :
    (s.regsWrite m who off d).kept = s.kept := by
  unfold State.regsWrite
  rw [foldl_kept]
  intro s a
  rw [State.writeReg_kept]

@[simp] theorem State.regsRead_kept (s : State) (off n : Nat) : (s.regsRead off n).2.kept = s.kept := by
  unfold State.regsRead
  dsimp only
  rw [foldl_snd_kept]
  intro acc k
  exact State.readReg_kept acc.2 k

@[simp] theorem State.busRead_kept (s : State) (a n : Nat) : (s.busRead a n).2.kept = s.kept := by
  unfold State.busRead
  split
  · rw [State.regsRead_kept]
  · rw [State.pkgRead_kept]

@[simp] theorem State.busWrite_kept (s : State) (m : Master) (who : Option Nat) (a : Nat) (d : List Byte) : (s.busWrite m who a d).kept = s.kept := by
  unfold State.busWrite
  split
  · rw [State.regsWrite_kept]
  · rw [State.pkgWrite_kept]

/-! ### Schedule.lean -/

@[simp] theorem State.shortOf_kept (s : State) (x : WorkItem) : (s.shortOf x).kept = s.kept := by
  unfold State.shortOf
  split
  · split
    · rw [State.writeFull_kept]
    · rfl
  · split
    · rw [State.stripLost_kept]
    · rfl

@[simp] theorem State.keepRow_kept (s : State) (die cap : Nat) (r : RowTile) : (s.keepRow die cap r).kept = s.kept := by
  unfold State.keepRow
  dsimp only
  split
  · rfl
  · split
    · rw [State.modDie_kept]
    · rw [State.modDie_kept, State.fresh_kept]

@[simp] theorem State.stageFor_kept (s : State) (d : DumpRef) (replay : Bool) : (s.stageFor d replay).kept = s.kept := by
  unfold State.stageFor
  split
  · rfl
  · dsimp only
    split
    · rfl
    · rw [State.keepRow_kept]
      split
      · rw [State.modDie_kept]
      · simp

@[simp] theorem State.startItem_kept (s : State) (die tile : Nat) (x : WorkItem) (r : Option Replay) : (s.startItem die tile x r).kept = s.kept := by
  unfold State.startItem
  dsimp only
  rw [State.modDie_kept]
  split
  · rw [State.stageFor_kept]
  · rfl

theorem State.serveReplay_kept {s t : State} {die : Nat} {r : Replay} (h : s.serveReplay die r = some t) : t.kept = s.kept := by
  unfold State.serveReplay at h
  dsimp only at h
  split at h
  · rw [← Option.some.inj h]
    simp
  · obtain ⟨_, _, rfl⟩ := Option.map_eq_some_iff.mp h
    simp

theorem State.dealNew_kept {s t : State} {die : Nat} {x : WorkItem} (h : s.dealNew die x = some t) : t.kept = s.kept := by
  unfold State.dealNew at h
  dsimp only at h
  split at h
  · rw [← Option.some.inj h]
    simp
  · split at h
    · cases h
    · obtain ⟨_, _, rfl⟩ := Option.map_eq_some_iff.mp h
      simp

theorem State.dealOne_kept {s t : State} {die : Nat} (h : s.dealOne die = some t) : t.kept = s.kept := by
  unfold State.dealOne at h
  split at h
  · exact State.serveReplay_kept h
  · exact State.dealNew_kept h
  · cases h

@[simp] theorem State.dealUpTo_kept (die n : Nat) (s : State) : (State.dealUpTo die n s).kept = s.kept := by
  induction n generalizing s with
  | zero => rfl
  | succ n ih =>
    unfold State.dealUpTo
    split
    case h_1 t h => rw [ih, State.dealOne_kept h]
    case h_2 => rfl

@[simp] theorem State.deal_kept (s : State) (die : Nat) : (s.deal die).kept = s.kept := by
  rw [State.deal, State.dealUpTo_kept]

@[simp] theorem State.openWork_kept (s : State) (die : Nat) : (s.openWork die).kept = s.kept := by
  rw [State.openWork, State.deal_kept, State.modDie_kept]

@[simp] theorem State.freeUp_kept (s : State) (die : Nat) (b : TileWork) : (s.freeUp die b).kept = s.kept := by
  rw [State.freeUp, State.modDie_kept]

@[simp] theorem State.holdDump_kept (s : State) (d : DumpRef) (cells : List (Int × Int)) : (s.holdDump d cells).kept = s.kept := by
  unfold State.holdDump
  rw [State.requestReplay_kept]
  rfl

@[simp] theorem State.takeRun_kept (s : State) (e : PipeEntry) (d : DumpRef) (r : TileRun) (misses : List Nat) :
    (s.takeRun e d r misses).kept = s.kept := by
  unfold State.takeRun
  split
  · rw [State.tileFault_kept]
  · split
    · rw [State.holdDump_kept]
    · rw [State.dumpAdd_kept]

@[simp] theorem State.tileDump_kept (s : State) (d : DumpRef) (errs : List TileError) : (s.tileDump d errs).kept = s.kept := by
  unfold State.tileDump
  split
  · simp
  · rfl

theorem execTileDump_runsKept (d : DumpRef) (errs : List TileError) (s : State) : RunsKept (execTileDump d errs s) s := by
  unfold execTileDump
  apply RunsKept.next
  split
  · rw [State.tileDump_kept]
  · rfl

@[simp] theorem State.countReplay_kept (s : State) (d : DumpRef) (fault overflow : Bool) : (s.countReplay d fault overflow).kept = s.kept := by
  rw [State.countReplay, State.modCorr_kept]

@[simp] theorem State.takeReplay_kept (s : State) (e : PipeEntry) (d : DumpRef) (fault : Bool) (r : TileRun) (misses : List Nat) :
    (s.takeReplay e d fault r misses).kept = s.kept := by
  unfold State.takeReplay
  split
  · split
    · rw [State.tileFault_kept]
    · dsimp only
      rw [State.dumpAdd_kept, State.kept_update, State.countReplay_kept]
  · rw [State.takeRun_kept]
    split
    · rw [State.countReplay_kept]
    · rfl

@[simp] theorem State.replayDump_kept (s : State) (d : DumpRef) (errs : List TileError) : (s.replayDump d errs).kept = s.kept := by
  unfold State.replayDump
  split
  · simp
  · rfl

theorem execReplayDump_runsKept (d : DumpRef) (errs : List TileError) (s : State) : RunsKept (execReplayDump d errs s) s := by
  unfold execReplayDump
  apply RunsKept.next
  split
  · rw [State.replayDump_kept]
  · rfl

@[simp] theorem State.stripFault_kept (s : State) (e : PipeEntry) (d : StripRef) : (s.stripFault e d).kept = s.kept := by
  unfold State.stripFault
  dsimp only
  rw [State.tileOut_kept, State.modDie_kept, State.modBeamCount_kept, State.noteFault_kept]

@[simp] theorem State.takeStrip_kept (s : State) (e : PipeEntry) (d : StripRef) (errs : List TileError) : (s.takeStrip e d errs).kept = s.kept := by
  unfold State.takeStrip
  split
  · rw [State.stripSettle_kept, State.meetBad_kept]
  · simp

@[simp] theorem State.stripDone_kept (s : State) (d : StripRef) (errs : List TileError) : (s.stripDone d errs).kept = s.kept := by
  unfold State.stripDone
  split
  · rw [State.deal_kept, State.takeStrip_kept, State.freeUp_kept]
  · rfl

theorem execStripDone_runsKept (d : StripRef) (errs : List TileError) (s : State) : RunsKept (execStripDone d errs s) s := by
  unfold execStripDone
  apply RunsKept.next
  split
  · rw [State.stripDone_kept]
  · rfl

@[simp] theorem State.closeItem_kept (s : State) (x : WorkItem) : (s.closeItem x).kept = s.kept := by
  unfold State.closeItem
  split
  · rw [State.shortOf_kept]
  · split
    · rw [State.shortOf_kept]
    · split
      · rw [State.stripSettle_kept]
      · rfl

@[simp] theorem State.closeDie_kept (s : State) (die : Nat) : (s.closeDie die).kept = s.kept := by
  unfold State.closeDie
  dsimp only
  split
  · rw [State.raise_kept, State.modDie_kept, foldl_kept]
    intro s a
    rw [State.closeItem_kept]
  · rw [State.modDie_kept, foldl_kept]
    intro s a
    rw [State.closeItem_kept]

/-! ### Fabric.lean -/

theorem execHbmRefresh_runsKept (die : Nat) (eyeOffset : Int) (s : State) : RunsKept (execHbmRefresh die eyeOffset s) s := by
  unfold execHbmRefresh
  apply RunsKept.next
  split
  · rfl
  · rw [State.modStack_kept]

theorem execHbmActivate_runsKept (die bank row : Nat) (s : State) : RunsKept (execHbmActivate die bank row s) s := by
  unfold execHbmActivate
  dsimp only
  apply RunsKept.next
  rw [State.modStack_kept]

theorem execNeighbourRefreshSecond_runsKept (s : State) : RunsKept (execNeighbourRefreshSecond s) s := by
  unfold execNeighbourRefreshSecond
  apply RunsKept.next
  rw [foldl_kept]
  intro s a
  dsimp only
  split
  · rfl
  · rw [State.raise_kept, State.modStack_kept]

theorem execScrubRead_runsKept (die addr : Nat) (ecc : EccSeen) (s : State) : RunsKept (execScrubRead die addr ecc s) s := by
  unfold execScrubRead
  dsimp only
  apply RunsKept.next
  split
  · rfl
  · split
    · split
      · rw [State.modStack_kept]
      · rw [State.eccRead_kept]
    · rw [State.modStack_kept]
      split
      · rw [State.modStack_kept]
      · rw [State.eccRead_kept]

@[simp] theorem State.columnLost_kept (s : State) (die tile : Nat) : (s.columnLost die tile).kept = s.kept := by
  unfold State.columnLost
  split
  · split
    · rw [State.deal_kept, State.requestReplay_kept, State.freeUp_kept]
    · rfl
  · rfl

@[simp] theorem State.sramLost_kept (s : State) (die code : Nat) (what : SramHolds) : (s.sramLost die code what).kept = s.kept := by
  cases what with
  | unused => simp [State.sramLost]
  | column tile => simp [State.sramLost]
  | bits pipe position contributor slot ch mash cells => simp [State.sramLost]
  | plane pipe bank ch tp => simp [State.sramLost]
  | rowTile k =>
    simp only [State.sramLost]
    split
    · split
      · rw [State.modCorr_kept]
      · rfl
    · rfl
  | samples pipe tick input ch first count => simp [State.sramLost]
  | datagram pipe tickScope => simp [State.sramLost]

@[simp] theorem State.sramRead_kept (s : State) (a : Nat) (seen : SramSeen) : (s.sramRead a seen).kept = s.kept := by
  unfold State.sramRead
  split
  · rfl
  · dsimp only
    split
    · rfl
    · rw [State.modStack_kept]
    · rw [State.sramLost_kept, State.modStack_kept]

@[simp] theorem State.noteServed_kept (s : State) (r : MatrixRequest) : (s.noteServed r).kept = s.kept := rfl

@[simp] theorem State.forward_kept (s0 : State) (r : MatrixRequest) : (s0.forward r).kept = s0.kept := by
  unfold State.forward
  extract_lets s
  have hs : s.kept = s0.kept := State.noteServed_kept ..
  split
  · rfl
  · split
    · split
      · exact hs
      · split
        · rw [State.pokeLogs_kept, hs]
        · rw [State.busWrite_kept, hs]
    · split
      next data s1 hr =>
      have h1 : s1.kept = s0.kept := by
        split at hr
        · cases hr
          exact hs
        · rw [← hs, ← s.busRead_kept r.addr r.len, hr]
      extract_lets s2
      split
      · rw [State.emit_kept, State.sramRead_kept, h1]
      · rw [State.sramRead_kept, h1]

@[simp] theorem State.matrixRequest_kept (s : State) (r : MatrixRequest) : (s.matrixRequest r).kept = s.kept := by
  unfold State.matrixRequest
  extract_lets n t
  have ht : t.kept = s.kept := State.defaultTarget_kept ..
  clear_value n t
  split
  · split
    · rw [State.emit_kept, ht]
    · exact ht
  · split
    · rfl
    · rw [State.forward_kept]

@[simp] theorem State.releaseUpTo_kept (n : Nat) (s : State) : (State.releaseUpTo n s).kept = s.kept := by
  induction n generalizing s with
  | zero => rfl
  | succ n ih =>
    unfold State.releaseUpTo
    split
    · rfl
    · rw [ih, State.forward_kept, State.kept_update]

@[simp] theorem State.giveSpace_kept (s : State) : s.giveSpace.kept = s.kept := by
  unfold State.giveSpace
  dsimp only
  rfl

@[simp] theorem State.releaseRequests_kept (s : State) : s.releaseRequests.kept = s.kept := by
  rw [State.releaseRequests, State.releaseUpTo_kept, State.giveSpace_kept]

@[simp] theorem State.fillBuffer_kept (s : State) (die fill : Nat) : (s.fillBuffer die fill).kept = s.kept := by
  unfold State.fillBuffer
  dsimp only
  split
  · rw [State.modStack_kept]
  · split <;> rw [State.modStack_kept]

@[simp] theorem State.reportPanics_kept (s : State) (tick : Nat) : (s.reportPanics tick).kept = s.kept := by
  unfold State.reportPanics
  rw [foldl_kept]
  intro s a
  dsimp only
  split
  · rfl
  · rw [State.raise_kept, State.modStack_kept]

@[simp] theorem State.onSlotWord_kept (s : State) (pipe die addr : Nat) (f : Nat → Bool → Int → Int × Bool) :
    (s.onSlotWord pipe die addr f).kept = s.kept := by
  unfold State.onSlotWord
  dsimp only
  rfl

@[simp] theorem State.wordAdd_kept (s : State) (pipe die bank addr n : Nat) (parts : List Int) (ecc : EccSeen) :
    (s.wordAdd pipe die bank addr n parts ecc).kept = s.kept := by
  unfold State.wordAdd
  dsimp only
  split
  · split
    · rw [State.addWord_kept, State.eccRead_kept]
    · split
      · rw [State.poisonWords_kept, State.healWords_kept, State.memWrite_kept, State.eccRead_kept]
      · rw [State.noteSaturation_kept, State.modTile_kept, State.poisonWords_kept, State.healWords_kept, State.memWrite_kept, State.eccRead_kept]
  · rw [State.onSlotWord_kept, State.healWords_kept, State.memWrite_kept, State.eccRead_kept]

@[simp] theorem State.wordFresh_kept (s : State) (pipe die bank addr : Nat) (word : List Byte) :
    (s.wordFresh pipe die bank addr word).kept = s.kept := by
  unfold State.wordFresh
  dsimp only
  split
  · rw [State.modTile_kept, State.healWords_kept, State.memWrite_kept]
  · rw [State.onSlotWord_kept, State.kept_update, State.healWords_kept, State.memWrite_kept]

@[simp] theorem State.wordFull_kept (s : State) (pipe die bank addr : Nat) (deep : Bool) (ecc : EccSeen) :
    (s.wordFull pipe die bank addr deep ecc).kept = s.kept := by
  unfold State.wordFull
  dsimp only
  split
  · rw [State.poisonWords_kept, State.modTile_kept, State.healWords_kept, State.memWrite_kept, State.eccRead_kept]
  · rw [State.healWords_kept, State.memWrite_kept, State.eccRead_kept]

@[simp] theorem State.adderOp_kept (s : State) (die addr : Nat) (o : AdderOp) (ecc : EccSeen) : (s.adderOp die addr o ecc).kept = s.kept := by
  unfold State.adderOp
  split
  · rw [State.wordAdd_kept]
  · rw [State.wordAdd_kept]
  · rw [State.wordFresh_kept]
  · rw [State.wordFull_kept]

@[simp] theorem State.hbmServe_kept (s : State) (die : Nat) (x : MatrixRequest × Nat) (full : Bool) (ecc : EccSeen) :
    (s.hbmServe die x full ecc).kept = s.kept := by
  unfold State.hbmServe
  dsimp only
  split
  · rw [State.adderOp_kept, State.noteServed_kept]
    rfl
  · split
    · split
      · rw [State.modStack_kept, State.noteServed_kept]
        rfl
      · simp
    · split
      · rw [State.emit_kept, State.pkgRead_kept, State.eccRead_kept, State.noteServed_kept]
        rfl
      · simp

@[simp] theorem State.serveNamed_kept (die n : Nat) (s : State) : (State.serveNamed die n s).kept = s.kept := by
  induction n generalizing s with
  | zero => rfl
  | succ n ih =>
    unfold State.serveNamed
    split
    · rfl
    · rw [ih, State.hbmServe_kept, State.modStack_kept]

@[simp] theorem State.hbmArrive_kept (s : State) (r : MatrixRequest) : (s.hbmArrive r).2.kept = s.kept := by
  unfold State.hbmArrive
  split <;> simp

@[simp] theorem State.name_kept (s : State) (die : Nat) (r : MatrixRequest) (realTime : Bool) (ecc : EccSeen) :
    (s.name die r realTime ecc).kept = s.kept := by
  simp [State.name]

@[simp] theorem State.hbmRequest_kept (s : State) (die : Nat) (r : MatrixRequest) (realTime : Bool) (fill : Nat) (ecc : EccSeen) :
    (s.hbmRequest die r realTime fill ecc).kept = s.kept := by
  unfold State.hbmRequest
  split
  · dsimp only
    split
    · rw [State.releaseRequests_kept, State.hbmServe_kept, State.fillBuffer_kept]
    · rw [State.name_kept, State.fillBuffer_kept]
  · rw [State.name_kept]

theorem execTunAdderOp_runsKept (pipe die bank addr : Nat) (op : TunOp) (ecc : EccSeen) (s : State) :
    RunsKept (execTunAdderOp pipe die bank addr op ecc s) s := by
  unfold execTunAdderOp
  dsimp only
  apply RunsKept.next
  rw [State.name_kept]

@[simp] theorem cmdMatrixPriority_kept (o : Origin) (args : List Byte) (s : State) : (cmdMatrixPriority o args s).state.kept = s.kept := by
  unfold cmdMatrixPriority
  dsimp only
  apply checked_kept
  rw [okay_kept]
  rfl

@[simp] theorem cmdMatrixSlices_kept (o : Origin) (args : List Byte) (s : State) : (cmdMatrixSlices o args s).state.kept = s.kept := by
  unfold cmdMatrixSlices
  dsimp only
  apply checked_kept
  rw [okay_kept]
  rfl

@[simp] theorem cmdHbmStatus_kept (o : Origin) (args : List Byte) (s : State) : (cmdHbmStatus o args s).state.kept = s.kept := by
  unfold cmdHbmStatus
  dsimp only
  apply checked_kept
  simp

@[simp] theorem cmdHbmHammerConfig_kept (o : Origin) (args : List Byte) (s : State) : (cmdHbmHammerConfig o args s).state.kept = s.kept := by
  unfold cmdHbmHammerConfig
  apply checked_kept
  rw [okay_kept, foldl_kept]
  intro s a
  rw [State.modStack_kept]

@[simp] theorem cmdSramMap_kept (o : Origin) (args : List Byte) (s : State) : (cmdSramMap o args s).state.kept = s.kept := by
  unfold cmdSramMap
  apply checked_kept
  simp

/-! ### Kiln.lean -/

@[simp] theorem State.kilnOut_kept (s : State) (e : KilnElement) : (s.kilnOut e).kept = s.kept := by
  unfold State.kilnOut
  dsimp only
  rw [State.evident_kept]
  split
  · rw [State.modRx_kept]
  · rw [State.modTx_kept]
  · split
    · rw [State.modTwinRx_kept]
    · rfl
  · rw [State.modDie_kept]
  · rfl

@[simp] theorem State.kilnFail_kept (s : State) (e : KilnElement) (worst : Int) : (s.kilnFail e worst).kept = s.kept := by
  unfold State.kilnFail
  dsimp only
  rw [State.raise_kept, State.fresh_kept]

@[simp] theorem State.kilnMeasured_kept (s : State) (e : KilnElement) (r : KilnReading) (now : Bool) : (s.kilnMeasured e r now).kept = s.kept := by
  unfold State.kilnMeasured
  dsimp only
  split
  · rw [State.kept_update, State.modKiln_kept]
  · rw [State.modKiln_kept]

@[simp] theorem State.beginPass_kept (s : State) (e : KilnElement) : (s.beginPass e).kept = s.kept := by
  unfold State.beginPass
  dsimp only
  split
  · rw [State.refCheck_kept, State.modRx_kept, State.modKiln_kept]
  · rw [State.modSpareTx_kept, State.modTx_kept, State.modKiln_kept]
  · split
    · rw [State.refCheck_kept, State.modTwinRx_kept, State.modKiln_kept]
    · rw [State.kept_update, State.modKiln_kept]
  · rw [State.modDie_kept, State.modKiln_kept]
  · rw [State.modKiln_kept]

@[simp] theorem State.tryPass_kept (s : State) (e : KilnElement) : (s.tryPass e).kept = s.kept := by
  unfold State.tryPass
  dsimp only
  split
  · rfl
  · split
    · rw [State.beginPass_kept]
    · split
      · rw [State.startSpare_kept]
      · rfl

@[simp] theorem State.tryPasses_kept (s : State) : s.tryPasses.kept = s.kept := by
  unfold State.tryPasses
  rw [foldl_kept]
  intro s a
  rw [State.tryPass_kept]

theorem execLaneSpareSwitch_runsKept (die : Nat) (s : State) : RunsKept (execLaneSpareSwitch die s) s := by
  unfold execLaneSpareSwitch
  dsimp only
  apply RunsKept.next
  split
  · split
    · rw [State.tryPass_kept, State.raise_kept, State.sendAsReceiver_kept, State.modSpareRx_kept, State.modRx_kept]
    · rw [State.raise_kept, State.sendAsReceiver_kept, State.modSpareRx_kept, State.modRx_kept]
  · rfl

@[simp] theorem State.makeDue_kept (s : State) (e : KilnElement) : (s.makeDue e).kept = s.kept := by
  unfold State.makeDue
  split
  · rfl
  · rw [State.tryPass_kept, State.modKiln_kept]

@[simp] theorem State.passEnds_kept (s : State) (e : KilnElement) : (s.passEnds e).kept = s.kept := by
  unfold State.passEnds
  split
  · dsimp only
    split
    · rw [State.modSpareRx_kept, State.modRx_kept]
    · rw [State.modRx_kept]
  · rw [State.modTx_kept]
  · split
    · rw [State.modTwinRx_kept]
    · rfl
  · rw [State.modDie_kept]
  · rfl

@[simp] theorem State.kilnDone_kept (s : State) (e : KilnElement) (t : Int) : (s.kilnDone e t).kept = s.kept := by
  unfold State.kilnDone
  dsimp only
  rw [State.raise_kept]

theorem execKilnPassDone_runsKept (e : KilnElement) (r : KilnReading) (s : State) : RunsKept (execKilnPassDone e r s) s := by
  unfold execKilnPassDone
  apply RunsKept.next
  split
  · rfl
  · dsimp only
    rw [State.tryPasses_kept]
    split
    · rw [State.kilnDone_kept, State.passEnds_kept, State.storeNor_kept, State.kilnMeasured_kept]
    · rw [State.kilnFail_kept, State.passEnds_kept, State.kilnOut_kept, State.storeNor_kept, State.kilnMeasured_kept]

@[simp] theorem State.mapRetired_kept (s : State) (die : Nat) : (s.mapRetired die).kept = s.kept := by
  unfold State.mapRetired
  rw [foldl_kept]
  intro s a
  dsimp only
  split
  · split
    · rfl
    · split
      · rw [State.raise_kept, State.modDie_kept]
      · rw [State.modDie_kept]
  · rfl

@[simp] theorem State.startupKiln_kept (s : State) (r : List (KilnElement × KilnReading)) : (s.startupKiln r).kept = s.kept := by
  unfold State.startupKiln
  dsimp only
  rw [State.raise_kept, State.fresh_kept, State.storeNor_kept, foldl_kept]
  · rw [foldl_kept]
    · rw [foldl_kept]
      intro s a
      simp
    · intro s a
      split
      · rfl
      · rw [State.kilnFail_kept, State.kilnOut_kept]
  · intro s a
    rw [State.mapRetired_kept]

@[simp] theorem cmdKilnRun_kept (o : Origin) (args : List Byte) (s : State) : (cmdKilnRun o args s).state.kept = s.kept := by
  unfold cmdKilnRun
  dsimp only
  apply checked_kept
  split
  · rw [okay_kept, foldl_kept]
    intro s a
    rw [State.makeDue_kept]
  · rw [okay_kept, State.makeDue_kept]

@[simp] theorem cmdKilnStatus_kept (o : Origin) (args : List Byte) (s : State) : (cmdKilnStatus o args s).state.kept = s.kept := by
  unfold cmdKilnStatus
  dsimp only
  apply checked_kept
  simp

/-! ### Health.lean -/

@[simp] theorem State.modGuard_kept (s : State) (die : Nat) (f : Guard → Guard) : (s.modGuard die f).kept = s.kept := rfl

@[simp] theorem State.enterLevel_kept (s : State) (die level : Nat) (temp : Int) : (s.enterLevel die level temp).kept = s.kept := by
  unfold State.enterLevel
  dsimp only
  split
  · rw [State.setFault_kept, State.override_kept, State.raise_kept, State.modGuard_kept]
  · rw [State.override_kept, State.raise_kept, State.modGuard_kept]

@[simp] theorem State.tempDue_kept (s : State) (die : Nat) (temp : Int) : (s.tempDue die temp).kept = s.kept := by
  unfold State.tempDue
  rw [foldl_kept]
  intro s a
  rw [State.makeDue_kept]

@[simp] theorem State.thermal_kept (s : State) (die : Nat) (temp : Int) : (s.thermal die temp).kept = s.kept := by
  unfold State.thermal
  dsimp only
  rw [State.tempDue_kept]
  split
  · rw [State.enterLevel_kept]
    split
    · rw [State.enterLevel_kept, State.modGuard_kept]
    · rw [State.modGuard_kept]
  · split
    · rw [State.enterLevel_kept, State.modGuard_kept]
    · rw [State.modGuard_kept]

theorem execThermalReading_runsKept (die : Nat) (temp : Int) (s : State) : RunsKept (execThermalReading die temp s) s := by
  unfold execThermalReading
  apply RunsKept.next
  split
  · rw [State.thermal_kept]
  · rfl

@[simp] theorem State.guardBoundary_kept (s : State) (die : Nat) : (s.guardBoundary die).kept = s.kept := by
  unfold State.guardBoundary
  dsimp only
  rw [State.modGuard_kept]

@[simp] theorem State.overridesBoundary_kept (s : State) : s.overridesBoundary.kept = s.kept := by
  unfold State.overridesBoundary
  dsimp only
  rfl

theorem execThermalTrip_runsKept (s : State) : RunsKept (execThermalTrip s) s := by
  unfold execThermalTrip
  dsimp only
  apply RunsKept.next
  rw [State.emit_kept, State.drivePins_kept, State.modTwin_kept]
  rfl

@[simp] theorem State.flushLog_kept (n : Nat) (s : State) : (State.flushLog n s).kept = s.kept := by
  induction n generalizing s with
  | zero => rfl
  | succ n ih =>
    unfold State.flushLog
    split
    · rfl
    · split
      · rw [ih, State.ringPut_kept, State.kept_update]
      · split
        · rw [ih, State.logWrite_kept, State.kept_update]
        · rfl

theorem execLogDeferRetry_runsKept (holdupMv : Nat) (s : State) : RunsKept (execLogDeferRetry holdupMv s) s := by
  unfold execLogDeferRetry
  dsimp only
  apply RunsKept.next
  split
  · rw [State.reconcile_kept, State.noteDeath_kept, State.flushLog_kept]
    rfl
  · rw [State.noteDeath_kept, State.flushLog_kept]
    rfl

@[simp] theorem State.startOp_kept (s : State) : s.startOp.kept = s.kept := by
  unfold State.startOp
  split
  · rfl
  · split
    · rfl
    · dsimp only
      split <;> simp

theorem execHoldupRetry_runsKept (holdupMv : Nat) (s : State) : RunsKept (execHoldupRetry holdupMv s) s := by
  unfold execHoldupRetry
  dsimp only
  apply RunsKept.next
  rw [State.startOp_kept]
  simp

@[simp] theorem State.restoreTile_kept (s : State) (die p : Nat) : (s.restoreTile die p).kept = s.kept := by
  rw [State.restoreTile, State.modDie_kept]

@[simp] theorem State.recordIn_kept (s : State) (kind die index : Nat) : (s.recordIn kind die index).kept = s.kept := by
  unfold State.recordIn
  dsimp only
  rw [State.storeNor_kept]
  rfl

@[simp] theorem State.unitRestored_kept (s : State) (kind die index : Nat) : (s.unitRestored kind die index).kept = s.kept := by
  unfold State.unitRestored
  dsimp only
  rw [State.raise_kept, State.recordIn_kept]

@[simp] theorem State.unitIn_kept (s : State) (kind die index : Nat) : (s.unitIn kind die index).kept = s.kept := by
  unfold State.unitIn
  split
  · split
    · rw [State.restoreTile_kept]
    · rfl
  · dsimp only
    split
    · rw [State.modSpareRx_kept, State.modRx_kept]
    · rw [State.modRx_kept]
  · rw [State.modTx_kept]
  · dsimp only
    rw [State.modStack_kept]
    rfl
  · rfl
  · rfl

@[simp] theorem State.unitTest_kept (s : State) (kind die index : Nat) (r : KilnReading) : (s.unitTest kind die index r).2.kept = s.kept := by
  unfold State.unitTest
  split
  · dsimp only
    split <;> simp
  · split <;> simp

@[simp] theorem cmdUnitRestore_kept (r : KilnReading) (fault : Bool) (o : Origin) (args : List Byte) (s : State) :
    (cmdUnitRestore r fault o args s).state.kept = s.kept := by
  unfold cmdUnitRestore
  dsimp only
  apply checked_kept
  split
  · simp
  · split
    · simp
    · split <;> simp

@[simp] theorem cmdPolicySet_kept (o : Origin) (args : List Byte) (s : State) : (cmdPolicySet o args s).state.kept = s.kept := by
  unfold cmdPolicySet
  dsimp only
  apply checked_kept
  rw [okay_kept]
  split
  · rfl
  · rw [State.applyPolicy_kept]

@[simp] theorem cmdHealthStatus_kept (o : Origin) (args : List Byte) (s : State) : (cmdHealthStatus o args s).state.kept = s.kept := by
  unfold cmdHealthStatus
  dsimp only
  simp

@[simp] theorem cmdLogRead_kept (o : Origin) (args : List Byte) (s : State) : (cmdLogRead o args s).state.kept = s.kept := by
  unfold cmdLogRead
  apply checked_kept
  dsimp only
  simp

@[simp] theorem cmdHoldupStatus_kept (o : Origin) (args : List Byte) (s : State) : (cmdHoldupStatus o args s).state.kept = s.kept := by
  unfold cmdHoldupStatus
  dsimp only
  simp

/-! ### Firmware.lean -/

@[simp] theorem State.modFw_kept (s : State) (f : Firmware → Firmware) : (s.modFw f).kept = s.kept := rfl

@[simp] theorem State.queueOps_kept (s : State) (ops : List NorOp) : (s.queueOps ops).kept = s.kept := by
  rw [State.queueOps, State.startOp_kept, State.modFw_kept]

theorem State.stageImage_kept {s t : State} {args data : List Byte} {here waits : Bool} (h : s.stageImage args data here = .ok (t, waits)) :
    t.kept = s.kept := by
  unfold State.stageImage at h
  dsimp only at h
  split at h
  · cases h
  · split at h
    · split at h
      · cases h
      · cases h
        simp
    · split at h
      · cases h
      · cases h
        simp
    · split at h
      · cases h
      · cases h
        simp

@[simp] theorem State.fwResult_kept (s : State) (st : Status) : (s.fwResult st).kept = s.kept := by
  rw [State.fwResult, State.modFw_kept]

@[simp] theorem cmdFwStage_kept (host : List Byte) (o : Origin) (args : List Byte) (s : State) : (cmdFwStage host o args s).state.kept = s.kept := by
  unfold cmdFwStage
  apply checked_kept
  split
  · rfl
  · extract_lets src
    have h1 : (if field args 0 1 ≠ 2 then (([] : List Byte), s)
        else if src.testBit 63 then (padTo (field args 8 4) host, s) else s.pkgRead src (field args 8 4)).2.kept = s.kept := by
      split
      · rfl
      · split
        · rfl
        · rw [State.pkgRead_kept]
    split
    next data s1 hr =>
    rw [hr] at h1
    split
    · rfl
    next s2 hs => exact (State.stageImage_kept hs).trans h1
    next s2 hs =>
      rw [okay_kept, State.fwResult_kept, State.stageImage_kept hs]
      exact h1

@[simp] theorem State.opEnds_kept (s : State) (here : Bool) (range : Nat × Nat) : (s.opEnds here range).kept = s.kept := by
  unfold State.opEnds
  dsimp only
  split
  · split
    · rw [State.finishRunning_kept, State.fwResult_kept, State.modFw_kept]
    · rw [State.fwResult_kept, State.modFw_kept]
  · rw [State.fwResult_kept, State.modFw_kept]

theorem execNorOperationDone_runsKept (compared : Bool) (s : State) : RunsKept (execNorOperationDone compared s) s := by
  unfold execNorOperationDone
  apply RunsKept.next
  split
  · dsimp only
    split
    · rw [State.startOp_kept, State.modFw_kept, State.norApply_kept]
    · rw [State.startOp_kept]
      split
      · rw [State.opEnds_kept, State.modFw_kept, State.modFw_kept, State.norApply_kept]
      · rw [State.modFw_kept, State.modFw_kept, State.norApply_kept]
  · rfl

@[simp] theorem State.askReset_kept (s : State) : s.askReset.kept = s.kept := by
  unfold State.askReset
  dsimp only
  split
  · rw [State.setFault_kept, State.modFw_kept]
  · rw [State.modFw_kept]

@[simp] theorem State.resetNow_kept (s : State) : s.resetNow.kept = s.kept := by
  unfold State.resetNow
  split
  · rw [State.resetIfDue_kept]
  · rfl

theorem State.activateImage_kept {s t : State} {args : List Byte} {here : Bool} (h : s.activateImage args here = .ok t) : t.kept = s.kept := by
  unfold State.activateImage at h
  dsimp only at h
  split at h
  · cases h
  · rw [← Except.ok.inj h]
    simp

@[simp] theorem cmdFwActivate_kept (o : Origin) (args : List Byte) (s : State) : (cmdFwActivate o args s).state.kept = s.kept := by
  unfold cmdFwActivate
  apply checked_kept
  split
  · rfl
  · split
    · rfl
    next s1 h => rw [okay_kept, State.fwResult_kept, State.activateImage_kept h]

theorem execFwActivate_runsKept (o : Origin) (args : List Byte) (s : State) : RunsKept (execFwActivate o args s) s := by
  unfold execFwActivate
  apply RunsKept.next
  rw [State.resetNow_kept, State.row_kept]
  intro o args s
  rw [cmdFwActivate_kept]

@[simp] theorem State.applySeal_kept (s : State) (args : List Byte) : (s.applySeal args).2.kept = s.kept := by
  unfold State.applySeal
  dsimp only
  split
  · split <;> simp
  · split
    · simp
    · split
      · split <;> simp
      · simp

@[simp] theorem cmdOwnerSeal_kept (o : Origin) (args : List Byte) (s : State) : (cmdOwnerSeal o args s).state.kept = s.kept := by
  have h1 := s.applySeal_kept args
  unfold cmdOwnerSeal
  apply checked_kept
  split
  · rfl
  · split
    next s1 hr =>
      rw [hr] at h1
      rw [okay_kept, State.fwResult_kept]
      exact h1
    next st s1 _ hr =>
      rw [hr] at h1
      exact h1

@[simp] theorem cmdFwStatus_kept (o : Origin) (args : List Byte) (s : State) : (cmdFwStatus o args s).state.kept = s.kept := by
  unfold cmdFwStatus
  dsimp only
  simp

@[simp] theorem State.relayedUpdate_kept (s : State) (op : Nat) (args mem : List Byte) : (s.relayedUpdate op args mem).kept = s.kept := by
  unfold State.relayedUpdate
  split
  · split
    · rw [State.fwResult_kept]
    next s1 waits h =>
      split
      · exact State.stageImage_kept h
      · rw [State.fwResult_kept, State.stageImage_kept h]
  · split
    · split
      · rw [State.fwResult_kept]
      next s1 h => rw [State.fwResult_kept, State.activateImage_kept h]
    · exact (State.fwResult_kept _ _).trans (s.applySeal_kept args)

/-! ### Power.lean -/

@[simp] theorem State.takeRoles_kept (s : State) : s.takeRoles.kept = s.kept := rfl

@[simp] theorem State.setStage_kept (s : State) (n : Nat) : (s.setStage n).kept = s.kept := rfl

@[simp] theorem State.clocksDone_kept (s : State) : s.clocksDone.kept = s.kept := by
  unfold State.clocksDone
  dsimp only
  split
  · rw [State.setStage_kept, State.becomeAlone_kept, State.setStage_kept]
  · rw [State.linkUp_kept, State.modTwin_kept, State.setStage_kept]

@[simp] theorem State.stepSeven_kept (s : State) : s.stepSeven.kept = s.kept := by
  unfold State.stepSeven
  dsimp only
  split
  · rw [State.clocksDone_kept]
  · rfl

theorem execDpllLock_runsKept (s : State) : RunsKept (execDpllLock s) s := by
  unfold execDpllLock
  apply RunsKept.next
  rw [State.stepSeven_kept, State.dpllLock_kept]

theorem execClockLockTimeout_runsKept (s : State) : RunsKept (execClockLockTimeout s) s := by
  unfold execClockLockTimeout
  apply RunsKept.next
  split
  · rw [State.clocksDone_kept]
  · rfl

theorem execRefConfig_runsKept (o : Origin) (args : List Byte) (s : State) : RunsKept (execRefConfig o args s) s := by
  unfold execRefConfig
  apply RunsKept.next
  rw [State.stepSeven_kept, State.keepSettings_kept, State.row_kept]
  intro o args s
  rw [cmdRefConfig_kept]

@[simp] theorem State.trained_kept (s : State) (die : Nat) (r : TrainReading) : (s.trained die r).kept = s.kept := by
  unfold State.trained
  dsimp only
  split
  · rw [State.setFault_kept, State.evident_kept, State.raise_kept, State.modStack_kept]
    rfl
  · rw [State.modStack_kept]
    rfl

theorem execHbmTrainingDone_runsKept (r : List TrainReading) (s : State) : RunsKept (execHbmTrainingDone r s) s := by
  unfold execHbmTrainingDone
  apply RunsKept.next
  split
  · rw [State.setStage_kept, foldl_kept]
    intro s a
    rw [State.trained_kept]
  · rfl

theorem execStartupKilnDone_runsKept (r : List (KilnElement × KilnReading)) (s : State) : RunsKept (execStartupKilnDone r s) s := by
  unfold execStartupKilnDone
  apply RunsKept.next
  split
  · rw [State.takeRoles_kept, State.setStage_kept, State.startupKiln_kept]
  · rfl

theorem execLaneBringupDone_runsKept (s : State) : RunsKept (execLaneBringupDone s) s := by
  unfold execLaneBringupDone
  apply RunsKept.next
  split
  · rw [State.stepSeven_kept, State.setStage_kept]
  · rfl

theorem execReady_runsKept (s : State) : RunsKept (execReady s) s := by
  unfold execReady
  apply RunsKept.next
  split
  · rw [State.sendBoot_kept]
    rfl
  · rfl

theorem execSupplyMonitorTrip_runsKept (rails : BitVec 10) (s : State) : RunsKept (execSupplyMonitorTrip rails s) s := by
  unfold execSupplyMonitorTrip
  dsimp only
  apply RunsKept.next
  rw [State.kept_update, State.enterReset_kept]

theorem execWakeNEdge_runsKept (s : State) : RunsKept (execWakeNEdge s) s := by
  unfold execWakeNEdge
  apply RunsKept.next
  split
  · rfl
  · rw [State.wakeRequest_kept]

@[simp] theorem State.lanesDown_kept (s : State) : s.lanesDown.kept = s.kept := by
  unfold State.lanesDown
  rw [State.linkReport_kept]
  rfl

@[simp] theorem State.recentre_kept (s : State) : s.recentre.kept = s.kept := by
  unfold State.recentre
  dsimp only
  rfl

@[simp] theorem State.enterMode_kept (s : State) (m : PowerMode) : (s.enterMode m).kept = s.kept := by
  unfold State.enterMode
  dsimp only
  split
  · rw [State.readyCheck_kept, State.refCheck_kept, State.lanesDown_kept, State.kept_update]
    split
    · rw [State.recentre_kept]
    · rfl
  · rw [State.kept_update]
    split
    · rw [State.recentre_kept]
    · rfl

theorem execPowerTransitionDone_runsKept (s : State) : RunsKept (execPowerTransitionDone s) s := by
  unfold execPowerTransitionDone
  apply RunsKept.next
  split
  · rfl
  · dsimp only
    split
    · rw [State.beginPower_kept, State.kept_update, State.raise_kept, State.enterMode_kept]
    · rw [State.raise_kept, State.enterMode_kept]

@[simp] theorem State.powerUp_kept (s : State) (m : PowerMode) : (s.powerUp m).kept = s.kept := by
  unfold State.powerUp
  dsimp only
  split
  · split
    · rw [State.wakeRequest_kept]
    · rw [State.beginPower_kept, State.wakeRequest_kept]
  · split
    · rw [State.wakeRequest_kept]
    · rw [State.beginPower_kept, State.wakeRequest_kept]

@[simp] theorem State.propose_kept (s : State) : s.propose.kept = s.kept := by
  unfold State.propose
  dsimp only
  rw [State.crateSend_kept, State.modSleep_kept]

@[simp] theorem cmdPowerState_kept (o : Origin) (args : List Byte) (s : State) : (cmdPowerState o args s).state.kept = s.kept := by
  unfold cmdPowerState
  dsimp only
  apply checked_kept
  split
  · rw [okay_kept, State.powerUp_kept]
  · split
    · rw [okay_kept, State.powerUp_kept]
    · split
      · rw [okay_kept, State.sleepNow_kept]
        rfl
      · simp

@[simp] theorem State.avsCheck_kept (s : State) : s.avsCheck.kept = s.kept := by
  unfold State.avsCheck
  split
  · rw [State.override_kept]
  · rfl

theorem execAvsFloorUpdate_runsKept (floorsMv : List Nat) (s : State) : RunsKept (execAvsFloorUpdate floorsMv s) s := by
  unfold execAvsFloorUpdate
  apply RunsKept.next
  split
  · rfl
  · rw [State.avsCheck_kept]
    rfl

theorem execAvsRequestStep_runsKept (s : State) : RunsKept (execAvsRequestStep s) s := by
  unfold execAvsRequestStep
  dsimp only
  apply RunsKept.next
  split
  · split
    · rfl
    · rw [State.emit_kept]
      rfl
  · split
    · rfl
    · rw [State.emit_kept]
      rfl

@[simp] theorem cmdVcoreOverride_kept (o : Origin) (args : List Byte) (s : State) : (cmdVcoreOverride o args s).state.kept = s.kept := by
  unfold cmdVcoreOverride
  dsimp only
  apply checked_kept
  rw [okay_kept, State.avsCheck_kept]
  rfl

@[simp] theorem cmdSensorRead_kept (o : Origin) (args : List Byte) (s : State) : (cmdSensorRead o args s).state.kept = s.kept := by
  simp [cmdSensorRead]

@[simp] theorem cmdPackageReset_kept (o : Origin) (args : List Byte) (s : State) : (cmdPackageReset o args s).state.kept = s.kept := by
  unfold cmdPackageReset
  apply checked_kept
  rw [okay_kept, State.askReset_kept]

@[simp] theorem State.afterCommand_kept (s : State) (op : Nat) : (s.afterCommand op).kept = s.kept := by
  unfold State.afterCommand
  split
  · rw [State.resetIfDue_kept]
  · split
    · rw [State.resetNow_kept]
    · split
      · rw [State.stepSeven_kept]
      · rfl

/-! ### Tick.lean -/

theorem State.eachDie_kept {f : Nat → State → State} (h : ∀ d s, (f d s).kept = s.kept) (s : State) : (s.eachDie f).kept = s.kept :=
  foldl_kept (fun s d => h d s) _ _

theorem State.eachPipe_kept {f : Nat → State → State} (h : ∀ i s, (f i s).kept = s.kept) (s : State) (kinds : List Nat) :
    (s.eachPipe kinds f).kept = s.kept :=
  foldl_kept (fun s i => h i s) _ _

@[simp] theorem State.dropHalf_kept (s : State) (n : Nat) : (s.dropHalf n).kept = s.kept := by
  unfold State.dropHalf
  split <;> rfl

@[simp] theorem State.closeHalf_kept (s : State) (n : Nat) : (s.closeHalf n).kept = s.kept := by
  unfold State.closeHalf
  split
  · rw [State.eachPipe_kept]
    · rw [State.dropHalf_kept]
    · intro i s
      rw [State.countHalf_kept]
  · rfl

@[simp] theorem State.retireDie_kept (s : State) (n die : Nat) : (s.retireDie n die).kept = s.kept := by
  unfold State.retireDie
  rw [foldl_kept]
  intro s a
  dsimp only
  split
  · rfl
  · split
    · rw [State.policyOverridden_kept, State.evident_kept, State.retireTile_kept, State.modDie_kept]
    · rw [State.evident_kept, State.retireTile_kept, State.modDie_kept]

@[simp] theorem State.restoreTiles_kept (s : State) : s.restoreTiles.kept = s.kept := by
  unfold State.restoreTiles
  rw [foldl_kept]
  · rfl
  · intro s a
    rw [State.restoreTile_kept]

@[simp] theorem State.twinBoundary_kept (s : State) (n : Nat) : (s.twinBoundary n).kept = s.kept := by
  unfold State.twinBoundary
  extract_lets due s1 s2 s3 s4
  have h1 : s1.kept = s.kept := by
    dsimp only [s1]
    split
    · rw [State.takeover_kept]
    · split
      · split
        · rw [State.takeover_kept]
        · split
          · rw [State.demote_kept]
          · rw [State.modTwin_kept]
      · rfl
  have h2 : s2.kept = s1.kept := by
    dsimp only [s2]
    split
    · split
      · rw [State.finishDetail_kept]
      · rfl
    · rfl
  have h3 : s3.kept = s2.kept := by
    dsimp only [s3]
    split
    · split
      · rw [State.modTwin_kept, State.sendHeartbeat_kept]
      · rw [State.modTwin_kept]
    · rfl
  have h4 : s4.kept = s3.kept := by
    dsimp only [s4]
    split
    · rw [State.becomeAlone_kept]
    · rfl
  split
  · rw [State.setMode_kept, h4, h3, h2, h1]
  · rw [h4, h3, h2, h1]

@[simp] theorem State.packageChanges_kept (s : State) (n : Nat) : (s.packageChanges n).kept = s.kept := by
  unfold State.packageChanges
  dsimp only
  rw [State.twinBoundary_kept, State.portsUpdate_kept, State.tryPasses_kept, State.overridesBoundary_kept, State.eachDie_kept]
  · rw [State.reconcile_kept, State.restoreTiles_kept, State.eachDie_kept]
    · rw [State.eachDie_kept]
      · rw [State.takeRoles_kept]
      · intro d s
        rw [State.sparingBoundary_kept]
    · intro d s
      rw [State.retireDie_kept]
  · intro d s
    rw [State.guardBoundary_kept]

@[simp] theorem State.readyBoundary_kept (s : State) (n : Nat) : (s.readyBoundary n).kept = s.kept := by
  unfold State.readyBoundary
  split
  · dsimp only
    rw [State.modTwin_kept]
    split
    · rw [State.copyLate_kept]
    · rfl
  · rfl

@[simp] theorem State.setReserve_kept (s : State) (die : Nat) : (s.setReserve die).kept = s.kept := by
  unfold State.setReserve
  split
  · rfl
  · dsimp only
    rw [State.modDie_kept]
    split
    · rw [State.setFault_kept]
    · rfl

@[simp] theorem State.workBoundary_kept (s : State) (n : Nat) : (s.workBoundary n).kept = s.kept := by
  unfold State.workBoundary
  split
  · rfl
  · dsimp only
    split
    · rw [State.eachDie_kept]
      · rw [State.kept_update, State.swapAndRelease_kept]
      · intro d s
        rw [State.setReserve_kept]
    · rw [State.eachDie_kept]
      · rw [State.eachPipe_kept]
        · rw [State.eachDie_kept]
          · rw [State.kept_update, State.swapAndRelease_kept]
          · intro d s
            rw [State.setReserve_kept]
        · intro i s
          rw [State.beamOpen_kept]
      · intro d s
        rw [State.openWork_kept]

@[simp] theorem State.delayStale_kept (s : State) (i n : Nat) : (s.delayStale i n).kept = s.kept := by
  unfold State.delayStale
  dsimp only
  split
  · rfl
  · split
    · rw [State.modChains_kept]
    · rw [State.raise_kept, State.kept_update, State.modChains_kept]

@[simp] theorem State.positionsLost_kept (s : State) : s.positionsLost.kept = s.kept := by
  unfold State.positionsLost
  dsimp only
  rw [foldl_kept]
  · rfl
  · intro s a
    rw [State.raise_kept]

@[simp] theorem State.settlePipes_kept (s : State) (n : Nat) : (s.settlePipes n).kept = s.kept := by
  unfold State.settlePipes
  dsimp only
  rw [State.eachPipe_kept]
  · rfl
  · intro i s
    rw [State.freeDrained_kept]

@[simp] theorem State.sendCopy_kept (s : State) (t : TickCfg) (n : Nat) : (s.sendCopy t n).kept = s.kept := by
  unfold State.sendCopy
  split
  · simp
  · rfl

@[simp] theorem State.pruneDigests_kept (s : State) (n : Nat) : (s.pruneDigests n).kept = s.kept := rfl

@[simp] theorem State.endWindow_kept (s : State) : s.endWindow.kept = s.kept := by
  unfold State.endWindow
  split
  · rw [State.eachDie_kept]
    intro d s
    rw [State.closeDie_kept]
  · rfl

@[simp] theorem State.tickBoundary_kept (s : State) (t : TickCfg) (n : Nat) : (s.tickBoundary t n).kept = s.kept := by
  unfold State.tickBoundary
  dsimp only
  split
  · rw [State.resetIfDue_kept, State.packageChanges_kept, State.closeHalf_kept, State.refreshPipes_kept, State.advanceTo_kept, State.endWindow_kept]
  · split
    · rw [State.packageChanges_kept, State.closeHalf_kept, State.refreshPipes_kept, State.advanceTo_kept, State.endWindow_kept]
    · rw [State.readyCheck_kept, State.pruneDigests_kept, State.sendCopy_kept, State.settlePipes_kept, State.reportPanics_kept,
          State.positionsLost_kept, State.eachPipe_kept]
      · rw [State.kept_update, State.workBoundary_kept, State.readyBoundary_kept, State.packageChanges_kept, State.closeHalf_kept,
            State.refreshPipes_kept, State.advanceTo_kept, State.endWindow_kept]
      · intro i s
        rw [State.delayStale_kept]

theorem execTickBoundary_runsKept (n : Nat) (s : State) : RunsKept (execTickBoundary n s) s := by
  unfold execTickBoundary
  apply RunsKept.next
  split
  · rfl
  · split
    · rfl
    · rw [State.tickBoundary_kept]

theorem execWorkWindowEnd_runsKept (n : Nat) (s : State) : RunsKept (execWorkWindowEnd n s) s := by
  unfold execWorkWindowEnd
  apply RunsKept.next
  split
  · rfl
  · split
    · rfl
    · rw [State.endWindow_kept, State.advanceTo_kept]

/-! ### TwinJournal.lean -/

@[simp] theorem State.lateChains_kept (s : State) (i : Nat) : (s.lateChains i).kept = s.kept := by
  unfold State.lateChains
  dsimp only
  split
  · rw [State.makeChangeChains_kept, State.makeChains_kept]
  · rfl

@[simp] theorem State.deferChains_kept (s : State) : s.deferChains.kept = s.kept := by
  unfold State.deferChains
  dsimp only
  split
  · rw [State.assignChains_kept, foldl_kept]
    intro s a
    rw [State.lateChains_kept]
  · rfl

@[simp] theorem State.applyConfig_kept (s : State) (x : Staged) : (s.applyConfig x).kept = s.kept := by
  unfold State.applyConfig
  dsimp only
  split
  · split <;> rfl
  · rw [State.refreshPipes_kept]
    split
    · rw [State.assignChains_kept, State.lateChains_kept, State.enact_kept]
      split <;> rfl
    · rw [State.enact_kept]
      split <;> rfl

@[simp] theorem State.applyEntry_kept (s : State) (e : JournalEntry) : (s.applyEntry e).kept = s.kept := by
  unfold State.applyEntry
  dsimp only
  split
  · rw [State.applyPolicy_kept]
  · split
    · rw [State.relayedUpdate_kept]
    · split
      · rw [applyTable_kept]
      · rw [State.applyConfig_kept]

@[simp] theorem State.noteEntry_kept (s : State) (e : JournalEntry) (transaction : Nat) : (s.noteEntry e transaction).kept = s.kept := by
  unfold State.noteEntry
  dsimp only
  rw [State.sendTwin_kept, State.modTwin_kept]

@[simp] theorem State.journalIn_kept (s1 : State) (e : JournalEntry) (transaction : Nat) : (s1.journalIn e transaction).kept = s1.kept := by
  unfold State.journalIn
  extract_lets s2 s3
  have h2 : s2.kept = s1.kept := by
    dsimp only [s2]
    split
    · rw [State.clearConfig_kept]
    · rfl
  have h3 : s3.kept = s1.kept := by
    dsimp only [s3]
    rw [State.deferChains_kept, State.keepSettings_kept, State.noteEntry_kept, State.applyEntry_kept, h2]
  split
  · rw [State.modTwin_kept, h2]
  · split
    · rw [State.sendAttach_kept, State.modTwin_kept, h2]
    · rw [State.readyCheck_kept]
      split
      · rw [State.resetNow_kept, h3]
      · exact h3

theorem execJournal_runsKept (first : LaneRef × Frame) (rest : List (LaneRef × Frame)) (s : State) : RunsKept (execJournal first rest s) s := by
  have h1 := s.twinFrames_kept 3 (fun n => decide (8 ≤ n)) (first :: rest)
  unfold execJournal
  split
  next fs s1 hr =>
  rw [hr] at h1
  dsimp only at h1
  apply RunsKept.next
  split
  · exact h1
  · split
    · rw [State.journalIn_kept, h1]
    · exact h1

/-! ### Mgmt.lean -/

@[simp] theorem State.modMgmt_kept (s : State) (f : MgmtPort → MgmtPort) : (s.modMgmt f).kept = s.kept := rfl

@[simp] theorem State.endSession_kept (s : State) (n : Nat) : (s.endSession n).kept = s.kept := by
  unfold State.endSession
  dsimp only
  rw [State.modMgmt_kept]
  split
  · rw [State.breakLease_kept]
    rfl
  · rfl

@[simp] theorem cmdMgmtNet_kept (o : Origin) (args : List Byte) (s : State) : (cmdMgmtNet o args s).state.kept = s.kept := by
  unfold cmdMgmtNet
  dsimp only
  apply checked_kept
  rw [okay_kept, foldl_kept]
  · rw [State.modMgmt_kept]
  · intro s a
    rw [State.endSession_kept]

@[simp] theorem State.modSession_kept (s : State) (n : Nat) (f : Session → Session) : (s.modSession n f).kept = s.kept := by
  rw [State.modSession, State.modMgmt_kept]

theorem execMgmtOpen_runsKept (d : Datagram) (s : State) : RunsKept (execMgmtOpen d s) s := by
  unfold execMgmtOpen
  dsimp only
  apply RunsKept.next
  split
  · rfl
  · split
    · rw [State.emit_kept]
    · split
      · rw [State.emit_kept]
      · rw [State.emit_kept, State.modBox_kept, State.modMgmt_kept]

theorem execMgmtKeepalive_runsKept (d : Datagram) (s : State) : RunsKept (execMgmtKeepalive d s) s := by
  unfold execMgmtKeepalive
  apply RunsKept.next
  split
  · rw [State.modSession_kept]
  · rfl

theorem execMgmtClose_runsKept (d : Datagram) (s : State) : RunsKept (execMgmtClose d s) s := by
  unfold execMgmtClose
  apply RunsKept.next
  split
  · rw [State.endSession_kept]
  · rfl

theorem execSessionTimeout_runsKept (session : Nat) (s : State) : RunsKept (execSessionTimeout session s) s := by
  unfold execSessionTimeout
  apply RunsKept.next
  split
  · rw [State.endSession_kept]
  · rfl

theorem execArpRequest_runsKept (target : BitVec 32) (s : State) : RunsKept (execArpRequest target s) s := by
  unfold execArpRequest
  apply RunsKept.next
  split
  · rw [State.emit_kept]
  · rfl

theorem execNeighbourSolicitation_runsKept (target : BitVec 128) (s : State) : RunsKept (execNeighbourSolicitation target s) s := by
  unfold execNeighbourSolicitation
  apply RunsKept.next
  split
  · rw [State.emit_kept]
  · rfl

/-! ### Ptp.lean -/

@[simp] theorem State.modPtp_kept (s : State) (f : Ptp → Ptp) : (s.modPtp f).kept = s.kept := rfl

@[simp] theorem State.sendPtp_kept (s : State) (kind : Nat) (seq : Half) (announce : Option PtpAnnounce) (stampPs : Int) (reply : Option PtpHeader) :
    (s.sendPtp kind seq announce stampPs reply).kept = s.kept := by
  rw [State.sendPtp, State.emit_kept]

@[simp] theorem State.masterChanged_kept (s : State) (id : Dword) : (s.masterChanged id).kept = s.kept := by
  rw [State.masterChanged, State.raise_kept]

@[simp] theorem State.becomeMaster_kept (s : State) : s.becomeMaster.kept = s.kept := by
  unfold State.becomeMaster
  split
  · rfl
  · rw [State.disqualify_kept, State.masterChanged_kept, State.modPtp_kept]

@[simp] theorem State.stateDecision_kept (s : State) (b : PtpAnnounce) (changed : Bool) : (s.stateDecision b changed).kept = s.kept := by
  unfold State.stateDecision
  dsimp only
  split
  · rw [State.becomeMaster_kept]
  · split
    · rw [State.disqualify_kept, State.modPtp_kept]
      split
      · rw [State.masterChanged_kept]
      · rfl
    · split
      · rw [State.disqualify_kept, State.modPtp_kept]
        simp
      · simp

theorem execPtpAnnounce_runsKept (a : PtpAnnounce) (s : State) : RunsKept (execPtpAnnounce a s) s := by
  unfold execPtpAnnounce
  dsimp only
  apply RunsKept.next
  split
  · rfl
  · split
    · rw [State.modPtp_kept]
    · rw [State.stateDecision_kept, State.modPtp_kept]

@[simp] theorem State.syncMeasured_kept (s : State) (t1 t2 : Int) : (s.syncMeasured t1 t2).kept = s.kept := by
  unfold State.syncMeasured
  dsimp only
  rw [State.measure_kept, State.modPtp_kept]

theorem execPtpSync_runsKept (h : PtpHeader) (twoStep : Bool) (origin rx : Stamp) (s : State) : RunsKept (execPtpSync h twoStep origin rx s) s := by
  unfold execPtpSync
  dsimp only
  apply RunsKept.next
  split
  · rfl
  · split
    · rw [State.modPtp_kept]
    · rw [State.syncMeasured_kept]

theorem execPtpFollowUp_runsKept (h : PtpHeader) (origin : Stamp) (s : State) : RunsKept (execPtpFollowUp h origin s) s := by
  unfold execPtpFollowUp
  dsimp only
  apply RunsKept.next
  split
  · split
    · rw [State.syncMeasured_kept]
    · rfl
  · rfl

theorem execPtpDelayReq_runsKept (h : PtpHeader) (rx : Stamp) (s : State) : RunsKept (execPtpDelayReq h rx s) s := by
  unfold execPtpDelayReq
  dsimp only
  apply RunsKept.next
  split
  · rw [State.sendPtp_kept]
  · rfl

theorem execPtpDelayResp_runsKept (h : PtpHeader) (receipt : Stamp) (s : State) : RunsKept (execPtpDelayResp h receipt s) s := by
  unfold execPtpDelayResp
  dsimp only
  apply RunsKept.next
  split
  · rw [State.modPtp_kept]
  · rfl

theorem execPtpPdelayReq_runsKept (h : PtpHeader) (rx tx : Stamp) (s : State) : RunsKept (execPtpPdelayReq h rx tx s) s := by
  unfold execPtpPdelayReq
  dsimp only
  apply RunsKept.next
  split
  · split
    · rw [State.sendPtp_kept]
    · rw [State.sendPtp_kept, State.sendPtp_kept]
  · rfl

theorem execPtpPdelayResp_runsKept (h : PtpHeader) (followUp twoStep : Bool) (stamp rx : Stamp) (s : State) :
    RunsKept (execPtpPdelayResp h followUp twoStep stamp rx s) s := by
  unfold execPtpPdelayResp
  dsimp only
  apply RunsKept.next
  split
  · rfl
  · split
    · split
      · rw [State.modPtp_kept]
      · rfl
    · split <;> rw [State.modPtp_kept]

theorem execPtpAnnounceTimeout_runsKept (sync : Bool) (s : State) : RunsKept (execPtpAnnounceTimeout sync s) s := by
  unfold execPtpAnnounceTimeout
  apply RunsKept.next
  split
  · rfl
  · split
    · rw [State.disqualify_kept]
    · dsimp only
      split
      · rw [State.becomeMaster_kept, State.disqualify_kept, State.modPtp_kept]
      · rw [State.disqualify_kept, State.modPtp_kept]

theorem execPtpTxInterval_runsKept (what : Nat) (tx : Stamp) (s : State) : RunsKept (execPtpTxInterval what tx s) s := by
  unfold execPtpTxInterval
  dsimp only
  apply RunsKept.next
  split
  · rfl
  · split
    · split
      · rw [State.modPtp_kept, State.sendPtp_kept]
      · rfl
    · split <;> simp

@[simp] theorem cmdPtpConfig_kept (o : Origin) (args : List Byte) (s : State) : (cmdPtpConfig o args s).state.kept = s.kept := by
  unfold cmdPtpConfig
  dsimp only
  apply checked_kept
  rw [okay_kept, State.disqualify_kept, State.modPtp_kept]

/-! ### Mailbox.lean -/

theorem commandOf_kept {op : Nat} {len : List Byte → Option Nat} {cmd : Cmd} (h : commandOf op = some (len, cmd)) (o : Origin) (args : List Byte)
    (s : State) : (cmd o args s).state.kept = s.kept := by
  unfold commandOf at h
  split at h <;> cases h <;> simp

@[simp] theorem State.freshReading_kept (s : State) : s.freshReading.2.2.kept = s.kept := by
  simp [State.freshReading]

@[simp] theorem State.runOpcode_kept (s : State) (o : Origin) (op : Nat) (args : List Byte) (tooLong : Bool) :
    (s.runOpcode o op args tooLong).kept = s.kept := by
  unfold State.runOpcode
  extract_lets len s1
  have h1 : s1.kept = s.kept := by
    dsimp only [s1]
    split
    · exact (State.runCommand_kept (cmdFwStage_kept _) ..).trans (s.freshBytes_kept _)
    · split
      · exact (State.runCommand_kept (cmdUnitRestore_kept _ _) ..).trans s.freshReading_kept
      · split
        next hc => exact State.runCommand_kept (commandOf_kept hc) ..
        · exact State.runCommand_kept (fun _ _ _ => okay_kept _) ..
  rw [State.afterCommand_kept, h1]

@[simp] theorem State.runBox_kept (s : State) (m : Nat) : (s.runBox m).kept = s.kept := by
  unfold State.runBox
  dsimp only
  split
  · rfl
  · rw [State.runOpcode_kept, State.modBox_kept]

@[simp] theorem State.serveWaiting_kept (s : State) : s.serveWaiting.kept = s.kept := by
  unfold State.serveWaiting
  rw [foldl_kept]
  intro s a
  split
  · rw [State.runBox_kept]
  · rfl

theorem State.hostAccess_kept {f : State → State} (h : ∀ s, (f s).kept = s.kept) (s : State) : (s.hostAccess f).kept = s.kept := by
  simp [State.hostAccess, h]

theorem execEqDroppedRead_runsKept (s : State) : RunsKept (execEqDroppedRead s) s := by
  unfold execEqDroppedRead
  apply RunsKept.next
  rw [State.hostAccess_kept]
  intro s
  simp

theorem execEqIrqDelayExpiry_runsKept (s : State) : RunsKept (execEqIrqDelayExpiry s) s := by
  unfold execEqIrqDelayExpiry
  apply RunsKept.next
  split
  · rw [State.setCause_kept, State.modEvents_kept]
  · rfl

theorem execAliveIncrement_runsKept (s : State) : RunsKept (execAliveIncrement s) s := by
  unfold execAliveIncrement
  apply RunsKept.next
  split
  · dsimp only
    split
    · rw [State.kept_update, State.modMgmt_kept, State.modRegs_kept]
    · rw [State.modMgmt_kept, State.modRegs_kept]
  · rfl

@[simp] theorem State.dmaRead_kept (s : State) (base : Dword) (fixed : Bool) (host : List Byte) (n : Nat) :
    (s.dmaRead base fixed host n).2.kept = s.kept := by
  unfold State.dmaRead
  split
  · simp
  · split
    · rw [foldl_snd_kept]
      intro acc a
      simp
    · rw [State.busRead_kept]

@[simp] theorem State.dmaWrite_kept (s : State) (base : Dword) (fixed : Bool) (d : List Byte) : (s.dmaWrite base fixed d).kept = s.kept := by
  unfold State.dmaWrite
  split
  · rw [State.emit_kept]
  · split
    · rw [foldl_kept]
      intro s a
      rw [State.busWrite_kept]
    · rw [State.busWrite_kept]

@[simp] theorem State.dmaIssue_kept (s : State) (h : Nat) (d : List Byte) : (s.dmaIssue h d).kept = s.kept := by
  unfold State.dmaIssue
  dsimp only
  split
  · rw [State.dmaWrite_kept]
  · rw [State.modDma_kept, State.dmaWrite_kept, State.someOf_kept]

@[simp] theorem State.dmaEcc_kept (s : State) (c : DmaChannel) (op : Nat) (ecc : EccSeen) (n : Nat) : (s.dmaEcc c op ecc n).2.2.kept = s.kept := by
  have h1 := s.fresh_kept
  unfold State.dmaEcc
  extract_lets read inSram seen
  split
  · rfl
  · split
    next v s1 hv =>
    rw [hv] at h1
    extract_lets x s2
    have h2 : s2.kept = s.kept := by
      dsimp only [s2]
      split
      · rw [State.sramRead_kept]
        exact h1
      · rw [State.eccRead_kept]
        exact h1
    split
    · exact h2
    · exact h2

@[simp] theorem State.dmaCompare_kept (s : State) (h : Nat) (a b : List Byte) : (s.dmaCompare h a b).kept = s.kept := by
  unfold State.dmaCompare
  split
  · rw [State.modDma_kept]
  · rfl

@[simp] theorem State.dmaRun_kept (s : State) (h : Nat) (host : List Byte) (masterOff : Bool) (ecc : EccSeen) :
    (s.dmaRun h host masterOff ecc).kept = s.kept := by
  unfold State.dmaRun
  dsimp only
  split
  · rw [State.dmaError_kept, State.dmaOp_kept]
  · split <;> split <;> simp

@[simp] theorem State.dmaResume_kept (s : State) : s.dmaResume.kept = s.kept := by
  unfold State.dmaResume
  rw [foldl_kept]
  intro s a
  split
  · split
    · rfl
    · dsimp only
      split
      · rw [State.dmaRun_kept, State.modDma_kept]
      · rw [State.modDma_kept]
  · rfl

theorem execDmaTransferDone_runsKept (h : Nat) (host : List Byte) (masterOff : Bool) (ecc : EccSeen) (s : State) :
    RunsKept (execDmaTransferDone h host masterOff ecc s) s := by
  unfold execDmaTransferDone
  apply RunsKept.next
  split
  · rw [State.serveWaiting_kept]
    split
    · rw [State.modDma_kept]
    · rw [State.dmaRun_kept]
  · rfl

@[simp] theorem State.bar2_kept (s : State) (who : Nat) (write : Bool) (off len : Nat) (data : List Byte) (ecc : EccSeen) :
    (s.bar2 who write off len data ecc).kept = s.kept := by
  unfold State.bar2
  extract_lets a n r
  split
  · split
    · rw [State.defaultTarget_kept]
    · rw [State.emit_kept, State.defaultTarget_kept]
  · split
    · split
      · rfl
      · rw [State.name_kept]
    · split
      · rw [State.busWrite_kept]
      · have h1 := (s.sramRead a (sramMet ecc)).busRead_kept a len
        split
        next hr =>
        rw [hr] at h1
        rw [State.emit_kept, ← s.sramRead_kept a (sramMet ecc)]
        exact h1

theorem execHbmRequest_runsKept (die : Nat) (r : MatrixRequest) (realTime : Bool) (fill : Nat) (ecc : EccSeen) (s : State) :
    RunsKept (execHbmRequest die r realTime fill ecc s) s := by
  unfold execHbmRequest
  apply RunsKept.next
  rw [State.serveWaiting_kept, State.dmaResume_kept, State.hbmRequest_kept]

theorem execMatrixRequest_runsKept (r : MatrixRequest) (s : State) : RunsKept (execMatrixRequest r s) s := by
  unfold execMatrixRequest
  apply RunsKept.next
  rw [State.serveWaiting_kept, State.matrixRequest_kept]

theorem execSmbusSetPointer_runsKept (v : Half) (s : State) : RunsKept (execSmbusSetPointer v s) s := by
  unfold execSmbusSetPointer
  apply RunsKept.next
  split
  · rw [State.emit_kept]
  · rw [State.emit_kept, State.modRegs_kept]

theorem execSmbusBlockRead_runsKept (s : State) : RunsKept (execSmbusBlockRead s) s := by
  unfold execSmbusBlockRead
  apply RunsKept.next
  split
  · simp
  · rw [State.emit_kept]

theorem execSmbusBlockWrite_runsKept (v : Word) (s : State) : RunsKept (execSmbusBlockWrite v s) s := by
  unfold execSmbusBlockWrite
  dsimp only
  apply RunsKept.next
  split
  · rw [State.emit_kept, State.modRegs_kept]
    split
    · rw [State.writeIdentity_kept]
    · rw [State.writeCal_kept]
  · rw [State.emit_kept]

theorem execMgmtRequest_runsKept (d : Datagram) (s : State) : RunsKept (execMgmtRequest d s) s := by
  unfold execMgmtRequest
  apply RunsKept.next
  split
  · rfl
  · split
    · rfl
    · dsimp only
      split
      · split
        · simp
        · rw [State.modSession_kept]
      · simp

/-! ### StartUp.lean -/

@[simp] theorem State.stepOne_kept (s : State) (r : StartReading) : (s.stepOne r).kept = s.kept := by
  unfold State.stepOne
  dsimp only
  rw [State.emit_kept]
  rfl

@[simp] theorem State.bootBank_kept (s : State) (bank reason : Nat) : (s.bootBank bank reason).kept = s.kept := by
  unfold State.bootBank
  dsimp only
  rw [State.modFw_kept]
  rfl

@[simp] theorem State.enterRecovery_kept (s : State) (reason : Nat) : (s.enterRecovery reason).kept = s.kept := by
  unfold State.enterRecovery
  dsimp only
  rw [State.sendBoot_kept, State.kept_update, State.modFw_kept, State.setStage_kept]

@[simp] theorem State.applyUnit_kept (s : State) (u : UnitRecord) : (s.applyUnit u).kept = s.kept := by
  unfold State.applyUnit
  split
  · rfl
  · split
    · rw [State.modDie_kept]
    · rw [State.modRx_kept]
    · rw [State.modTx_kept]
    · split
      · rw [State.modTwinRx_kept]
      · rfl
    · rfl

@[simp] theorem State.recoveredEntry_kept (s : State) (b : List Byte) : (s.recoveredEntry b).2.kept = s.kept := by
  simp [State.recoveredEntry]

@[simp] theorem State.recoverEntry_kept (ring : List Byte) (s : State) (k : Nat) : (s.recoverEntry ring k).kept = s.kept := by
  unfold State.recoverEntry
  split
  · rfl
  · simp

@[simp] theorem State.recoverLog_kept (s : State) : s.recoverLog.kept = s.kept := by
  unfold State.recoverLog
  dsimp only
  rw [foldl_kept]
  · rfl
  · intro s a
    rw [State.recoverEntry_kept]

@[simp] theorem State.seedGenerations_kept (s : State) : s.seedGenerations.kept = s.kept := rfl

@[simp] theorem State.startEvents_kept (s : State) (rejected reason : Nat) : (s.startEvents rejected reason).kept = s.kept := by
  unfold State.startEvents
  extract_lets s1 s2 s3 s4 s5
  have h1 : s1.kept = s.kept := by
    dsimp only [s1]
    split
    · rfl
    · rw [State.raise_kept]
  have h4 : s4.kept = s.kept := by
    dsimp only [s4, s3, s2]
    split
    · rw [State.raise_kept, State.raise_kept, State.raise_kept, h1]
    · rw [State.raise_kept, State.raise_kept, h1]
  split
  · exact h4
  · rw [State.kept_update, State.raise_kept, h4]

@[simp] theorem State.startCores_kept (s : State) (r : StartReading) (rejected reason : Nat) : (s.startCores r rejected reason).kept = s.kept := by
  unfold State.startCores
  dsimp only
  rw [State.sendBoot_kept, State.setStage_kept, State.startEvents_kept, State.recoverLog_kept, State.seedGenerations_kept, foldl_kept]
  · rfl
  · intro s a
    rw [State.applyUnit_kept]

@[simp] theorem State.startUp_kept (s : State) (r : StartReading) : (s.startUp r).kept = s.kept := by
  unfold State.startUp
  dsimp only
  rw [State.serveWaiting_kept]
  split
  · rw [State.startCores_kept, State.setStage_kept, State.bootBank_kept, State.stepOne_kept]
  · split
    · rw [State.startCores_kept, State.setStage_kept, State.bootBank_kept, State.stepOne_kept]
    · rw [State.enterRecovery_kept, State.kept_update, State.stepOne_kept]

theorem execStartUp_runsKept (r : StartReading) (s : State) : RunsKept (execStartUp r s) s := by
  unfold execStartUp
  apply RunsKept.next
  split
  · rw [State.keepSettings_kept, State.startUp_kept]
  · rfl

/-! ### Dispatch.lean -/

theorem exec_runsKept (c : Instr) (s : State) : RunsKept (exec c s) s := by
  cases c with
  | nop => exact .next (State.row_kept cmdNop_kept ..)
  | configLock => exact .next (State.row_kept cmdConfigLock_kept ..)
  | configCommit => exact .next ((State.keepSettings_kept ..).trans (State.row_kept cmdConfigCommit_kept ..))
  | configAbort => exact .next (State.row_kept cmdConfigAbort_kept ..)
  | lockStatus => exact .next (State.row_kept cmdLockStatus_kept ..)
  | positionSet => exact .next (State.row_kept cmdPositionSet_kept ..)
  | tickConfig => exact .next (State.row_kept cmdTickConfig_kept ..)
  | mgmtNet => exact .next ((State.keepSettings_kept ..).trans (State.row_kept cmdMgmtNet_kept ..))
  | pipeCreate => exact .next (State.row_kept cmdPipeCreate_kept ..)
  | pipeModify => exact .next (State.row_kept cmdPipeModify_kept ..)
  | pipeDestroy => exact .next (State.row_kept cmdPipeDestroy_kept ..)
  | pipeList => exact .next (State.row_kept cmdPipeList_kept ..)
  | ingestInputs => exact .next (State.row_kept cmdIngestInputs_kept ..)
  | offsetFreeze => exact .next (State.row_kept cmdOffsetFreeze_kept ..)
  | ingestStats => exact .next (State.row_kept cmdIngestStats_kept ..)
  | turnDestSet => exact .next (State.row_kept cmdTurnDestSet_kept ..)
  | delayLoad => exact .next (State.row_kept cmdDelayLoad_kept ..)
  | gainLoad => exact .next (State.row_kept cmdGainLoad_kept ..)
  | gainRead => exact .next (State.row_kept cmdGainRead_kept ..)
  | windowLoad => exact .next (State.row_kept cmdWindowLoad_kept ..)
  | corrStats => exact .next (State.row_kept cmdCorrStats_kept ..)
  | tileMap => exact .next (State.row_kept cmdTileMap_kept ..)
  | beamInputs => exact .next (State.row_kept cmdBeamInputs_kept ..)
  | beamContrib => exact .next (State.row_kept cmdBeamContrib_kept ..)
  | weightLoad => exact .next (State.row_kept cmdWeightLoad_kept ..)
  | beamStats => exact .next (State.row_kept cmdBeamStats_kept ..)
  | sinkDest => exact .next (State.row_kept cmdSinkDest_kept ..)
  | sinkStats => exact .next (State.row_kept cmdSinkStats_kept ..)
  | laneConfig => exact .next (State.row_kept cmdLaneConfig_kept ..)
  | sparePeer => exact .next (State.row_kept cmdSparePeer_kept ..)
  | laneSpare => exact .next (State.row_kept cmdLaneSpare_kept ..)
  | laneControlIn => exact .next (State.row_kept cmdLaneControlIn_kept ..)
  | laneStatus => exact .next (State.row_kept cmdLaneStatus_kept ..)
  | laneTest => exact .next (State.row_kept cmdLaneTest_kept ..)
  | laneEye => exact .next (State.row_kept cmdLaneEye_kept ..)
  | refConfig => exact execRefConfig_runsKept ..
  | refInputConfig => exact .next (State.row_kept cmdRefInputConfig_kept ..)
  | clockSteer => exact .next (State.row_kept cmdClockSteer_kept ..)
  | timeSet => exact .next (State.row_kept cmdTimeSet_kept ..)
  | logTimeSet => exact .next (State.row_kept cmdLogTimeSet_kept ..)
  | ptpConfig => exact .next (State.row_kept cmdPtpConfig_kept ..)
  | pulseConfig => exact .next (State.row_kept cmdPulseConfig_kept ..)
  | clockStatus => exact .next (State.row_kept cmdClockStatus_kept ..)
  | refTimeAccept => exact .next (State.row_kept cmdRefTimeAccept_kept ..)
  | twinConfig => exact .next ((State.keepSettings_kept ..).trans (State.row_kept cmdTwinConfig_kept ..))
  | twinSwitch => exact .next (State.row_kept cmdTwinSwitch_kept ..)
  | twinDetach => exact .next (State.row_kept cmdTwinDetach_kept ..)
  | twinStatus => exact .next (State.row_kept cmdTwinStatus_kept ..)
  | matrixPriority => exact .next (State.row_kept cmdMatrixPriority_kept ..)
  | matrixSlices => exact .next (State.row_kept cmdMatrixSlices_kept ..)
  | hbmStatus => exact .next (State.row_kept cmdHbmStatus_kept ..)
  | hbmHammerConfig => exact .next (State.row_kept cmdHbmHammerConfig_kept ..)
  | sramMap => exact .next (State.row_kept cmdSramMap_kept ..)
  | kilnRun => exact .next (State.row_kept cmdKilnRun_kept ..)
  | kilnStatus => exact .next (State.row_kept cmdKilnStatus_kept ..)
  | unitRestore _ _ r fault => exact .next (State.row_kept (cmdUnitRestore_kept r fault) ..)
  | policySet => exact .next ((State.keepSettings_kept ..).trans (State.row_kept cmdPolicySet_kept ..))
  | healthStatus => exact .next (State.row_kept cmdHealthStatus_kept ..)
  | logRead => exact .next (State.row_kept cmdLogRead_kept ..)
  | fwStage _ _ host => exact .next (State.row_kept (cmdFwStage_kept host) ..)
  | fwStatus => exact .next (State.row_kept cmdFwStatus_kept ..)
  | fwActivate => exact execFwActivate_runsKept ..
  | ownerSeal => exact .next (State.row_kept cmdOwnerSeal_kept ..)
  | holdupStatus => exact .next (State.row_kept cmdHoldupStatus_kept ..)
  | powerState => exact .next (State.row_kept cmdPowerState_kept ..)
  | vcoreOverride => exact .next (State.row_kept cmdVcoreOverride_kept ..)
  | crateConfig => exact .next ((State.keepSettings_kept ..).trans (State.row_kept cmdCrateConfig_kept ..))
  | crateStatus => exact .next (State.row_kept cmdCrateStatus_kept ..)
  | sensorRead => exact .next (State.row_kept cmdSensorRead_kept ..)
  | packageReset => exact .next ((State.afterCommand_kept ..).trans (State.row_kept cmdPackageReset_kept ..))
  | mailboxClaim => exact .next (State.hostAccess_kept (fun s => State.claimBox_kept ..) ..)
  | mailboxRelease => exact .next (State.hostAccess_kept (fun s => State.releaseBox_kept ..) ..)
  | ring => exact .next (State.hostAccess_kept (fun s => State.ringBox_kept ..) ..)
  | eqConsWrite => exact .next (State.hostAccess_kept (fun s => State.writeEqCons_kept ..) ..)
  | cqConsWrite => exact .next (State.hostAccess_kept (fun s => State.writeCqCons_kept ..) ..)
  | eqDroppedRead => exact execEqDroppedRead_runsKept ..
  | intCauseClear => exact .next (State.hostAccess_kept (fun s => State.clearCauses_kept ..) ..)
  | intMaskWrite => exact .next (State.hostAccess_kept (fun s => State.writeMask_kept ..) ..)
  | dmaStart => exact .next (State.hostAccess_kept (fun s => State.dmaControl_kept ..) ..)
  | dmaAbort => exact .next (State.hostAccess_kept (fun s => State.dmaControl_kept ..) ..)
  | dmaTransferDone => exact execDmaTransferDone_runsKept ..
  | calLoad => exact .next (State.writeCalCtrl_kept ..)
  | calLoadDone => exact execCalLoadDone_runsKept ..
  | calSecLoRead => exact execCalSecLoRead_runsKept ..
  | registerWrite => exact .next (State.hostAccess_kept (fun s => State.writeReg_kept ..) ..)
  | bar2Access => exact .next (State.hostAccess_kept (fun s => State.bar2_kept ..) ..)
  | smbusSetPointer => exact execSmbusSetPointer_runsKept ..
  | smbusBlockRead => exact execSmbusBlockRead_runsKept ..
  | smbusBlockWrite => exact execSmbusBlockWrite_runsKept ..
  | mgmtOpen => exact execMgmtOpen_runsKept ..
  | mgmtRequest => exact execMgmtRequest_runsKept ..
  | mgmtKeepalive => exact execMgmtKeepalive_runsKept ..
  | mgmtClose => exact execMgmtClose_runsKept ..
  | sessionTimeout => exact execSessionTimeout_runsKept ..
  | ownerReset => exact execOwnerReset_runsKept ..
  | leaseExpiry => exact execLeaseExpiry_runsKept ..
  | heldCompletionPush => exact .next (foldl_kept (fun s a => State.releaseHeld_kept ..) ..)
  | eqIrqDelayExpiry => exact execEqIrqDelayExpiry_runsKept ..
  | aliveIncrement => exact execAliveIncrement_runsKept ..
  | tickBoundary => exact execTickBoundary_runsKept ..
  | workWindowEnd => exact execWorkWindowEnd_runsKept ..
  | tileDump => exact execTileDump_runsKept ..
  | replayDump => exact execReplayDump_runsKept ..
  | stripDone => exact execStripDone_runsKept ..
  | beamMashFinish => exact execBeamMashFinish_runsKept ..
  | spargeDatagramSend => exact execSpargeDatagramSend_runsKept ..
  | scopeEndRecord => exact execScopeEndRecord_runsKept ..
  | tunRepairTimeout => exact execTunRepairTimeout_runsKept ..
  | grist => exact execGrist_runsKept ..
  | turn => exact execTurn_runsKept ..
  | beampart => exact execBeampart_runsKept ..
  | hello => exact .next (State.controlFrameIn_kept (fun s => State.modRx_kept ..) ..)
  | spareRequest => exact .next (State.sparingFrame_kept ..)
  | spareDuplicating => exact .next (State.sparingFrame_kept ..)
  | spareSwitched => exact .next (State.sparingFrame_kept ..)
  | spareRelease => exact .next (State.sparingFrame_kept ..)
  | spareStopped => exact .next (State.sparingFrame_kept ..)
  | spareRefused => exact .next (State.sparingFrame_kept ..)
  | heartbeat => exact execHeartbeat_runsKept ..
  | stateCopy => exact execStateCopy_runsKept ..
  | journal => exact execJournal_runsKept ..
  | journalAck => exact execJournalAck_runsKept ..
  | journalAckTimeout => exact execJournalAckTimeout_runsKept ..
  | repairReq => exact execRepairReq_runsKept ..
  | repairReply => exact execRepairReply_runsKept ..
  | attach => exact execAttach_runsKept ..
  | attachWaitExpiry => exact execAttachWaitExpiry_runsKept ..
  | switch => exact execSwitch_runsKept ..
  | switchAck => exact execSwitchAck_runsKept ..
  | switchOutputDrive => exact execSwitchOutputDrive_runsKept ..
  | heartbeatWindow => exact execHeartbeatWindow_runsKept ..
  | heartbeatWatchdog => exact execHeartbeatWatchdog_runsKept ..
  | commaPeriod => exact execCommaPeriod_runsKept ..
  | firstBoundaryCheck => exact execFirstBoundaryCheck_runsKept ..
  | codewordDecode => exact execCodewordDecode_runsKept ..
  | spareCopyStart => exact execSpareCopyStart_runsKept ..
  | spareCopyStop => exact execSpareCopyStop_runsKept ..
  | spareConfirmed => exact execSpareConfirmed_runsKept ..
  | laneSpareSwitch => exact execLaneSpareSwitch_runsKept ..
  | laneRestoreSwitch => exact execLaneRestoreSwitch_runsKept ..
  | spareTimeout => exact execSpareTimeout_runsKept ..
  | helloTimer => exact .next (State.sendHaul_kept ..)
  | gristHoldExpiry => exact execGristHoldExpiry_runsKept ..
  | spallBlockEnd => exact .next (State.modChains_kept ..)
  | offsetBlockEnd => exact .next (State.modChains_kept ..)
  | alcPeriodEnd => exact .next (State.modChains_kept ..)
  | refDisqualify => exact .next (State.disqualify_kept ..)
  | refQualify => exact execRefQualify_runsKept ..
  | wtrExpiry => exact execWtrExpiry_runsKept ..
  | dpllLock => exact execDpllLock_runsKept ..
  | historyValid => exact execHistoryValid_runsKept ..
  | timeBadClear => exact execTimeBadClear_runsKept ..
  | ppsInEdge => exact execPpsInEdge_runsKept ..
  | timeSetPpsTimeout => exact execTimeSetPpsTimeout_runsKept ..
  | ptpAnnounce => exact execPtpAnnounce_runsKept ..
  | ptpSync => exact execPtpSync_runsKept ..
  | ptpFollowUp => exact execPtpFollowUp_runsKept ..
  | ptpDelayReq => exact execPtpDelayReq_runsKept ..
  | ptpDelayResp => exact execPtpDelayResp_runsKept ..
  | ptpPdelayReq => exact execPtpPdelayReq_runsKept ..
  | ptpPdelayResp => exact execPtpPdelayResp_runsKept ..
  | ptpAnnounceTimeout => exact execPtpAnnounceTimeout_runsKept ..
  | ptpTxInterval => exact execPtpTxInterval_runsKept ..
  | datapathSecond => exact execDatapathSecond_runsKept ..
  | tickStart => exact execTickStart_runsKept ..
  | calendarSecond => exact execCalendarSecond_runsKept ..
  | vbatMeasure => exact execVbatMeasure_runsKept ..
  | vddAuxLoss => exact .next (State.modCal_kept ..)
  | calOscStopDetect => exact .next (State.modCal_kept ..)
  | hbmRefresh => exact execHbmRefresh_runsKept ..
  | hbmActivate => exact execHbmActivate_runsKept ..
  | refreshWindowEnd => exact .next (State.modStack_kept ..)
  | scrubRead => exact execScrubRead_runsKept ..
  | hbmRequest => exact execHbmRequest_runsKept ..
  | tunAdderOp => exact execTunAdderOp_runsKept ..
  | matrixRequest => exact execMatrixRequest_runsKept ..
  | neighbourRefreshSecond => exact execNeighbourRefreshSecond_runsKept ..
  | kilnDue => exact .next (State.makeDue_kept ..)
  | kilnPassDone => exact execKilnPassDone_runsKept ..
  | thermalReading => exact execThermalReading_runsKept ..
  | thermalTrip => exact execThermalTrip_runsKept ..
  | logDeferRetry => exact execLogDeferRetry_runsKept ..
  | holdupRetry => exact execHoldupRetry_runsKept ..
  | startUp => exact execStartUp_runsKept ..
  | hbmTrainingDone => exact execHbmTrainingDone_runsKept ..
  | startupKilnDone => exact execStartupKilnDone_runsKept ..
  | laneBringupDone => exact execLaneBringupDone_runsKept ..
  | clockLockTimeout => exact execClockLockTimeout_runsKept ..
  | ready => exact execReady_runsKept ..
  | resetAssert => exact .next (State.enterReset_kept ..)
  | supplyMonitorTrip => exact execSupplyMonitorTrip_runsKept ..
  | wakeNEdge => exact execWakeNEdge_runsKept ..
  | powerTransitionDone => exact execPowerTransitionDone_runsKept ..
  | avsFloorUpdate => exact execAvsFloorUpdate_runsKept ..
  | avsRequestStep => exact execAvsRequestStep_runsKept ..
  | crateHeartbeatPeriod => exact execCrateHeartbeatPeriod_runsKept ..
  | crateTxOpportunity => exact execCrateTxOpportunity_runsKept ..
  | ack => exact execAck_runsKept ..
  | crateHeartbeat => exact .next (State.stateBlockIn_kept ..)
  | announce => exact .next (State.stateBlockIn_kept ..)
  | boot => exact execBoot_runsKept ..
  | sleepPropose => exact execSleepPropose_runsKept ..
  | sleepVote => exact execSleepVote_runsKept ..
  | sleepCommit => exact execSleepCommit_runsKept ..
  | sleepAbort => exact execSleepAbort_runsKept ..
  | wake => exact execWake_runsKept ..
  | crateAckTimeout => exact execCrateAckTimeout_runsKept ..
  | crateRetryWait => exact .next (State.modCrate_kept ..)
  | crateAloneAnnounce => exact execCrateAloneAnnounce_runsKept ..
  | nodeHeardExpiry => exact .next (State.loseNode_kept ..)
  | activatingTimeout => exact .next (State.modCrate_kept ..)
  | sleepVoteTimeout => exact execSleepVoteTimeout_runsKept ..
  | sleepOutcomeTimeout => exact execSleepOutcomeTimeout_runsKept ..
  | vddAuxReturn => exact .next (State.modCal_kept ..)
  | calendarDomainPowerOn => exact execCalendarDomainPowerOn_runsKept ..
  | pulseWidthEnd => exact .next (State.modPulses_kept ..)
  | arpRequest => exact execArpRequest_runsKept ..
  | neighbourSolicitation => exact execNeighbourSolicitation_runsKept ..
  | eyeScanDone => exact execEyeScanDone_runsKept ..
  | norOperationDone => exact execNorOperationDone_runsKept ..

/-- Settles O4: every operation that a command is made of keeps the waiting commands, the variant and the serial number, so each command does. -/
theorem everyCommandRuns : Obligations.EveryCommandRuns := by
  intro c s
  obtain ⟨t, ht, hk⟩ := exec_runsKept c s
  obtain ⟨hpending, hvariant, hserial⟩ : t.pending = s.pending ∧ t.ident.variant = s.ident.variant ∧ t.ident.serial = s.ident.serial := by
    simpa [State.kept] using hk
  exact ⟨t, ht, hpending, hvariant, hserial⟩

end Sys2Proof.Machine

/-! ## Interrupt registers and BAR0 words (R359 to R361, R390, R391) -/

namespace Sys2Proof.Machine

/-! ### An access of the host where no command waits -/

theorem exec_intCauseClear (v : Word) (s : State) : exec (.intCauseClear v) s = .next (s.hostAccess (·.clearCauses v)) := rfl

theorem exec_intMaskWrite (v : Word) (s : State) : exec (.intMaskWrite v) s = .next (s.hostAccess (·.writeMask v)) := rfl

theorem exec_registerWrite (who off : Nat) (v : Word) (s : State) :
    exec (.registerWrite who off v) s = .next (s.hostAccess (·.writeReg .pcie (some who) off v)) := rfl

theorem exec_aliveIncrement (s : State) : exec .aliveIncrement s = execAliveIncrement s := rfl

/-- The lead core has nothing to serve while no mailbox holds a waiting command. -/
theorem State.serveWaiting_of_none (s : State) (h : ∀ m, (s.box m).waiting = none) : s.serveWaiting = s := by
  have hrun : ∀ m, s.runBox m = s := by
    intro m
    unfold State.runBox
    simp only [h m]
  apply List.foldl_fixed'
  intro m
  rw [hrun m, ite_self]

/-- An access that leaves the mailboxes as they are wakes no command, so it is the access alone. -/
theorem State.hostAccess_of_quiet {s : State} (hq : HostQuiet s) {f : State → State} (hm : (f s).mail = s.mail) : s.hostAccess f = f s := by
  have hnone : ∀ m, ((f s).box m).waiting = none := by
    intro m
    rw [State.box, hm]
    exact hq.none m
  rw [State.hostAccess, if_pos hq.up, State.serveWaiting_of_none _ hnone]

/-! ### Causes and the mask (R391) -/

@[simp] theorem State.sendMessage_cause (s : State) (c : Nat) : (s.sendMessage c).intr.cause = s.intr.cause := by
  unfold State.sendMessage
  dsimp only
  split <;> rfl

@[simp] theorem State.sendMessage_mask (s : State) (c : Nat) : (s.sendMessage c).intr.mask = s.intr.mask := by
  unfold State.sendMessage
  dsimp only
  split <;> rfl

@[simp] theorem State.sendMessage_mail (s : State) (c : Nat) : (s.sendMessage c).mail = s.mail := by
  obtain ⟨_, _, h⟩ := s.sendMessage_eq c
  rw [h]

@[simp] theorem State.sendMessage_events (s : State) (c : Nat) : (s.sendMessage c).events = s.events := by
  obtain ⟨_, _, h⟩ := s.sendMessage_eq c
  rw [h]

theorem getLsbD_ofNat_twoPow {c k : Nat} (hk : k < 16) : (BitVec.ofNat 16 (2 ^ c)).getLsbD k = decide (k = c) := by
  rw [BitVec.getLsbD_ofNat, Nat.testBit_two_pow, decide_eq_true hk, Bool.true_and]
  exact decide_eq_decide.mpr eq_comm

/-- Setting cause `c` sets bit `c` and no other. -/
theorem State.setCause_cause (s : State) (c : Nat) {k : Nat} (hk : k < 16) :
    (s.setCause c).intr.cause.getLsbD k = (s.intr.cause.getLsbD k || decide (k = c)) := by
  unfold State.setCause
  split
  next hset =>
    by_cases hkc : k = c
    · simp [hkc, hset]
    · simp [hkc]
  next =>
    dsimp only
    split <;> simp only [State.sendMessage_cause, BitVec.getLsbD_or, getLsbD_ofNat_twoPow hk]

/-- The conditions of the causes depend on queues, channels and flags, never on the interrupt page. -/
theorem State.condition_congr {s t : State} (he : t.events = s.events) (hm : t.mail = s.mail) (hd : t.dma = s.dma) (hr : t.regs = s.regs) (k : Nat) :
    t.condition k = s.condition k := by
  unfold State.condition
  rw [he, hm, hd, hr]

theorem State.setCause_condition (s : State) (c k : Nat) : (s.setCause c).condition k = s.condition k :=
  State.condition_congr (by simp) (by simp) (by simp) (by simp) k

/-- Of the causes listed, those whose condition holds set; nothing else changes. -/
theorem State.setHolding_cause (l : List Nat) {k : Nat} (hk : k < 16) (s : State) :
    (s.setHolding l).intr.cause.getLsbD k = (s.intr.cause.getLsbD k || (decide (k ∈ l) && s.condition k)) := by
  induction l generalizing s with
  | nil => simp [State.setHolding]
  | cons c l ih =>
    have hcons : s.setHolding (c :: l) = (if s.condition c then s.setCause c else s).setHolding l := rfl
    rw [hcons]
    by_cases hc : s.condition c = true
    · rw [if_pos hc, ih, s.setCause_cause c hk, s.setCause_condition]
      by_cases hkc : k = c
      · simp [hkc, hc]
      · simp [hkc]
    · rw [if_neg hc, ih]
      by_cases hkc : k = c
      · simp [hkc, Bool.eq_false_iff.mpr hc]
      · simp [hkc]

/-- A cause that is written 1 shows its condition; another stays. -/
theorem State.clearCauses_cause (s : State) (v : Word) {k : Nat} (hk : k < 16) :
    (s.clearCauses v).intr.cause.getLsbD k = if v.getLsbD k then s.condition k else s.intr.cause.getLsbD k := by
  have hbit : (BitVec.ofNat 16 v.toNat).getLsbD k = v.getLsbD k := by
    rw [BitVec.getLsbD_ofNat, decide_eq_true hk, Bool.true_and, BitVec.testBit_toNat]
  have hcond : (s.modIntr fun i => { i with cause := i.cause &&& ~~~(BitVec.ofNat 16 v.toNat) }).condition k = s.condition k := rfl
  have hcause : (s.modIntr fun i => { i with cause := i.cause &&& ~~~(BitVec.ofNat 16 v.toNat) }).intr.cause.getLsbD k =
      (s.intr.cause.getLsbD k && !v.getLsbD k) := by
    simp only [State.modIntr, BitVec.getLsbD_and, BitVec.getLsbD_not, hk, decide_true, Bool.true_and, hbit]
  unfold State.clearCauses
  dsimp only
  rw [State.setHolding_cause _ hk, hcond, hcause]
  cases hv : v.getLsbD k <;> simp [hv, hk]

@[simp] theorem State.clearCauses_mail (s : State) (v : Word) : (s.clearCauses v).mail = s.mail := State.setHolding_mail _ _

/-- Messages of several causes change neither a cause, nor the mask, nor a queue. -/
theorem State.sendMessages_keep (l : List Nat) (s : State) :
    (l.foldl State.sendMessage s).intr.cause = s.intr.cause ∧ (l.foldl State.sendMessage s).intr.mask = s.intr.mask ∧
      (l.foldl State.sendMessage s).mail = s.mail ∧ (l.foldl State.sendMessage s).events = s.events := by
  induction l generalizing s with
  | nil => exact ⟨rfl, rfl, rfl, rfl⟩
  | cons c l ih => simpa using ih (s.sendMessage c)

/-- INT_MASK takes the value written; the messages it frees change no cause and no queue. -/
theorem State.writeMask_keep (s : State) (v : Word) :
    (s.writeMask v).intr.cause = s.intr.cause ∧ (s.writeMask v).intr.mask = BitVec.ofNat 16 v.toNat ∧ (s.writeMask v).mail = s.mail ∧
      (s.writeMask v).events = s.events :=
  State.sendMessages_keep _ _

/-! ### Words of the BAR0 image -/

/-- The listed words that a host cannot write and that a mailbox does not hold: identity page and event queue (R360, R385). -/
def readOnlyOffsets : List Nat :=
  [0x000, 0x004, 0x008, 0x00C, 0x010, 0x014, 0x018, 0x020, 0x028, 0x02C, 0x030, 0x034, 0x038, 0x20000, 0x20008, 0x2000C]

theorem State.writeReg_scratch (s : State) (m : Master) (who : Option Nat) (v : Word) :
    s.writeReg m who 0x03C v = { s with ident := { s.ident with scratch := v } } := rfl

theorem State.writeReg_globalErr (s : State) (m : Master) (who : Option Nat) (v : Word) :
    s.writeReg m who 0x024 v = { s with regs := { s.regs with globalErr := s.regs.globalErr &&& ~~~(BitVec.ofNat 5 v.toNat) } } := rfl

theorem State.writeReg_winSel (s : State) (m : Master) (who : Option Nat) (v : Word) :
    s.writeReg m who 0x40000 v = { s with regs := { s.regs with winSel := BitVec.ofNat 4 v.toNat } } := rfl

theorem State.writeReg_readOnly (s : State) (m : Master) (who : Option Nat) (v : Word) : ∀ off ∈ readOnlyOffsets, s.writeReg m who off v = s := by
  simp only [readOnlyOffsets, List.forall_mem_cons]
  refine ⟨rfl, rfl, rfl, rfl, rfl, rfl, rfl, rfl, rfl, rfl, rfl, rfl, rfl, rfl, rfl, rfl, ?_⟩
  simp

/-- A register write that leaves the mailboxes as they are is the write alone. -/
theorem exec_registerWrite_of_quiet {s : State} (hq : HostQuiet s) {who off : Nat} {v : Word} {t : State}
    (h : s.writeReg .pcie (some who) off v = t) (hm : t.mail = s.mail) : exec (.registerWrite who off v) s = .next t := by
  rw [exec_registerWrite, State.hostAccess_of_quiet hq (by rw [h, hm]), h]

/-! ### The counters of the lead core's millisecond (R360, R369) -/

theorem aliveIncrement_gives {s : State} (hr : s.power.inReset = false) (hs : 3 ≤ s.power.stage) :
    Gives .aliveIncrement s fun t => t.regs = { s.regs with alive := s.regs.alive + 1 } ∧
      t.lease.leftMs = (if s.lease.owner.isSome then s.lease.leftMs - 1 else s.lease.leftMs) ∧ t.mail = s.mail ∧ t.cfg = s.cfg := by
  have hserves : s.serves = true := by simp [State.serves, hr, hs]
  refine ⟨_, exec_aliveIncrement s, ?_⟩
  rw [if_pos hserves]
  dsimp only
  by_cases ho : s.lease.owner.isSome = true
  · rw [if_pos ho, if_pos ho]
    exact ⟨rfl, rfl, rfl, rfl⟩
  · rw [if_neg ho, if_neg ho]
    exact ⟨rfl, rfl, rfl, rfl⟩

/-- Settles O27: with no command waiting an access is the write alone, and each write's effect is read off bit by bit. -/
theorem interruptAndRegisterWritesAct : Obligations.InterruptAndRegisterWritesAct := by
  intro s who v hq
  refine ⟨?_, ?_, ?_, ?_, ?_, ?_, aliveIncrement_gives⟩
  · refine ⟨s.clearCauses v, ?_, ?_⟩
    · rw [exec_intCauseClear, State.hostAccess_of_quiet hq (s.clearCauses_mail v)]
    · intro k hk
      rw [s.clearCauses_cause v hk]
      refine ⟨?_, ?_, ?_⟩
      · intro hv hc
        rw [if_pos hv, hc]
      · intro hv hc
        rw [if_pos hv, hc]
      · intro hv
        rw [hv, if_neg Bool.false_ne_true]
  · obtain ⟨hcause, hmask, hmail, hevents⟩ := s.writeMask_keep v
    refine ⟨s.writeMask v, ?_, hmask, hcause, hmail, hevents⟩
    rw [exec_intMaskWrite, State.hostAccess_of_quiet hq hmail]
  · exact exec_registerWrite_of_quiet hq (s.writeReg_scratch _ _ v) rfl
  · exact exec_registerWrite_of_quiet hq (s.writeReg_globalErr _ _ v) rfl
  · exact exec_registerWrite_of_quiet hq (s.writeReg_winSel _ _ v) rfl
  · intro off hoff
    exact exec_registerWrite_of_quiet hq (s.writeReg_readOnly _ _ v off hoff) rfl

end Sys2Proof.Machine

/-! ## Reads of a pipe's counters (R13, R371)

`PipeReadsComplete` asks that the KIND bits of the handle suit the command, and that the handle is neither stale nor STAGED. The model asks more (R371,
log 106): the entry's own kind must be that of the handle, or the read answers BAD_ARGUMENT. -/

namespace Sys2Proof.Machine

/-! ### What a mailbox shows is one answer -/

theorem Completes.code_eq {i : Instr} {s u v : State} {m : Nat} {st st' : Status} {r r' : List Byte} (h : Completes i s m st r u)
    (h' : Completes i s m st' r' v) : st.code = st'.code := by
  obtain ⟨t, ht, ha, -⟩ := h
  obtain ⟨t', ht', ha', -⟩ := h'
  have hsame : t = t' := Host.Outcome.next.inj (ht.symm.trans ht')
  rw [← ha.status, hsame, ha'.status]

/-! ### SINK_STATS of an entry of another kind -/

theorem exec_sinkStats (o : Origin) (args : List Byte) (s : State) :
    exec (.sinkStats o args) s = .next (s.row o 0x0321 args (fixedLen 4) cmdSinkStats) := rfl

/-- The first test that fails is the one for the kind: the handle is not stale. -/
theorem PackageCfg.handleChecks_wrongKind {c : PackageCfg} {h off : Nat} {kinds : List Nat} (hstale : c.stale h = false)
    (hkind : c.wrongKind h kinds = true) (l : Checks) : firstFail (c.handleChecks h off kinds ++ l) = some (.badArgument, off) := by
  simp [PackageCfg.handleChecks, firstFail, bad, hstale, hkind]

theorem State.pipeView_of_not_staged {s : State} {o : Origin} {h : Nat} (hs : s.isStagedPipe o h = false) : s.pipeView o h = s.cfg := by
  rw [State.pipeView, hs, if_neg Bool.false_ne_true]

/-- SINK_STATS of a current handle that its entry's kind contradicts answers BAD_ARGUMENT (R371). -/
theorem sinkStats_of_wrongKind {s : State} {o : Origin} {args : List Byte} (hs : Served s o) (hlen : args.length = 4)
    (hstale : (s.taken o 0x0321 args).cfg.stale (field args 0 4) = false)
    (hstaged : (s.taken o 0x0321 args).isStagedPipe o (field args 0 4) = false)
    (hkind : (s.taken o 0x0321 args).cfg.wrongKind (field args 0 4) [4] = true) :
    Completes (.sinkStats o args) s o.mailbox .badArgument [] (s.taken o 0x0321 args) := by
  have hcmd : cmdSinkStats o args (s.taken o 0x0321 args) = .done .badArgument 0 [] (s.taken o 0x0321 args) := by
    unfold cmdSinkStats State.pipeChecks
    rw [State.pipeView_of_not_staged hstaged]
    exact checked_fail (PackageCfg.handleChecks_wrongKind hstale hkind _)
  have hstandby : standbyRefuses 0x0321 args = false := rfl
  refine Completes.of_row (exec_sinkStats o args s) hs (by omega) (fixedLen_none 4 args hlen) rfl ?_ ?_ hcmd rfl (.inl rfl) (by decide)
  · rw [hstandby, Bool.and_false]
  · intro h
    exact absurd h (by decide)

/-! ### The counterexample -/

/-- A package that is up, with one pipe: a CORR pipe of generation 1 runs at entry 0. -/
def corrPipeOnly : State :=
  { State.reset with
    power := { State.reset.power with inReset := false, stage := 9, ready := true }
    cfg := { pipes := [{ state := .running, cfg := .corr {} }] } }

/-- A sender through mailbox 0 without the lease. -/
def anyReader : Origin := { id := 5 }

/-- The handle 0x40010000: KIND SINK, generation 1, entry 0. -/
def sinkHandle : List Byte := leBytes 4 0x40010000

theorem served_corrPipeOnly : Served corrPipeOnly anyReader := ⟨by decide, rfl, by decide, by decide⟩

/-- Refutes O13: a handle of KIND SINK with the index and generation of a CORR pipe is neither stale nor STAGED, and SINK_STATS refuses it. -/
theorem not_pipeReadsComplete : ¬ Obligations.PipeReadsComplete := by
  intro h
  have hstale : (corrPipeOnly.taken anyReader 0x0321 sinkHandle).cfg.stale (field sinkHandle 0 4) = false := by decide
  have hstaged : (corrPipeOnly.taken anyReader 0x0321 sinkHandle).isStagedPipe anyReader (field sinkHandle 0 4) = false := by decide
  have hkind : (corrPipeOnly.taken anyReader 0x0321 sinkHandle).cfg.wrongKind (field sinkHandle 0 4) [4] = true := by decide
  obtain ⟨-, -, -, -, hsink⟩ := h corrPipeOnly anyReader sinkHandle served_corrPipeOnly
  obtain ⟨reply, u, -, -, -, -, -, -, -, -, hok⟩ := hsink rfl hstale (by decide) hstaged
  exact absurd (hok.code_eq (sinkStats_of_wrongKind served_corrPipeOnly rfl hstale hstaged hkind)) (by decide)

end Sys2Proof.Machine

/-! ## Tile dumps, their replays and the reserve (R62, R158, R161 to R168, R171) -/

namespace Sys2Proof.Machine

theorem exec_tileDump {s : State} (hrun : s.tilesRun = true) (d : DumpRef) (errs : List TileError) :
    exec (.tileDump d errs) s = .next (s.tileDump d errs) := by
  show execTileDump d errs s = _
  rw [execTileDump, if_pos hrun]

theorem exec_replayDump {s : State} (hrun : s.tilesRun = true) (d : DumpRef) (errs : List TileError) :
    exec (.replayDump d errs) s = .next (s.replayDump d errs) := by
  show execReplayDump d errs s = _
  rw [execReplayDump, if_pos hrun]

/-! ### Records by key: the work of a die, a tile position -/

/-- An update that keeps the key is what a search by that key then finds. -/
theorem find?_upsert {α : Type} {p : α → Bool} {d : α} {f : α → α} (hd : p d = true) (hf : ∀ a, p a = true → p (f a) = true) (l : List α) :
    (upsert p d f l).find? p = some (f ((l.find? p).getD d)) := by
  induction l with
  | nil => simp [upsert, hf d hd]
  | cons a l ih =>
    by_cases ha : p a = true
    · simp [upsert, ha, hf a ha]
    · simp [upsert, ha, ih]

theorem State.tilePos_modTile (s : State) (pipe die bank ch q : Nat) {f : TilePos → TilePos}
    (hf : ∀ x, (f x).pipe = x.pipe ∧ (f x).die = x.die ∧ (f x).bank = x.bank ∧ (f x).channel = x.channel ∧ (f x).tp = x.tp) :
    (s.modTile pipe die bank ch q f).tilePos pipe die bank ch q = f (s.tilePos pipe die bank ch q) := by
  have hkey : ∀ x : TilePos, (x.pipe == pipe && x.die == die && x.bank == bank && x.channel == ch && x.tp == q) = true →
      ((f x).pipe == pipe && (f x).die == die && (f x).bank == bank && (f x).channel == ch && (f x).tp == q) = true := by
    intro x hx
    obtain ⟨hpipe, hdie, hbank, hch, htp⟩ := hf x
    rwa [hpipe, hdie, hbank, hch, htp]
  unfold State.tilePos State.modTile
  dsimp only
  rw [find?_upsert (by simp) hkey, Option.getD_some]

theorem State.tilePos_congr {s t : State} (h : t.data.tiles = s.data.tiles) (pipe die bank ch q : Nat) :
    t.tilePos pipe die bank ch q = s.tilePos pipe die bank ch q := by
  rw [State.tilePos, h, State.tilePos]

theorem State.die_modDie {s : State} {die : Nat} (h : die < s.data.dies.length) (f : DieWork → DieWork) : (s.modDie die f).die die = f (s.die die) := by
  unfold State.die State.modDie
  simp [List.getD_eq_getElem?_getD, h]

theorem State.die_congr {s t : State} (h : t.data.dies = s.data.dies) (die : Nat) : t.die die = s.die die := by
  rw [State.die, h, State.die]

/-- A change of some die's work that leaves alone a part `g` of it leaves that part alone on every die. -/
theorem State.die_modDie_part {β : Type} (s : State) (k die : Nat) {f : DieWork → DieWork} (g : DieWork → β) (hg : ∀ w, g (f w) = g w) :
    g ((s.modDie k f).die die) = g (s.die die) := by
  unfold State.die State.modDie
  simp only [List.getD_eq_getElem?_getD, List.getElem?_modify]
  split <;> cases s.data.dies[die]? <;> simp [hg]

/-! ### What the marks of a tile position leave alone -/

/-- The dies' work, the dumps that are held, and the bytes of memory. -/
def State.tunFrame (s : State) : List DieWork × List HeldDump × List Host.Cell := (s.data.dies, s.data.held, s.fabric.mem)

theorem State.tunFrame_eq_iff {s : State} {w : List DieWork} {l : List HeldDump} {m : List Host.Cell} :
    s.tunFrame = (w, l, m) ↔ s.data.dies = w ∧ s.data.held = l ∧ s.fabric.mem = m := by
  simp [State.tunFrame]

@[simp] theorem State.modTile_tunFrame (s : State) (pipe die bank ch q : Nat) (f : TilePos → TilePos) :
    (s.modTile pipe die bank ch q f).tunFrame = s.tunFrame := rfl

@[simp] theorem State.modCorr_tunFrame (s : State) (pipe die : Nat) (f : CorrCount → CorrCount) : (s.modCorr pipe die f).tunFrame = s.tunFrame := rfl

@[simp] theorem State.healWords_tunFrame (s : State) (a n : Nat) : (s.healWords a n).tunFrame = s.tunFrame := rfl

@[simp] theorem State.addDigest_tunFrame (s : State) (tick : Nat) (record : List Byte) : (s.addDigest tick record).tunFrame = s.tunFrame := rfl

@[simp] theorem State.raise_tunFrame (s : State) (code die : Nat) (detail : List Byte) : (s.raise code die detail).tunFrame = s.tunFrame := by
  rw [State.tunFrame, State.raise_data, State.raise_fabric, State.tunFrame]

/-- The work of the dies changes beside what the frame leaves alone. -/
theorem State.modDie_tunFrame_congr {s t : State} (h : t.tunFrame = s.tunFrame) (die : Nat) (f : DieWork → DieWork) :
    (t.modDie die f).tunFrame = (s.data.dies.modify die f, s.data.held, s.fabric.mem) := by
  obtain ⟨hdies, hheld, hmem⟩ := State.tunFrame_eq_iff.1 h
  exact State.tunFrame_eq_iff.2 ⟨congrArg (List.modify · die f) hdies, hheld, hmem⟩

@[simp] theorem State.markCorrupt_tunFrame (s : State) (pipe die bank ch q : Nat) : (s.markCorrupt pipe die bank ch q).tunFrame = s.tunFrame := by
  unfold State.markCorrupt
  split
  · rfl
  · simp

@[simp] theorem State.poisonWords_tunFrame (s : State) (pipe die bank ch q : Nat) (ws : List Nat) :
    (s.poisonWords pipe die bank ch q ws).tunFrame = s.tunFrame := by
  unfold State.poisonWords
  refine List.foldlRecOn (motive := fun t : State => t.tunFrame = s.tunFrame) _ _ rfl ?_
  intro t ht w _
  split
  · simpa using ht
  · simpa using ht

@[simp] theorem State.noteSaturation_tunFrame (s : State) (pipe die bank ch q : Nat) : (s.noteSaturation pipe die bank ch q).tunFrame = s.tunFrame := by
  unfold State.noteSaturation
  dsimp only
  split <;> split
  case isTrue.isTrue => rfl
  case isFalse.isTrue => rfl
  all_goals
    rw [State.raise_tunFrame]
    rfl

@[simp] theorem State.addMisses_tunFrame (s : State) (pipe die bank ch q : Nat) (counts : List Nat) :
    (s.addMisses pipe die bank ch q counts).tunFrame = s.tunFrame := by
  unfold State.addMisses
  split
  · rfl
  · dsimp only
    split <;> rfl

/-! ### The tun adder on a whole tile position (R171, R172) -/

/-- Storing sums writes them in place; beside that it only marks. -/
theorem State.storeSums_tunFrame (s : State) (e : PipeEntry) (pipe die bank ch q first : Nat) (badWs : List Nat) (res : List (Int × Bool)) :
    (s.storeSums e pipe die bank ch q first badWs res).tunFrame = (s.data.dies, s.data.held,
      Memory.write s.fabric.mem (e.tunAddr die bank ch q + e.cfg.corrCfg.compBytes * first) (res.flatMap fun r => leInt e.cfg.corrCfg.compBytes r.1)) := by
  unfold State.storeSums
  dsimp only
  split
  · rw [State.poisonWords_tunFrame]
    rfl
  · rw [State.noteSaturation_tunFrame, State.poisonWords_tunFrame]
    rfl

@[simp] theorem State.meetBad_data (s : State) (die n : Nat) : (s.meetBad die n).data = s.data := by
  unfold State.meetBad
  split <;> rfl

/-- An add to the tun leaves the work of the dies and the held dumps as they are. -/
theorem State.tunAdd_tunFrame (s : State) (e : PipeEntry) (pipe die bank ch q : Nat) (vs : List Int) :
    ∃ m, (s.tunAdd e pipe die bank ch q vs).tunFrame = (s.data.dies, s.data.held, m) := by
  unfold State.tunAdd
  dsimp only
  rw [State.modTile_tunFrame, State.storeSums_tunFrame, State.meetBad_data]
  exact ⟨_, rfl⟩

/-- The first add to a position without bounds or marks saturates each component (R172). -/
theorem TilePos.sums_bytes_fresh {tp : TilePos} (hfull : tp.full = false) (hmarks : tp.satMarks = []) (n : Nat) (vs : List Int) :
    (tp.sums n 0 [] [] vs).flatMap (fun r => leInt n r.1) = vs.flatMap fun v => leInt n (satInt (8 * n) v) := by
  have hsum : tp.sums n 0 [] [] vs = vs.zipIdx.map fun x => (satInt (8 * n) x.1, x.1 != satInt (8 * n) x.1) := by
    simp [TilePos.sums, addComponent, hfull, hmarks]
  rw [hsum, List.flatMap_map]
  conv_rhs => rw [← List.zipIdx_map_fst 0 vs, List.flatMap_map]

/-- A fresh tile position without bounds or marks takes what is added to it as it stands, saturated (R171, R172). -/
theorem State.tunAdd_mem_fresh {s : State} {pipe die bank ch q : Nat} (hfresh : (s.tilePos pipe die bank ch q).fresh = true)
    (hwritten : (s.tilePos pipe die bank ch q).written = []) (hfull : (s.tilePos pipe die bank ch q).full = false)
    (hmarks : (s.tilePos pipe die bank ch q).satMarks = []) (e : PipeEntry) (vs : List Int) :
    (s.tunAdd e pipe die bank ch q vs).fabric.mem = Memory.write s.fabric.mem (e.tunAddr die bank ch q)
      (vs.flatMap fun v => leInt e.cfg.corrCfg.compBytes (satInt (8 * e.cfg.corrCfg.compBytes) v)) := by
  unfold State.tunAdd
  simp only [hfresh, hwritten, List.isEmpty_nil, Bool.and_self, if_true, List.length_nil, State.modTile_fabric]
  obtain ⟨-, -, hmem⟩ := State.tunFrame_eq_iff.1
    (State.storeSums_tunFrame (s.meetBad die 0) e pipe die bank ch q 0 [] ((s.tilePos pipe die bank ch q).sums e.cfg.corrCfg.compBytes 0 [] [] vs))
  rw [hmem, TilePos.sums_bytes_fresh hfull hmarks, Nat.mul_zero, Nat.add_zero]
  rfl

/-! ### What becomes of a tile's run (R161, R162, R166, R168) -/

/-- A dump that reaches the tun is done; it adds nothing else to its die's work. -/
theorem State.dumpAdd_tunFrame (s : State) (e : PipeEntry) (d : DumpRef) (cells : List (Int × Int)) (replayed : Bool) (misses : List Nat) :
    (s.dumpAdd e d cells replayed misses).tunFrame = (s.data.dies.modify d.die fun w => { w with done := DumpRef.key d :: w.done }, s.data.held,
      (s.tunAdd e d.pipe d.die (e.bankAt s.workTick) d.channel d.tp (cells.flatMap fun x => [x.1, x.2])).fabric.mem) := by
  obtain ⟨m, hadd⟩ := s.tunAdd_tunFrame e d.pipe d.die (e.bankAt s.workTick) d.channel d.tp (cells.flatMap fun x => [x.1, x.2])
  obtain ⟨hdies, hheld, -⟩ := State.tunFrame_eq_iff.1 hadd
  rw [← hdies, ← hheld]
  refine State.modDie_tunFrame_congr ?_ d.die _
  split
  · rw [State.modTile_tunFrame, State.addMisses_tunFrame, State.addDigest_tunFrame]
  · rw [State.addMisses_tunFrame, State.addDigest_tunFrame]

theorem State.dumpAdd_die {s : State} {d : DumpRef} (hdie : d.die < s.data.dies.length) (e : PipeEntry) (cells : List (Int × Int)) (replayed : Bool)
    (misses : List Nat) : (s.dumpAdd e d cells replayed misses).die d.die = { s.die d.die with done := DumpRef.key d :: (s.die d.die).done } := by
  obtain ⟨hdies, -, -⟩ := State.tunFrame_eq_iff.1 (s.dumpAdd_tunFrame e d cells replayed misses)
  rw [State.die_congr (s := s.modDie d.die fun w => { w with done := DumpRef.key d :: w.done }) hdies, State.die_modDie hdie]

theorem State.dumpAdd_held (s : State) (e : PipeEntry) (d : DumpRef) (cells : List (Int × Int)) (replayed : Bool) (misses : List Nat) :
    (s.dumpAdd e d cells replayed misses).data.held = s.data.held := by
  obtain ⟨-, hheld, -⟩ := State.tunFrame_eq_iff.1 (s.dumpAdd_tunFrame e d cells replayed misses)
  exact hheld

/-- A dump that fails its check: counted, queued as a fault, its tile out, the reserve less by the time left (R162). -/
theorem State.tileFault_die {s : State} {d : DumpRef} (hdie : d.die < s.data.dies.length) :
    (s.tileFault d).die d.die = { s.die d.die with
      tileFaults := rcAdd 32 (s.die d.die).tileFaults 1
      replays := queueReplay (s.die d.die).replays { fault := true, ref := DumpRef.key d }
      faulty := (s.die d.die).faulty ++ [((s.die d.die).physical d.tile).getD 255]
      reserve := (s.die d.die).reserve - s.windowLeft } := by
  have hnote (p : Nat) : (s.noteFault d.die p d.channel d.tp).data = (s.modDie d.die fun w => { w with tileFaults := rcAdd 32 w.tileFaults 1 }).data :=
    State.raise_data _ _ _ _
  have hleft (p : Nat) : ((s.noteFault d.die p d.channel d.tp).requestReplay d true).windowLeft = s.windowLeft := by
    simp [State.windowLeft, State.workTick, State.timeNs, State.requestReplay, State.noteFault]
  unfold State.tileFault
  dsimp only
  rw [State.tileOut, hleft, State.requestReplay, State.die_modDie (by simp [hnote, hdie]), State.die_modDie (by simp [hnote, hdie]),
    State.die_congr (congrArg DataPath.dies (hnote _)), State.die_modDie hdie]

theorem State.tileFault_mem (s : State) (d : DumpRef) : (s.tileFault d).fabric.mem = s.fabric.mem := by
  simp [State.tileFault, State.tileOut, State.requestReplay, State.noteFault]

theorem State.holdDump_die {s : State} {d : DumpRef} (hdie : d.die < s.data.dies.length) (cells : List (Int × Int)) :
    (s.holdDump d cells).die d.die = { s.die d.die with replays := queueReplay (s.die d.die).replays { fault := false, ref := DumpRef.key d } } :=
  State.die_modDie (s := { s with data := { s.data with held := s.data.held ++ [{ ref := DumpRef.key d, values := cells }] } }) hdie _

theorem State.holdDump_held (s : State) (d : DumpRef) (cells : List (Int × Int)) :
    (s.holdDump d cells).data.held = s.data.held ++ [{ ref := DumpRef.key d, values := cells }] := rfl

theorem State.holdDump_mem (s : State) (d : DumpRef) (cells : List (Int × Int)) : (s.holdDump d cells).fabric.mem = s.fabric.mem := rfl

theorem State.countReplay_die (s : State) (d : DumpRef) (fault overflow : Bool) (die : Nat) : (s.countReplay d fault overflow).die die = s.die die := rfl

section
variable {s : State} {e : PipeEntry} {d : DumpRef} {r : TileRun}

theorem State.takeRun_exact (hv : r.verified = true) (ho : r.overflow = false) (misses : List Nat) :
    s.takeRun e d r misses = s.dumpAdd e d r.cells false misses := by
  simp [State.takeRun, hv, ho]

theorem State.takeRun_overflow (hv : r.verified = true) (ho : r.overflow = true) (misses : List Nat) : s.takeRun e d r misses = s.holdDump d r.cells := by
  simp [State.takeRun, hv, ho]

theorem State.takeRun_fault (hv : r.verified = false) (misses : List Nat) : s.takeRun e d r misses = s.tileFault d := by
  simp [State.takeRun, hv]

theorem State.takeReplay_fault (hv : r.verified = false) (fault : Bool) (misses : List Nat) : s.takeReplay e d fault r misses = s.tileFault d := by
  unfold State.takeReplay
  split
  · simp [hv]
  · simpa [hv] using State.takeRun_fault hv misses

/-- A replay that verifies, of a held dump or exact by itself, reaches the tun, and its dump is held no longer (R165, R168). -/
theorem State.takeReplay_verified (hv : r.verified = true) (h : (s.data.held.any fun h => h.ref == DumpRef.key d) = true ∨ r.overflow = false) (fault : Bool)
    (misses : List Nat) : ∃ (t : State) (cells : List (Int × Int)) (replayed : Bool), s.takeReplay e d fault r misses = t.dumpAdd e d cells replayed misses ∧
      t.data.dies = s.data.dies ∧ ∀ x ∈ t.data.held, x.ref ≠ DumpRef.key d := by
  unfold State.takeReplay
  split
  next x hx =>
    rw [if_neg (by simp [hv])]
    refine ⟨_, _, _, rfl, rfl, ?_⟩
    intro y hy
    simpa using (List.mem_filter.1 hy).2
  next hnone =>
    have hkeys : ∀ x ∈ s.data.held, x.ref ≠ DumpRef.key d := by simpa using hnone
    have ho : r.overflow = false := h.resolve_left (by simpa using hkeys)
    rw [if_pos hv, State.takeRun_exact hv ho]
    exact ⟨_, _, _, rfl, rfl, hkeys⟩

/-- A replay without a held dump that overflows is itself held (R166). -/
theorem State.takeReplay_overflow (hv : r.verified = true) (h : (s.data.held.any fun h => h.ref == DumpRef.key d) = false) (ho : r.overflow = true)
    (fault : Bool) (misses : List Nat) : s.takeReplay e d fault r misses = (s.countReplay d fault false).holdDump d r.cells := by
  have hnone : (s.data.held.find? fun h => h.ref == DumpRef.key d) = none := by simpa using h
  rw [State.takeReplay, hnone]
  dsimp only
  rw [if_pos hv, State.takeRun_overflow hv ho]

end

theorem State.tileDump_eq {s : State} {d : DumpRef} {e : PipeEntry} {b : TileWork} (he : s.corrAt d = some e)
    (hb : (s.die d.die).working d.tile (.dump (DumpRef.key d)) false = some b) (errs : List TileError) :
    s.tileDump d errs = ((s.freeUp d.die b).takeRun e d (s.runTile e.cfg.corrCfg d false errs).1 (s.runTile e.cfg.corrCfg d false errs).2).deal d.die := by
  rw [State.tileDump, he, hb]

theorem State.replayDump_eq {s : State} {d : DumpRef} {e : PipeEntry} {b : TileWork} (he : s.corrAt d = some e)
    (hb : (s.die d.die).working d.tile (.dump (DumpRef.key d)) true = some b) (errs : List TileError) :
    s.replayDump d errs = ((s.freeUp d.die b).takeReplay e d (b.replay.any (·.fault))
      (s.runTile e.cfg.corrCfg d (s.data.held.any fun h => h.ref == DumpRef.key d) errs).1
      (s.runTile e.cfg.corrCfg d (s.data.held.any fun h => h.ref == DumpRef.key d) errs).2).deal d.die := by
  rw [State.replayDump, he, hb]

theorem State.freeUp_die {s : State} {die : Nat} (hdie : die < s.data.dies.length) (b : TileWork) :
    (s.freeUp die b).die die = { s.die die with busy := (s.die die).busy.erase b } :=
  State.die_modDie hdie _

theorem State.freeUp_length (s : State) (die : Nat) (b : TileWork) : (s.freeUp die b).data.dies.length = s.data.dies.length :=
  List.length_modify ..

theorem State.freeUp_workTick (s : State) (die : Nat) (b : TileWork) : (s.freeUp die b).workTick = s.workTick := rfl

theorem State.freeUp_tilePos (s : State) (k : Nat) (b : TileWork) (pipe die bank ch q : Nat) :
    (s.freeUp k b).tilePos pipe die bank ch q = s.tilePos pipe die bank ch q := rfl

theorem State.freeUp_mem (s : State) (die : Nat) (b : TileWork) : (s.freeUp die b).fabric.mem = s.fabric.mem := rfl

/-- An exact dump into a fresh tile position leaves there the components that the tile computed (R171, R172). -/
theorem State.dumpAdd_mem_fresh {s : State} {e : PipeEntry} {d : DumpRef}
    (htp : s.tilePos d.pipe d.die (e.bankAt s.workTick) d.channel d.tp =
      { pipe := d.pipe, die := d.die, bank := e.bankAt s.workTick, channel := d.channel, tp := d.tp }) (cells : List (Int × Int)) (replayed : Bool)
    (misses : List Nat) : (s.dumpAdd e d cells replayed misses).fabric.mem = Memory.write s.fabric.mem (e.tunAddr d.die (e.bankAt s.workTick) d.channel d.tp)
      (cells.flatMap fun x => leInt e.cfg.corrCfg.compBytes (satInt (8 * e.cfg.corrCfg.compBytes) x.1) ++
        leInt e.cfg.corrCfg.compBytes (satInt (8 * e.cfg.corrCfg.compBytes) x.2)) := by
  obtain ⟨-, -, hmem⟩ := State.tunFrame_eq_iff.1 (s.dumpAdd_tunFrame e d cells replayed misses)
  rw [hmem, State.tunAdd_mem_fresh (by rw [htp]) (by rw [htp]) (by rw [htp]) (by rw [htp]), List.flatMap_assoc]
  simp

/-! ### The scheduler serves a waiting replay (R62 to R64, R164) -/

/-- A die's work without what its staging holds. -/
def DieWork.unstaged (w : DieWork) : DieWork := { w with slots := {}, rowTiles := [] }

/-- The dies' work without what their staging holds. -/
def State.unstaged (s : State) : List DieWork := s.data.dies.map DieWork.unstaged

theorem State.modDie_unstaged (s : State) (die : Nat) {f : DieWork → DieWork} (hf : ∀ w, (f w).unstaged = w.unstaged) :
    (s.modDie die f).unstaged = s.unstaged := by
  unfold State.unstaged State.modDie
  apply List.ext_getElem?
  intro k
  simp only [List.getElem?_map, List.getElem?_modify]
  split <;> cases s.data.dies[k]? <;> simp [hf]

theorem State.keepRow_unstaged (s : State) (die cap : Nat) (r : RowTile) : (s.keepRow die cap r).unstaged = s.unstaged := by
  unfold State.keepRow
  dsimp only
  split
  · rfl
  · split
    · exact State.modDie_unstaged _ _ fun _ => rfl
    · exact State.modDie_unstaged s.fresh.2 _ fun _ => rfl

/-- Staging for a tile position changes the staging alone (R67, R164). -/
theorem State.stageFor_unstaged (s : State) (d : DumpRef) (replay : Bool) : (s.stageFor d replay).unstaged = s.unstaged := by
  unfold State.stageFor
  split
  · rfl
  · dsimp only
    split
    · rfl
    · rw [State.keepRow_unstaged]
      split
      · exact State.modDie_unstaged _ _ fun _ => rfl
      · split <;> rfl

theorem State.unstaged_length (s : State) : s.unstaged.length = s.data.dies.length := List.length_map _

theorem State.die_unstaged {s t : State} (h : t.unstaged = s.unstaged) (die : Nat) : (t.die die).unstaged = (s.die die).unstaged := by
  have hget (u : State) : (u.die die).unstaged = u.unstaged.getD die {} := (List.getD_map (l := u.data.dies) (n := die) (d := {}) DieWork.unstaged).symm
  rw [hget, hget, h]

/-- An item is put to work on its tile; apart from the staging nothing else of the die's work changes. -/
theorem State.startItem_die {s : State} {die : Nat} (hdie : die < s.data.dies.length) (tile : Nat) (x : WorkItem) (r : Option Replay) :
    ((s.startItem die tile x r).die die).unstaged =
      { (s.die die).unstaged with busy := (s.die die).busy ++ [{ tile := tile, item := x, replay := r }] } := by
  obtain ⟨u, hu, hstart⟩ : ∃ u : State, u.unstaged = s.unstaged ∧
      s.startItem die tile x r = u.modDie die fun w => { w with busy := w.busy ++ [{ tile := tile, item := x, replay := r }] } := by
    cases x with
    | dump d => exact ⟨_, s.stageFor_unstaged d r.isSome, rfl⟩
    | strip _ => exact ⟨s, rfl, rfl⟩
  have hu' := State.die_unstaged hu die
  have hbusy : (u.die die).busy = (s.die die).busy := by
    have h := congrArg DieWork.busy hu'
    exact h
  rw [hstart, State.die_modDie (by rwa [← State.unstaged_length, hu, State.unstaged_length]), ← hu', ← hbusy]
  rfl

theorem State.dealOne_replay {s : State} {die : Nat} {r : Replay} {l : List Replay} (h : (s.die die).replays = r :: l) : s.dealOne die = s.serveReplay die r := by
  rw [State.dealOne, h]

/-- A replay that the reserve pays for goes to the next free tile (R62, R164). -/
theorem State.serveReplay_paid {s : State} {die tile : Nat} {r : Replay} (hcost : ((s.itemCost r.item : Nat) : Int) ≤ (s.die die).reserve)
    (htile : (s.die die).freeTile = some tile) :
    s.serveReplay die r = some ((s.modDie die fun w => { w with replays := w.replays.erase r, reserve := w.reserve - ((s.itemCost r.item : Nat) : Int) }).startItem
      die tile r.item (some r)) := by
  rw [State.serveReplay, if_neg (not_lt.2 hcost), htile, Option.map_some]

/-- A replay that the reserve cannot take leaves the queue, and its item is written short (R63, R64). -/
theorem State.serveReplay_short {s : State} {die : Nat} {r : Replay} (hcost : (s.die die).reserve < ((s.itemCost r.item : Nat) : Int)) :
    s.serveReplay die r = some ((s.modDie die fun w => { w with replays := w.replays.erase r }).shortOf r.item) := by
  rw [State.serveReplay, if_pos hcost]

theorem State.shortOf_dump {s : State} {d : DumpRef} {e : PipeEntry} (h : s.corrAt d = some e) : s.shortOf (.dump d) = s.writeFull e d := by
  rw [State.shortOf, h]

theorem State.writeFull_dies (s : State) (e : PipeEntry) (d : DumpRef) : (s.writeFull e d).data.dies =
    s.data.dies.modify d.die fun w => { w with exhausted := true, exhaustedCount := w.exhaustedCount + 1, done := DumpRef.key d :: w.done } := by
  unfold State.writeFull
  rfl

theorem State.writeFull_tiles (s : State) (e : PipeEntry) (d : DumpRef) : (s.writeFull e d).data.tiles =
    (s.modTile d.pipe d.die (e.bankAt s.workTick) d.channel d.tp fun x =>
      { x with fresh := false, written := [], saturated := true, full := true }).data.tiles := by
  unfold State.writeFull
  rfl

theorem State.writeFull_reserve (s : State) (e : PipeEntry) (d : DumpRef) (die : Nat) : ((s.writeFull e d).die die).reserve = (s.die die).reserve := by
  rw [State.die_congr (s := s.modDie d.die _) (s.writeFull_dies e d)]
  exact s.die_modDie_part d.die die DieWork.reserve fun _ => rfl

/-- A tile position written to full scale holds bounds, and says so (R63, R64). -/
theorem State.writeFull_tilePos (s : State) (e : PipeEntry) (d : DumpRef) :
    (s.writeFull e d).tilePos d.pipe d.die (e.bankAt s.workTick) d.channel d.tp =
      { s.tilePos d.pipe d.die (e.bankAt s.workTick) d.channel d.tp with fresh := false, written := [], saturated := true, full := true } := by
  rw [State.tilePos_congr (s.writeFull_tiles e d), State.tilePos_modTile]
  exact fun _ => ⟨rfl, rfl, rfl, rfl, rfl⟩

theorem dealOne_paid {s : State} {die k : Nat} {r : Replay} {l : List Replay} (hdie : die < s.data.dies.length) (hr : (s.die die).replays = r :: l)
    (hcost : ((s.itemCost r.item : Nat) : Int) ≤ (s.die die).reserve) (htile : (s.die die).freeTile = some k) :
    ∃ t : State, s.dealOne die = some t ∧ (t.die die).replays = l ∧ (t.die die).reserve = (s.die die).reserve - ((s.itemCost r.item : Nat) : Int) ∧
      { tile := k, item := r.item, replay := some r } ∈ (t.die die).busy := by
  refine ⟨_, (State.dealOne_replay hr).trans (State.serveReplay_paid hcost htile), ?_⟩
  have hstart := State.startItem_die (s := s.modDie die fun w => { w with replays := w.replays.erase r, reserve := w.reserve - ((s.itemCost r.item : Nat) : Int) })
    (by simpa using hdie) k r.item (some r)
  rw [State.die_modDie hdie, hr, List.erase_cons_head] at hstart
  have hbusy := congrArg DieWork.busy hstart
  refine ⟨congrArg DieWork.replays hstart, congrArg DieWork.reserve hstart, ?_⟩
  exact hbusy ▸ List.mem_append_right _ (List.mem_singleton.2 rfl)

theorem dealOne_short {s : State} {die : Nat} {r : Replay} {l : List Replay} {e : PipeEntry} (hr : (s.die die).replays = r :: l)
    (hcost : (s.die die).reserve < ((s.itemCost r.item : Nat) : Int)) (hstrip : r.strip = none) (he : s.corrAt r.ref = some e) :
    ∃ t : State, s.dealOne die = some t ∧ (t.die die).reserve = (s.die die).reserve ∧
      (t.tilePos r.ref.pipe r.ref.die (e.bankAt s.workTick) r.ref.channel r.ref.tp).full = true ∧
      (t.tilePos r.ref.pipe r.ref.die (e.bankAt s.workTick) r.ref.channel r.ref.tp).saturated = true := by
  let u := s.modDie die fun w => { w with replays := w.replays.erase r }
  have hshort : u.shortOf r.item = u.writeFull e r.ref := by
    rw [Replay.item, hstrip]
    exact State.shortOf_dump he
  have hpos := u.writeFull_tilePos e r.ref
  refine ⟨u.writeFull e r.ref, ?_, ?_, congrArg TilePos.full hpos, congrArg TilePos.saturated hpos⟩
  · rw [State.dealOne_replay hr, State.serveReplay_short hcost, hshort]
  · rw [State.writeFull_reserve]
    exact s.die_modDie_part die die DieWork.reserve fun _ => rfl

/-- Settles O36: a run's check and its overflow bits decide what becomes of a dump or a replay; the reserve decides how the scheduler serves the queue's head. -/
theorem tileDumpsReachTheTun : Obligations.TileDumpsReachTheTun := by
  unfold Obligations.TileDumpsReachTheTun
  refine ⟨fun s d errs e hrun hdie he => ⟨?dump, ?replay⟩, fun s die r l hdie hr => ⟨fun k hcost htile => dealOne_paid hdie hr hcost htile,
    fun e hcost hstrip he => dealOne_short hr hcost hstrip he⟩⟩
  case dump =>
    intro b hb run
    have hfree := State.freeUp_die hdie b
    have hdie' : d.die < (s.freeUp d.die b).data.dies.length := by rwa [State.freeUp_length]
    refine ⟨(s.freeUp d.die b).takeRun e d run (s.runTile e.cfg.corrCfg d false errs).2, ?_, ?_⟩
    · rw [exec_tileDump hrun, State.tileDump_eq he hb]
    cases hv : run.verified with
    | false =>
      rw [State.takeRun_fault hv, State.tileFault_die hdie', State.tileFault_mem, hfree]
      exact ⟨rfl, nofun, nofun, fun _ => ⟨rfl, rfl, List.mem_append_right _ (List.mem_singleton.2 rfl), rfl, rfl⟩⟩
    | true =>
      cases ho : run.overflow with
      | true =>
        rw [State.takeRun_overflow hv ho, State.holdDump_die hdie', State.holdDump_held, State.holdDump_mem, hfree]
        exact ⟨rfl, nofun, fun _ _ => ⟨rfl, rfl, rfl, rfl⟩, nofun⟩
      | false =>
        rw [State.takeRun_exact hv ho, State.dumpAdd_die hdie', hfree]
        refine ⟨rfl, fun _ _ => ⟨List.mem_cons_self, rfl, fun htp => ?_⟩, nofun, nofun⟩
        rw [State.dumpAdd_mem_fresh (by rw [State.freeUp_workTick, State.freeUp_tilePos]; exact htp), State.freeUp_workTick, State.freeUp_mem]
  case replay =>
    intro b hb half run
    have hfree := State.freeUp_die hdie b
    have hdie' : d.die < (s.freeUp d.die b).data.dies.length := by rwa [State.freeUp_length]
    refine ⟨(s.freeUp d.die b).takeReplay e d (b.replay.any (·.fault)) run (s.runTile e.cfg.corrCfg d half errs).2, ?_, ?_⟩
    · rw [exec_replayDump hrun, State.replayDump_eq he hb]
    cases hv : run.verified with
    | false =>
      rw [State.takeReplay_fault hv, State.tileFault_die hdie', hfree]
      exact ⟨rfl, nofun, fun _ => ⟨List.mem_append_right _ (List.mem_singleton.2 rfl), rfl⟩⟩
    | true =>
      by_cases h : half = true ∨ run.overflow = false
      · obtain ⟨u, cells, replayed, hu, hdies, hheld⟩ := State.takeReplay_verified (s := s.freeUp d.die b) (e := e) hv h (b.replay.any (·.fault))
          (s.runTile e.cfg.corrCfg d half errs).2
        rw [hu, State.dumpAdd_die (by rwa [hdies]), State.dumpAdd_held, State.die_congr hdies, hfree]
        exact ⟨rfl, fun _ _ => ⟨List.mem_cons_self, hheld⟩, nofun⟩
      · obtain ⟨hhalf, ho⟩ := not_or.1 h
        rw [State.takeReplay_overflow (s := s.freeUp d.die b) hv (Bool.eq_false_iff.2 hhalf) (Bool.eq_true_of_not_eq_false ho),
          State.holdDump_die (by exact hdie'), State.countReplay_die, hfree]
        exact ⟨rfl, fun _ h' => absurd h' h, nofun⟩

end Sys2Proof.Machine

/-! ## A write that the controller serves stores less than its bytes in the reserved part of the NOR store (R399) -/

namespace Sys2Proof.Machine

theorem State.reset_box_waiting (m : Nat) : (State.reset.box m).waiting = none := by
  show ((List.replicate 16 ({} : Mailbox)).getD m {}).waiting = none
  rw [List.getD_eq_getElem?_getD, List.getElem?_replicate]
  split <;> rfl

/-- A core's write of one whole word to the first address of the NOR store that is reserved for wear replacement. -/
def reservedWrite : MatrixRequest := { master := .zwiter, write := true, addr := norReserve, data := List.replicate 32 0 }

/-- The controller of die 0 of the package at reset serves it at once, and no byte is stored: the reserved part stays as it reads (R399). -/
theorem reservedWrite_stores_nothing :
    exec (.hbmRequest 0 reservedWrite false 0 .clean) State.reset =
        .next (State.reset.hbmRequest 0 reservedWrite false 0 .clean).dmaResume.serveWaiting ∧
      (State.reset.hbmRequest 0 reservedWrite false 0 .clean).dmaResume.serveWaiting.fabric.mem = [] :=
  ⟨rfl, by decide +kernel⟩

/-- Refutes O53: nothing in it says that a request named at a controller is to a stack, and a write to the reserved part of the NOR store, served when its
turn has come, does not store its bytes. -/
theorem not_matrixAndControllerServe : ¬ Obligations.MatrixAndControllerServe := by
  intro h
  unfold Obligations.MatrixAndControllerServe at h
  obtain ⟨hrequests, -⟩ := h
  obtain ⟨-, -, -, -, hcontroller, -⟩ := hrequests State.reset reservedWrite State.reset_box_waiting
  obtain ⟨hserved, -⟩ := hcontroller 0 rfl rfl (by decide) rfl (by decide) rfl
  obtain ⟨hwrite, -⟩ := hserved rfl (by decide +kernel)
  obtain ⟨t, ht, hmem, -⟩ := hwrite rfl (by decide)
  obtain ⟨hexec, hempty⟩ := reservedWrite_stores_nothing
  rw [Host.Outcome.next.inj (ht.symm.trans hexec), hempty] at hmem
  exact absurd hmem (by decide +kernel)

end Sys2Proof.Machine

/-! ## Chains of the ingest engine (R85, R92, R94, R96, R117, R132) -/

namespace Sys2Proof.Machine

/-! ### A change of chains, and which chain an input has -/

theorem mem_updateAll {α : Type} {p : α → Bool} {f : α → α} {l : List α} {a : α} (ha : a ∈ l) (hp : p a = true) : f a ∈ updateAll p f l :=
  List.mem_map.2 ⟨a, ha, if_pos hp⟩

theorem State.mem_modChains {s : State} {p : Chain → Bool} {f : Chain → Chain} {c : Chain} (hc : c ∈ s.data.chains) (hp : p c = true) :
    f c ∈ (s.modChains p f).data.chains :=
  mem_updateAll hc hp

theorem Chain.isOf_iff {pipe input : Nat} {c : Chain} :
    Chain.isOf pipe input c = true ↔ c.pipe = pipe ∧ c.input = input ∧ c.finish = none := by
  simp [Chain.isOf, and_assoc]

/-- Whose chain it is, where it ends, and how far its grist has come: what the stages leave to `Chain.advance`. -/
def Chain.place (c : Chain) : Nat × Nat × Option Nat × Nat × Nat := (c.pipe, c.input, c.finish, c.next, c.missing)

theorem Chain.place_eq_iff {c : Chain} {pipe input next missing : Nat} {finish : Option Nat} :
    c.place = (pipe, input, finish, next, missing) ↔
      c.pipe = pipe ∧ c.input = input ∧ c.finish = finish ∧ c.next = next ∧ c.missing = missing := by
  simp [Chain.place]

theorem Chain.isOf_congr {c d : Chain} (h : d.place = c.place) (pipe input : Nat) : Chain.isOf pipe input d = Chain.isOf pipe input c := by
  obtain ⟨hpipe, hinput, hfinish, -, -⟩ := Chain.place_eq_iff.1 h
  rw [Chain.isOf, hpipe, hinput, hfinish, Chain.isOf]

theorem Chain.owns_of_isOf {pipe input : Nat} {c : Chain} (h : Chain.isOf pipe input c = true) (i : Nat) : c.owns i = true := by
  obtain ⟨-, -, hfinish⟩ := Chain.isOf_iff.1 h
  rw [Chain.owns, hfinish, Option.elim_none]

/-! ### The stages keep the place of a chain -/

@[simp] theorem Chain.setTheta_place (c : Chain) : c.setTheta.place = c.place := by
  unfold Chain.setTheta
  split <;> rfl

@[simp] theorem Chain.spallRoll_place (c : Chain) : c.spallRoll.place = c.place := by
  unfold Chain.spallRoll
  dsimp only
  rw [Chain.setTheta_place]
  split <;> rfl

@[simp] theorem Chain.freezeDue_place (c : Chain) (i : Nat) : (c.freezeDue i).place = c.place := by
  unfold Chain.freezeDue
  refine List.foldlRecOn (motive := fun d : Chain => d.place = c.place) (c.freezeNext.filter _) _ rfl fun d hd x _ => ?_
  split
  · exact hd
  · split <;> exact hd

@[simp] theorem Chain.offsetRoll_place (c : Chain) (i : Nat) : (c.offsetRoll i).place = c.place := by
  rw [← c.freezeDue_place i]
  unfold Chain.offsetRoll
  dsimp only
  split <;> rfl

@[simp] theorem Chain.restart_place (c : Chain) (i : Nat) : (c.restart i).place = c.place := by
  unfold Chain.restart Chain.setTheta
  dsimp only
  split <;> split <;> rfl

@[simp] theorem Chain.form_place (tap : Nat → Int) (lost : Int → Bool) (c : Chain) (m : Nat) : (c.form tap lost m).place = c.place := by
  unfold Chain.form
  split <;> rfl

@[simp] theorem Chain.formWhile_place (tap : Nat → Int) (lost : Int → Bool) (p : Nat → Bool) (n : Nat) (c : Chain) :
    (Chain.formWhile tap lost p n c).place = c.place := by
  induction n generalizing c with
  | zero => rfl
  | succ n ih =>
    unfold Chain.formWhile
    split
    · rw [ih, Chain.form_place]
    · rfl

@[simp] theorem Chain.countClips_place (c : Chain) (x : Sample) : (c.countClips x).place = c.place := by
  unfold Chain.countClips
  split <;> rfl

@[simp] theorem Chain.spall_place (c : Chain) (i : Nat) : (c.spall i).2.place = c.place := rfl

@[simp] theorem Chain.offset_place (c : Chain) (i : Nat) (v : Int × Int) (clipped : Bool) : (c.offset i v clipped).2.place = c.place := rfl

/-- A received sample: the ends of blocks that it meets, and what it adds to sums, histories and outputs, leave the place alone. -/
@[simp] theorem Chain.consume_place (tap : Nat → Int) (lost : Int → Bool) (c : Chain) (x : Sample) : (c.consume tap lost x).place = c.place := by
  have hcounted : (c.countClips x).place = c.place := c.countClips_place x
  unfold Chain.consume
  extract_lets s counted wire clipped received hw i spallEnd offsetEnd centre
  have hspall : spallEnd.place = c.place := by
    unfold spallEnd
    split
    · exact (Chain.spallRoll_place _).trans hcounted
    · exact hcounted
  have hoffset : offsetEnd.place = c.place := by
    unfold offsetEnd
    split
    · exact (Chain.offsetRoll_place ..).trans hspall
    · exact hspall
  have hfiltered : ((offsetEnd.spall i).2.offset i (offsetEnd.spall i).1 centre.tainted).2.place = c.place := by
    rw [Chain.offset_place, Chain.spall_place, hoffset]
  split
  · exact (Chain.formWhile_place ..).trans hcounted
  · split
    · exact hcounted
    · exact (Chain.formWhile_place ..).trans hfiltered

@[simp] theorem Chain.formTo_place (tap : Nat → Int) (lost : Int → Bool) (c : Chain) (lim : Nat) : (c.formTo tap lost lim).place = c.place :=
  Chain.formWhile_place ..

@[simp] theorem Chain.passGrain_place (tap : Nat → Int) (lost : Int → Bool) (c : Chain) (s : Nat) : (c.passGrain tap lost s).place = c.place :=
  Chain.formTo_place ..

@[simp] theorem Chain.freezeUnreached_place (c : Chain) (p : Nat) : (c.freezeUnreached p).place = c.place := by
  unfold Chain.freezeUnreached
  dsimp only
  split
  · exact Chain.freezeDue_place ..
  · rfl

@[simp] theorem Chain.stop_place (tap : Nat → Int) (lost : Int → Bool) (c : Chain) (p : Nat) : (c.stop tap lost p).place = c.place :=
  (Chain.formTo_place ..).trans (Chain.freezeUnreached_place c.taintUntested p)

@[simp] theorem Chain.passBoundary_place (c : Chain) (s : Nat) : (c.passBoundary s).place = c.place := by
  unfold Chain.passBoundary
  split
  · exact Chain.freezeDue_place ..
  · rfl

@[simp] theorem Chain.close_place (tap : Nat → Int) (lost : Int → Bool) (c : Chain) (lim : Nat) : (c.close tap lost lim).place = c.place := by
  unfold Chain.close
  rw [Chain.formTo_place]
  split <;> rfl

/-! ### One grist index (R85, R109) -/

/-- After the grist index that is processed comes the next; one without a sample counts as missing, once for each input. -/
theorem Chain.advance_place (tap : Nat → Int) (lost : Int → Bool) (c : Chain) (x : Option Sample) :
    (c.advance tap lost x).place =
      (c.pipe, c.input, c.finish, c.next + 1, if x.isNone && c.finish.isNone then rcAdd 64 c.missing 1 else c.missing) := by
  cases x with
  | none =>
    unfold Chain.advance
    extract_lets s stopped gap
    have hstopped : (stopped.passGrain tap lost s).place = c.place := by
      rw [Chain.passGrain_place]
      refine (Chain.passBoundary_place ..).trans ?_
      split
      · rfl
      · exact Chain.stop_place ..
    obtain ⟨hpipe, hinput, hfinish, -, -⟩ := Chain.place_eq_iff.1 hstopped
    exact Chain.place_eq_iff.2 ⟨hpipe, hinput, hfinish, rfl, rfl⟩
  | some y =>
    unfold Chain.advance
    extract_lets s stopped gap passed heard taken
    have htaken : taken.place = c.place := by
      unfold taken
      dsimp only
      split
      · exact Chain.consume_place ..
      · split
        · exact (Chain.consume_place ..).trans (Chain.restart_place ..)
        · rw [Chain.passGrain_place, Chain.countClips_place, Chain.passBoundary_place]
          rfl
    obtain ⟨hpipe, hinput, hfinish, -, hmissing⟩ := Chain.place_eq_iff.1 htaken
    exact Chain.place_eq_iff.2 ⟨hpipe, hinput, hfinish, rfl, hmissing⟩

@[simp] theorem State.drainOuts_place (n : Nat) (c : Chain) (s : State) : (State.drainOuts n c s).2.place = c.place := by
  induction n generalizing c s with
  | zero => rfl
  | succ n ih =>
    unfold State.drainOuts
    split
    · rfl
    · dsimp only
      split
      · rw [ih]
        rfl
      · rfl

@[simp] theorem State.silence_place (s : State) (c : Chain) : (s.silence c).2.place = c.place := by
  unfold State.silence
  split
  · rfl
  · dsimp only
    split <;> rfl

/-- What leaves as outputs, frames and events changes the chain's place no further than the grist index does. -/
theorem State.stepChain_place (s : State) (c : Chain) (x : Option Sample) (last : Bool) :
    (s.stepChain c x last).2.place =
      (c.pipe, c.input, c.finish, c.next + 1, if x.isNone && c.finish.isNone then rcAdd 64 c.missing 1 else c.missing) := by
  unfold State.stepChain
  extract_lets e tap lost lim advanced closed s' fresh cut
  rw [← c.advance_place tap lost x]
  have hcut : cut.place = advanced.place := by
    show closed.place = advanced.place
    unfold closed
    split
    · exact Chain.close_place ..
    · rfl
  split
  next u drained hdrain =>
    have hdrained := (State.drainOuts_place (cut.outs.length + 1) cut (s'.tapOutputs cut fresh)).trans hcut
    rw [hdrain] at hdrained
    split
    · exact hdrained
    · exact (State.silence_place ..).trans hdrained

theorem resets_self (a : IngestCfg) : resets a a = false := by simp [resets]

/-- A chain whose configuration stands, and that does not move, goes on as it is (R57, R108, R114). -/
theorem Chain.meet_of_same {c : Chain} {cfgOf : Nat → IngestCfg} (hmoves : c.moves = [])
    (hcfg : ∀ g ∈ [c.next, c.next - (c.cfg.w - 1) / 2], cfgOf (g / max c.cfg.samplesPerTick 1) = c.cfg) : c.meet cfgOf = [c] := by
  have hadopt (t : Nat) : c.adopt c.cfg t = c := if_pos rfl
  have hmove (t : Nat) : c.move t = c := by
    unfold Chain.move
    rw [hmoves]
    rfl
  unfold Chain.meet
  dsimp only
  rw [hcfg c.next (by simp), resets_self, if_neg Bool.false_ne_true, hcfg _ (by simp), hadopt, hmove]

theorem State.isOf_of_chain {s : State} {pipe input : Nat} {c : Chain} (h : s.chain pipe input = some c) : Chain.isOf pipe input c = true :=
  List.find?_some h

theorem exec_gristHoldExpiry (pipe input : Nat) (s : State) : exec (.gristHoldExpiry pipe input) s = execGristHoldExpiry pipe input s := rfl

/-- After the tick that a destroy names no grist is processed (R117). -/
theorem gristHoldExpiry_ended {s : State} {pipe input : Nat} {c : Chain} (hworks : s.works = true) (hc : s.chain pipe input = some c)
    (hended : (s.cfg.pipes.getD pipe {}).ended (c.next / max c.cfg.samplesPerTick 1) = true) : exec (.gristHoldExpiry pipe input) s = .next s := by
  rw [exec_gristHoldExpiry, execGristHoldExpiry, if_pos hworks, hc]
  dsimp only
  rw [if_pos hended]

/-- The only chain of an input steps with the sample that is next in its buffer (R85). -/
def State.stepAlone (s : State) (pipe input : Nat) (c : Chain) : State :=
  let u : State := { s with data := { s.data with chains := s.data.chains.filter fun x => !(x.pipe == pipe && x.input == input) } }
  let r := u.stepChain c c.nextSample ((s.cfg.pipes.getD pipe {}).ended ((c.next + 1) / max c.cfg.samplesPerTick 1))
  { r.1 with data := { r.1.data with chains := r.1.data.chains ++ [r.2] } }

theorem State.stepAlone_place (s : State) (pipe input : Nat) (c : Chain) : ∃ x ∈ (s.stepAlone pipe input c).data.chains,
    x.place = (c.pipe, c.input, c.finish, c.next + 1, if c.nextSample.isNone && c.finish.isNone then rcAdd 64 c.missing 1 else c.missing) :=
  ⟨_, List.mem_append_right _ (List.mem_singleton.2 rfl), State.stepChain_place ..⟩

/-- The one chain of an input, under a configuration that stands, advances by one grist index (R85). -/
theorem gristHoldExpiry_alone {s : State} {pipe input : Nat} {c : Chain} (hworks : s.works = true) (hc : s.chain pipe input = some c)
    (hended : (s.cfg.pipes.getD pipe {}).ended (c.next / max c.cfg.samplesPerTick 1) = false)
    (hmeet : (c.meet fun t => ((s.pipeAt pipe t).map (·.cfg.ingestCfg)).getD c.cfg) = [c])
    (hold : ∀ x ∈ s.data.chains, x.pipe = pipe → x.input = input → x.finish = none) :
    exec (.gristHoldExpiry pipe input) s = .next (s.stepAlone pipe input c) := by
  obtain ⟨-, -, hfinish⟩ := Chain.isOf_iff.1 (State.isOf_of_chain hc)
  have hlive : ([c].find? (·.finish.isNone)).getD c = c := by simp [hfinish]
  have hdone : [c].filter (·.finish.isSome) = [] := by simp [hfinish]
  have hnoOld : (s.data.chains.filter fun x => x.pipe == pipe && x.input == input && x.finish.isSome) = [] := by
    rw [List.filter_eq_nil_iff]
    intro x hx hmine
    simp only [Bool.and_eq_true, beq_iff_eq] at hmine
    obtain ⟨⟨hpipe, hinput⟩, hsome⟩ := hmine
    rw [hold x hx hpipe hinput] at hsome
    exact Bool.false_ne_true hsome
  rw [exec_gristHoldExpiry, execGristHoldExpiry, if_pos hworks, hc]
  dsimp only
  rw [if_neg (Bool.eq_false_iff.1 hended), hmeet, hlive, hnoOld, hdone]
  simp only [List.append_nil, List.foldl_nil, List.filter_nil, List.map_nil]
  rfl

/-! ### Ends of blocks (R92, R94, R96, R132) -/

theorem spallBlockEnd_gives {s : State} (hworks : s.works = true) {pipe input : Nat} {c : Chain} (hc : c ∈ s.data.chains)
    (hof : Chain.isOf pipe input c = true) (hseen : c.spallSeen = 4096) :
    Gives (.spallBlockEnd pipe input) s fun t => c.spallRoll ∈ t.data.chains :=
  ⟨_, rfl, State.mem_modChains hc (by simp [hworks, hof, hseen])⟩

/-- A whole spall block gives the next its threshold and starts its sums afresh (R92, R93). -/
theorem Chain.spallRoll_whole {c : Chain} (hseen : c.spallSeen = 4096) :
    c.spallRoll.spallSeen = 0 ∧ c.spallRoll.spallRe = 0 ∧ c.spallRoll.spallIm = 0 ∧
      c.spallRoll.adaptRe = max c.cfg.spallFloor (c.cfg.spallMult * c.spallRe / 65536) ∧
      (c.cfg.spallMode = 1 → c.spallRoll.thetaRe = c.spallRoll.adaptRe) := by
  unfold Chain.spallRoll Chain.setTheta
  dsimp only
  rw [if_pos hseen]
  split
  next => exact ⟨rfl, rfl, rfl, rfl, fun _ => rfl⟩
  next hfixed => exact ⟨rfl, rfl, rfl, rfl, fun hmode => absurd ⟨hmode, rfl⟩ hfixed⟩

theorem offsetBlockEnd_gives {s : State} (hworks : s.works = true) {pipe input : Nat} {c : Chain} (hc : c ∈ s.data.chains)
    (hof : Chain.isOf pipe input c = true) (hm : c.cfg.offsetLog2 ≠ 0) (hseen : c.sumSeen = 2 ^ c.cfg.offsetLog2) :
    Gives (.offsetBlockEnd pipe input) s fun t => c.offsetRoll (c.next - (c.cfg.w - 1) / 2) ∈ t.data.chains :=
  ⟨_, rfl, State.mem_modChains (f := fun c => c.offsetRoll (c.next - (c.cfg.w - 1) / 2)) hc (by simp [hworks, hof, hm, hseen])⟩

theorem Chain.offsetRoll_sums (c : Chain) (i : Nat) : (c.offsetRoll i).sumSeen = 0 ∧ (c.offsetRoll i).sumRe = 0 ∧ (c.offsetRoll i).sumIm = 0 ∧
    (c.offsetRoll i).sumClipped = 0 :=
  ⟨rfl, rfl, rfl, rfl⟩

theorem Chain.freezeDue_of_none {c : Chain} (h : c.freezeNext = []) (i : Nat) : c.freezeDue i = c := by
  unfold Chain.freezeDue
  rw [h]
  dsimp only [List.filter_nil, List.foldl_nil]
  rw [← h]

/-- A whole block with too many over-range samples counts in OFFSET_HELD (R96). -/
theorem Chain.offsetRoll_clipped_held {c : Chain} {pipe input : Nat} (hm : c.cfg.offsetLog2 ≠ 0) (hseen : c.sumSeen = 2 ^ c.cfg.offsetLog2)
    (hof : Chain.isOf pipe input c = true) (hclip : c.cfg.offsetClipMax < c.sumClipped) (i : Nat) :
    (c.offsetRoll i).offsetHeld = rcAdd 32 c.offsetHeld 1 := by
  have hheld : ((c.sumSeen == 2 ^ c.cfg.offsetLog2 && c.cfg.offsetLog2 != 0) && decide (c.cfg.offsetClipMax < c.sumClipped) && c.owns (i - 1)) = true := by
    simp [hseen, hm, hclip, Chain.owns_of_isOf hof]
  exact if_pos hheld

/-- Nothing but a load that is due at the boundary sets the estimate after such a block (R96, R115). -/
theorem Chain.offsetRoll_clipped_mu {c : Chain} (hseen : c.sumSeen = 2 ^ c.cfg.offsetLog2) (hclip : c.cfg.offsetClipMax < c.sumClipped)
    (hfree : c.freezeNext = []) (i : Nat) : (c.offsetRoll i).muRe = c.muRe ∧ (c.offsetRoll i).muIm = c.muIm := by
  unfold Chain.offsetRoll
  dsimp only
  rw [Chain.freezeDue_of_none hfree]
  simp [hseen, hclip]

theorem Chain.offsetRoll_unclipped_held {c : Chain} (hclip : c.sumClipped ≤ c.cfg.offsetClipMax) (i : Nat) : (c.offsetRoll i).offsetHeld = c.offsetHeld := by
  have hheld : ((c.sumSeen == 2 ^ c.cfg.offsetLog2 && c.cfg.offsetLog2 != 0) && decide (c.cfg.offsetClipMax < c.sumClipped) && c.owns (i - 1)) ≠ true := by
    simp [Nat.not_lt.2 hclip]
  exact if_neg hheld

/-- A whole block within OFFSET_CLIP_MAX sets the estimate to its mean, unless it is frozen (R94). -/
theorem Chain.offsetRoll_unclipped_mu {c : Chain} (hm : c.cfg.offsetLog2 ≠ 0) (hseen : c.sumSeen = 2 ^ c.cfg.offsetLog2)
    (hclip : c.sumClipped ≤ c.cfg.offsetClipMax) (hfree : c.freezeNext = []) (hfrozen : c.frozen = false) (i : Nat) :
    (c.offsetRoll i).muRe = rndShift c.sumRe (c.cfg.offsetLog2 - scaleF c.cfg.format) := by
  unfold Chain.offsetRoll
  dsimp only
  rw [Chain.freezeDue_of_none hfree]
  simp [hseen, hm, Nat.not_lt.2 hclip, hfrozen]

theorem Chain.offsetRoll_isOf {pipe input : Nat} {c : Chain} (hof : Chain.isOf pipe input c = true) (i : Nat) :
    Chain.isOf pipe input (c.offsetRoll i) = true := by
  rw [Chain.isOf_congr (c.offsetRoll_place i), hof]

/-- Settles O7: the end of the block is `Chain.offsetRoll`, whose verdict on the block decides the counter and the estimate. -/
theorem clippedOffsetBlockIsHeld : Obligations.ClippedOffsetBlockIsHeld := by
  intro s pipe input c hworks hc hof hm hseen
  obtain ⟨t, ht, hmem⟩ := offsetBlockEnd_gives hworks hc hof hm hseen
  have hof' := Chain.offsetRoll_isOf hof (c.next - (c.cfg.w - 1) / 2)
  obtain ⟨hseen', -, -, hclipped'⟩ := c.offsetRoll_sums (c.next - (c.cfg.w - 1) / 2)
  refine ⟨fun hclip => ⟨t, ht, _, hmem, hof', ?_, hseen', hclipped', ?_⟩, fun hclip => ⟨t, ht, _, hmem, hof', ?_, hseen', ?_⟩⟩
  · exact Chain.offsetRoll_clipped_held hm hseen hof hclip _
  · exact fun hfree => Chain.offsetRoll_clipped_mu hseen hclip hfree _
  · exact Chain.offsetRoll_unclipped_held hclip _
  · exact fun hfree hfrozen => Chain.offsetRoll_unclipped_mu hm hseen hclip hfree hfrozen _

/-! ### Level control (R132) -/

/-- Whatever the period gives, the sums of the next start afresh. -/
theorem alcStep_sums (c : IngestCfg) (j : Nat) (g : GainState) : (alcStep c j g).1.power = 0 ∧ (alcStep c j g).1.n = 0 := by
  unfold alcStep
  extract_lets reset
  have hreset : reset.power = 0 ∧ reset.n = 0 := ⟨rfl, rfl⟩
  split
  · exact hreset
  · split
    · obtain ⟨w, lim⟩ := alcWord c g
      exact hreset
    · exact hreset

/-- What the end of a level control period makes of a chain. -/
def Chain.alcRoll (c : Chain) : Chain :=
  let t := (c.nextOut - 1) / max c.cfg.outsPerTick 1
  let k := c.cfgFor t
  let rs := c.gains.map (alcStep k (t / max k.alcPeriod 1))
  { c with gains := rs.map (·.1), alcLimit := c.alcLimit + (rs.map (·.2)).sum }

theorem exec_alcPeriodEnd (pipe : Nat) (s : State) :
    exec (.alcPeriodEnd pipe) s = .next (s.modChains (fun c => s.works && c.pipe == pipe && c.finish.isNone) Chain.alcRoll) := rfl

theorem Chain.alcRoll_place (c : Chain) : c.alcRoll.place = c.place := rfl

theorem Chain.alcRoll_gains_length (c : Chain) : c.alcRoll.gains.length = c.gains.length := by
  simp [Chain.alcRoll]

theorem Chain.alcRoll_sums (c : Chain) : ∀ g ∈ c.alcRoll.gains, g.power = 0 ∧ g.n = 0 := by
  unfold Chain.alcRoll
  dsimp only
  rw [List.map_map, List.forall_mem_map]
  exact fun g _ => alcStep_sums _ _ g

/-- Settles O35: each end is one step of the chain, `Chain.advance`, `Chain.spallRoll`, `Chain.offsetRoll` or `alcStep`, none of which gives the chain to
another input. -/
theorem chainStepsRun : Obligations.ChainStepsRun := by
  intro s pipe input c hworks hc hof
  obtain ⟨hpipe, hinput, hfinish⟩ := Chain.isOf_iff.1 hof
  refine ⟨?hold, fun hchain hended => gristHoldExpiry_ended hworks hchain hended, ?spall, ?offset, ?alc⟩
  case hold =>
    intro hchain hended hmoves hcfg hold
    obtain ⟨x, hx, hplace⟩ := s.stepAlone_place pipe input c
    obtain ⟨hpipe', hinput', hfinish', hnext, hmissing⟩ := Chain.place_eq_iff.1 hplace
    refine ⟨_, gristHoldExpiry_alone hworks hchain hended (Chain.meet_of_same hmoves hcfg) hold, x, hx, ?_, hnext, fun hnone => ?_⟩
    · exact Chain.isOf_iff.2 ⟨hpipe'.trans hpipe, hinput'.trans hinput, hfinish'.trans hfinish⟩
    · rw [hmissing, hnone, hfinish]
      rfl
  case spall =>
    intro hseen
    obtain ⟨t, ht, hmem⟩ := spallBlockEnd_gives hworks hc hof hseen
    exact ⟨t, ht, _, hmem, (Chain.isOf_congr c.spallRoll_place pipe input).trans hof, Chain.spallRoll_whole hseen⟩
  case offset =>
    intro hm hseen
    obtain ⟨t, ht, hmem⟩ := offsetBlockEnd_gives hworks hc hof hm hseen
    obtain ⟨hseen', hre, him, hclipped⟩ := c.offsetRoll_sums (c.next - (c.cfg.w - 1) / 2)
    exact ⟨t, ht, _, hmem, Chain.offsetRoll_isOf hof _, hseen', hre, him, hclipped, fun hclip => Chain.offsetRoll_clipped_held hm hseen hof hclip _⟩
  case alc =>
    have hmem := State.mem_modChains (s := s) (p := fun c => s.works && c.pipe == pipe && c.finish.isNone) (f := Chain.alcRoll) hc
      (by simp [hworks, hpipe, hfinish])
    exact ⟨_, exec_alcPeriodEnd pipe s, _, hmem, (Chain.isOf_congr c.alcRoll_place pipe input).trans hof, c.alcRoll_gains_length, c.alcRoll_sums⟩

end Sys2Proof.Machine

/-! ## Haul frames that arrive: GRIST, TURN and BEAMPART (R83, R142, R206, R264, R284, R407) -/

namespace Sys2Proof.Machine

/-! ### A frame that passes the checks of a lane (R264) -/

theorem State.rx_modRx {s : State} {lane : Nat} (h : lane < s.lanes.rx.length) (f : RxLane → RxLane) : (s.modRx lane f).rx lane = f (s.rx lane) := by
  unfold State.rx State.modRx
  simp [List.getD_eq_getElem?_getD, h]

theorem State.frameOk_framesOk {s : State} {lane : Nat} (h : lane < s.lanes.rx.length) :
    ((s.frameOk lane).rx lane).framesOk = rcAdd 64 (s.rx lane).framesOk 1 := by
  rw [State.frameOk, State.rx_modRx h]

/-- The state with other receivers, claims and positions heard. -/
def State.heardOn (s : State) (rx : List RxLane) (claims : List Nat) (heard : List (Nat × Nat × Nat × Bool)) : State :=
  { s with lanes := { s.lanes with rx := rx, claims := claims }, data := { s.data with heard := heard } }

/-- What the checks of a lane leave of the package: receivers, claims and the positions heard may be others, and FRAMES_OK of the lane is as it was. -/
structure State.CheckedBy (t s : State) (lane : Nat) : Prop where
  parts : ∃ rx claims heard, t = s.heardOn rx claims heard
  lanes : t.lanes.rx.length = s.lanes.rx.length
  framesOk : (t.rx lane).framesOk = (s.rx lane).framesOk

theorem State.CheckedBy.trans {s t u : State} {lane : Nat} (hu : u.CheckedBy t lane) (ht : t.CheckedBy s lane) : u.CheckedBy s lane := by
  obtain ⟨rx, claims, heard, rfl⟩ := ht.parts
  obtain ⟨rx', claims', heard', rfl⟩ := hu.parts
  exact ⟨⟨rx', claims', heard', rfl⟩, hu.lanes.trans ht.lanes, hu.framesOk.trans ht.framesOk⟩

theorem State.modRx_checkedBy {s : State} {lane : Nat} (h : lane < s.lanes.rx.length) {f : RxLane → RxLane} (hf : ∀ x, (f x).framesOk = x.framesOk) :
    (s.modRx lane f).CheckedBy s lane :=
  ⟨⟨_, _, _, rfl⟩, List.length_modify .., by rw [State.rx_modRx h, hf]⟩

theorem State.popFrame_checkedBy {s : State} {lane : Nat} (h : lane < s.lanes.rx.length) : (s.popFrame (.haul lane)).CheckedBy s lane := by
  unfold State.popFrame
  split
  · exact ⟨⟨s.lanes.rx, s.lanes.claims, s.data.heard, rfl⟩, rfl, rfl⟩
  · exact State.modRx_checkedBy h fun _ => rfl

theorem State.enterClaim_checkedBy (s : State) (pos claim lane : Nat) : (s.enterClaim pos claim).CheckedBy s lane :=
  ⟨⟨_, _, _, rfl⟩, rfl, rfl⟩

theorem State.hear_checkedBy (s : State) (pos lane : Nat) : (s.hear pos).CheckedBy s lane :=
  ⟨⟨_, _, _, rfl⟩, rfl, rfl⟩

/-- A frame that passes every check leaves its SEQ, its claim and its sender's mark. -/
theorem State.receiveOn_of_ok {s : State} {lane type : Nat} {f : Frame} (h : (s.receiveOn (.haul lane) type f).1 = true) :
    (s.receiveOn (.haul lane) type f).2 =
      (((s.popFrame (.haul lane)).enterClaim (f.source.toNat % 1024) f.claim.toNat).modRx lane fun x => x.noteSeq f) := by
  unfold State.receiveOn at h ⊢
  dsimp only at h ⊢
  split_ifs at h ⊢
  rfl

theorem State.receive_of_ok {s : State} {lane type : Nat} {f : Frame} (hlane : lane < s.lanes.rx.length) (h : (s.receive lane type f).1 = true) :
    ∃ t : State, s.receive lane type f = (true, t) ∧ t.CheckedBy s lane := by
  have hon : (s.receiveOn (.haul lane) type f).1 = true := h
  have hpop := State.popFrame_checkedBy hlane
  have hclaim := ((s.popFrame (.haul lane)).enterClaim_checkedBy (f.source.toNat % 1024) f.claim.toNat lane).trans hpop
  have hseq := (State.modRx_checkedBy (hclaim.lanes ▸ hlane) (f := fun x => x.noteSeq f) fun _ => rfl).trans hclaim
  refine ⟨_, Prod.ext h rfl, ?_⟩
  unfold State.receive
  dsimp only
  rw [hon, if_pos rfl, State.receiveOn_of_ok hon]
  exact (State.hear_checkedBy ..).trans hseq

/-! ### GRIST (R83, R117) -/

/-- What says when a pipe ends. -/
def PipeEntry.life (e : PipeEntry) : PipeState × Nat := (e.state, e.endTick)

theorem PipeEntry.ended_congr {d e : PipeEntry} (h : d.life = e.life) (t : Nat) : d.ended t = e.ended t := by
  obtain ⟨hstate, hend⟩ := Prod.ext_iff.1 h
  rw [PipeEntry.ended, show d.state = e.state from hstate, show d.endTick = e.endTick from hend, PipeEntry.ended]

theorem PipeEntry.applyAt_life (e : PipeEntry) (c : PipeChange) (t : Nat) : (e.applyAt c t).life = e.life := by
  unfold PipeEntry.applyAt
  split <;> rfl

theorem PipeEntry.applyEarly_life (e : PipeEntry) (c : PipeChange) : (e.applyEarly c).life = e.life := by
  unfold PipeEntry.applyEarly
  split <;> rfl

/-- The changes of a pipe do not say when it ends. -/
theorem PipeEntry.atTick_life (e : PipeEntry) (t : Nat) : (e.atTick t).life = e.life := by
  unfold PipeEntry.atTick
  refine List.foldlRecOn (motive := fun (acc : PipeEntry × List PipeChange) => acc.1.life = e.life) e.changes _ rfl fun acc hacc c _ => ?_
  dsimp only
  split
  · exact (PipeEntry.applyAt_life ..).trans hacc
  · dsimp only
    split
    · exact (PipeEntry.applyEarly_life ..).trans hacc
    · exact hacc

/-- A pipe that works a tick takes the grist of that tick (R57, R117). -/
theorem State.pipeAt_ended {s : State} {i t : Nat} {e : PipeEntry} (h : s.pipeAt i t = some e) : e.ended t = false := by
  unfold State.pipeAt at h
  split at h
  · exact absurd h nofun
  next e0 _ =>
    split at h
    next hrun =>
      obtain rfl := Option.some.inj h
      rw [PipeEntry.ended_congr (PipeEntry.atTick_life e0 t), PipeEntry.ended]
      refine Bool.and_eq_false_imp.2 fun hdraining => decide_eq_false (Nat.not_lt.2 ?_)
      have hworked : t ≤ e0.endTick ∧ e0.firstTick ≤ t := by simpa [eq_of_beq hdraining] using hrun
      exact hworked.1
    · exact absurd h nofun

/-- The pipes that take a GRIST frame from a lane of `die`. -/
def State.gristTakers (s : State) (die : Nat) (f : Frame) : List Nat :=
  let input := f.spec.toNat / 2 ^ 32 % 65536
  let tick := f.tick.toNat
  ((((s.cfg.indices [1]).filter fun i => (s.gristEntry i tick).inputs.any (·.input == input)).filter fun i =>
    (s.gristEntry i tick).inputs.any fun x => x.input == input && x.die == die).filter fun i =>
      !gristMalformed (s.gristEntry i tick).cfg.ingestCfg f).filter fun i => !(s.gristEntry i tick).ended tick

theorem State.gristEntry_of_pipeAt {s : State} {i t : Nat} {e : PipeEntry} (h : s.pipeAt i t = some e) : s.gristEntry i t = e := by
  rw [State.gristEntry, h, Option.getD_some]

theorem State.mem_gristTakers {s : State} {i die : Nat} {f : Frame} {e : PipeEntry} (hi : i ∈ s.cfg.indices [1])
    (he : s.pipeAt i f.tick.toNat = some e) (hin : ∃ x ∈ e.inputs, x.input = f.spec.toNat / 2 ^ 32 % 65536 ∧ x.die = die)
    (hgood : gristMalformed e.cfg.ingestCfg f = false) : i ∈ s.gristTakers die f := by
  obtain ⟨x, hx, hinput, hdie⟩ := hin
  unfold State.gristTakers
  simp only [List.mem_filter, State.gristEntry_of_pipeAt he, hi, hgood, State.pipeAt_ended he, List.any_eq_true]
  exact ⟨⟨⟨⟨trivial, x, hx, by simp [hinput]⟩, x, hx, by simp [hinput, hdie]⟩, rfl⟩, rfl⟩

/-- A frame of a tick whose configuration does not reset the chain is taken at once (R108). -/
theorem Chain.accept_of_not_resets {c : Chain} {k : IngestCfg} (h : resets c.cfg k = false) (f : Frame) :
    c.accept k f = Chain.take k.samplesPerTick c f := by
  rw [Chain.accept, h, Bool.and_false, if_neg Bool.false_ne_true]

/-- A frame that some pipe takes reaches the chains of its input in each pipe that takes it, and is counted. -/
theorem exec_grist_taken {s t : State} {lane : Nat} {f : Frame} (hr : s.receive lane 1 f = (true, t)) (hworks : t.works = true) {i : Nat}
    (hi : i ∈ t.gristTakers (dieOfLane lane) f) : exec (.grist lane f) s = .next (State.frameOk (t.modChains
      (fun c => (t.gristTakers (dieOfLane lane) f).contains c.pipe && c.input == f.spec.toNat / 2 ^ 32 % 65536 && c.finish.isNone)
      fun c => c.accept (t.gristEntry c.pipe f.tick.toNat).cfg.ingestCfg f) lane) := by
  show execGrist lane f s = _
  unfold execGrist
  rw [hr]
  dsimp -zeta only
  extract_lets die input tick pipes mine good taking
  have hgood : i ∈ good := List.mem_of_mem_filter hi
  have hpipes : i ∈ pipes := List.mem_of_mem_filter (List.mem_of_mem_filter hgood)
  have hstop : (!true || !t.works) ≠ true := by simp [hworks]
  rw [if_neg hstop, if_neg (by simpa using List.ne_nil_of_mem hpipes), if_neg (by simpa using List.ne_nil_of_mem hgood)]
  rfl

/-! ### TURN (R142, R407) -/

/-- The turn buffer, the work of the dies, and the receivers. -/
def State.turnPart (s : State) : List TurnSample × List DieWork × List RxLane := (s.data.turn, s.data.dies, s.lanes.rx)

theorem State.turnPart_eq_iff {s : State} {turn : List TurnSample} {dies : List DieWork} {rx : List RxLane} :
    s.turnPart = (turn, dies, rx) ↔ s.data.turn = turn ∧ s.data.dies = dies ∧ s.lanes.rx = rx := by
  simp [State.turnPart]

theorem State.healItems_turnPart (s : State) (e : PipeEntry) (die : Nat) (kind : AreaKind) (keys : List (List Nat)) :
    (s.healItems e die kind keys).turnPart = s.turnPart := by
  unfold State.healItems
  split <;> rfl

theorem State.healTurn_turnPart (s : State) (xs : List TurnSample) : (s.healTurn xs).turnPart = s.turnPart := by
  unfold State.healTurn
  split
  · rfl
  · refine List.foldlRecOn (motive := fun u : State => u.turnPart = s.turnPart) _ _ rfl fun u hu die _ => ?_
    refine List.foldlRecOn (motive := fun v : State => v.turnPart = s.turnPart) _ _ hu fun v hv x _ => ?_
    exact (State.healItems_turnPart ..).trans hv

/-- Samples that are written stand in the turn buffer. -/
theorem State.turnWrite_turnPart (s : State) (xs : List TurnSample) :
    ∃ old, (s.turnWrite xs).turnPart = (old ++ xs, s.data.dies, s.lanes.rx) :=
  ⟨_, State.healTurn_turnPart ..⟩

theorem State.turnFull_eq (s : State) (d : Nat) :
    ((s.fabric.hbm[d]?).map fun h => decide (2 ^ 21 ≤ h.turnBuffer)).getD false = decide (2 ^ 21 ≤ (s.stack d).turnBuffer) := by
  rw [State.stack, List.getD_eq_getElem?_getD]
  cases s.fabric.hbm[d]? <;> rfl

theorem State.stack_modStack {s : State} {d : Nat} (h : d < s.fabric.hbm.length) (f : HbmStack → HbmStack) : (s.modStack d f).stack d = f (s.stack d) := by
  unfold State.stack State.modStack
  simp only [List.getD_eq_getElem?_getD, List.getElem?_modify_eq, List.getElem?_eq_getElem h]
  rfl

/-- A turn write buffer that holds anything is that of a stack which is there. -/
theorem State.stack_exists {s : State} {d : Nat} (h : 2 ^ 21 ≤ (s.stack d).turnBuffer) : d < s.fabric.hbm.length := by
  by_contra hd
  rw [State.stack, List.getD_eq_default _ _ (Nat.not_lt.1 hd)] at h
  exact absurd h (by decide)

section Turn

variable {s t : State} {lane d : Nat} {f : Frame} {xs : List TurnSample}

/-- A frame with room in the buffer is stored and counted. -/
theorem exec_turn_stored (hr : s.receive lane 2 f = (true, t)) (hworks : t.works = true) (hjudge : t.turnJudge (dieOfLane lane) f = (.fresh, d, xs))
    (hroom : (t.stack d).turnBuffer < 2 ^ 21) : exec (.turn lane f) s = .next ((t.turnWrite xs).frameOk lane) := by
  show execTurn lane f s = _
  unfold execTurn State.turnAccept
  rw [hr]
  dsimp only
  rw [hjudge]
  dsimp only
  rw [State.turnFull_eq, hworks, decide_eq_false (Nat.not_le.2 hroom)]
  simp

/-- A frame that finds the buffer full is counted and dropped. -/
theorem exec_turn_dropped (hr : s.receive lane 2 f = (true, t)) (hworks : t.works = true) (hjudge : t.turnJudge (dieOfLane lane) f = (.fresh, d, xs))
    (hfull : 2 ^ 21 ≤ (t.stack d).turnBuffer) :
    exec (.turn lane f) s = .next (State.frameOk (t.modStack d fun h => { h with rtDrops := rcAdd 32 h.rtDrops 1 }) lane) := by
  show execTurn lane f s = _
  unfold execTurn
  rw [hr]
  dsimp only
  rw [hjudge]
  dsimp only
  rw [State.turnFull_eq, hworks, decide_eq_true hfull]
  rfl

/-- A late frame counts in TURN_LATE alone. -/
theorem exec_turn_late (hr : s.receive lane 2 f = (true, t)) (hworks : t.works = true) (hjudge : t.turnJudge (dieOfLane lane) f = (.late, d, xs)) :
    exec (.turn lane f) s = .next (t.modDie d fun w => { w with turnLate := rcAdd 32 w.turnLate 1 }) := by
  show execTurn lane f s = _
  unfold execTurn State.turnAccept
  rw [hr]
  dsimp only
  rw [hjudge]
  simp [hworks]

end Turn

/-! ### BEAMPART (R206) -/

/-- The counters of the beams, and the receivers. -/
def State.beamPart (s : State) : List BeamCount × List RxLane := (s.data.beamCounts, s.lanes.rx)

theorem State.beamPart_eq_iff {s : State} {counts : List BeamCount} {rx : List RxLane} :
    s.beamPart = (counts, rx) ↔ s.data.beamCounts = counts ∧ s.lanes.rx = rx := by
  simp [State.beamPart]

theorem State.modContrib_beamPart (s : State) (k : ContribMash) (f : ContribMash → ContribMash) : (s.modContrib k f).beamPart = s.beamPart := rfl

theorem State.healItems_beamPart (s : State) (e : PipeEntry) (die : Nat) (kind : AreaKind) (keys : List (List Nat)) :
    (s.healItems e die kind keys).beamPart = s.beamPart := by
  unfold State.healItems
  split <;> rfl

theorem State.addCell_beamPart (s : State) (k : BeamCell) (vs : List (Int × Int)) : (s.addCell k vs).beamPart = s.beamPart := by
  unfold State.addCell
  extract_lets same new data added
  split
  · rfl
  · exact State.healItems_beamPart ..

/-- An accepted frame counts in PARTS_RX whatever it carries. -/
theorem State.partAdd_beamPart (s : State) (e : PipeEntry) (die : Nat) (f : Frame) :
    (s.partAdd e die f).beamPart = (s.modBeamCount f.pipe.toNat die fun c => { c with rx := rcAdd 64 c.rx 1 }).beamPart := by
  unfold State.partAdd
  extract_lets b tick pipe off beam ch mash k counted
  split
  · exact State.modContrib_beamPart ..
  · exact (State.addCell_beamPart ..).trans (State.modContrib_beamPart ..)

theorem State.beamCount_modBeamCount (s : State) (pipe die : Nat) {f : BeamCount → BeamCount} (hf : ∀ c, (f c).pipe = c.pipe ∧ (f c).die = c.die) :
    (s.modBeamCount pipe die f).beamCount pipe die = f (s.beamCount pipe die) := by
  have hkey : ∀ c : BeamCount, (c.pipe == pipe && c.die == die) = true → ((f c).pipe == pipe && (f c).die == die) = true := by
    intro c hc
    obtain ⟨hpipe, hdie⟩ := hf c
    rwa [hpipe, hdie]
  unfold State.beamCount State.modBeamCount
  dsimp only
  rw [find?_upsert (by simp) hkey, Option.getD_some]

theorem State.beamCount_congr {s t : State} (h : t.data.beamCounts = s.data.beamCounts) (pipe die : Nat) : t.beamCount pipe die = s.beamCount pipe die := by
  rw [State.beamCount, h, State.beamCount]

theorem State.partAdd_rx (s : State) (e : PipeEntry) (die : Nat) (f : Frame) :
    ((s.partAdd e die f).beamCount f.pipe.toNat die).rx = rcAdd 64 (s.beamCount f.pipe.toNat die).rx 1 := by
  obtain ⟨hcounts, -⟩ := State.beamPart_eq_iff.1 (s.partAdd_beamPart e die f)
  rw [State.beamCount_congr hcounts, s.beamCount_modBeamCount f.pipe.toNat die (f := fun c => { c with rx := rcAdd 64 c.rx 1 }) fun _ => ⟨rfl, rfl⟩]

theorem exec_beampart_fresh {s t : State} {lane d : Nat} {f : Frame} {e : PipeEntry} (hr : s.receive lane 3 f = (true, t)) (hworks : t.works = true)
    (hjudge : t.partJudge (dieOfLane lane) f = (.fresh, d, e)) : exec (.beampart lane f) s = .next ((t.partAdd e d f).frameOk lane) := by
  show execBeampart lane f s = _
  unfold execBeampart
  rw [hr]
  dsimp only
  rw [hjudge, hworks]
  rfl

/-! ### Each frame's own effect, and FRAMES_OK (R284) -/

/-- FRAMES_OK of the lane counts the frame when its type's own work leaves the receivers alone. -/
theorem State.CheckedBy.frameOk_framesOk {s t u : State} {lane : Nat} (h : t.CheckedBy s lane) (hlane : lane < s.lanes.rx.length)
    (hrx : u.lanes.rx = t.lanes.rx) : ((u.frameOk lane).rx lane).framesOk = rcAdd 64 (s.rx lane).framesOk 1 := by
  have hsame : u.rx lane = t.rx lane := by rw [State.rx, hrx, State.rx]
  rw [State.frameOk_framesOk (by rwa [hrx, h.lanes]), hsame, h.framesOk]

section Arrival

variable {s : State} {lane : Nat} {f : Frame} (hlane : lane < s.lanes.rx.length) (hworks : s.works = true)

include hlane hworks

theorem grist_gives (hok : (s.receive lane 1 f).1 = true) {i : Nat} {e : PipeEntry} {c : Chain} (hi : i ∈ s.cfg.indices [1])
    (he : s.pipeAt i f.tick.toNat = some e) (hin : ∃ x ∈ e.inputs, x.input = f.spec.toNat / 2 ^ 32 % 65536 ∧ x.die = dieOfLane lane)
    (hgood : gristMalformed e.cfg.ingestCfg f = false) (hc : c ∈ s.data.chains) (hof : Chain.isOf i (f.spec.toNat / 2 ^ 32 % 65536) c = true) :
    Gives (.grist lane f) s fun t => (t.rx lane).framesOk = rcAdd 64 (s.rx lane).framesOk 1 ∧ c.accept e.cfg.ingestCfg f ∈ t.data.chains := by
  obtain ⟨t, hr, ht⟩ := State.receive_of_ok hlane hok
  obtain ⟨rx, claims, heard, rfl⟩ := ht.parts
  obtain ⟨hpipe, hinput, hfinish⟩ := Chain.isOf_iff.1 hof
  have hentry : (s.heardOn rx claims heard).gristEntry i f.tick.toNat = e := State.gristEntry_of_pipeAt he
  have htaker : i ∈ (s.heardOn rx claims heard).gristTakers (dieOfLane lane) f := State.mem_gristTakers hi he hin hgood
  refine ⟨_, exec_grist_taken hr hworks htaker, ht.frameOk_framesOk hlane rfl, ?_⟩
  rw [← hentry, ← hpipe]
  refine State.mem_modChains (f := fun c => c.accept ((s.heardOn rx claims heard).gristEntry c.pipe f.tick.toNat).cfg.ingestCfg f) hc ?_
  simp [hpipe, htaker, hinput, hfinish]

theorem turn_stored_gives (hok : (s.receive lane 2 f).1 = true) {d : Nat} {xs : List TurnSample}
    (hroom : (s.stack d).turnBuffer < 2 ^ 21) (hjudge : s.turnJudge (dieOfLane lane) f = (.fresh, d, xs)) :
    Gives (.turn lane f) s fun t => (t.rx lane).framesOk = rcAdd 64 (s.rx lane).framesOk 1 ∧ (∀ x ∈ xs, x ∈ t.data.turn) ∧ t.data.dies = s.data.dies := by
  obtain ⟨t, hr, ht⟩ := State.receive_of_ok hlane hok
  obtain ⟨rx, claims, heard, rfl⟩ := ht.parts
  obtain ⟨old, hwritten⟩ := (s.heardOn rx claims heard).turnWrite_turnPart xs
  obtain ⟨hturn, hdies, hrx⟩ := State.turnPart_eq_iff.1 hwritten
  refine ⟨_, exec_turn_stored hr hworks hjudge hroom, ht.frameOk_framesOk hlane hrx, fun x hx => ?_, hdies⟩
  rw [State.frameOk, State.modRx_data, hturn]
  exact List.mem_append_right _ hx

theorem turn_dropped_gives (hok : (s.receive lane 2 f).1 = true) {d : Nat} {xs : List TurnSample}
    (hfull : 2 ^ 21 ≤ (s.stack d).turnBuffer) (hjudge : s.turnJudge (dieOfLane lane) f = (.fresh, d, xs)) :
    Gives (.turn lane f) s fun t => (t.rx lane).framesOk = rcAdd 64 (s.rx lane).framesOk 1 ∧ t.data.turn = s.data.turn ∧
      (t.stack d).rtDrops = rcAdd 32 (s.stack d).rtDrops 1 := by
  obtain ⟨t, hr, ht⟩ := State.receive_of_ok hlane hok
  obtain ⟨rx, claims, heard, rfl⟩ := ht.parts
  refine ⟨_, exec_turn_dropped hr hworks hjudge hfull, ht.frameOk_framesOk hlane rfl, rfl, ?_⟩
  exact congrArg HbmStack.rtDrops (State.stack_modStack (s := s) (State.stack_exists hfull) _)

theorem turn_late_gives (hok : (s.receive lane 2 f).1 = true) {d : Nat} {xs : List TurnSample}
    (hjudge : s.turnJudge (dieOfLane lane) f = (.late, d, xs)) (hd : d < s.data.dies.length) :
    Gives (.turn lane f) s fun t => (t.die d).turnLate = rcAdd 32 (s.die d).turnLate 1 ∧ t.data.turn = s.data.turn ∧
      (t.rx lane).framesOk = (s.rx lane).framesOk := by
  obtain ⟨t, hr, ht⟩ := State.receive_of_ok hlane hok
  have hframes := ht.framesOk
  obtain ⟨rx, claims, heard, rfl⟩ := ht.parts
  exact ⟨_, exec_turn_late hr hworks hjudge, congrArg DieWork.turnLate (State.die_modDie (s := s) hd _), rfl, hframes⟩

theorem beampart_gives (hok : (s.receive lane 3 f).1 = true) {d : Nat} {e : PipeEntry} (hjudge : s.partJudge (dieOfLane lane) f = (.fresh, d, e)) :
    Gives (.beampart lane f) s fun t => (t.rx lane).framesOk = rcAdd 64 (s.rx lane).framesOk 1 ∧
      (t.beamCount f.pipe.toNat d).rx = rcAdd 64 (s.beamCount f.pipe.toNat d).rx 1 := by
  obtain ⟨t, hr, ht⟩ := State.receive_of_ok hlane hok
  obtain ⟨rx, claims, heard, rfl⟩ := ht.parts
  obtain ⟨-, hrx⟩ := State.beamPart_eq_iff.1 ((s.heardOn rx claims heard).partAdd_beamPart e d f)
  exact ⟨_, exec_beampart_fresh hr hworks hjudge, ht.frameOk_framesOk hlane hrx, (s.heardOn rx claims heard).partAdd_rx e d f⟩

end Arrival

/-- Settles O33: a frame that passes the checks of its lane leaves all that its type's verdict looks at as it was, and the verdict says what it does. -/
theorem haulFramesArrive : Obligations.HaulFramesArrive := by
  intro s lane f hlane hworks ok
  refine ⟨?grist, ?stored, ?dropped, ?late, ?part⟩
  case grist =>
    intro i e c hok hi he hin hgood hc hof
    obtain ⟨t, ht, hcount, hmem⟩ := grist_gives hlane hworks hok hi he hin hgood hc hof
    refine ⟨t, ht, hcount, hmem, fun hkeeps => ?_⟩
    rwa [Chain.accept_of_not_resets hkeeps] at hmem
  case stored => exact fun d xs hok hroom hjudge => turn_stored_gives hlane hworks hok hroom hjudge
  case dropped => exact fun d xs hok hfull hjudge => turn_dropped_gives hlane hworks hok hfull hjudge
  case late => exact fun d xs hok _ hjudge hd => turn_late_gives hlane hworks hok hjudge hd
  case part => exact fun d e hok hjudge => beampart_gives hlane hworks hok hjudge

end Sys2Proof.Machine

/-! ## Reads of a die, an element, a lane, the log and the pipe table (R187, R284, R373, R423, R424, R459, R463) -/

namespace Sys2Proof.Machine

/-! ### A class R command whose tests pass (R364, R374) -/

/-- A class R command of a served sender completes with what its meaning answers, whoever holds the lease and whatever the package's role (R374). -/
theorem Completes.of_read {i : Instr} {s u : State} {o : Origin} {op n : Nat} {args : List Byte} {cmd : Cmd} {r : List Byte}
    (he : exec i s = .next (s.row o op args (fixedLen n) cmd)) (h : Served s o) (hlen : args.length = n) (hn : n ≤ 1024) (hop : classOf op = some .r)
    (hstandby : standbyRefuses op args = false) (hj : journalled op args = false) (hc : cmd o args (s.taken o op args) = .done .ok 0 r u)
    (hm : u.mail = (s.taken o op args).mail) : Completes i s o.mailbox .ok r u := by
  refine Completes.of_row he h (hlen ▸ hn) (fixedLen_none n args hlen) (by rw [hop]; rfl) (by rw [hstandby, Bool.and_false]) ?_ hc hm (.inl hj) ?_
  · rw [hop]
    rintro (h | h) <;> exact absurd h (by decide)
  · rintro rfl
    exact absurd hop (by decide)

/-! ### What a read looks at is as it was before the lead core took it -/

section
variable (s : State) (o : Origin) (op : Nat) (args : List Byte)

@[simp] theorem State.taken_dies : (s.taken o op args).dies = s.dies := by simp [State.dies]

@[simp] theorem State.taken_die (d : Nat) : (s.taken o op args).die d = s.die d := by simp [State.die]

@[simp] theorem State.taken_stack (d : Nat) : (s.taken o op args).stack d = s.stack d := by rw [State.stack, State.taken_fabric, ← State.stack]

@[simp] theorem State.taken_hasLane (l : Nat) : (s.taken o op args).hasLane l = s.hasLane l := by simp [State.hasLane]

@[simp] theorem State.taken_hasElement (e : KilnElement) : (s.taken o op args).hasElement e = s.hasElement e := by simp [State.hasElement]

@[simp] theorem State.taken_laneState (l dir : Nat) : (s.taken o op args).laneState l dir = s.laneState l dir := by
  simp [State.laneState, State.tx, State.rx]

end

/-! ### Lists in replies -/

/-- Records of `k` bytes each. -/
theorem length_flatMap_of_length_eq {α β : Type} {f : α → List β} {k : Nat} (hf : ∀ a, (f a).length = k) (l : List α) :
    (l.flatMap f).length = k * l.length := by
  simp [List.length_flatMap, hf, Nat.mul_comm]

section
variable {s : State} {o : Origin} {args : List Byte}

/-! ### TILE_MAP, HBM_STATUS and SRAM_MAP: reads of one die -/

/-- DIE names a die and the reserved bytes after it are zero (R9, R507). -/
theorem dieTests_pass (hd : field args 0 1 < s.dies) (hz : ZeroBytes args 1 4) :
    firstFail (bad 0 (decide (s.dies ≤ field args 0 1)) :: reserved args 1 3) = none := by
  rw [firstFail_cons]
  exact ⟨decide_eq_false (Nat.not_le.2 hd), reserved_pass hz⟩

theorem tileMap_completes (h : Served s o) (hlen : args.length = 4) (hd : field args 0 1 < s.dies) (hz : ZeroBytes args 1 4) :
    Completes (.tileMap o args) s o.mailbox .ok
      ((s.die (field args 0 1)).tiles.flatMap (leBytes 1 ·) ++ (s.die (field args 0 1)).tileMap.flatMap fun p => leBytes 1 (p.getD 0xFF))
      (s.taken o 0x0301 args) := by
  refine Completes.of_read (op := 0x0301) (cmd := cmdTileMap) rfl h hlen (by decide) rfl rfl rfl ?_ rfl
  refine (checked_pass (dieTests_pass (by rwa [State.taken_dies]) hz)).trans ?_
  rw [State.taken_die]

/-- A stack whose counters have been read: they are zero, and its settings and its training stay (R13, R423). -/
def HbmStack.countersRead (h : HbmStack) : HbmStack :=
  { h with refreshes := 0, panics := 0, panicLongestNs := 0, nbrRefreshes := 0, eccCorrected := 0, eccUncorrectable := 0, rtDrops := 0
           scrubPasses := 0, scrubUncorrectable := 0, sramCorrected := 0, sramUncorrectable := 0 }

theorem cmdHbmStatus_done (hd : field args 0 1 < s.dies) (hz : ZeroBytes args 1 4) :
    ∃ reply, reply.length = 64 ∧ field reply 0 1 = (s.stack (field args 0 1)).trainState % 256 ∧
      field reply 16 4 = (s.stack (field args 0 1)).panics % 2 ^ 32 ∧
      cmdHbmStatus o args s = .done .ok 0 reply (State.modStack { s with free := s.free + 1 } (field args 0 1) HbmStack.countersRead) := by
  rw [cmdHbmStatus, checked_pass (dieTests_pass hd hz)]
  refine ⟨_, ?_, ?_, ?_, rfl⟩
  · simp only [List.length_append, leBytes_length]
  · simp [List.append_assoc, field_leBytes_append]
  · simp [List.append_assoc, field_append_right, field_leBytes_append]

theorem hbmStatus_completes (h : Served s o) (hlen : args.length = 4) (hd : field args 0 1 < s.dies) (hz : ZeroBytes args 1 4) :
    let t := s.taken o 0x0702 args
    ∃ reply, reply.length = 64 ∧ field reply 0 1 = (s.stack (field args 0 1)).trainState % 256 ∧
      field reply 16 4 = (s.stack (field args 0 1)).panics % 2 ^ 32 ∧
      Completes (.hbmStatus o args) s o.mailbox .ok reply (State.modStack { t with free := t.free + 1 } (field args 0 1) HbmStack.countersRead) := by
  obtain ⟨reply, hsize, htrain, hpanics, hc⟩ := cmdHbmStatus_done (s := s.taken o 0x0702 args) (o := o) (by rwa [State.taken_dies]) hz
  rw [State.taken_stack] at htrain hpanics
  exact ⟨reply, hsize, htrain, hpanics, Completes.of_read (op := 0x0702) rfl h hlen (by decide) rfl rfl rfl hc rfl⟩

theorem sramMap_completes (h : Served s o) (hlen : args.length = 4) (hd : field args 0 1 < s.dies) (hz : ZeroBytes args 1 4) :
    Completes (.sramMap o args) s o.mailbox .ok
      (sramPartitions.flatMap fun (c, off, n) => leBytes 1 c ++ leBytes 3 0 ++ leBytes 4 off ++ leBytes 4 n) (s.taken o 0x0704 args) :=
  Completes.of_read (op := 0x0704) (cmd := cmdSramMap) rfl h hlen (by decide) rfl rfl rfl
    (checked_pass (dieTests_pass (by rwa [State.taken_dies]) hz)) rfl

/-! ### KILN_STATUS -/

/-- The die of an element that the package has is one of its dies (R159). -/
theorem State.die_of_hasElement {e : KilnElement} (h : s.hasElement e = true) (hkind : e.kind = 4) : e.die < s.dies := by
  unfold State.hasElement at h
  simp only [hkind, decide_eq_true_eq] at h
  exact h.1

theorem State.elementChecks_pass {byIndex : Bool} (hlo : 1 ≤ field args 0 1) (hhi : field args 0 1 ≤ 5) (he : s.hasElement (elementArg args) = true)
    (hz : field args 3 1 = 0) : firstFail (s.elementChecks args byIndex) = none := by
  have hdie : ((elementArg args).kind == 4 && decide (s.dies ≤ (elementArg args).die)) = false := by
    rw [Bool.and_eq_false_imp, beq_iff_eq]
    exact fun hkind => decide_eq_false (Nat.not_le.2 (State.die_of_hasElement he hkind))
  simp only [State.elementChecks, firstFail_cons, inRange_fst, bad_fst]
  exact ⟨⟨hlo, hhi⟩, hdie, by rw [he, Bool.not_true, Bool.and_false], by rw [hz]; rfl, firstFail_nil⟩

theorem cmdKilnStatus_done (hlo : 1 ≤ field args 0 1) (hhi : field args 0 1 ≤ 5) (he : s.hasElement (elementArg args) = true) (hz : field args 3 1 = 0) :
    ∃ reply, reply.length = 28 ∧ cmdKilnStatus o args s = .done .ok 0 reply (s.modKiln (elementArg args) fun k => { k with passes := 0, fails := 0 }) := by
  rw [cmdKilnStatus, checked_pass (State.elementChecks_pass hlo hhi he hz)]
  refine ⟨_, ?_, rfl⟩
  simp [length_flatMap_of_length_eq (fun _ => leBytes_length _ _), length_flatMap_of_length_eq (fun _ => leInt_length _ _)]

theorem kilnStatus_completes (h : Served s o) (hlen : args.length = 4) (hlo : 1 ≤ field args 0 1) (hhi : field args 0 1 ≤ 5)
    (he : s.hasElement (elementArg args) = true) (hz : field args 3 1 = 0) :
    ∃ reply u, reply.length = 28 ∧ u.fabric.mem = s.fabric.mem ∧ u.lanes = s.lanes ∧ Completes (.kilnStatus o args) s o.mailbox .ok reply u := by
  obtain ⟨reply, hsize, hc⟩ := cmdKilnStatus_done (s := s.taken o 0x0801 args) (o := o) hlo hhi (by rwa [State.taken_hasElement]) hz
  refine ⟨reply, _, hsize, ?_, ?_, Completes.of_read (op := 0x0801) rfl h hlen (by decide) rfl rfl rfl hc rfl⟩
  · simp [State.modKiln]
  · simp [State.modKiln]

/-! ### LANE_STATUS -/

theorem cmdLaneStatus_done (hl : s.hasLane (field args 0 1) = true) (hdir : field args 1 1 ≤ 1) (hz : ZeroBytes args 2 4) :
    ∃ reply, field reply 0 1 = s.laneState (field args 0 1) (field args 1 1) % 256 ∧
      cmdLaneStatus o args s = .done .ok 0 reply (if field args 1 1 = 0 then s.modRx (field args 0 1) RxLane.clearCounters else s) := by
  have ht : firstFail ([bad 0 (!s.hasLane (field args 0 1)), inRange args 1 1 0 1] ++ reserved args 2 2) = none := by
    simp only [firstFail_append, firstFail_cons, bad_fst, inRange_fst, hl]
    exact ⟨⟨rfl, ⟨Nat.zero_le _, hdir⟩, firstFail_nil⟩, reserved_pass hz⟩
  rw [cmdLaneStatus, checked_pass ht]
  refine ⟨_, ?_, rfl⟩
  simp [List.append_assoc, field_leBytes_append]

theorem laneStatus_completes (h : Served s o) (hlen : args.length = 4) (hl : s.hasLane (field args 0 1) = true) (hdir : field args 1 1 ≤ 1)
    (hz : ZeroBytes args 2 4) :
    let t := s.taken o 0x0404 args
    ∃ reply, field reply 0 1 = s.laneState (field args 0 1) (field args 1 1) % 256 ∧ Completes (.laneStatus o args) s o.mailbox .ok reply
      (if field args 1 1 = 0 then t.modRx (field args 0 1) RxLane.clearCounters else t) := by
  obtain ⟨reply, hstate, hc⟩ := cmdLaneStatus_done (s := s.taken o 0x0404 args) (o := o) (by rwa [State.taken_hasLane]) hdir hz
  rw [State.taken_laneState] at hstate
  exact ⟨reply, hstate, Completes.of_read (op := 0x0404) rfl h hlen (by decide) rfl rfl rfl hc (by split <;> rfl)⟩

/-! ### LOG_READ -/

theorem logRead_completes (h : Served s o) (hlen : args.length = 13) (hsource : field args 0 1 ≤ 1) (hz : ZeroBytes args 1 4)
    (hlo : 1 ≤ field args 12 1) (hhi : field args 12 1 ≤ 15) :
    ∃ reply, field reply 0 8 = s.health.log.nextSeq % 2 ^ 64 ∧ field reply 8 1 ≤ field args 12 1 ∧
      Completes (.logRead o args) s o.mailbox .ok reply (s.taken o 0x0805 args) := by
  have ht : firstFail ([inRange args 0 1 0 1] ++ reserved args 1 3 ++ [inRange args 12 1 1 15]) = none := by
    simp only [firstFail_append, firstFail_cons, inRange_fst]
    exact ⟨⟨⟨⟨Nat.zero_le _, hsource⟩, firstFail_nil⟩, reserved_pass hz⟩, ⟨hlo, hhi⟩, firstFail_nil⟩
  refine ⟨_, ?_, ?_, Completes.of_read (op := 0x0805) (cmd := cmdLogRead) rfl h hlen (by decide) rfl rfl rfl (checked_pass ht) rfl⟩
  · simp [List.append_assoc, field_leBytes_append]
  · simp only [List.append_assoc, field_append_right _ _ 8 1 (leBytes_length 8 _).le, leBytes_length, Nat.sub_self, field_leBytes_append]
    exact (Nat.mod_le _ _).trans (List.length_take_le _ _)

/-! ### PIPE_LIST -/

theorem pipeList_completes (h : Served s o) (hlen : args.length = 4) (hz : ZeroBytes args 2 4) :
    ∃ reply, reply.length ≤ 1024 ∧ reply.length % 8 = 0 ∧ Completes (.pipeList o args) s o.mailbox .ok reply (s.taken o 0x0103 args) := by
  refine ⟨_, ?_, ?_, Completes.of_read (op := 0x0103) (cmd := cmdPipeList) rfl h hlen (by decide) rfl rfl rfl (checked_pass (reserved_pass hz)) rfl⟩
  · rw [length_flatMap_of_length_eq (k := 8) fun _ => by simp]
    exact Nat.mul_le_mul_left 8 (List.length_take_le 128 _)
  · rw [length_flatMap_of_length_eq (k := 8) fun _ => by simp, Nat.mul_mod_right]

end

/-- Settles O12: each read's tests are about its arguments alone and pass, so it completes with the reply of its table. -/
theorem namedReadsComplete : Obligations.NamedReadsComplete := by
  intro s o args h
  refine ⟨?die, ?element, ?lane, ?log, ?pipes⟩
  case die => exact fun hlen hd hz => ⟨tileMap_completes h hlen hd hz, hbmStatus_completes h hlen hd hz, sramMap_completes h hlen hd hz⟩
  case element => exact kilnStatus_completes h
  case lane => exact laneStatus_completes h
  case log => exact logRead_completes h
  case pipes => exact pipeList_completes h

end Sys2Proof.Machine

/-! ## A due switch at an ACTIVE without a partner (R326, R344, R350, R353)

`TickRowsRun` asks that an agreed switch that is due leaves an ACTIVE a STANDBY. `State.demote` keeps a partner on record only where MODE is not untwinned, and the
same boundary makes a STANDBY without one ALONE. -/

namespace Sys2Proof.Machine

theorem exec_tickBoundary (n : Nat) (s : State) : exec (.tickBoundary n) s = execTickBoundary n s := rfl

/-- The first boundary after a TICK_CONFIG runs, whatever its number. -/
theorem execTickBoundary_first {s : State} {c : TickCfg} (n : Nat) (htick : s.cfg.tick = some c) (hfirst : s.data.boundary = none) :
    execTickBoundary n s = .next (s.tickBoundary c n) := by
  simp [execTickBoundary, htick, hfirst]

/-- A package that is up, with a tick and no pipes. Its role is ACTIVE and a switch is agreed for boundary 0, but MODE is untwinned and it has no partner. -/
def partnerlessActive : State :=
  { State.reset with
    power := { State.reset.power with inReset := false, stage := 9, ready := true }
    cfg := { pipes := [], tick := some {} }
    twin := { mode := .untwinned, role := .active, partner := none, switchAt := some 0 } }

/-- The switch steps it out of service with no partner on record, and the boundary that takes it makes it ALONE. -/
theorem partnerlessActive_ends_alone : (partnerlessActive.tickBoundary {} 0).twin.role = .alone := by decide +kernel

/-- Refutes O39: nothing in it says that an ACTIVE has a partner or a MODE other than untwinned, and one with neither that a due switch steps out of service
is ALONE, not STANDBY, when the boundary has run. -/
theorem not_tickRowsRun : ¬ Obligations.TickRowsRun := by
  intro h
  obtain ⟨-, -, -, htwins, -⟩ := h partnerlessActive 0
  obtain ⟨-, -, hactive⟩ := htwins {} rfl nofun rfl rfl rfl rfl
  obtain ⟨hswitch, -⟩ := hactive rfl rfl
  obtain ⟨t, ht, -, hstandby, -⟩ := hswitch 0 rfl (Nat.le_refl 0)
  rw [exec_tickBoundary, execTickBoundary_first 0 rfl rfl] at ht
  rw [← Host.Outcome.next.inj ht, partnerlessActive_ends_alone] at hstandby
  exact absurd hstandby (by decide)

end Sys2Proof.Machine

/-! ## Beam strips and beam mashes (R193, R195, R204, R208, R211, R410) -/

namespace Sys2Proof.Machine

/-! ### What a strip that leaves its tile lets be -/

/-- The tick boundary, the dies' work, the progress of the beam mashes, and the bytes of memory. -/
def State.stripFrame (s : State) : Option Nat × List DieWork × List ContribMash × List Host.Cell :=
  (s.data.boundary, s.data.dies, s.data.contribs, s.fabric.mem)

theorem State.stripFrame_eq_iff {s t : State} :
    t.stripFrame = s.stripFrame ↔
      t.data.boundary = s.data.boundary ∧ t.data.dies = s.data.dies ∧ t.data.contribs = s.data.contribs ∧ t.fabric.mem = s.fabric.mem := by
  simp [State.stripFrame]

theorem State.stripFrame_congr {s t : State} (hdata : t.data = s.data) (hmem : t.fabric.mem = s.fabric.mem) : t.stripFrame = s.stripFrame := by
  rw [State.stripFrame, hdata, hmem, State.stripFrame]

@[simp] theorem State.raise_stripFrame (s : State) (code die : Nat) (detail : List Byte) : (s.raise code die detail).stripFrame = s.stripFrame :=
  State.stripFrame_congr (State.raise_data ..) (congrArg Fabric.mem (State.raise_fabric ..))

@[simp] theorem State.meetBad_mem (s : State) (die n : Nat) : (s.meetBad die n).fabric.mem = s.fabric.mem := by
  unfold State.meetBad
  split <;> rfl

@[simp] theorem State.meetBad_stripFrame (s : State) (die n : Nat) : (s.meetBad die n).stripFrame = s.stripFrame :=
  State.stripFrame_congr (State.meetBad_data ..) (State.meetBad_mem ..)

@[simp] theorem State.modBeam_stripFrame (s : State) (pipe : Nat) (f : BeamWork → BeamWork) : (s.modBeam pipe f).stripFrame = s.stripFrame := rfl

@[simp] theorem State.modBeamCount_stripFrame (s : State) (pipe die : Nat) (f : BeamCount → BeamCount) :
    (s.modBeamCount pipe die f).stripFrame = s.stripFrame := rfl

@[simp] theorem State.nextLane_stripFrame (s : State) (pipe first count : Nat) : (s.nextLane pipe first count).2.stripFrame = s.stripFrame := rfl

@[simp] theorem State.healItems_stripFrame (s : State) (e : PipeEntry) (die : Nat) (kind : AreaKind) (keys : List (List Nat)) :
    (s.healItems e die kind keys).stripFrame = s.stripFrame := by
  unfold State.healItems
  split <;> rfl

@[simp] theorem State.addCell_stripFrame (s : State) (k : BeamCell) (vs : List (Int × Int)) : (s.addCell k vs).stripFrame = s.stripFrame := by
  unfold State.addCell
  extract_lets same new data added
  split
  · rfl
  · exact State.healItems_stripFrame ..

@[simp] theorem State.sendHaul_stripFrame (s : State) (lane type : Nat) (f : Frame) : (s.sendHaul lane type f).stripFrame = s.stripFrame := by
  unfold State.sendHaul
  split
  · exact List.foldlRecOn (motive := fun t : State => t.stripFrame = s.stripFrame) _ _ rfl fun _ ht _ _ => ht
  · rfl

@[simp] theorem State.sendPart_stripFrame (s : State) (b : BeamCfg) (d : StripRef) (f : Frame) : (s.sendPart b d f).stripFrame = s.stripFrame := by
  unfold State.sendPart
  dsimp only
  rw [State.sendHaul_stripFrame]
  split
  · rw [State.modBeamCount_stripFrame, State.nextLane_stripFrame]
  · rw [State.nextLane_stripFrame]

/-- A verified strip goes to cells of the slot or to the lanes; that it has left is entered apart (R195, R203). -/
@[simp] theorem State.stripOut_stripFrame (s : State) (e : PipeEntry) (d : StripRef) (ys : List (Int × Int)) :
    (s.stripOut e d ys).stripFrame = s.stripFrame := by
  unfold State.stripOut
  refine List.foldlRecOn (motive := fun t : State => t.stripFrame = s.stripFrame) _ _ rfl fun t ht cell _ => ?_
  dsimp only
  split
  · rw [State.sendPart_stripFrame, ht]
  · rw [State.addCell_stripFrame, ht]

@[simp] theorem State.rampCheck_stripFrame (s : State) (e : PipeEntry) (d : StripRef) : (s.rampCheck e d).stripFrame = s.stripFrame := by
  unfold State.rampCheck
  dsimp only
  split
  · rw [State.raise_stripFrame, State.modBeam_stripFrame]
  · rfl

/-! ### The own record of a beam mash (R204) -/

theorem State.contrib_congr {s t : State} (h : t.data.contribs = s.data.contribs) (pipe position die slot ch mash : Nat) :
    t.contrib pipe position die slot ch mash = s.contrib pipe position die slot ch mash := by
  rw [State.contrib, h, State.contrib]

/-- The beam mash and the contributor that a progress record is of. -/
def ContribMash.place (r : ContribMash) : Nat × Nat × Nat × Nat × Nat × Nat := (r.pipe, r.position, r.die, r.slot, r.channel, r.mash)

theorem State.contrib_modContrib (s : State) (k : ContribMash) {f : ContribMash → ContribMash} (hf : ∀ r, (f r).place = r.place) :
    (s.modContrib k f).contrib k.pipe k.position k.die k.slot k.channel k.mash =
      some (f ((s.contrib k.pipe k.position k.die k.slot k.channel k.mash).getD k)) := by
  unfold State.contrib State.modContrib
  refine find?_upsert (by simp) (fun r hr => ?_) s.data.contribs
  obtain ⟨hpipe, hposition, hdie, hslot, hch, hmash⟩ : (f r).pipe = r.pipe ∧ (f r).position = r.position ∧ (f r).die = r.die ∧ (f r).slot = r.slot ∧
      (f r).channel = r.channel ∧ (f r).mash = r.mash := by simpa [ContribMash.place] using hf r
  rwa [hpipe, hposition, hdie, hslot, hch, hmash]

/-- A strip entered in its record, as written or as lost. -/
def StripRef.enter (d : StripRef) (written : Bool) (r : ContribMash) : ContribMash :=
  if written then { r with cells := r.cells ++ [StripRef.number d] } else { r with lost := r.lost ++ [StripRef.number d] }

theorem StripRef.enter_place (d : StripRef) (written : Bool) (r : ContribMash) : (StripRef.enter d written r).place = r.place := by
  cases written <;> rfl

/-- Beside the own record a strip that settles changes nothing of the frame: the count frame goes to a lane, and the end of a ramp is an event (R204, R221). -/
theorem State.stripSettle_stripFrame (s : State) (e : PipeEntry) (d : StripRef) (written : Bool) :
    (s.stripSettle e d written).stripFrame = (s.modContrib (StripRef.own d s.workSlot) (StripRef.enter d written)).stripFrame := by
  unfold State.stripSettle
  extract_lets entered r sent
  rw [State.rampCheck_stripFrame]
  have hsent : sent.stripFrame = entered.stripFrame := by
    unfold sent
    split
    · exact State.sendPart_stripFrame ..
    · rfl
  exact hsent

theorem State.stripSettle_dies (s : State) (e : PipeEntry) (d : StripRef) (written : Bool) : (s.stripSettle e d written).data.dies = s.data.dies := by
  obtain ⟨-, hdies, -, -⟩ := State.stripFrame_eq_iff.1 (s.stripSettle_stripFrame e d written)
  exact hdies

theorem State.stripSettle_mem (s : State) (e : PipeEntry) (d : StripRef) (written : Bool) : (s.stripSettle e d written).fabric.mem = s.fabric.mem := by
  obtain ⟨-, -, -, hmem⟩ := State.stripFrame_eq_iff.1 (s.stripSettle_stripFrame e d written)
  exact hmem

theorem State.stripSettle_contrib (s : State) (e : PipeEntry) (d : StripRef) (written : Bool) :
    (s.stripSettle e d written).contrib d.pipe ownStrips d.die s.workSlot d.channel d.mash =
      some (StripRef.enter d written ((s.contrib d.pipe ownStrips d.die s.workSlot d.channel d.mash).getD (StripRef.own d s.workSlot))) := by
  obtain ⟨-, -, hcontribs, -⟩ := State.stripFrame_eq_iff.1 (s.stripSettle_stripFrame e d written)
  rw [State.contrib_congr hcontribs]
  exact s.contrib_modContrib (StripRef.own d s.workSlot) (StripRef.enter_place d written)

/-- Without a record nothing has been written or lost. -/
theorem StripRef.own_getD (d : StripRef) (slot : Nat) (o : Option ContribMash) :
    (o.getD (StripRef.own d slot)).cells = (o.getD {}).cells ∧ (o.getD (StripRef.own d slot)).lost = (o.getD {}).lost := by
  cases o <;> exact ⟨rfl, rfl⟩

/-! ### A strip that fails its check (R162, R195) -/

theorem State.noteFault_data (s : State) (die p ch tp : Nat) :
    (s.noteFault die p ch tp).data = (s.modDie die fun w => { w with tileFaults := rcAdd 32 w.tileFaults 1 }).data :=
  State.raise_data _ _ _ _

/-- Counted and queued as a fault, its tile out, the reserve less by the time left (R162). -/
theorem State.stripFault_die {s : State} {d : StripRef} (hdie : d.die < s.data.dies.length) (e : PipeEntry) :
    (s.stripFault e d).die d.die = { s.die d.die with
      tileFaults := rcAdd 32 (s.die d.die).tileFaults 1
      replays := queueReplay (s.die d.die).replays { fault := true, strip := some (StripRef.key d) }
      faulty := (s.die d.die).faulty ++ [((s.die d.die).physical d.tile).getD 255]
      reserve := (s.die d.die).reserve - s.windowLeft } := by
  have hcounted (p ch tp : Nat) (f : BeamCount → BeamCount) : ((s.noteFault d.die p ch tp).modBeamCount d.pipe d.die f).data.dies =
      (s.modDie d.die fun w => { w with tileFaults := rcAdd 32 w.tileFaults 1 }).data.dies := by
    show (s.noteFault d.die p ch tp).data.dies = _
    rw [State.noteFault_data]
  have hleft (p ch tp : Nat) (f : BeamCount → BeamCount) (g : DieWork → DieWork) :
      (((s.noteFault d.die p ch tp).modBeamCount d.pipe d.die f).modDie d.die g).windowLeft = s.windowLeft := by
    simp [State.windowLeft, State.workTick, State.timeNs, State.noteFault, State.modBeamCount]
  unfold State.stripFault
  dsimp only
  rw [State.tileOut, hleft, State.die_modDie (by simp [hcounted, hdie]), State.die_modDie (by simp [hcounted, hdie]), State.die_congr (hcounted ..),
    State.die_modDie hdie]

theorem State.stripFault_mem (s : State) (e : PipeEntry) (d : StripRef) : (s.stripFault e d).fabric.mem = s.fabric.mem := by
  simp [State.stripFault, State.tileOut, State.noteFault]

theorem State.beamCount_modDie (s : State) (k : Nat) (f : DieWork → DieWork) (pipe die : Nat) :
    (s.modDie k f).beamCount pipe die = s.beamCount pipe die := rfl

theorem State.noteFault_beamCount (s : State) (k p ch tp pipe die : Nat) : (s.noteFault k p ch tp).beamCount pipe die = s.beamCount pipe die :=
  State.beamCount_congr (congrArg DataPath.beamCounts (s.noteFault_data k p ch tp)) pipe die

theorem State.stripFault_stripFaults (s : State) (e : PipeEntry) (d : StripRef) :
    ((s.stripFault e d).beamCount d.pipe d.die).stripFaults = rcAdd 32 (s.beamCount d.pipe d.die).stripFaults 1 := by
  unfold State.stripFault State.tileOut
  dsimp only
  rw [State.beamCount_modDie, State.beamCount_modDie, State.beamCount_modBeamCount, State.noteFault_beamCount]
  exact fun _ => ⟨rfl, rfl⟩

/-! ### What becomes of a strip (R195, R410) -/

/-- The results of a strip's tile and its checksum column (R193, R195). -/
def State.stripResult (s : State) (e : PipeEntry) (d : StripRef) (errs : List TileError) : List (Int × Int) × List (Int × Int) :=
  stripRun (s.stripData e d).1 (s.stripData e d).2 errs

section
variable {s : State} {e : PipeEntry} {d : StripRef} {errs : List TileError}

theorem State.takeStrip_unread (hbad : s.weightsBad e d ≠ 0) :
    s.takeStrip e d errs = (s.meetBad d.die (s.weightsBad e d)).stripSettle e d false := by
  rw [State.takeStrip, if_pos hbad]

theorem State.takeStrip_verified (hbad : s.weightsBad e d = 0) (hv : stripVerified (s.stripResult e d errs).1 (s.stripResult e d errs).2 = true) :
    s.takeStrip e d errs = (s.stripOut e d (s.stripResult e d errs).1).stripSettle e d true := by
  rw [State.takeStrip, if_neg (not_not.2 hbad)]
  exact if_pos hv

theorem State.takeStrip_fault (hbad : s.weightsBad e d = 0) (hv : stripVerified (s.stripResult e d errs).1 (s.stripResult e d errs).2 = false) :
    s.takeStrip e d errs = s.stripFault e d := by
  rw [State.takeStrip, if_neg (not_not.2 hbad)]
  exact if_neg (Bool.eq_false_iff.1 hv)

end

theorem exec_stripDone {s : State} {d : StripRef} {e : PipeEntry} {b : TileWork} (hrun : s.tilesRun = true)
    (he : s.beamAt d.pipe d.die d.channel d.mash = some e)
    (hb : (s.die d.die).busy.find? (fun b => b.tile == d.tile && b.item == .strip (StripRef.key d)) = some b) (errs : List TileError) :
    exec (.stripDone d errs) s = .next (((s.freeUp d.die b).takeStrip e d errs).deal d.die) := by
  show execStripDone d errs s = _
  rw [execStripDone, if_pos hrun, State.stripDone, he, hb]

/-- A strip settles from a state whose frame is that of `s` once its tile is free: the tile stays free, and the own record of `s` has one more strip. -/
theorem State.stripSettle_of_freeUp {s u : State} {d : StripRef} {b : TileWork} (hdie : d.die < s.data.dies.length)
    (hu : u.stripFrame = (s.freeUp d.die b).stripFrame) (e : PipeEntry) (written : Bool) :
    ((u.stripSettle e d written).die d.die).busy = (s.die d.die).busy.erase b ∧ (u.stripSettle e d written).fabric.mem = s.fabric.mem ∧
      (u.stripSettle e d written).contrib d.pipe ownStrips d.die s.workSlot d.channel d.mash =
        some (StripRef.enter d written ((s.contrib d.pipe ownStrips d.die s.workSlot d.channel d.mash).getD (StripRef.own d s.workSlot))) := by
  obtain ⟨hboundary, hdies, hcontribs, hmem⟩ := State.stripFrame_eq_iff.1 hu
  have hslot : u.workSlot = s.workSlot := by
    rw [State.workSlot, State.workTick, hboundary]
    rfl
  have hsettled := u.stripSettle_contrib e d written
  rw [hslot, State.contrib_congr hcontribs] at hsettled
  refine ⟨?_, (u.stripSettle_mem e d written).trans hmem, hsettled⟩
  rw [State.die_congr (s := s.freeUp d.die b) ((u.stripSettle_dies e d written).trans hdies), State.freeUp_die hdie]

/-! ### A beam mash is finished (R208 to R211) -/

theorem State.noteMixed_finished (s : State) (e : PipeEntry) (pipe die tick : Nat) (r : ContribMash) :
    (s.noteMixed e pipe die tick r).data.finished = s.data.finished := by
  unfold State.noteMixed
  dsimp only
  split
  · rfl
  · rw [State.raise_data]
    rfl

theorem State.partMissing_data (s : State) (pipe die position fromDie tick : Nat) : (s.partMissing pipe die position fromDie tick).data = s.data :=
  State.raise_data ..

/-- A mash that is finished joins the finished ones, on the die that finishes it (R192, R211). -/
theorem State.finishMash_finished (s : State) (e : PipeEntry) (pipe tick ch mash : Nat) :
    ∃ m : BeamMash, (s.finishMash e pipe tick ch mash).data.finished = s.data.finished ++ [m] ∧ m.pipe = pipe ∧
      m.die = finishDie (s.cfgAt tick) e ch mash ∧ m.channel = ch ∧ m.tick = tick ∧ m.mash = mash := by
  unfold State.finishMash
  extract_lets b slot die t own decl version ownShort short absent keys bad cellsMissing counted uncounted mixed sat y volts dets voltClip detClip m run data
    s1 s2 s3 s4
  have hread : s1.data.finished = s.data.finished ++ [m] := congrArg DataPath.finished (State.meetBad_data ..)
  have hmissing : s4.data.finished = s1.data.finished :=
    List.foldlRecOn (motive := fun u : State => u.data.finished = s1.data.finished) _ _ rfl fun u hu _ _ =>
      (congrArg DataPath.finished (State.partMissing_data ..)).trans hu
  refine ⟨m, ?_, rfl, rfl, rfl, rfl, rfl⟩
  clear_value mixed
  split
  · rw [State.noteMixed_finished, hmissing, hread]
  · rw [hmissing, hread]

theorem exec_beamMashFinish {s : State} {pipe die ch tick mash : Nat} {e : PipeEntry} (he : s.finishable pipe tick ch mash = some e)
    (hdie : finishDie (s.cfgAt tick) e ch mash = die) :
    exec (.beamMashFinish pipe die ch tick mash) s = .next (s.finishMash e pipe tick ch mash) := by
  show execBeamMashFinish pipe die ch tick mash s = _
  rw [execBeamMashFinish, he]
  dsimp only
  rw [if_pos hdie]

/-- Settles O37: a strip's weights and its check decide whether it settles as written, settles as lost or is queued as a fault, none of which gives its tile
work again; the finisher adds a mash that is due to the finished ones. -/
theorem beamWorkRuns : Obligations.BeamWorkRuns := by
  intro s d errs e hrun r run
  refine ⟨?strip, ?mash⟩
  case strip =>
    intro b he hdie hb
    have hdie' : d.die < (s.freeUp d.die b).data.dies.length := by rwa [State.freeUp_length]
    obtain ⟨hcells, hlost⟩ := StripRef.own_getD d s.workSlot (s.contrib d.pipe ownStrips d.die s.workSlot d.channel d.mash)
    refine ⟨(s.freeUp d.die b).takeStrip e d errs, exec_stripDone hrun he hb errs, ?_⟩
    by_cases hbad : s.weightsBad e d = 0
    · cases hv : stripVerified run.1 run.2 with
      | true =>
        rw [State.takeStrip_verified (s := s.freeUp d.die b) hbad hv]
        obtain ⟨hbusy, hmem, hcontrib⟩ := State.stripSettle_of_freeUp hdie ((s.freeUp d.die b).stripOut_stripFrame e d run.1) e true
        exact ⟨hbusy, hmem, fun _ _ => ⟨_, hcontrib, congrArg (· ++ [StripRef.number d]) hcells, hlost⟩, absurd hbad, nofun⟩
      | false =>
        rw [State.takeStrip_fault (s := s.freeUp d.die b) hbad hv, State.stripFault_die hdie' e, State.stripFault_mem, State.freeUp_die hdie]
        exact ⟨rfl, rfl, nofun, absurd hbad, fun _ _ => ⟨rfl, rfl, State.stripFault_stripFaults (s.freeUp d.die b) e d⟩⟩
    · rw [State.takeStrip_unread (s := s.freeUp d.die b) hbad]
      obtain ⟨hbusy, hmem, hcontrib⟩ := State.stripSettle_of_freeUp hdie ((s.freeUp d.die b).meetBad_stripFrame d.die (s.weightsBad e d)) e false
      exact ⟨hbusy, hmem, fun h => absurd h hbad, fun _ => ⟨_, hcontrib, congrArg (· ++ [StripRef.number d]) hlost, hcells⟩, fun h => absurd h hbad⟩
  case mash =>
    intro pipe die ch tick mash he hdie
    obtain ⟨m, hfinished, hpipe, hm, hch, htick, hmash⟩ := s.finishMash_finished e pipe tick ch mash
    exact ⟨_, exec_beamMashFinish he hdie, m, hfinished ▸ List.mem_append_right _ (List.mem_singleton.2 rfl), hpipe, hm.trans hdie, hch, htick, hmash⟩

end Sys2Proof.Machine

/-! ## What the events of the data path leave alone: the observation log, and whether the package transmits (R41, R340, R383, R443) -/

namespace Sys2Proof.Machine

/-- Raising an event adds to the observation log, and of the twin it changes at most LOG_TAIL. -/
def State.Reports (s t : State) : Prop := s.out <:+ t.out ∧ ∃ l, t.twin = { s.twin with logTail := l }

/-- Changes of what neither leaves the package nor concerns the twin. -/
theorem State.Reports.of_eq {s t : State} (hout : t.out = s.out) (htwin : t.twin = s.twin) : s.Reports t :=
  ⟨hout ▸ List.suffix_rfl, s.twin.logTail, htwin⟩

theorem State.Reports.refl (s : State) : s.Reports s := .of_eq rfl rfl

theorem State.Reports.trans {s t u : State} (h1 : s.Reports t) (h2 : t.Reports u) : s.Reports u := by
  obtain ⟨hout1, l1, htwin1⟩ := h1
  obtain ⟨hout2, l2, htwin2⟩ := h2
  exact ⟨hout1.trans hout2, l2, by rw [htwin2, htwin1]⟩

/-- A change of what neither leaves the package nor concerns the twin may come first. -/
theorem State.Reports.after {s t u : State} (h : t.Reports u) (hout : t.out = s.out) (htwin : t.twin = s.twin) : s.Reports u :=
  (State.Reports.of_eq hout htwin).trans h

theorem foldl_reports {α : Type} {f : State → α → State} (h : ∀ s a, State.Reports s (f s a)) (l : List α) (s : State) : s.Reports (l.foldl f s) :=
  List.foldlRecOn (motive := s.Reports) l f (.refl s) fun u hu a _ => hu.trans (h u a)

theorem State.emit_reports (s : State) (o : OutItem) : s.Reports (s.emit o) := ⟨List.suffix_cons _ _, _, rfl⟩

theorem State.setCause_reports (s : State) (c : Nat) : s.Reports (s.setCause c) := by
  refine ⟨?_, s.twin.logTail, s.setCause_twin c⟩
  unfold State.setCause State.sendMessage
  dsimp only
  split
  · exact List.suffix_rfl
  · split
    · exact List.suffix_rfl
    · split
      · exact List.suffix_rfl
      · exact List.suffix_cons _ _

theorem State.setHolding_reports (s : State) (l : List Nat) : s.Reports (s.setHolding l) :=
  foldl_reports (fun u c => by
    split
    · exact u.setCause_reports c
    · exact .refl u) l s

theorem State.latch_reports (s : State) (code : Nat) : s.Reports (s.latch code) := by
  have hcause (u : State) (p : Prop) [Decidable p] (c : Nat) : u.Reports (if p then u.setCause c else u) := by
    split
    · exact u.setCause_reports c
    · exact .refl u
  have halarm : s.Reports (if severityOf code = 3 then { s with health := { s.health with alarm := true } } else s) := by
    split <;> exact .of_eq rfl rfl
  exact (halarm.trans (hcause _ _ 15)).trans (hcause _ _ 14)

theorem State.sendEventDatagrams_reports (s : State) (es : List EventEntry) : s.Reports (s.sendEventDatagrams es) :=
  foldl_reports (fun u _ => foldl_reports (fun v _ => v.emit_reports _) es u) _ s

theorem State.sendSyslog_reports (s : State) (e : LogEntry) : s.Reports (s.sendSyslog e) := by
  unfold State.sendSyslog
  split
  · exact .refl s
  · exact s.emit_reports _

theorem State.deliverPlain_reports (s : State) (e : LogEntry) (always : Bool) : s.Reports (s.deliverPlain e always) := by
  have hqueue (u : State) (q : EventQueue) (es : List EventEntry) : u.Reports (({ u with events := q }.sendEventDatagrams es).setHolding [0]) :=
    .after ((State.sendEventDatagrams_reports _ es).trans (State.setHolding_reports _ _)) rfl rfl
  refine (s.latch_reports e.code).trans ?_
  unfold State.deliverPlain
  dsimp only
  split
  · exact (hqueue _ _ _).trans (State.sendSyslog_reports _ e)
  · exact State.sendSyslog_reports _ e

theorem State.ringPut_reports (s : State) (e : LogEntry) : s.Reports (s.ringPut e) := .of_eq rfl rfl

theorem State.logPut_reports (s : State) (e : LogEntry) : s.Reports (s.logPut e) := by
  unfold State.logPut State.tail
  split
  · exact ⟨List.suffix_rfl, _, rfl⟩
  · exact .of_eq rfl rfl

theorem State.logPlain_reports (s : State) (e : LogEntry) : s.Reports (s.logPlain e) := by
  unfold State.logPlain
  split
  · exact s.ringPut_reports e
  · split
    · split
      · exact .of_eq rfl rfl
      · exact s.logPut_reports e
    · split
      · exact .of_eq rfl rfl
      · exact s.ringPut_reports _

section
variable {push : State → LogEntry → State} (hpush : ∀ s e, State.Reports s (push s e))
include hpush

theorem State.mediaFail_reports (s : State) (seq : Nat) (dead : Bool) : s.Reports (s.mediaFail push seq dead) :=
  .after (hpush _ _) rfl rfl

theorem State.badSlot_reports (s : State) (e : LogEntry) : s.Reports (s.badSlot push e) := by
  unfold State.badSlot
  dsimp only
  split
  · exact (s.mediaFail_reports hpush _ _).trans (.after (State.mediaFail_reports hpush _ _ _) rfl rfl)
  · exact s.mediaFail_reports hpush _ _

end

theorem State.overflowMark_reports (s : State) (m : LogEntry) : s.Reports (s.overflowMark m) := by
  have hpushed : s.Reports ((s.logPlain m).deliverPlain m true) := (s.logPlain_reports m).trans (State.deliverPlain_reports _ m true)
  unfold State.overflowMark
  dsimp only
  split
  · exact hpushed.trans (.after (State.badSlot_reports (fun u x => u.deliverPlain_reports x false) _ m) rfl rfl)
  · exact hpushed.trans (.of_eq rfl rfl)

theorem State.deliver_reports (s : State) (e : LogEntry) : s.Reports (s.deliver e) := by
  unfold State.deliver
  split
  · exact .after ((State.overflowMark_reports _ _).trans (State.deliverPlain_reports _ e false)) rfl rfl
  · exact s.deliverPlain_reports e false

theorem State.logStore_reports (s : State) (e : LogEntry) : s.Reports (s.logStore e) := by
  unfold State.logStore
  split
  · exact (s.logPlain_reports e).trans (State.badSlot_reports State.deliver_reports _ e)
  · exact s.logPlain_reports e

theorem State.deferEpisode_reports (s : State) (op : HoldOp) : s.Reports (s.deferEpisode op) := by
  unfold State.deferEpisode
  split
  · exact .refl s
  · exact .after ((State.logStore_reports _ _).trans (State.deliver_reports _ _)) rfl rfl

theorem State.logWrite_reports (s : State) (e : LogEntry) : s.Reports (s.logWrite e) := by
  unfold State.logWrite
  split
  · exact s.ringPut_reports e
  · split
    · exact (s.logPlain_reports e).trans (State.deferEpisode_reports _ .log)
    · exact .after (State.logStore_reports _ e) rfl rfl

theorem State.raiseOne_reports (s : State) (code die : Nat) (detail : List Byte) : s.Reports (s.raiseOne code die detail) := by
  have hdelivered : s.Reports (((s.newEntry code die detail).2.logWrite (s.newEntry code die detail).1).deliver (s.newEntry code die detail).1) :=
    .after ((State.logWrite_reports _ _).trans (State.deliver_reports _ _)) rfl rfl
  unfold State.raiseOne
  dsimp only
  split
  · exact hdelivered.trans (.of_eq rfl rfl)
  · exact hdelivered

theorem State.noteDeath_reports (s s0 : State) : s.Reports (s.noteDeath s0) := by
  unfold State.noteDeath
  split <;> exact .of_eq rfl rfl

theorem State.storeNor_reports (s : State) : s.Reports s.storeNor := by
  unfold State.storeNor
  split
  · exact .of_eq rfl rfl
  · exact .after ((State.deferEpisode_reports _ .page).trans (State.noteDeath_reports _ s)) rfl rfl

theorem State.record_reports (s : State) (u : UnitRecord) : s.Reports (s.record u) := by
  unfold State.record
  dsimp only
  split
  · exact .refl s
  · exact .after (State.raiseOne_reports _ _ _ _) rfl rfl

theorem State.reconcile_reports (s : State) : s.Reports s.reconcile := by
  unfold State.reconcile
  split
  · exact .refl s
  · exact .after ((foldl_reports State.record_reports _ _).trans (State.storeNor_reports _)) rfl rfl

theorem State.evident_reports (s : State) (kind die index new : Nat) : s.Reports (s.evident kind die index new) := by
  unfold State.evident
  dsimp only
  split
  · exact .after (State.reconcile_reports _) rfl rfl
  · exact .of_eq rfl rfl

theorem State.raise_reports (s : State) (code die : Nat) (detail : List Byte) : s.Reports (s.raise code die detail) := by
  unfold State.raise
  dsimp only
  split
  · exact (s.raiseOne_reports _ _ _).trans (State.evident_reports _ _ _ _ _)
  · exact s.raiseOne_reports _ _ _

/-- An event neither silences the package nor lets it transmit. -/
@[simp] theorem State.raise_transmits (s : State) (code die : Nat) (detail : List Byte) : (s.raise code die detail).transmits = s.transmits := by
  obtain ⟨-, l, htwin⟩ := s.raise_reports code die detail
  simp only [State.transmits, State.raise_power, htwin]

end Sys2Proof.Machine

/-! ## Sparge and the repair of tun words (R179, R222 to R225, R235, R245) -/

namespace Sys2Proof.Machine

/-! ### What the marks of a tile position and what a reader meets leave alone -/

/-- What a datagram that leaves is counted by and the repairs that wait: whether the package transmits, the counters of the SINKs, the repairs, and memory. -/
def State.sinkFrame (s : State) : Bool × List SinkCount × List Repair × List Host.Cell := (s.transmits, s.data.sinks, s.data.repairs, s.fabric.mem)

theorem State.sinkFrame_eq_iff {s : State} {b : Bool} {l : List SinkCount} {r : List Repair} {m : List Host.Cell} :
    s.sinkFrame = (b, l, r, m) ↔ s.transmits = b ∧ s.data.sinks = l ∧ s.data.repairs = r ∧ s.fabric.mem = m := by
  simp [State.sinkFrame]

@[simp] theorem State.modTile_sinkFrame (s : State) (pipe die bank ch q : Nat) (f : TilePos → TilePos) :
    (s.modTile pipe die bank ch q f).sinkFrame = s.sinkFrame := rfl

@[simp] theorem State.modCorr_sinkFrame (s : State) (pipe die : Nat) (f : CorrCount → CorrCount) : (s.modCorr pipe die f).sinkFrame = s.sinkFrame := rfl

@[simp] theorem State.raise_sinkFrame (s : State) (code die : Nat) (detail : List Byte) : (s.raise code die detail).sinkFrame = s.sinkFrame := by
  simp [State.sinkFrame]

@[simp] theorem State.meetBad_sinkFrame (s : State) (die n : Nat) : (s.meetBad die n).sinkFrame = s.sinkFrame := by
  unfold State.meetBad
  split <;> rfl

@[simp] theorem State.meetDetected_sinkFrame (s : State) (sc : Scope) (r : SpargeRec) : (s.meetDetected sc r).sinkFrame = s.sinkFrame := by
  unfold State.meetDetected
  split
  · rw [State.meetBad_sinkFrame]
  · rfl

@[simp] theorem State.markCorrupt_sinkFrame (s : State) (pipe die bank ch q : Nat) : (s.markCorrupt pipe die bank ch q).sinkFrame = s.sinkFrame := by
  unfold State.markCorrupt
  split
  · rfl
  · simp

@[simp] theorem State.giveUpWords_sinkFrame (s : State) (pipe die bank ch q : Nat) (ws : List Nat) :
    (s.giveUpWords pipe die bank ch q ws).sinkFrame = s.sinkFrame := by
  rw [State.giveUpWords, State.markCorrupt_sinkFrame, State.modTile_sinkFrame]

/-- A record that waits for no reply is read at once, at most with its bad words given up (R179, R180). -/
theorem State.repairFirst_sinkFrame {s : State} {sc : Scope} {r : SpargeRec} (h : (s.repairFirst sc r).1 = false) :
    (s.repairFirst sc r).2.sinkFrame = s.sinkFrame := by
  unfold State.repairFirst at h ⊢
  dsimp only at h ⊢
  split_ifs at h ⊢
  · rfl
  · rfl
  · simp

/-! ### A datagram that leaves -/

/-- A datagram has left on a port, and the SINK has counted it. -/
def State.SentOn (s t : State) (sink port : Nat) : Prop :=
  (∃ bytes, .ethernet port bytes ∈ t.out) ∧ (t.sinkCount sink).datagrams = rcAdd 64 (s.sinkCount sink).datagrams 1 ∧ t.fabric.mem = s.fabric.mem

theorem State.sinkCount_modSink (s : State) (i : Nat) {f : SinkCount → SinkCount} (hf : ∀ c, (f c).pipe = c.pipe) :
    (s.modSink i f).sinkCount i = f (s.sinkCount i) := by
  have hkey : ∀ c : SinkCount, (c.pipe == i) = true → ((f c).pipe == i) = true := fun c hc => by rwa [hf]
  unfold State.sinkCount State.modSink
  dsimp only
  rw [find?_upsert (by simp) hkey, Option.getD_some]

theorem State.sinkCount_congr {s t : State} (h : t.data.sinks = s.data.sinks) (i : Nat) : t.sinkCount i = s.sinkCount i := by
  rw [State.sinkCount, h, State.sinkCount]

theorem State.sendRecord_sentOn {s : State} (htx : s.transmits = true) (sc : Scope) (d : SinkDest) (bytes : List Byte) :
    s.SentOn (s.sendRecord sc d bytes) sc.sink d.port := by
  rw [State.sendRecord, if_pos htx]
  dsimp only
  refine ⟨⟨_, List.mem_cons_self ..⟩, ?_, rfl⟩
  rw [State.sinkCount_modSink]
  · rfl
  · exact fun _ => rfl

/-- Other counters of the SINK may follow. -/
theorem State.SentOn.modSink_if {s t : State} {sink port : Nat} (h : s.SentOn t sink port) (c : Bool) {f : SinkCount → SinkCount}
    (hf : ∀ x, (f x).pipe = x.pipe ∧ (f x).datagrams = x.datagrams) : s.SentOn (if c then t.modSink sink f else t) sink port := by
  split
  · obtain ⟨hout, hcount, hmem⟩ := h
    exact ⟨hout, by rw [State.sinkCount_modSink _ _ fun x => (hf x).1, (hf _).2, hcount], hmem⟩
  · exact h

theorem State.SentOn.of_sinkFrame {s s0 t : State} {sink port : Nat} (h : s0.SentOn t sink port) (h0 : s0.sinkFrame = s.sinkFrame) :
    s.SentOn t sink port := by
  obtain ⟨-, hsinks, -, hmem⟩ := State.sinkFrame_eq_iff.1 h0
  obtain ⟨hout, hcount, hkept⟩ := h
  exact ⟨hout, by rw [hcount, State.sinkCount_congr hsinks], hkept.trans hmem⟩

theorem State.sendFragment_sentOn {s : State} (htx : s.transmits = true) (sc : Scope) (rd : Reader) (r : SpargeRec) (o : OpenRecord) (hasPlane : Bool) :
    s.SentOn (s.sendFragment sc rd r o hasPlane) sc.sink o.port.port := by
  unfold State.sendFragment
  extract_lets part bytes last rd1 whole s1
  have hsent : s.SentOn s1 sc.sink o.port.port := State.sendRecord_sentOn htx sc o.port bytes
  exact hsent.modSink_if _ fun _ => ⟨rfl, rfl⟩

/-! ### A reader's turn -/

/-- A MISS_PLANE follows the record (R223, R232). -/
def State.planeFollows (s : State) (sc : Scope) (r : SpargeRec) : Bool := r.kind == 1 && sc.sinkCfg.missPlanes && (s.scopeTile sc r).plane.isSome

section
variable {s : State} {sc : Scope} {rd : Reader} {r : SpargeRec}

theorem exec_spargeDatagramSend {pipe die : Nat} {tickScope : Bool} (hsc : s.scopeOf pipe tickScope = some sc) (hports : sc.ports ≠ [])
    (hrd : sc.readers.find? (·.die == die) = some rd) (hdone : rd.done = false) (hr : sc.list[rd.next]? = some r) (hmerge : s.mergeWaits sc = false) :
    exec (.spargeDatagramSend pipe die tickScope) s = .next (s.readerTurn sc rd r) := by
  show execSpargeDatagramSend pipe die tickScope s = _
  simp [execSpargeDatagramSend, hsc, hrd, hr, hdone, hports, hmerge]

theorem State.readerTurn_begins (hrecord : rd.record = none) (hspoiled : rd.spoiled = false) (hready : (s.repairFirst sc r).1 = false) :
    s.readerTurn sc rd r = ((s.repairFirst sc r).2.meetDetected sc r).sendFragment sc rd r ((s.repairFirst sc r).2.readRecord sc rd r)
      (s.planeFollows sc r) := by
  simp [State.readerTurn, State.planeFollows, hrecord, hspoiled, hready]

theorem State.readerTurn_goesOn {o : OpenRecord} (hrecord : rd.record = some o) (hspoiled : rd.spoiled = false) (hport : o.port ∈ sc.ports) :
    s.readerTurn sc rd r = s.sendFragment sc rd r o (s.planeFollows sc r) := by
  simp [State.readerTurn, State.planeFollows, hrecord, hspoiled, hport]

theorem State.readerTurn_portDown {o : OpenRecord} (hrecord : rd.record = some o) (hport : o.port ∉ sc.ports) :
    s.readerTurn sc rd r = s.giveUpRecord sc rd (s.planeFollows sc r) := by
  simp [State.readerTurn, State.planeFollows, hrecord, hport]

end

theorem find?_updateAll_const {α : Type} {p : α → Bool} {a b : α} {l : List α} (h : l.find? p = some a) (hb : p b = true) :
    (updateAll p (fun _ => b) l).find? p = some b := by
  induction l with
  | nil => cases h
  | cons x l ih =>
    by_cases hx : p x = true
    · simp [updateAll, hx, hb]
    · simpa [updateAll, hx] using ih (by simpa [hx] using h)

theorem State.scopeOf_key {s : State} {pipe : Nat} {tickScope : Bool} {sc : Scope} (h : s.scopeOf pipe tickScope = some sc) :
    sc.pipe = pipe ∧ sc.tickScope = tickScope := by
  simpa using List.find?_some h

/-- The open scope of a pipe, once it is replaced, is the one that replaced it. -/
theorem State.scopeOf_setScope {s : State} {pipe : Nat} {tickScope : Bool} {sc x : Scope} (h : s.scopeOf pipe tickScope = some sc)
    (hpipe : x.pipe = sc.pipe) (htick : x.tickScope = sc.tickScope) : (s.setScope x).scopeOf pipe tickScope = some x := by
  obtain ⟨rfl, rfl⟩ := State.scopeOf_key h
  rw [State.scopeOf, State.setScope, hpipe, htick]
  exact find?_updateAll_const h (by simp [hpipe, htick])

/-! ### The end of a scope -/

@[simp] theorem State.scopeOf_removeScope (s : State) (pipe : Nat) (tickScope : Bool) : (s.removeScope pipe tickScope).scopeOf pipe tickScope = none :=
  List.find?_eq_none.2 fun _ hx => by simpa only [Bool.not_eq_true, Bool.not_eq_true'] using (List.mem_filter.1 hx).2

theorem State.dropRecords_reports (s : State) (sc : Scope) (n : Nat) : s.Reports (s.dropRecords sc n) := by
  unfold State.dropRecords
  split
  · exact .refl s
  · exact .after (State.raise_reports _ _ _ _) rfl rfl

/-- Records that are dropped are counted, carried and reported (R225): the open scopes and memory stay. -/
theorem State.dropRecords_keeps (s : State) (sc : Scope) (n : Nat) :
    (s.dropRecords sc n).data.scopes = s.data.scopes ∧ (s.dropRecords sc n).fabric.mem = s.fabric.mem := by
  unfold State.dropRecords
  split
  · exact ⟨rfl, rfl⟩
  · dsimp only
    rw [State.raise_data, State.raise_fabric]
    exact ⟨rfl, rfl⟩

/-- An entry that is freed takes its scopes along (R372). -/
theorem State.freeDrained_keeps (s : State) (i n : Nat) :
    (s.freeDrained i n).data.scopes.Sublist s.data.scopes ∧ (s.freeDrained i n).out = s.out ∧ (s.freeDrained i n).fabric = s.fabric := by
  unfold State.freeDrained
  dsimp only
  split
  · exact ⟨List.filter_sublist, rfl, rfl⟩
  · exact ⟨.refl _, rfl, rfl⟩

theorem State.transmits_role {s : State} (h : s.transmits = true) : s.twin.role ≠ .standby := by
  intro hrole
  simp [State.transmits, hrole] at h

/-- END leaves in a last datagram, before the scope closes (R235). -/
theorem exec_scopeEndRecord {s : State} {pipe : Nat} {tickScope : Bool} {sc : Scope} (hsc : s.scopeOf pipe tickScope = some sc) (hports : sc.ports ≠ [])
    (htx : s.transmits = true) (hdone : sc.readers.all (·.done) = true) :
    ∃ u port lost n, s.SentOn u sc.sink port ∧
      exec (.scopeEndRecord pipe tickScope) s = .next (((u.removeScope pipe tickScope).dropRecords sc lost).freeDrained pipe n) := by
  show ∃ u port lost n, _ ∧ execScopeEndRecord pipe tickScope s = _
  unfold execScopeEndRecord
  simp only [hsc, hdone, List.isEmpty_eq_false_iff.2 hports, Bool.not_true, Bool.or_self, Bool.false_eq_true, if_false, if_neg (State.transmits_role htx)]
  refine ⟨_, ?port, _, _, ?sent, rfl⟩
  case sent =>
    refine .modSink_if (.modSink_if (State.sendRecord_sentOn htx sc _ _) _ ?_) _ ?_
    all_goals exact fun _ => ⟨rfl, rfl⟩

/-! ### A repair without a reply -/

theorem exec_tunRepairTimeout {s : State} {k : Nat} {r : Repair} (h : s.data.repairs.find? (·.transaction.toNat == k) = some r) (howner : r.owner = none) :
    exec (.tunRepairTimeout k) s = .next ((s.endRepair r).giveUpWords r.pipe r.die r.bank r.channel r.tp [r.word]) := by
  show execTunRepairTimeout k s = _
  simp [execTunRepairTimeout, h, State.repairFails, howner]

theorem State.markCorrupt_corrupt (s : State) (pipe die bank ch q : Nat) :
    ((s.markCorrupt pipe die bank ch q).tilePos pipe die bank ch q).corrupt = true := by
  unfold State.markCorrupt
  split
  case isTrue h => exact h
  case isFalse =>
    rw [State.tilePos_congr (congrArg DataPath.tiles (State.raise_data ..))]
    exact congrArg TilePos.corrupt (s.tilePos_modTile pipe die bank ch q (f := fun x => { x with corrupt := true }) fun _ => ⟨rfl, rfl, rfl, rfl, rfl⟩)

/-- Settles O38: a turn of a reader is one datagram on the record's port or the record given up, END is a datagram before its scope is removed, and a word
that is given up marks its tile position. -/
theorem spargeRuns : Obligations.SpargeRuns := by
  intro s pipe die tickScope sc hsc hports htx
  refine ⟨?turn, ?scopeEnd, ?timeout⟩
  case turn =>
    intro rd r hrd hdone hspoiled hr hmerge
    have hexec := exec_spargeDatagramSend hsc hports hrd hdone hr hmerge
    refine ⟨fun hrecord hready => ⟨_, hexec, ?begins⟩, fun o hrecord hport => ⟨_, hexec, ?goesOn⟩, fun o hrecord hport => ⟨_, hexec, ?portDown⟩⟩
    case begins =>
      have hframe : ((s.repairFirst sc r).2.meetDetected sc r).sinkFrame = s.sinkFrame :=
        (State.meetDetected_sinkFrame ..).trans (State.repairFirst_sinkFrame hready)
      have htx' : ((s.repairFirst sc r).2.meetDetected sc r).transmits = true := (State.sinkFrame_eq_iff.1 hframe).1.trans htx
      rw [State.readerTurn_begins hrecord hspoiled hready]
      exact (State.sendFragment_sentOn htx' ..).of_sinkFrame hframe
    case goesOn =>
      rw [State.readerTurn_goesOn hrecord hspoiled hport]
      exact State.sendFragment_sentOn htx ..
    case portDown =>
      rw [State.readerTurn_portDown hrecord hport]
      exact ⟨rfl, rfl, _, State.scopeOf_setScope hsc rfl rfl, rfl, rfl⟩
  case scopeEnd =>
    intro hdone
    obtain ⟨u, port, lost, n, ⟨⟨bytes, hbytes⟩, -, hmem⟩, hexec⟩ := exec_scopeEndRecord hsc hports htx hdone
    obtain ⟨hout, -⟩ := (u.removeScope pipe tickScope).dropRecords_reports sc lost
    obtain ⟨hscopes, hdropped⟩ := (u.removeScope pipe tickScope).dropRecords_keeps sc lost
    obtain ⟨hsub, hfreed, hfabric⟩ := ((u.removeScope pipe tickScope).dropRecords sc lost).freeDrained_keeps pipe n
    refine ⟨_, hexec, ?closed, ⟨port, bytes, hfreed ▸ hout.mem hbytes⟩, ?_⟩
    case closed =>
      have hnone := List.find?_eq_none.1 (u.scopeOf_removeScope pipe tickScope)
      exact List.find?_eq_none.2 fun x hx => hnone x (hscopes ▸ hsub.subset hx)
    · rw [hfabric, hdropped]
      exact hmem
  case timeout =>
    intro k r hfind howner
    have hframe := (s.endRepair r).giveUpWords_sinkFrame r.pipe r.die r.bank r.channel r.tp [r.word]
    obtain ⟨-, -, hrepairs, hmem⟩ := State.sinkFrame_eq_iff.1 hframe
    refine ⟨_, exec_tunRepairTimeout hfind howner, fun x hx => ?_, State.markCorrupt_corrupt .., hmem⟩
    rw [hrepairs] at hx
    simpa using (List.mem_filter.1 hx).2

end Sys2Proof.Machine

/-! ## A frame whose trailer does not match (R263, R264) -/

namespace Sys2Proof.Machine

section BadTrailer

variable {s t : State} {lane : Nat} {f : Frame}

/-- On a lane that delivers, a bad trailer is what the checks meet first: the frame is counted in CRC_ERRORS and goes no further. -/
theorem State.receive_of_badTrailer {type : Nat} (hrole : s.deliverRole lane ≠ .off) (hkept : (s.rx lane).frames.headD false = false)
    (hcrc : frameCrcOk type f = false) :
    s.receive lane type f = (false, (s.popFrame (.haul lane)).modRx lane fun x => { x with crcErrors := rcAdd 32 x.crcErrors 1 }) := by
  have hdelivers : s.laneDelivers (.haul lane) = true := bne_iff_ne.2 hrole
  have hwhole : (s.receiver (.haul lane)).frames.headD false = false := hkept
  have hon : s.receiveOn (.haul lane) type f =
      (false, (s.popFrame (.haul lane)).modRx lane fun x => { x with crcErrors := rcAdd 32 x.crcErrors 1 }) := by
    unfold State.receiveOn
    dsimp only
    rw [hdelivers, hwhole, hcrc]
    rfl
  unfold State.receive
  rw [hon]
  rfl

theorem exec_grist_of_notOk (h : s.receive lane 1 f = (false, t)) : exec (.grist lane f) s = .next t := by
  show execGrist lane f s = _
  unfold execGrist
  rw [h]
  rfl

theorem exec_turn_of_notOk (h : s.receive lane 2 f = (false, t)) : exec (.turn lane f) s = .next t := by
  show execTurn lane f s = _
  unfold execTurn
  rw [h]
  rfl

theorem exec_beampart_of_notOk (h : s.receive lane 3 f = (false, t)) : exec (.beampart lane f) s = .next t := by
  show execBeampart lane f s = _
  unfold execBeampart
  rw [h]
  rfl

/-- HELLO and the sparing messages pass through the checks of a CONTROL frame, which stop at one that the lane does not take. -/
theorem State.controlFrameIn_of_notOk (h : s.receive lane 4 f = (false, t)) (msg : Nat) (act : State → State) : s.controlFrameIn msg lane f act = t := by
  unfold State.controlFrameIn
  rw [h]
  rfl

theorem exec_hello_of_notOk (h : s.receive lane 4 f = (false, t)) : exec (.hello lane f) s = .next t :=
  congrArg _ (State.controlFrameIn_of_notOk h ..)

theorem State.sparingFrame_of_notOk (h : s.receive lane 4 f = (false, t)) (msg : Nat) :
    (.next (s.sparingFrame msg lane f) : Host.Outcome State Fault Refusal) = .next t :=
  congrArg _ (State.controlFrameIn_of_notOk h ..)

end BadTrailer

/-- Settles O34: the checks of the lane stop at the trailer, and no frame type does anything with a frame that the checks did not pass. -/
theorem badTrailerIsCounted : Obligations.BadTrailerIsCounted := by
  intro s lane f _ hrole hkept
  have hreceive (type : Nat) (hcrc : frameCrcOk type f = false) := State.receive_of_badTrailer hrole hkept hcrc
  refine ⟨fun hcrc => exec_grist_of_notOk (hreceive 1 hcrc), fun hcrc => exec_turn_of_notOk (hreceive 2 hcrc),
    fun hcrc => exec_beampart_of_notOk (hreceive 3 hcrc), fun hcrc => ?control⟩
  have hsparing := State.sparingFrame_of_notOk (hreceive 4 hcrc)
  exact ⟨exec_hello_of_notOk (hreceive 4 hcrc), hsparing 0x10, hsparing 0x11, hsparing 0x12, hsparing 0x13, hsparing 0x14, hsparing 0x1F⟩

end Sys2Proof.Machine

/-! ## The state that reset leaves (R256, R265, R301, R305, R315, R360, R363, R370, R380, R384, R390) -/

namespace Sys2Proof.Machine

/-- Settles O2: each register holds the default given with its field, and each table is that many copies of its entry's default. -/
theorem resetLeaves : Obligations.ResetLeaves := by
  have hboxes : ∀ b ∈ State.reset.mail.boxes, b = {} := fun b hb => List.eq_of_mem_replicate hb
  have hqueues : ∀ q ∈ State.reset.mail.queues, q = {} := fun q hq => List.eq_of_mem_replicate hq
  have hpipes : ∀ e ∈ State.reset.cfg.pipes, e = {} := fun e he => List.eq_of_mem_replicate he
  have hrx : ∀ x ∈ State.reset.lanes.rx, x = {} := fun x hx => List.eq_of_mem_replicate hx
  have htx : ∀ x ∈ State.reset.lanes.tx, x = {} := fun x hx => List.eq_of_mem_replicate hx
  refine ⟨rfl, rfl, rfl, rfl, rfl, rfl, rfl, rfl, rfl, fun b hb => ?box, rfl, rfl, fun q hq => ?queue, rfl, rfl, rfl, List.length_replicate, fun e he => ?pipe,
    fun x hx => ?rx, fun x hx => ?tx, rfl, rfl, rfl, rfl, rfl, rfl⟩
  case box => exact hboxes b hb ▸ ⟨rfl, rfl, rfl⟩
  case queue => exact hqueues q hq ▸ rfl
  case pipe => exact hpipes e he ▸ rfl
  case rx => exact hrx x hx ▸ ⟨rfl, rfl⟩
  case tx => exact htx x hx ▸ rfl

end Sys2Proof.Machine

/-! ## Codewords and FIRST_BOUNDARY (R252, R254, R257, R259, R276) -/

namespace Sys2Proof.Machine

@[simp] theorem State.receiver_haul (s : State) (n : Nat) : s.receiver (.haul n) = s.rx n := rfl

@[simp] theorem State.modReceiver_haul (s : State) (n : Nat) (f : RxLane → RxLane) : s.modReceiver (.haul n) f = s.modRx n f := rfl

theorem State.rx_modRx_other (s : State) {n k : Nat} (h : k ≠ n) (f : RxLane → RxLane) : (s.modRx n f).rx k = s.rx k :=
  getD_modify_other _ _ _ _ _ h.symm

/-! ### What the walk and the blocks of a codeword leave alone (R251, R258, R259) -/

/-- The lock of a receiver and what a codeword is counted in. -/
def RxLane.decoded (x : RxLane) : LockState × Nat × Nat × Bool := (x.lock, x.fecCorrected, x.fecUncorrected, x.badNow)

theorem RxLane.walkByte_decoded (x : RxLane) (p : Byte × Bool) : (x.walkByte p).decoded = x.decoded := by
  unfold RxLane.walkByte
  dsimp only
  split_ifs <;> rfl

theorem RxLane.walk_decoded (x : RxLane) (l : List (Byte × Bool)) : (x.walk l).decoded = x.decoded :=
  List.foldlRecOn (motive := fun y : RxLane => y.decoded = x.decoded) l _ rfl fun y hy p _ => (y.walkByte_decoded p).trans hy

theorem RxLane.walkOn_decoded (x : RxLane) : x.walkOn.decoded = x.decoded := x.walk_decoded x.walkBuf

theorem RxLane.newPeriod_decoded (x : RxLane) : x.newPeriod.decoded = x.decoded := by
  unfold RxLane.newPeriod
  split
  · rfl
  · exact x.walkOn_decoded

theorem RxLane.takeBytes_decoded (x : RxLane) (l : List (Byte × Bool)) : (x.takeBytes l).decoded = x.decoded := by
  unfold RxLane.takeBytes
  split
  · exact x.walk_decoded l
  · rfl

theorem RxLane.takeBlock_decoded (beyond : Bool) (x : RxLane) (v : BitVec 257) : (RxLane.takeBlock beyond x v).decoded = x.decoded := by
  have hstart : (if x.block = 16384 then x.newPeriod else x).decoded = x.decoded := by
    split
    · exact x.newPeriod_decoded
    · rfl
  exact (RxLane.takeBytes_decoded _ _).trans hstart

theorem RxLane.takeBlocks_decoded (beyond : Bool) (x : RxLane) (l : List (BitVec 257)) :
    (l.foldl (RxLane.takeBlock beyond) x).decoded = x.decoded :=
  List.foldlRecOn (motive := fun y : RxLane => y.decoded = x.decoded) l _ rfl fun y hy v _ => (RxLane.takeBlock_decoded beyond y v).trans hy

/-- A codeword of a haul lane counts the symbols that it corrects, or itself when it corrects none, and is bad at the threshold or beyond the code. -/
theorem State.decodeCodeword_decoded {s : State} {n : Nat} (hlane : n < s.lanes.rx.length) (symbols : List (BitVec 10)) :
    let r := haulCode.decode (symbols.map (·.toNat))
    let x := s.rx n
    ((s.decodeCodeword (.haul n) symbols).rx n).decoded = (x.lock, rcAdd 64 x.fecCorrected ((r.map (·.1)).getD 0),
      rcAdd 32 x.fecUncorrected (nat01 r.isNone), x.badNow || r.isNone || decide (s.sparingThreshold n ≤ (r.map (·.1)).getD 0)) := by
  intro r x
  have hrx : (s.decodeCodeword (.haul n) symbols).rx n = _ := State.rx_modRx hlane _
  have hbad : s.badCodeword (.haul n) (r.map (·.1)) = (r.isNone || decide (s.sparingThreshold n ≤ (r.map (·.1)).getD 0)) := by
    cases r <;> simp [State.badCodeword]
  rw [hrx, RxLane.takeBlocks_decoded, Bool.or_assoc, ← hbad]
  rfl

theorem exec_codewordDecode_locked {s : State} {n : Nat} (htest : (s.rx n).test = .service) (hlock : (s.rx n).lock = .locked)
    (message parity : List (BitVec 10)) :
    exec (.codewordDecode (.haul n) message parity) s = .next (s.decodeCodeword (.haul n) (message ++ parity)) := by
  show execCodewordDecode _ _ _ s = _
  unfold execCodewordDecode
  rw [State.receiver_haul, if_neg (not_not.2 htest), if_pos hlock]

theorem exec_codewordDecode_test {s : State} {n : Nat} (htest : (s.rx n).test ≠ .service) (message parity : List (BitVec 10)) :
    exec (.codewordDecode (.haul n) message parity) s = .next (if s.power.mode = .dormant then s
      else s.modRx n fun y => y.checkBits (codedBits ((message ++ parity).map (·.toNat)))) := by
  show execCodewordDecode _ _ _ s = _
  unfold execCodewordDecode
  rw [State.receiver_haul, if_pos htest, State.modReceiver_haul]

/-! ### The comparison of FIRST_BOUNDARY where no byte of the period waits (R257, R259) -/

theorem RxLane.walkOn_of_nil {x : RxLane} (h : x.walkBuf = []) : x.walkOn = x := by
  unfold RxLane.walkOn
  rw [h, RxLane.walk, List.foldl_nil, ← h]

/-- A receiver whose walk goes on from FIRST_BOUNDARY. -/
def RxLane.startAt (x : RxLane) (fb : Nat) : RxLane := { x with walkHeld := false, walkSkip := fb, walkLeft := 0, walkHeader := [], walkBad := false }

/-- A receiver that has noted a FIRST_BOUNDARY: it delivers. -/
def RxLane.noted (x : RxLane) (fb : Nat) : RxLane :=
  { x with walkChecked := true, fieldBlocks := 0, boundaries := (fb :: x.boundaries).take 2, delivering := true }

section Compare

variable {x : RxLane} {boundary complement : Half} (hbuf : x.walkBuf = [])
include hbuf

theorem RxLane.continueFrom_of_nil (fb : Nat) : x.continueFrom fb = x.startAt fb := RxLane.walkOn_of_nil (x := x.startAt fb) hbuf

/-- Fields that are no complements are ignored. -/
theorem RxLane.compare_mismatch (hfields : boundary ≠ ~~~complement) : x.compare boundary complement = { x with walkChecked := true, fieldBlocks := 0 } := by
  unfold RxLane.compare
  dsimp only
  rw [if_pos hfields]
  exact RxLane.walkOn_of_nil hbuf

variable (hfields : boundary = ~~~complement)
include hfields

/-- A held walk starts at FIRST_BOUNDARY. -/
theorem RxLane.compare_held (hheld : x.walkHeld = true) : x.compare boundary complement = (x.noted boundary.toNat).startAt boundary.toNat := by
  unfold RxLane.compare
  dsimp only
  rw [if_neg (not_not.2 hfields), if_pos hheld]
  exact RxLane.continueFrom_of_nil (x := x.noted boundary.toNat) hbuf _

/-- A walk that is to reach FIRST_BOUNDARY itself, or whose way is not known, goes on. -/
theorem RxLane.compare_agrees (hheld : x.walkHeld = false) (hnext : x.nextBoundary = none ∨ x.nextBoundary = some boundary.toNat) :
    x.compare boundary complement = x.noted boundary.toNat := by
  unfold RxLane.compare
  dsimp only
  rw [if_neg (not_not.2 hfields), if_neg (by simp [hheld]), if_pos hnext]
  exact RxLane.walkOn_of_nil (x := x.noted boundary.toNat) hbuf

/-- A walk that is to reach another boundary is moved, which counts in FRAMING_SLIPS. -/
theorem RxLane.compare_disagrees (hheld : x.walkHeld = false) {b : Nat} (hnext : x.nextBoundary = some b) (hb : b ≠ boundary.toNat) :
    x.compare boundary complement =
      RxLane.startAt { x.noted boundary.toNat with framingSlips := rcAdd 32 x.framingSlips 1 } boundary.toNat := by
  unfold RxLane.compare
  dsimp only
  rw [if_neg (not_not.2 hfields), if_neg (by simp [hheld]), if_neg (by simp [hnext, hb])]
  exact RxLane.continueFrom_of_nil (x := { x.noted boundary.toNat with framingSlips := rcAdd 32 x.framingSlips 1 }) hbuf _

/-- Fields that are complements are noted, whatever the walk does then. -/
theorem RxLane.compare_notes : (x.compare boundary complement).walkChecked = true ∧ (x.compare boundary complement).delivering = true ∧
    (x.compare boundary complement).boundaries = (boundary.toNat :: x.boundaries).take 2 := by
  cases hheld : x.walkHeld with
  | true =>
    rw [RxLane.compare_held hbuf hfields hheld]
    exact ⟨rfl, rfl, rfl⟩
  | false =>
    by_cases hnext : x.nextBoundary = none ∨ x.nextBoundary = some boundary.toNat
    · rw [RxLane.compare_agrees hbuf hfields hheld hnext]
      exact ⟨rfl, rfl, rfl⟩
    · obtain ⟨hsome, hother⟩ := not_or.1 hnext
      obtain ⟨b, hb⟩ := Option.ne_none_iff_exists'.1 hsome
      rw [RxLane.compare_disagrees hbuf hfields hheld hb fun h => hother (h ▸ hb)]
      exact ⟨rfl, rfl, rfl⟩

end Compare

/-- Of a period whose blocks all came the fields that they gave count. -/
theorem RxLane.compareAt_full {x : RxLane} (h : x.fieldBlocks = 32) (field complement : Half) :
    x.compareAt field complement = x.compare x.boundaryField x.complementField := by
  rw [RxLane.compareAt, if_pos h]

/-- Of a period without a block the fields that the lane carries count, and the walk stands at FIRST_BOUNDARY. -/
theorem RxLane.compareAt_empty {x : RxLane} (h : x.fieldBlocks = 0) {field complement : Half} (hfields : field = ~~~complement) :
    x.compareAt field complement = RxLane.compare { x with walkHeld := true } field complement := by
  rw [RxLane.compareAt, if_neg (by simp [h]), if_pos ⟨h, hfields⟩]

theorem RxLane.compareAt_empty_mismatch {x : RxLane} (h : x.fieldBlocks = 0) {field complement : Half} (hfields : field ≠ ~~~complement) :
    x.compareAt field complement = x.compare field complement := by
  rw [RxLane.compareAt, if_neg (by simp [h]), if_neg (by simp [hfields])]

/-- The check on a locked lane is the comparison on that lane, and leaves the others as they were. -/
theorem firstBoundaryCheck_gives {s : State} {n : Nat} (hlane : n < s.lanes.rx.length) (hlock : (s.rx n).lock = .locked) (field complement : Half)
    {p : RxLane → Prop} (hp : p ((s.rx n).compareAt field complement)) :
    Gives (.firstBoundaryCheck (.haul n) field complement) s fun t => p (t.rx n) ∧ ∀ k, k ≠ n → t.rx k = s.rx k := by
  refine ⟨s.modRx n fun x => x.compareAt field complement, ?_, ?_, fun k hk => State.rx_modRx_other s hk _⟩
  · show execFirstBoundaryCheck _ _ _ s = _
    unfold execFirstBoundaryCheck
    rw [State.receiver_haul, if_pos hlock, State.modReceiver_haul]
  · rwa [State.rx_modRx hlane]

/-- Settles O41: the blocks of a codeword leave its counts alone, and the comparison is one of four outcomes, by the fields and by where the walk stands. -/
theorem codewordsAndBoundaries : Obligations.CodewordsAndBoundaries := by
  intro s n message parity field complement hlane x r fb check
  refine ⟨?decode, ?powered, ?tested, ?full, ?empty⟩
  case decode =>
    intro htest hlock
    have hdecoded := State.decodeCodeword_decoded hlane (message ++ parity)
    simp only [RxLane.decoded, Prod.mk.injEq] at hdecoded
    obtain ⟨hkept, hcorrected, huncorrected, hbad⟩ := hdecoded
    exact ⟨_, exec_codewordDecode_locked htest hlock message parity, hkept.trans hlock, hcorrected, huncorrected, hbad,
      fun k hk => State.rx_modRx_other s hk _⟩
  case powered =>
    intro htest hmode
    rw [exec_codewordDecode_test htest, if_pos hmode]
  case tested =>
    intro htest hmode
    rw [exec_codewordDecode_test htest, if_neg hmode]
  case full =>
    intro hlock hbuf hblocks
    have hcheck (p : RxLane → Prop) (hp : p (x.compare x.boundaryField x.complementField)) : check p :=
      firstBoundaryCheck_gives hlane hlock field complement (RxLane.compareAt_full hblocks field complement ▸ hp)
    clear_value check
    refine ⟨fun hfields => ?ignored, fun hfields => ⟨hcheck _ (RxLane.compare_notes hbuf hfields), fun hheld => ?held, fun hheld hnext => ?agrees,
      fun b hheld hnext hb => ?disagrees⟩⟩
    all_goals refine hcheck _ ?_
    case ignored =>
      rw [RxLane.compare_mismatch hbuf hfields]
      exact ⟨rfl, rfl, rfl, rfl, rfl⟩
    case held =>
      rw [RxLane.compare_held hbuf hfields hheld]
      exact ⟨rfl, rfl, rfl⟩
    case agrees =>
      rw [RxLane.compare_agrees hbuf hfields hheld (.inr hnext)]
      exact ⟨hheld, rfl, rfl, rfl⟩
    case disagrees =>
      rw [RxLane.compare_disagrees hbuf hfields hheld hnext hb]
      exact ⟨rfl, rfl, rfl, rfl⟩
  case empty =>
    intro hlock hbuf hblocks
    have hcheck (p : RxLane → Prop) (hp : p (x.compareAt field complement)) : check p := firstBoundaryCheck_gives hlane hlock field complement hp
    clear_value check
    refine ⟨fun hfields => ?begins, fun hfields => ?ignored⟩
    all_goals refine hcheck _ ?_
    case begins =>
      rw [RxLane.compareAt_empty hblocks hfields, RxLane.compare_held (x := { x with walkHeld := true }) hbuf hfields rfl]
      exact ⟨rfl, rfl, rfl, rfl⟩
    case ignored =>
      rw [RxLane.compareAt_empty_mismatch hblocks hfields, RxLane.compare_mismatch hbuf hfields]
      exact ⟨rfl, rfl, rfl, rfl⟩

end Sys2Proof.Machine

/-! ## What events leave of health: kiln records, the policy and the hold-up voltage (R429, R443 to R449, R461) -/

namespace Sys2Proof.Machine

/-- What no event touches of health: the kiln records, and what the hold-up check is made of. -/
def State.measured (s : State) : List KilnRecord × Policy × Nat := (s.health.kiln, s.health.policy, s.health.holdupMv)

theorem State.measured_congr {s t : State} (h : t.health = s.health) : t.measured = s.measured := by rw [State.measured, h, State.measured]

theorem State.holdOk_congr {s t : State} (h : t.measured = s.measured) (op : HoldOp) : t.holdOk op = s.holdOk op := by
  simp only [State.measured, Prod.mk.injEq] at h
  obtain ⟨-, hpolicy, hmv⟩ := h
  have hneed : t.holdNeed op = s.holdNeed op := by rw [State.holdNeed, hpolicy, State.holdNeed]
  have henergy : t.holdEnergy2 = s.holdEnergy2 := by rw [State.holdEnergy2, hpolicy, hmv, State.holdEnergy2]
  rw [State.holdOk, hneed, henergy, State.holdOk]

theorem foldl_measured {α : Type} {f : State → α → State} (h : ∀ s a, (f s a).measured = s.measured) (l : List α) (s : State) :
    (l.foldl f s).measured = s.measured :=
  List.foldlRecOn (motive := fun u : State => u.measured = s.measured) l f rfl fun u hu a _ => (h u a).trans hu

theorem foldl_health {α : Type} {f : State → α → State} (h : ∀ s a, (f s a).health = s.health) (l : List α) (s : State) :
    (l.foldl f s).health = s.health :=
  List.foldlRecOn (motive := fun u : State => u.health = s.health) l f rfl fun u hu a _ => (h u a).trans hu

/-! ### Delivery: at most the alarm latch (R382, R383, R441) -/

@[simp] theorem State.sendEventDatagrams_health (s : State) (es : List EventEntry) : (s.sendEventDatagrams es).health = s.health :=
  foldl_health (fun u _ => foldl_health (fun v _ => v.emit_health _) es u) _ s

@[simp] theorem State.sendSyslog_health (s : State) (e : LogEntry) : (s.sendSyslog e).health = s.health := by
  unfold State.sendSyslog
  split <;> rfl

theorem State.latch_health (s : State) (code : Nat) : ∃ a, (s.latch code).health = { s.health with alarm := a } := by
  have hcause (u : State) (p : Prop) [Decidable p] (c : Nat) : (if p then u.setCause c else u).health = u.health := by
    split
    · exact u.setCause_health c
    · rfl
  unfold State.latch
  dsimp only
  rw [hcause, hcause]
  split
  · exact ⟨true, rfl⟩
  · exact ⟨s.health.alarm, rfl⟩

theorem State.deliverPlain_health (s : State) (e : LogEntry) (always : Bool) : ∃ a, (s.deliverPlain e always).health = { s.health with alarm := a } := by
  obtain ⟨a, ha⟩ := s.latch_health e.code
  refine ⟨a, ?_⟩
  unfold State.deliverPlain
  dsimp only
  rw [State.sendSyslog_health]
  split
  · rw [State.setHolding_health, State.sendEventDatagrams_health]
    exact ha
  · exact ha

@[simp] theorem State.deliverPlain_measured (s : State) (e : LogEntry) (always : Bool) : (s.deliverPlain e always).measured = s.measured := by
  obtain ⟨a, ha⟩ := s.deliverPlain_health e always
  rw [State.measured, ha]
  rfl

@[simp] theorem State.deliverPlain_log (s : State) (e : LogEntry) (always : Bool) : (s.deliverPlain e always).health.log = s.health.log := by
  obtain ⟨a, ha⟩ := s.deliverPlain_health e always
  rw [ha]

/-! ### Writing, deferring and reporting (R443, R444, R447, R449) -/

@[simp] theorem State.tail_health (s : State) (e : LogEntry) : (s.tail e).health = s.health := by
  unfold State.tail
  split <;> rfl

@[simp] theorem State.logPut_log (s : State) (e : LogEntry) : (s.logPut e).health.log = { s.health.log.put e with badRun := 0 } := by
  rw [State.logPut, State.tail_health]

@[simp] theorem State.logPut_measured (s : State) (e : LogEntry) : (s.logPut e).measured = s.measured := by
  rw [State.logPut, State.measured, State.tail_health]
  rfl

@[simp] theorem State.logPlain_measured (s : State) (e : LogEntry) : (s.logPlain e).measured = s.measured := by
  unfold State.logPlain
  split
  · rfl
  · split
    · split
      · rfl
      · exact s.logPut_measured e
    · split <;> rfl

section
variable {push : State → LogEntry → State} (hpush : ∀ s e, (push s e).measured = s.measured)
include hpush

theorem State.mediaFail_measured (s : State) (seq : Nat) (dead : Bool) : (s.mediaFail push seq dead).measured = s.measured := hpush _ _

theorem State.badSlot_measured (s : State) (e : LogEntry) : (s.badSlot push e).measured = s.measured := by
  unfold State.badSlot
  dsimp only
  split
  · exact (State.mediaFail_measured hpush _ _ _).trans (s.mediaFail_measured hpush _ _)
  · exact s.mediaFail_measured hpush _ _

end

@[simp] theorem State.overflowMark_measured (s : State) (m : LogEntry) : (s.overflowMark m).measured = s.measured := by
  have hmarked : ((s.logPlain m).deliverPlain m true).measured = s.measured := (State.deliverPlain_measured ..).trans (s.logPlain_measured m)
  unfold State.overflowMark
  dsimp only
  split
  · exact (State.badSlot_measured (fun u e => u.deliverPlain_measured e false) _ m).trans hmarked
  · exact hmarked

@[simp] theorem State.deliver_measured (s : State) (e : LogEntry) : (s.deliver e).measured = s.measured := by
  unfold State.deliver
  split
  · exact (State.deliverPlain_measured ..).trans (State.overflowMark_measured ..)
  · exact s.deliverPlain_measured e false

@[simp] theorem State.logStore_measured (s : State) (e : LogEntry) : (s.logStore e).measured = s.measured := by
  unfold State.logStore
  split
  · exact (State.badSlot_measured State.deliver_measured _ e).trans (s.logPlain_measured e)
  · exact s.logPlain_measured e

@[simp] theorem State.deferEpisode_measured (s : State) (op : HoldOp) : (s.deferEpisode op).measured = s.measured := by
  unfold State.deferEpisode
  split
  · rfl
  · exact (State.deliver_measured ..).trans (State.logStore_measured ..)

@[simp] theorem State.logWrite_measured (s : State) (e : LogEntry) : (s.logWrite e).measured = s.measured := by
  unfold State.logWrite
  split
  · rfl
  · split
    · exact (State.deferEpisode_measured ..).trans (s.logPlain_measured e)
    · exact s.endEpisode.logStore_measured e

@[simp] theorem State.raiseOne_measured (s : State) (code die : Nat) (detail : List Byte) : (s.raiseOne code die detail).measured = s.measured := by
  have hdelivered : (((s.newEntry code die detail).2.logWrite (s.newEntry code die detail).1).deliver (s.newEntry code die detail).1).measured = s.measured :=
    (State.deliver_measured ..).trans (State.logWrite_measured ..)
  unfold State.raiseOne
  dsimp only
  split <;> exact hdelivered

/-! ### The unit record (R434, R437) -/

@[simp] theorem State.noteDeath_measured (s s0 : State) : (s.noteDeath s0).measured = s.measured := by
  unfold State.noteDeath
  split <;> rfl

@[simp] theorem State.storeNor_measured (s : State) : s.storeNor.measured = s.measured := by
  unfold State.storeNor
  split
  · rfl
  · exact (State.noteDeath_measured _ s).trans (State.deferEpisode_measured _ .page)

@[simp] theorem State.record_measured (s : State) (u : UnitRecord) : (s.record u).measured = s.measured := by
  unfold State.record
  dsimp only
  split
  · rfl
  · exact State.raiseOne_measured ..

@[simp] theorem State.reconcile_measured (s : State) : s.reconcile.measured = s.measured := by
  unfold State.reconcile
  split
  · rfl
  · exact (State.storeNor_measured _).trans (foldl_measured State.record_measured _ _)

@[simp] theorem State.evident_measured (s : State) (kind die index new : Nat) : (s.evident kind die index new).measured = s.measured := by
  unfold State.evident
  dsimp only
  split
  · exact State.reconcile_measured _
  · rfl

@[simp] theorem State.raise_measured (s : State) (code die : Nat) (detail : List Byte) : (s.raise code die detail).measured = s.measured := by
  unfold State.raise
  dsimp only
  split
  · exact (State.evident_measured ..).trans (s.raiseOne_measured ..)
  · exact s.raiseOne_measured ..

end Sys2Proof.Machine

/-! ## What sending and reporting leave of the lanes (R267, R271, R287, R291, R331) -/

namespace Sys2Proof.Machine

/-- What sends frames, reports, completes commands or follows references: of the lanes it changes transmitters alone, and nothing of `State.measured`. -/
structure State.Tells (s t : State) : Prop where
  lanes : ∃ tx twinTx, t.lanes = { s.lanes with tx := tx, twinTx := twinTx }
  measured : t.measured = s.measured

namespace State.Tells

theorem of_eq {s t : State} (hlanes : t.lanes = s.lanes) (hmeasured : t.measured = s.measured) : s.Tells t := ⟨⟨s.lanes.tx, s.lanes.twinTx, hlanes⟩, hmeasured⟩

theorem refl (s : State) : s.Tells s := of_eq rfl rfl

theorem trans {s t u : State} (h1 : s.Tells t) (h2 : t.Tells u) : s.Tells u := by
  obtain ⟨⟨tx1, twinTx1, hlanes1⟩, hmeasured1⟩ := h1
  obtain ⟨⟨tx2, twinTx2, hlanes2⟩, hmeasured2⟩ := h2
  exact ⟨⟨tx2, twinTx2, by rw [hlanes2, hlanes1]⟩, hmeasured2.trans hmeasured1⟩

/-- A change of neither lanes nor health may come first. -/
theorem after {s t u : State} (h : t.Tells u) (hlanes : t.lanes = s.lanes) (hmeasured : t.measured = s.measured) : s.Tells u :=
  (of_eq hlanes hmeasured).trans h

variable {s t : State}

theorem lanesRx (h : s.Tells t) : t.lanes.rx = s.lanes.rx := by
  obtain ⟨tx, twinTx, hlanes⟩ := h.lanes
  rw [hlanes]

theorem rx (h : s.Tells t) (n : Nat) : t.rx n = s.rx n := by rw [State.rx, h.lanesRx, State.rx]

theorem lanesTwinRx (h : s.Tells t) : t.lanes.twinRx = s.lanes.twinRx := by
  obtain ⟨tx, twinTx, hlanes⟩ := h.lanes
  rw [hlanes]

theorem linkLanes (h : s.Tells t) : t.linkLanes = s.linkLanes := by rw [State.linkLanes, h.lanesTwinRx, State.linkLanes]

theorem lanesSpareRx (h : s.Tells t) : t.lanes.spareRx = s.lanes.spareRx := by
  obtain ⟨tx, twinTx, hlanes⟩ := h.lanes
  rw [hlanes]

theorem spareRx (h : s.Tells t) (d : Nat) : t.spareRx d = s.spareRx d := by rw [State.spareRx, h.lanesSpareRx, State.spareRx]

theorem spareTx (h : s.Tells t) (d : Nat) : t.spareTx d = s.spareTx d := by
  obtain ⟨tx, twinTx, hlanes⟩ := h.lanes
  rw [State.spareTx, hlanes, State.spareTx]

theorem kiln (h : s.Tells t) : t.health.kiln = s.health.kiln := congrArg Prod.fst h.measured

end State.Tells

theorem foldl_tells {α : Type} {f : State → α → State} (h : ∀ s a, State.Tells s (f s a)) (l : List α) (s : State) : s.Tells (l.foldl f s) :=
  List.foldlRecOn (motive := s.Tells) l f (.refl s) fun u hu a _ => hu.trans (h u a)

/-! ### Events and haul frames -/

theorem State.raise_tells (s : State) (code die : Nat) (detail : List Byte) : s.Tells (s.raise code die detail) :=
  .of_eq (s.raise_lanes ..) (s.raise_measured ..)

theorem State.modTx_tells (s : State) (n : Nat) (f : TxLane → TxLane) : s.Tells (s.modTx n f) := ⟨⟨_, _, rfl⟩, rfl⟩

theorem State.emit_tells (s : State) (o : OutItem) : s.Tells (s.emit o) := .of_eq rfl rfl

theorem State.sendHaul_tells (s : State) (lane type : Nat) (f : Frame) : s.Tells (s.sendHaul lane type f) := by
  unfold State.sendHaul
  split
  · exact (s.modTx_tells ..).trans (foldl_tells (fun u _ => u.emit_tells _) _ _)
  · exact .refl s

/-! ### CONTROL messages (R267, R271) -/

theorem State.sendControl_tells (s : State) (die msg : Nat) (dest : Half) (transaction : Word) (body : List Byte) :
    s.Tells (s.sendControl die msg dest transaction body) := by
  unfold State.sendControl
  dsimp only
  split
  · exact s.raise_tells ..
  · exact s.sendHaul_tells ..

theorem State.answer_tells (s : State) (e msg txLane code : Nat) (r : Half × Word × Nat × Nat × Nat) : s.Tells (s.answer e msg txLane code r) :=
  s.sendControl_tells ..

theorem State.sendAsReceiver_tells (s : State) (d msg code atTick : Nat) : s.Tells (s.sendAsReceiver d msg code atTick) := s.sendControl_tells ..

theorem State.spareFailed_tells (s : State) (lane refusal : Nat) : s.Tells (s.spareFailed lane refusal) := s.raise_tells ..

theorem State.complete_tells (s : State) (m : Nat) (st : Status) (d : Nat) (r : List Byte) : s.Tells (s.complete m st d r) :=
  .of_eq (s.complete_lanes ..) (State.measured_congr (s.complete_health ..))

theorem State.releaseSent_tells (s : State) (lane : Nat) : s.Tells (s.releaseSent lane) := by
  unfold State.releaseSent
  split
  exact .after (foldl_tells (fun u _ => u.complete_tells ..) _ _) rfl rfl

/-! ### References (R291 to R293) -/

theorem State.switchPhase_tells (s : State) (code : Nat) : s.Tells (s.switchPhase code).2.2 := by
  unfold State.switchPhase State.fresh
  dsimp only
  split <;> exact .of_eq rfl rfl

theorem State.selectEntry_tells (s : State) (k : Nat) : s.Tells (s.selectEntry k) :=
  (s.switchPhase_tells _).trans (.after (State.raise_tells ..) rfl rfl)

theorem State.loseReference_tells (s : State) : s.Tells s.loseReference := by
  unfold State.loseReference
  split <;> exact .after (State.raise_tells ..) rfl rfl

theorem State.reselect_tells (s : State) : s.Tells s.reselect := by
  unfold State.reselect
  split
  · exact s.selectEntry_tells _
  · exact s.loseReference_tells

theorem State.disqualify_tells (s : State) (code test : Nat) : s.Tells (s.disqualify code test) := by
  unfold State.disqualify
  split
  · have hraised (u : State) (hu : s.Tells u) : s.Tells (u.modDpll Dpll.showWtr) := hu.trans (.of_eq rfl rfl)
    have hshown := hraised _ (.after (State.raise_tells (s.modRef code fun x => { x with qualified := false, wtrRunning := false, wtrLeftS := 0 })
      0x0402 0xFF (leBytes 1 code ++ leBytes 1 test)) rfl rfl)
    dsimp only
    split
    · exact hshown.trans (State.reselect_tells _)
    · exact hshown
  · exact .refl s

theorem State.refCheck_tells (s : State) : s.Tells s.refCheck := by
  have htest (u : State) (code test : Nat) : u.Tells (if u.refPasses code then u else u.disqualify code test) := by
    split
    · exact .refl u
    · exact u.disqualify_tells code test
  exact (htest s 5 1).trans (htest _ 6 _)

end Sys2Proof.Machine

/-! ## CONTROL messages (R267, R268, R271 to R274) -/

namespace Sys2Proof.Machine

theorem State.spareRx_modSpareRx {s : State} {d : Nat} (h : d < s.lanes.spareRx.length) (f : SpareRx → SpareRx) :
    (s.modSpareRx d f).spareRx d = f (s.spareRx d) := getD_modify_same _ _ _ _ h

theorem State.spareTx_modSpareTx {s : State} {d : Nat} (h : d < s.lanes.spareTx.length) (f : SpareTx → SpareTx) :
    (s.modSpareTx d f).spareTx d = f (s.spareTx d) := getD_modify_same _ _ _ _ h

theorem State.tx_modTx {s : State} {n : Nat} (h : n < s.lanes.tx.length) (f : TxLane → TxLane) : (s.modTx n f).tx n = f (s.tx n) :=
  getD_modify_same _ _ _ _ h

/-! ### A CONTROL frame that is taken (R264, R267, R268) -/

/-- A CONTROL frame that passes every check acts on a state in which the frame is counted, and receivers, claims and the positions heard alone differ. -/
theorem State.controlFrameIn_acts {s : State} {n msg : Nat} {f : Frame} (hlane : n < s.lanes.rx.length) (hok : (s.receive n 4 f).1 = true)
    (hpipe : f.pipe = 0) (hlen : f.payload.length = 16) (hmsg : f.layout.toNat % 256 = msg)
    (haddr : msg = 0x01 ∨ s.addressed (f.spec.toNat % 65536) = true) :
    ∃ rx claims heard, rx.length = s.lanes.rx.length ∧ (∀ t : State, t.lanes.rx = rx → (t.rx n).framesOk = rcAdd 64 (s.rx n).framesOk 1) ∧
      ∀ act, s.controlFrameIn msg n f act = act (s.heardOn rx claims heard) := by
  obtain ⟨t, hr, ht⟩ := State.receive_of_ok hlane hok
  have hcount := ht.frameOk_framesOk hlane rfl
  have hlength := ht.lanes
  obtain ⟨rx, claims, heard, rfl⟩ := ht.parts
  refine ⟨((s.heardOn rx claims heard).frameOk n).lanes.rx, claims, heard, (List.length_modify ..).trans hlength, fun t hrx => ?_, fun act => ?_⟩
  · rwa [State.rx, hrx]
  have hform : ¬ (f.pipe ≠ 0 ∨ f.payload.length ≠ 16 ∨ f.layout.toNat % 256 ≠ msg) := by simp [hpipe, hlen, hmsg]
  have hdest : ¬ (msg ≠ 0x01 ∧ (!s.addressed (f.spec.toNat % 65536)) = true) := fun ⟨hne, hnot⟩ => haddr.elim hne fun h => by simp [h] at hnot
  unfold State.controlFrameIn
  rw [hr]
  dsimp only
  rw [if_neg (by simp), if_neg hform, if_neg hdest]
  rfl

/-! ### What each sparing message does (R272 to R274) -/

section Messages

variable {s : State} {body : List Byte} {src : Half} {transaction : Word} {lane d : Nat}

/-- A request for a spare that is free starts a copy. -/
theorem State.spareRequestIn_free (htx : field body 0 1 < 128) (hhas : s.hasLane (field body 0 1) = true)
    (hspare : field body 1 1 = 128 + dieOfLane (field body 0 1)) (he : dieOfLane (field body 0 1) < s.lanes.spareTx.length)
    (hfree : (s.spareTx (dieOfLane (field body 0 1))).lane = none) :
    (s.spareRequestIn src transaction body lane).spareTx (dieOfLane (field body 0 1)) = { s.spareTx (dieOfLane (field body 0 1)) with
      lane := some (field body 0 1), copying := false, stopping := false, holders := [(src, transaction)],
      toAnswer := [requester src transaction body lane] } ∧
    (s.spareRequestIn src transaction body lane).lanes.rx = s.lanes.rx := by
  unfold State.spareRequestIn
  dsimp only
  rw [if_neg (by simp [hhas, htx]), if_neg (not_not.2 hspare), hfree]
  exact ⟨State.spareTx_modSpareTx he _, rfl⟩

theorem State.spareDuplicatingIn_requested (hextra : s.extraOf transaction = none) (hof : s.spareOf transaction body = some d)
    (hd : d < s.lanes.spareRx.length) {a : Bool} (hstep : (s.spareRx d).step = .requested a) :
    (s.spareDuplicatingIn transaction body).spareRx d = { s.spareRx d with step := .requested true } ∧
      (s.spareDuplicatingIn transaction body).lanes.rx = s.lanes.rx := by
  unfold State.spareDuplicatingIn
  rw [hextra, hof]
  refine ⟨?_, rfl⟩
  rw [State.spareRx_modSpareRx hd]
  dsimp only
  rw [hstep]

theorem State.spareStoppedIn_released (hof : s.spareOf transaction body = some d) (hd : d < s.lanes.spareRx.length)
    (hstep : (s.spareRx d).step = .released) :
    (s.spareStoppedIn transaction body).spareRx d = { s.spareRx d with step := .idle } ∧
      (s.spareStoppedIn transaction body).lanes.rx = s.lanes.rx := by
  unfold State.spareStoppedIn
  rw [hof]
  refine ⟨?_, rfl⟩
  rw [State.spareRx_modSpareRx hd, if_pos hstep]

theorem State.kilnRefused_lanes (s : State) (x : SpareRx) : (s.kilnRefused x).lanes = s.lanes := by
  unfold State.kilnRefused
  split <;> rfl

theorem State.spareRefusedIn_requested (hextra : s.extraOf transaction = none) (hof : s.spareOf transaction body = some d)
    (hd : d < s.lanes.spareRx.length) {a : Bool} (hstep : (s.spareRx d).step = .requested a) :
    (s.spareRefusedIn transaction body).spareRx d = { s.spareRx d with step := .idle } ∧
      (s.spareRefusedIn transaction body).lanes.rx = s.lanes.rx := by
  have htells := ((s.modSpareRx d fun y => { y with step := .idle }).spareFailed_tells (s.spareRx d).lane (field body 4 1)).trans
    (State.releaseSent_tells _ (s.spareRx d).lane)
  have hspare := (htells.spareRx d).trans (State.spareRx_modSpareRx hd _)
  have hrx := htells.lanesRx
  unfold State.spareRefusedIn
  rw [hextra, hof]
  dsimp only
  rw [hstep]
  dsimp only
  split
  · exact ⟨hspare, hrx⟩
  · rw [State.spareRx, State.kilnRefused_lanes]
    exact ⟨hspare, hrx⟩

section Sender

variable (he : dieOfLane (field body 0 1) < s.lanes.spareTx.length) (hlane : (s.spareTx (dieOfLane (field body 0 1))).lane = some (field body 0 1))
  (hcopy : (s.spareTx (dieOfLane (field body 0 1))).copying = true)
include he hlane hcopy

/-- SPARE_SWITCHED about a lane that the spare copies confirms the copy and opens the kiln window of its transmitter. -/
theorem State.spareSwitchedIn_copying :
    let tx := field body 0 1
    let t := s.spareSwitchedIn src transaction body
    t.spareTx (dieOfLane tx) = { s.spareTx (dieOfLane tx) with
      confirmed := true, window := true, passed := (s.spareTx (dieOfLane tx)).passed || s.windowPass tx } ∧
    (s.windowPass tx = true → tx < s.lanes.tx.length → (t.tx tx).inPass = true) ∧ t.lanes.rx = s.lanes.rx := by
  intro tx t
  have ht : t = (let s1 := s.modSpareTx (dieOfLane tx) fun y => { y with confirmed := true, window := true, passed := y.passed || s.windowPass tx }
      if s.windowPass tx then (s1.modKiln { kind := 2, index := tx } fun k => { k with due := true, inPass := true }).modTx tx fun x => { x with inPass := true }
      else s1) := if_pos ⟨hlane, hcopy⟩
  rw [ht]
  dsimp only
  split
  · exact ⟨State.spareTx_modSpareTx he _, fun _ hlen => congrArg TxLane.inPass (State.tx_modTx hlen _), rfl⟩
  next hno => exact ⟨State.spareTx_modSpareTx he _, fun hpass => absurd hpass hno, rfl⟩

/-- SPARE_RELEASE by the one requester that holds a copy lets it stop at the next comma boundary. -/
theorem State.spareReleaseIn_last (hholders : ∀ x ∈ (s.spareTx (dieOfLane (field body 0 1))).holders, x.1 = src) :
    let t := s.spareReleaseIn src transaction body lane
    let y := t.spareTx (dieOfLane (field body 0 1))
    y.holders = [] ∧ y.stopping = true ∧ y.copying = true ∧ t.lanes.rx = s.lanes.rx := by
  have hleft : (s.spareTx (dieOfLane (field body 0 1))).holders.filter (·.1 != src) = [] :=
    List.filter_eq_nil_iff.2 fun x hx => by simp [hholders x hx]
  have ht : s.spareReleaseIn src transaction body lane = s.modSpareTx (dieOfLane (field body 0 1)) fun y =>
      { y with holders := [], stopping := true, toStop := (s.spareTx (dieOfLane (field body 0 1))).toStop ++ [requester src transaction body lane],
               toAnswer := y.toAnswer.filter (·.1 != src) } := by
    unfold State.spareReleaseIn
    dsimp only
    rw [if_neg (not_not.2 hlane), hleft, hcopy]
    rfl
  dsimp only
  rw [ht, State.spareTx_modSpareTx he]
  exact ⟨rfl, rfl, hcopy, rfl⟩

end Sender
end Messages

/-- Settles O42: a CONTROL frame that is taken acts on the state with the frame counted, where each message finds the lanes' sparing as it was. -/
theorem controlMessagesAct : Obligations.ControlMessagesAct := by
  intro s n f hlane hok hpipe hlen tx r ok
  have hacts (msg : Nat) (hmsg : f.layout.toNat % 256 = msg) (haddr : msg = 0x01 ∨ s.addressed (f.spec.toNat % 65536) = true) :=
    State.controlFrameIn_acts hlane hok hpipe hlen hmsg haddr
  refine ⟨fun hmsg => ?hello, fun haddr => ⟨fun hmsg htx hhas hspare he hfree => ?request, fun d a hmsg hextra hd hof hstep => ?duplicating,
    fun hmsg he htx hcopy => ?switched, fun hmsg he htx hcopy hholders => ?release, fun d hmsg hd hof hstep => ?stopped,
    fun d a hmsg hextra hd hof hstep => ?refused⟩⟩
  case hello =>
    obtain ⟨rx, claims, heard, hlength, hcounted, hact⟩ := hacts _ hmsg (.inl rfl)
    have hrx := State.rx_modRx (s := s.heardOn rx claims heard) (hlength ▸ hlane) fun x =>
      { x with versionLo := field f.payload 0 1, versionHi := field f.payload 1 1 }
    exact ⟨_, congrArg Host.Outcome.next (hact _), (congrArg RxLane.framesOk hrx).trans (hcounted _ rfl), congrArg RxLane.versionLo hrx, congrArg RxLane.versionHi hrx⟩
  all_goals obtain ⟨rx, claims, heard, hlength, hcounted, hact⟩ := hacts _ hmsg (.inr haddr)
  case request =>
    obtain ⟨hspareTx, hrx⟩ := State.spareRequestIn_free (s := s.heardOn rx claims heard) (src := f.source) (transaction := transactionOf f) (lane := n)
      htx hhas hspare he hfree
    exact ⟨_, congrArg Host.Outcome.next (hact _), hcounted _ hrx, congrArg SpareTx.lane hspareTx, congrArg SpareTx.holders hspareTx,
      congrArg SpareTx.toAnswer hspareTx, congrArg SpareTx.copying hspareTx⟩
  case duplicating =>
    obtain ⟨hspare, hrx⟩ := State.spareDuplicatingIn_requested (s := s.heardOn rx claims heard) hextra hof hd hstep
    exact ⟨_, congrArg Host.Outcome.next (hact _), hcounted _ hrx, hspare⟩
  case switched =>
    obtain ⟨hspare, hpass, hrx⟩ := State.spareSwitchedIn_copying (s := s.heardOn rx claims heard) (src := f.source) (transaction := transactionOf f) he htx hcopy
    exact ⟨_, congrArg Host.Outcome.next (hact _), hcounted _ hrx, hspare, hpass⟩
  case release =>
    obtain ⟨hheld, hstops, hcopies, hrx⟩ :=
      State.spareReleaseIn_last (s := s.heardOn rx claims heard) (transaction := transactionOf f) (lane := n) he htx hcopy hholders
    exact ⟨_, congrArg Host.Outcome.next (hact _), hcounted _ hrx, hheld, hstops, hcopies⟩
  case stopped =>
    obtain ⟨hspare, hrx⟩ := State.spareStoppedIn_released (s := s.heardOn rx claims heard) hof hd hstep
    exact ⟨_, congrArg Host.Outcome.next (hact _), hcounted _ hrx, hspare⟩
  case refused =>
    obtain ⟨hspare, hrx⟩ := State.spareRefusedIn_requested (s := s.heardOn rx claims heard) hextra hof hd hstep
    exact ⟨_, congrArg Host.Outcome.next (hact _), hcounted _ hrx, hspare⟩

end Sys2Proof.Machine

/-! ## The steps of a sparing, HELLO and LANE_EYE (R267, R268, R272 to R274, R286, R429) -/

namespace Sys2Proof.Machine

/-! ### The copy at the sender (R272, R273) -/

theorem exec_spareCopyStart {s : State} {d l : Nat} (hlane : (s.spareTx d).lane = some l) (hcopy : (s.spareTx d).copying = false) :
    exec (.spareCopyStart d) s = .next ((s.spareTx d).toAnswer.foldl (fun s r => s.answer d 0x11 l 0 r)
      (s.modSpareTx d fun y => { y with copying := true, toAnswer := [] })) := by
  show execSpareCopyStart d s = _
  unfold execSpareCopyStart
  dsimp only
  rw [hlane]
  dsimp only
  rw [hcopy]
  rfl

theorem exec_spareCopyStop {s : State} {d l : Nat} (hlane : (s.spareTx d).lane = some l) (hstop : (s.spareTx d).stopping = true) :
    exec (.spareCopyStop d) s = .next ((s.spareTx d).toStop.foldl (fun s r => s.answer d 0x14 l 0 r) (s.modSpareTx d fun _ => {})) := by
  show execSpareCopyStop d s = _
  unfold execSpareCopyStop
  dsimp only
  rw [hlane]
  dsimp only
  rw [hstop]
  rfl

/-- The answers that a change of the copy gives leave the copy as changed. -/
theorem State.spareTx_answers {s : State} {d : Nat} (hd : d < s.lanes.spareTx.length) (f : SpareTx → SpareTx) (msg l : Nat)
    (rs : List (Half × Word × Nat × Nat × Nat)) :
    (rs.foldl (fun s r => s.answer d msg l 0 r) (s.modSpareTx d f)).spareTx d = f (s.spareTx d) :=
  ((foldl_tells (fun u r => u.answer_tells d msg l 0 r) rs _).spareTx d).trans (State.spareTx_modSpareTx hd f)

/-! ### The receiver's side (R272, R273) -/

theorem exec_spareConfirmed {s : State} {d : Nat} {a : Bool} (hstep : (s.spareRx d).step = .requested a) (hlock : (s.rx (128 + d)).lock = .locked)
    (hremote : (s.rx (128 + d)).remoteLane = (s.spareRx d).txLane) (htol : (s.rx (128 + d)).inTolerance = true)
    (htwo : (s.rx (128 + d)).boundaries.length = 2) (hsame : (s.rx (128 + d)).boundaries = (s.rx (s.spareRx d).lane).boundaries) :
    exec (.spareConfirmed d) s = .next (s.modSpareRx d fun y => { y with step := .confirmed }) := by
  show execSpareConfirmed d s = _
  unfold execSpareConfirmed
  dsimp only
  rw [hstep]
  dsimp only
  rw [if_pos ⟨hlock, hremote, htol, htwo, hsame⟩]

/-- Releasing a spare says so and leaves every receiver as it was. -/
theorem State.releaseSpare_released {s : State} {d : Nat} (hd : d < s.lanes.spareRx.length) :
    (s.releaseSpare d).spareRx d = { s.spareRx d with step := .released } ∧ (s.releaseSpare d).lanes.rx = s.lanes.rx := by
  have hasked := s.sendAsReceiver_tells d 0x13 0 s.eventTick
  have hsent := ((s.sendAsReceiver d 0x13 0 s.eventTick).modSpareRx d fun y => { y with step := .released }).releaseSent_tells (s.spareRx d).lane
  have hd' : d < (s.sendAsReceiver d 0x13 0 s.eventTick).lanes.spareRx.length := hasked.lanesSpareRx ▸ hd
  refine ⟨(hsent.spareRx d).trans ((State.spareRx_modSpareRx hd' _).trans ?_), hsent.lanesRx.trans hasked.lanesRx⟩
  rw [hasked.spareRx d]

/-- A lane that returns is carried no more and its spare is released; no other receiver changes. -/
theorem State.returnLane_returned {s : State} {d : Nat} (hd : d < s.lanes.spareRx.length) (failed : Bool) :
    (s.returnLane d failed).spareRx d = { s.spareRx d with step := .released } ∧
      (s.returnLane d failed).lanes.rx = (s.modRx (s.spareRx d).lane fun y => { y with carried := false }).lanes.rx := by
  obtain ⟨hspare, hrx⟩ := State.releaseSpare_released (s := s.modRx (s.spareRx d).lane fun y => { y with carried := false }) hd
  have hreports : ((s.modRx (s.spareRx d).lane fun y => { y with carried := false }).releaseSpare d).Tells (s.returnLane d failed) := by
    unfold State.returnLane
    dsimp only
    split
    · exact State.spareFailed_tells ..
    · exact State.raise_tells ..
  exact ⟨(hreports.spareRx d).trans hspare, hreports.lanesRx.trans hrx⟩

theorem exec_laneRestoreSwitch {s : State} {d : Nat} (hstep : (s.spareRx d).step = .returning) (hmay : s.mayReturn (s.spareRx d) = true) :
    exec (.laneRestoreSwitch d) s = .next (s.returnLane d false) := by
  show execLaneRestoreSwitch d s = _
  unfold execLaneRestoreSwitch
  dsimp only
  rw [if_pos ⟨hstep, hmay⟩]

theorem exec_spareTimeout_requested {s : State} {d : Nat} {a : Bool} (hstep : (s.spareRx d).step = .requested a) :
    exec (.spareTimeout d) s = .next (((s.spareFailed (s.spareRx d).lane 0).kilnRefused (s.spareRx d)).releaseSpare d) := by
  show execSpareTimeout d s = _
  unfold execSpareTimeout
  dsimp only
  rw [hstep]

/-! ### The switch, and the kiln pass that it is for (R272, R429) -/

/-- The element of an RX lane. -/
def rxElement (lane : Nat) : KilnElement := { kind := 1, index := lane }

/-- The state in which the spare of a die has begun to carry its lane, before SPARE_SWITCHED and the report. -/
def State.switched (s : State) (d : Nat) : State :=
  (s.modRx (s.spareRx d).lane fun y => { y with carried := true }).modSpareRx d fun y =>
    { y with step := .carrying, lost := (s.rx (s.spareRx d).lane).lock != .locked }

theorem exec_laneSpareSwitch {s : State} {d : Nat}
    (hstep : (s.spareRx d).step = .switching ∨ ((s.spareRx d).step = .confirmed ∧ (s.rx (s.spareRx d).lane).lock ≠ .locked)) :
    ∃ u, (s.switched d).Tells u ∧
      exec (.laneSpareSwitch d) s = .next (if (s.spareRx d).reason = 2 then u.tryPass (rxElement (s.spareRx d).lane) else u) := by
  refine ⟨?after, ?tells, ?exec⟩
  case exec =>
    show execLaneSpareSwitch d s = _
    unfold execLaneSpareSwitch
    dsimp only
    rw [if_pos (by simpa using hstep)]
    rfl
  case tells => exact ((s.switched d).sendAsReceiver_tells d 0x12 0 s.eventTick).trans (State.raise_tells ..)

theorem State.kilnRecord_congr {s t : State} (h : t.health.kiln = s.health.kiln) (e : KilnElement) : t.kilnRecord e = s.kilnRecord e := by
  rw [State.kilnRecord, h, State.kilnRecord]

theorem State.passRuns_congr {s t : State} (h : t.health.kiln = s.health.kiln) (e : KilnElement) : t.passRuns e = s.passRuns e := by
  rw [State.passRuns, h, State.passRuns]

theorem State.kilnRecord_modKiln (s : State) (e : KilnElement) {f : KilnRecord → KilnRecord} (hf : ∀ k, (f k).element = k.element) :
    (s.modKiln e f).kilnRecord e = f (s.kilnRecord e) := by
  have hkey : ∀ k : KilnRecord, (k.element == KilnElement.norm e) = true → ((f k).element == KilnElement.norm e) = true := fun k hk => by rwa [hf]
  unfold State.kilnRecord State.modKiln
  dsimp only
  rw [find?_upsert (by simp) hkey, Option.getD_some]

/-- The pass of an RX lane takes it out of lock. -/
theorem State.beginPass_rx {s : State} {lane : Nat} (h : lane < s.lanes.rx.length) :
    let t := s.beginPass (rxElement lane)
    t.rx lane = { (s.rx lane).unlock with inPass := true } ∧ t.lanes.spareRx = s.lanes.spareRx ∧
      (t.kilnRecord (rxElement lane)).inPass = true := by
  have hchecked := (((s.modKiln (rxElement lane) fun k => { k with inPass := true }).modRx lane fun x => { x.unlock with inPass := true }).refCheck_tells)
  refine ⟨(hchecked.rx lane).trans (State.rx_modRx (s := s.modKiln (rxElement lane) _) h _), hchecked.lanesSpareRx, ?_⟩
  exact congrArg KilnRecord.inPass ((State.kilnRecord_congr hchecked.kiln _).trans (s.kilnRecord_modKiln (rxElement lane) fun _ => rfl))

/-- A lane that its spare carries asks for no spare: it is measured or nothing happens, and it stays carried. -/
theorem State.tryPass_of_carried {s : State} {lane : Nat} (hlane : lane < s.lanes.rx.length) (h : (s.rx lane).carried = true) :
    ((s.tryPass (rxElement lane)).rx lane).carried = true ∧ (s.tryPass (rxElement lane)).lanes.spareRx = s.lanes.spareRx := by
  have hasks : s.asksSpare (rxElement lane) = false := by simp [State.asksSpare, rxElement, h]
  obtain ⟨hrx, hspares, -⟩ := State.beginPass_rx hlane
  unfold State.tryPass
  dsimp only
  split
  · exact ⟨h, rfl⟩
  · split
    · exact ⟨(congrArg RxLane.carried hrx).trans h, hspares⟩
    · rw [hasks]
      exact ⟨h, rfl⟩

/-- A lane that its spare carries for its pass, and which is due, is measured. -/
theorem State.tryPass_measures {s : State} {lane : Nat} (hlane : lane < 128) (hdue : (s.kilnRecord (rxElement lane)).due = true)
    (hfree : (s.kilnRecord (rxElement lane)).inPass = false) (hruns : s.passRuns (rxElement lane) = false) (hcarried : (s.rx lane).carried = true)
    (hfor : (s.spareRx (dieOfLane lane)).lane = lane) (hstep : (s.spareRx (dieOfLane lane)).step = .carrying)
    (hreason : (s.spareRx (dieOfLane lane)).reason = 2) (hasked : (s.spareRx (dieOfLane lane)).releaseAsked = false) :
    s.tryPass (rxElement lane) = s.beginPass (rxElement lane) := by
  have hmay : s.mayMeasure (rxElement lane) = true := by
    have hindex : ¬ 128 ≤ lane := by omega
    simp only [rxElement] at hruns
    simp [State.mayMeasure, rxElement, hruns, hindex, hcarried, hfor, hstep, hreason, hasked]
  unfold State.tryPass
  dsimp only
  rw [hdue, hfree, hmay]
  rfl

/-! ### HELLO (R267, R268) -/

theorem foldl_emit_out (o : Nat → OutItem) (l : List Nat) (s : State) :
    (l.foldl (fun s k => s.emit (o k)) s).out = (l.reverse.map o) ++ s.out := by
  induction l generalizing s with
  | nil => rfl
  | cons k l ih => simp [ih, State.emit_out]

/-- A frame goes out with this package's source and claim and the lane's SEQ, on each transmitter that carries the lane. -/
theorem State.sendHaul_out {s : State} {lane : Nat} (h : s.txSends lane = true) (type : Nat) (f : Frame) :
    (s.sendHaul lane type f).out = ((s.txCarriers lane).reverse.map fun k => .haul k type (sealFrame type { f with
      flags := 1, source := s.source, claim := s.ownClaim, seq := (s.tx lane).seq })) ++ s.out := by
  unfold State.sendHaul
  rw [if_pos h]
  exact foldl_emit_out _ _ _

/-- The first two bytes of a CONTROL payload. -/
theorem field_controlBody (txLane txSpare rxLane rxSpare code atTick : Nat) :
    field (controlBody txLane txSpare rxLane rxSpare code atTick) 0 1 = txLane % 256 ∧
      field (controlBody txLane txSpare rxLane rxSpare code atTick) 1 1 = txSpare % 256 := by
  unfold controlBody
  simp only [List.append_assoc]
  refine ⟨field_leBytes_append 1 txLane _, ?_⟩
  rw [field_append_right _ _ _ _ (by simp), leBytes_length]
  exact field_leBytes_append 1 txSpare _

/-! ### LANE_EYE (R286) -/

/-- A completion leaves the commands in progress as they were. -/
theorem State.complete_running (s : State) (m : Nat) (st : Status) (d : Nat) (r : List Byte) : (s.complete m st d r).mail.running = s.mail.running := by
  have hreply (u : State) (n : Nat) : (u.sendReply n).mail.running = u.mail.running := by
    unfold State.sendReply
    split <;> rfl
  have hpush (u : State) (c : Nat) (e : Completion) : (u.pushCompletion c e).mail.running = u.mail.running := by
    unfold State.pushCompletion
    rw [State.setCause_mail]
    rfl
  unfold State.complete
  dsimp only
  rw [hreply]
  split
  · exact hpush _ _ _
  · rfl

theorem exec_eyeScanDone {s : State} {n m k : Nat} {r : Running}
    (hfind : (s.mail.running.find? fun r => match r.waits with
      | .eye l _ => l == n
      | _ => false) = some r) (hwaits : r.waits = .eye n k) :
    exec (.eyeScanDone n m) s = .next (State.complete { s with mail := { s.mail with running := s.mail.running.erase r } } r.origin.mailbox .ok 0
      (leBytes 8 (2 ^ k) ++ leBytes 8 m)) := by
  show execEyeScanDone n m s = _
  unfold execEyeScanDone
  split
  next hnone => exact absurd (hnone.symm.trans hfind) nofun
  next found hsome =>
    obtain rfl : found = r := Option.some.inj (hsome.symm.trans hfind)
    dsimp only
    rw [hwaits]

/-- Settles O43: each step is its own change of the sparing or of a lane, and what it sends and reports leaves sparing and receivers alone. -/
theorem sparingStepsRun : Obligations.SparingStepsRun := by
  intro s d hd hrxLength htxLength x
  have hdRx : d < s.lanes.spareRx.length := hrxLength ▸ hd
  have hdTx : d < s.lanes.spareTx.length := htxLength ▸ hd
  refine ⟨fun l hlane hcopy => ?copyStart, fun l hlane hstop => ?copyStop, fun a hstep hlock hremote htol htwo hsame => ?confirmed,
    fun hstep hlane => ?switch, fun hstep hlane hlock htol hworks hspareTol => ?restore, fun a hstep => ?timeout, fun n hsends => ?hello,
    fun n m r k hfind hwaits hbox hroom => ?eye⟩
  case copyStart => exact ⟨_, exec_spareCopyStart hlane hcopy, State.spareTx_answers hdTx _ ..⟩
  case copyStop => exact ⟨_, exec_spareCopyStop hlane hstop, State.spareTx_answers hdTx _ ..⟩
  case confirmed => exact exec_spareConfirmed hstep hlock hremote htol htwo hsame
  case switch =>
    obtain ⟨u, hu, hexec⟩ := exec_laneSpareSwitch hstep
    have hspare : u.spareRx d = { x with step := .carrying, lost := (s.rx x.lane).lock != .locked } :=
      (hu.spareRx d).trans (State.spareRx_modSpareRx (s := s.modRx x.lane fun y => { y with carried := true }) hdRx _)
    have hrx : u.rx x.lane = { s.rx x.lane with carried := true } := (hu.rx x.lane).trans (State.rx_modRx hlane _)
    have hcarried : (u.rx x.lane).carried = true := congrArg RxLane.carried hrx
    by_cases hreason : x.reason = 2
    · rw [if_pos hreason] at hexec
      have hlength : x.lane < u.lanes.rx.length := by simpa [hu.lanesRx, State.switched] using hlane
      obtain ⟨hstays, hspares⟩ := State.tryPass_of_carried hlength hcarried
      have hstepped : (u.tryPass (rxElement x.lane)).spareRx d = u.spareRx d := by rw [State.spareRx, hspares, State.spareRx]
      refine ⟨_, hexec, by rw [hstepped, hspare], hstays, fun hother => absurd hreason hother, fun _ hdie hown hasked hruns hdue hfree => ?_⟩
      have hrecord (e : KilnElement) : u.kilnRecord e = s.kilnRecord e := State.kilnRecord_congr (hu.kiln.trans rfl) e
      have hmeasures := State.tryPass_measures hown ((congrArg KilnRecord.due (hrecord _)).trans hdue) ((congrArg KilnRecord.inPass (hrecord _)).trans hfree)
        ((State.passRuns_congr (hu.kiln.trans rfl) _).trans hruns) hcarried (by rw [hdie, hspare]) (by rw [hdie, hspare])
        (by rw [hdie, hspare]; exact hreason) (by rw [hdie, hspare]; exact hasked)
      obtain ⟨hpassed, -, hinPass⟩ := State.beginPass_rx hlength
      rw [hmeasures]
      exact ⟨congrArg RxLane.inPass hpassed, hinPass⟩
    · rw [if_neg hreason] at hexec
      exact ⟨u, hexec, by rw [hspare], hcarried, fun _ => by rw [hrx], fun h => absurd h hreason⟩
  case restore =>
    have hmay : s.mayReturn x = true := by simp [State.mayReturn, hlock, htol, hworks, hspareTol]
    obtain ⟨hspare, hrx⟩ := State.returnLane_returned hdRx false
    refine ⟨_, exec_laneRestoreSwitch hstep hmay, congrArg SpareRx.step hspare, ?_⟩
    rw [State.rx, hrx]
    exact congrArg RxLane.carried (State.rx_modRx hlane _)
  case timeout =>
    have hgivenUp : ((s.spareFailed x.lane 0).kilnRefused x).lanes = (s.spareFailed x.lane 0).lanes := State.kilnRefused_lanes _ x
    have hfailed := s.spareFailed_tells x.lane 0
    obtain ⟨hspare, hrx⟩ := State.releaseSpare_released (s := (s.spareFailed x.lane 0).kilnRefused x) (d := d) (by rw [hgivenUp, hfailed.lanesSpareRx]; exact hdRx)
    refine ⟨_, exec_spareTimeout_requested hstep, congrArg SpareRx.step hspare, ?_⟩
    rw [hrx, hgivenUp, hfailed.lanesRx]
  case hello =>
    have hwindow : s.ident.haulWindow.toNat < 256 := s.ident.haulWindow.isLt
    obtain ⟨hlow, hhigh⟩ := field_controlBody (s.ident.haulWindow.toNat % 16) (s.ident.haulWindow.toNat / 16) 0 0 0 0
    exact ⟨_, rfl, (s.sendHaul_tells ..).lanesRx, _, State.sendHaul_out hsends 4 _, rfl, rfl, rfl, rfl, hlow.trans (by omega), hhigh.trans (by omega)⟩
  case eye =>
    exact ⟨_, exec_eyeScanDone hfind hwaits, State.complete_answered _ _ _ _ _ hbox hroom, State.complete_running ..⟩

end Sys2Proof.Machine

/-! ## An event stays in the cellar log while fewer than 262,144 follow it (R442, R443) -/

namespace Sys2Proof.Machine

/-- A log that has taken one more entry into its slot. -/
def CellarLog.next (l : CellarLog) (e : LogEntry) : CellarLog := { CellarLog.put { l with nextSeq := l.nextSeq + 1 } e with badRun := 0 }

/-- The log of `l` holds an entry, which at most `n` entries from itself on have been numbered since. -/
structure CellarLog.Holds (l : CellarLog) (e : LogEntry) (n : Nat) : Prop where
  slot : (e.seq % 262144, e) ∈ l.slots
  older : e.seq < l.nextSeq
  recent : l.nextSeq ≤ e.seq + n

theorem mem_assign_self {β : Type} (l : List (Nat × β)) (k : Nat) (v : β) : (k, v) ∈ assign l k v := by
  unfold assign
  induction l with
  | nil => simp [upsert]
  | cons a l ih =>
    rw [upsert]
    split
    · exact List.mem_cons_self
    · exact List.mem_cons_of_mem _ ih

theorem mem_assign_other {β : Type} {l : List (Nat × β)} {k j : Nat} {v w : β} (h : (k, v) ∈ l) (hkey : k ≠ j) : (k, v) ∈ assign l j w := by
  unfold assign
  induction l with
  | nil => cases h
  | cons a l ih =>
    rw [upsert]
    rcases List.mem_cons.1 h with rfl | h
    · rw [if_neg (by simpa using hkey)]
      exact List.mem_cons_self
    · split
      · exact List.mem_cons_of_mem _ h
      · exact List.mem_cons_of_mem _ (ih h)

theorem CellarLog.next_holds_self {l : CellarLog} {e : LogEntry} (h : e.seq = l.nextSeq) : (l.next e).Holds e 1 :=
  ⟨mem_assign_self _ _ _, h ▸ Nat.lt_succ_self _, h ▸ Nat.le_refl _⟩

/-- The next entry takes another slot while fewer than all have been numbered since. -/
theorem CellarLog.Holds.next {l : CellarLog} {e m : LogEntry} {n : Nat} (h : l.Holds e n) (hseq : m.seq = l.nextSeq) (hn : n < 262144) :
    (l.next m).Holds e (n + 1) := by
  obtain ⟨hslot, holder, hrecent⟩ := h
  exact ⟨mem_assign_other hslot (by omega), Nat.lt_succ_of_lt holder, Nat.succ_le_succ hrecent⟩

theorem CellarLog.Holds.mono {l : CellarLog} {e : LogEntry} {n k : Nat} (h : l.Holds e n) (hk : n ≤ k) : l.Holds e k :=
  ⟨h.slot, h.older, h.recent.trans (Nat.add_le_add_left hk _)⟩

/-- The log takes what is written: it is not dead, the hold-up check passes, and every slot's medium holds (R443 to R448). -/
structure State.LogTakes (s : State) : Prop where
  live : s.health.log.dead = false
  power : s.holdOk .log = true
  media : s.health.log.badMedia = []

theorem State.LogTakes.meetsBad {s : State} (h : s.LogTakes) (e : LogEntry) : s.meetsBad e = false := by
  rw [State.meetsBad, h.media]
  simp

theorem State.LogTakes.logPlain {s : State} (h : s.LogTakes) (e : LogEntry) : s.logPlain e = s.logPut e := by
  rw [State.logPlain, h.live, h.power, h.meetsBad]
  rfl

theorem State.LogTakes.logWrite {s : State} (h : s.LogTakes) (e : LogEntry) : s.logWrite e = s.endEpisode.logPut e := by
  have hended : s.endEpisode.LogTakes := ⟨h.live, h.power, h.media⟩
  rw [State.logWrite, h.live, h.power, State.logStore, hended.meetsBad, hended.logPlain]
  rfl

/-- A log that takes entries takes more after one. -/
theorem State.LogTakes.of_next {s t : State} (h : s.LogTakes) {e : LogEntry} (hlog : t.health.log = s.health.log.next e) (hmeasured : t.measured = s.measured) :
    t.LogTakes :=
  ⟨by rw [hlog]; exact h.live, (State.holdOk_congr hmeasured .log).trans h.power, by rw [hlog]; exact h.media⟩

/-- An OVERFLOW_MARK goes to the next slot, and what it is pushed with does not touch the log. -/
theorem State.LogTakes.overflowMark_log {s : State} (h : s.LogTakes) (m : LogEntry) :
    (s.overflowMark m).health.log = { s.health.log.put m with badRun := 0 } := by
  unfold State.overflowMark
  dsimp only
  rw [h.meetsBad, h.logPlain, if_neg Bool.false_ne_true, State.deliverPlain_log, State.logPut_log]

/-- Delivery of an event adds at most an OVERFLOW_MARK to the log. -/
theorem State.LogTakes.deliver_log {s : State} (h : s.LogTakes) (e : LogEntry) :
    (s.deliver e).health.log = s.health.log ∨ ∃ m : LogEntry, m.seq = s.health.log.nextSeq ∧ (s.deliver e).health.log = s.health.log.next m := by
  unfold State.deliver
  split
  · have hnumbered : (s.newEntry 0x0001 0xFF (leBytes 4 s.events.lost)).2.LogTakes := ⟨h.live, h.power, h.media⟩
    exact .inr ⟨(s.newEntry 0x0001 0xFF (leBytes 4 s.events.lost)).1, rfl, (State.deliverPlain_log ..).trans (hnumbered.overflowMark_log _)⟩
  · exact .inl (s.deliverPlain_log e false)

/-- An event is the next entry of the log, and at most an OVERFLOW_MARK follows it. -/
theorem State.LogTakes.raise_log {s : State} (h : s.LogTakes) (code die : Nat) (detail : List Byte) :
    ∃ e : LogEntry, e.code = code ∧ e.seq = s.health.log.nextSeq ∧ ((s.raise code die detail).health.log = s.health.log.next e ∨
      ∃ m : LogEntry, m.seq = s.health.log.nextSeq + 1 ∧ (s.raise code die detail).health.log = (s.health.log.next e).next m) := by
  let e := (s.newEntry code die detail).1
  let w := (s.newEntry code die detail).2.logWrite e
  have hnumbered : (s.newEntry code die detail).2.LogTakes := ⟨h.live, h.power, h.media⟩
  have hwritten : w.health.log = s.health.log.next e := by
    show ((s.newEntry code die detail).2.logWrite e).health.log = _
    rw [hnumbered.logWrite, State.logPut_log]
    rfl
  have hone : (s.raiseOne code die detail).health.log = (w.deliver e).health.log := by
    unfold State.raiseOne
    dsimp only
    split <;> rfl
  have hdelivered := (h.of_next hwritten ((State.logWrite_measured ..).trans rfl)).deliver_log e
  rw [hwritten, ← hone] at hdelivered
  have hlive : (s.raiseOne code die detail).health.log.dead = false := by
    rcases hdelivered with hlog | ⟨m, -, hlog⟩ <;> rw [hlog] <;> exact h.live
  have hraise : s.raise code die detail = s.raiseOne code die detail := by
    unfold State.raise
    dsimp only
    rw [hlive]
    rfl
  rw [hraise]
  exact ⟨e, rfl, rfl, hdelivered⟩

theorem State.LogTakes.raise {s : State} (h : s.LogTakes) (code die : Nat) (detail : List Byte) : (s.raise code die detail).LogTakes := by
  have hpower := (State.holdOk_congr (s.raise_measured code die detail) .log).trans h.power
  obtain ⟨e, -, -, hlog | ⟨m, -, hlog⟩⟩ := h.raise_log code die detail
  · exact ⟨by rw [hlog]; exact h.live, hpower, by rw [hlog]; exact h.media⟩
  · exact ⟨by rw [hlog]; exact h.live, hpower, by rw [hlog]; exact h.media⟩

/-! ### An entry that stays -/

/-- The log takes entries and holds `e`, at most `n` entries from it on having been numbered. -/
structure State.KeepsEntry (s : State) (e : LogEntry) (n : Nat) : Prop where
  takes : s.LogTakes
  holds : s.health.log.Holds e n

namespace State.KeepsEntry

variable {s t : State} {e : LogEntry} {n : Nat}

theorem mono (h : s.KeepsEntry e n) {k : Nat} (hk : n ≤ k) : s.KeepsEntry e k := ⟨h.takes, h.holds.mono hk⟩

theorem congr (h : s.KeepsEntry e n) (hhealth : t.health = s.health) : t.KeepsEntry e n := by
  obtain ⟨⟨hlive, hpower, hmedia⟩, hholds⟩ := h
  exact ⟨⟨hhealth ▸ hlive, (State.holdOk_congr (State.measured_congr hhealth) .log).trans hpower, hhealth ▸ hmedia⟩, hhealth ▸ hholds⟩

/-- A log that takes entries holds the event that it took last. -/
theorem of_raise (h : s.LogTakes) (code die : Nat) (detail : List Byte) : ∃ e : LogEntry, e.code = code ∧ (s.raise code die detail).KeepsEntry e 2 := by
  obtain ⟨e, hcode, hseq, hlog⟩ := h.raise_log code die detail
  have hself := CellarLog.next_holds_self hseq
  refine ⟨e, hcode, h.raise .., ?_⟩
  rcases hlog with hlog | ⟨m, hm, hlog⟩
  · exact hlog ▸ hself.mono (by omega)
  · exact hlog ▸ hself.next hm (by omega)

/-- An event that follows leaves the entry where it is. -/
theorem raise (h : s.KeepsEntry e n) (hn : n + 1 < 262144) (code die : Nat) (detail : List Byte) : (s.raise code die detail).KeepsEntry e (n + 2) := by
  obtain ⟨next, -, hseq, hlog⟩ := h.takes.raise_log code die detail
  have hfollowed := h.holds.next hseq (by omega)
  refine ⟨h.takes.raise .., ?_⟩
  rcases hlog with hlog | ⟨m, hm, hlog⟩
  · exact hlog ▸ hfollowed.mono (by omega)
  · exact hlog ▸ hfollowed.next hm hn

/-- The same where something that is no part of health changes before the event. -/
theorem raiseAfter (h : s.KeepsEntry e n) (hhealth : t.health = s.health) (hn : n + 1 < 262144) (code die : Nat) (detail : List Byte) :
    (t.raise code die detail).KeepsEntry e (n + 2) := (h.congr hhealth).raise hn code die detail

theorem reselect (h : s.KeepsEntry e n) (hn : n + 1 < 262144) : s.reselect.KeepsEntry e (n + 2) := by
  unfold State.reselect
  split
  next k _ =>
    refine h.raiseAfter ?_ hn ..
    show (s.switchPhase _).2.2.health = s.health
    unfold State.switchPhase
    dsimp only
    split <;> rfl
  · unfold State.loseReference
    split
    · exact h.raiseAfter (by rfl) hn ..
    · exact h.raiseAfter (by rfl) hn ..

/-- What a disqualified input reports is one event, and the choice that may follow another. -/
theorem disqualify (h : s.KeepsEntry e n) (hn : n + 3 < 262144) (code test : Nat) : (s.disqualify code test).KeepsEntry e (n + 4) := by
  unfold State.disqualify
  split
  · have hlost : ((s.modRef code fun x => { x with qualified := false, wtrRunning := false, wtrLeftS := 0 }).raise 0x0402 0xFF
        (leBytes 1 code ++ leBytes 1 test)).KeepsEntry e (n + 2) := h.raiseAfter (by rfl) (by omega) ..
    have hshown := hlost.congr (t := State.modDpll _ Dpll.showWtr) rfl
    dsimp only
    split
    · exact hshown.reselect (by omega)
    · exact hshown.mono (by omega)
  · exact h.mono (by omega)

theorem refCheck (h : s.KeepsEntry e n) (hn : n + 7 < 262144) : s.refCheck.KeepsEntry e (n + 8) := by
  have htest {u : State} {k : Nat} (hu : u.KeepsEntry e k) (hk : k + 3 < 262144) (code test : Nat) :
      (if u.refPasses code then u else u.disqualify code test).KeepsEntry e (k + 4) := by
    split
    · exact hu.mono (by omega)
    · exact hu.disqualify hk code test
  exact htest (htest h (by omega) 5 1) (by omega) 6 _

theorem readyCheck (h : s.KeepsEntry e n) (hn : n + 1 < 262144) : s.readyCheck.KeepsEntry e (n + 2) := by
  unfold State.readyCheck
  dsimp only
  split
  · exact h.mono (by omega)
  · split
    · exact h.raiseAfter (by rfl) hn ..
    · exact h.raiseAfter (by rfl) hn ..

end State.KeepsEntry

end Sys2Proof.Machine

/-! ## The skew of receivers (R260, R261) -/

namespace Sys2Proof.Machine

/-- The package has the receiver. -/
def State.hasReceiver (s : State) : LaneRef → Prop
  | .haul n => n < s.lanes.rx.length
  | .twin n => n < s.lanes.twinRx.length

theorem State.receiver_modReceiver {s : State} {l : LaneRef} (h : s.hasReceiver l) (f : RxLane → RxLane) :
    (s.modReceiver l f).receiver l = f (s.receiver l) := by
  cases l with
  | haul n => exact State.rx_modRx h f
  | twin n => exact getD_modify_same _ _ _ _ h

theorem State.receiver_modReceiver_other (s : State) {l m : LaneRef} (h : m ≠ l) (f : RxLane → RxLane) : (s.modReceiver l f).receiver m = s.receiver m := by
  cases l with
  | haul n =>
    cases m with
    | haul k => exact State.rx_modRx_other s (fun hk => h (congrArg LaneRef.haul hk)) f
    | twin k => rfl
  | twin n =>
    cases m with
    | haul k => rfl
    | twin k => exact getD_modify_other _ _ _ _ _ fun hk => h (congrArg LaneRef.twin hk.symm)

theorem State.hasReceiver_modReceiver (s : State) (l m : LaneRef) (f : RxLane → RxLane) : (s.modReceiver l f).hasReceiver m ↔ s.hasReceiver m := by
  cases l <;> cases m <;> simp [State.hasReceiver, State.modReceiver]

theorem State.Tells.receiver {s t : State} (h : s.Tells t) (l : LaneRef) : t.receiver l = s.receiver l := by
  cases l with
  | haul n => exact h.rx n
  | twin n => exact congrArg (·.getD n {}) h.lanesTwinRx

/-- A part of a receiver that a change leaves alone stays, whether the package has the receiver or not. -/
theorem State.modReceiver_part {β : Type} (s : State) (l m : LaneRef) {f : RxLane → RxLane} (g : RxLane → β) (hg : ∀ x, g (f x) = g x) :
    g ((s.modReceiver l f).receiver m) = g (s.receiver m) := by
  by_cases hm : m = l
  · subst hm
    by_cases h : s.hasReceiver m
    · rw [State.receiver_modReceiver h, hg]
    · have hsame : (s.modReceiver m f).receiver m = s.receiver m := by
        cases m with
        | haul n => simp [State.modReceiver, State.receiver, State.rx, State.modRx, List.modify_eq_self (Nat.not_lt.1 h)]
        | twin n => simp [State.modReceiver, State.receiver, State.twinRx, State.modTwinRx, List.modify_eq_self (Nat.not_lt.1 h)]
      rw [hsame]
  · rw [State.receiver_modReceiver_other s hm]

/-! ### Noting a skew -/

/-- A receiver whose skew is noted: its delay through deskew set when it lies within ±64 ns (R260, R261). -/
def RxLane.skewed (x : RxLane) (skew : Int) : RxLane :=
  { x with skewPs := skew, deskewPs := if decide (64000 < skew.natAbs) then 0 else (64000 - skew).toNat,
           skewRaised := x.skewRaised || decide (64000 < skew.natAbs) }

/-- All of a receiver but its skew. -/
def RxLane.unskewed (x : RxLane) : RxLane := { x with skewPs := 0, deskewPs := 0, skewRaised := false }

theorem RxLane.eq_of_unskewed {x y : RxLane} (h : x.unskewed = y.unskewed) :
    x = { y with skewPs := x.skewPs, deskewPs := x.deskewPs, skewRaised := x.skewRaised } :=
  congrArg (fun z : RxLane => { z with skewPs := x.skewPs, deskewPs := x.deskewPs, skewRaised := x.skewRaised }) h

theorem RxLane.lock_of_unskewed {x y : RxLane} (h : x.unskewed = y.unskewed) : x.lock = y.lock := by rw [RxLane.eq_of_unskewed h]

theorem State.noteSkew_tells (s : State) (l : LaneRef) : (s.modReceiver l fun x => x.skewed (s.skewOf l)).Tells (s.noteSkew l) := by
  unfold State.noteSkew
  dsimp only
  split
  · exact State.raise_tells ..
  · exact .refl _

theorem State.noteSkew_unskewed (s : State) (l m : LaneRef) : ((s.noteSkew l).receiver m).unskewed = (s.receiver m).unskewed := by
  rw [(s.noteSkew_tells l).receiver]
  exact State.modReceiver_part s l m RxLane.unskewed fun _ => rfl

/-- The arrival of a comma measures skews anew and changes nothing else but when it arrived. -/
theorem State.arrive_unskewed (s : State) (l m : LaneRef) (atPs : Nat) :
    ((s.arrive l atPs).receiver m).unskewed = ((s.modReceiver l fun x => { x with arrivalPs := atPs }).receiver m).unskewed :=
  List.foldlRecOn (motive := fun u : State => (u.receiver m).unskewed = ((s.modReceiver l fun x => { x with arrivalPs := atPs }).receiver m).unskewed)
    _ _ rfl fun u hu k _ => (u.noteSkew_unskewed k m).trans hu

theorem State.arrive_self {s : State} {l : LaneRef} (h : s.hasReceiver l) (f : RxLane → RxLane) (atPs : Nat) :
    ∃ skew deskew raised, ((s.modReceiver l f).arrive l atPs).receiver l =
      { f (s.receiver l) with arrivalPs := atPs, skewPs := skew, deskewPs := deskew, skewRaised := raised } := by
  have hself := (s.modReceiver l f).arrive_unskewed l l atPs
  rw [State.receiver_modReceiver ((s.hasReceiver_modReceiver l l f).2 h), State.receiver_modReceiver h] at hself
  exact ⟨_, _, _, RxLane.eq_of_unskewed hself⟩

/-! ### The skew of a lane that is its own reference -/

theorem State.reference_congr {s t : State} {n : Nat} (hn : n < 128) (h : ∀ m, (t.receiver m).lock = (s.receiver m).lock) :
    t.reference (.haul n) = s.reference (.haul n) := by
  simp only [State.reference, if_pos hn, h]

theorem skewBetween_self (period a : Nat) : skewBetween period a a = 0 := by
  have hhalf : period / 2 % period = period / 2 := by
    rcases Nat.eq_zero_or_pos period with rfl | hpos
    · rfl
    · exact Nat.mod_eq_of_lt (Nat.div_lt_self hpos (by decide))
  rw [skewBetween, Int.sub_self, Int.zero_add, ← Int.natCast_mod, hhalf, Int.sub_self]

theorem State.skewOf_own {s : State} {n : Nat} (h : s.reference (.haul n) = some (.haul n)) : s.skewOf (.haul n) = 0 := by
  rw [State.skewOf, h]
  exact skewBetween_self _ _

/-- Once the skew of a lane that is its own reference is noted it is zero, and stays so. -/
theorem State.foldl_noteSkew_own {n : Nat} (hn : n < 128) (l : List LaneRef) (s : State) (hlane : n < s.lanes.rx.length)
    (href : s.reference (.haul n) = some (.haul n)) (h : .haul n ∈ l ∨ ((s.rx n).skewPs = 0 ∧ (s.rx n).deskewPs = 64000)) :
    ((l.foldl State.noteSkew s).rx n).skewPs = 0 ∧ ((l.foldl State.noteSkew s).rx n).deskewPs = 64000 := by
  induction l generalizing s with
  | nil => exact h.resolve_left List.not_mem_nil
  | cons m l ih =>
    have htells := s.noteSkew_tells m
    have hlocks (k : LaneRef) : ((s.noteSkew m).receiver k).lock = (s.receiver k).lock := RxLane.lock_of_unskewed (s.noteSkew_unskewed m k)
    have hlane' : n < (s.noteSkew m).lanes.rx.length := by
      rw [htells.lanesRx]
      exact (s.hasReceiver_modReceiver m (.haul n) _).2 hlane
    refine ih (s.noteSkew m) hlane' ((State.reference_congr hn hlocks).trans href) ?_
    by_cases hm : m = .haul n
    · subst hm
      have hrx : (s.noteSkew (.haul n)).rx n = (s.rx n).skewed 0 := by
        rw [htells.rx n, ← State.skewOf_own href]
        exact State.rx_modRx hlane _
      exact .inr (hrx ▸ ⟨rfl, rfl⟩)
    · refine h.imp (fun hmem => (List.mem_cons.1 hmem).resolve_left fun heq => hm heq.symm) fun hzero => ?_
      have hrx : (s.noteSkew m).rx n = s.rx n := (htells.rx n).trans (s.receiver_modReceiver_other (fun heq => hm heq.symm) _)
      rwa [hrx]

/-- A lane that alone of its group is locked is its own reference. -/
theorem State.reference_own {s : State} {n : Nat} (hn : n < 128) (hlock : (s.rx n).lock = .locked)
    (halone : ∀ k, k / 8 = n / 8 → k ≠ n → (s.rx k).lock ≠ .locked) : s.reference (.haul n) = some (.haul n) := by
  have hfind : s.reference (.haul n) = (deskewGroup (.haul n)).find? fun m => (s.receiver m).lock == .locked := by
    rw [State.reference, if_pos hn]
  rw [hfind]
  cases hfound : (deskewGroup (.haul n)).find? fun m => (s.receiver m).lock == .locked with
  | none =>
    have hmem : LaneRef.haul n ∈ deskewGroup (.haul n) := List.mem_map.2 ⟨n % 8, List.mem_range.2 (by omega), congrArg LaneRef.haul (by omega)⟩
    exact absurd (beq_iff_eq.2 hlock) (List.find?_eq_none.1 hfound _ hmem)
  | some m =>
    obtain ⟨k, hk, rfl⟩ := List.mem_map.1 (List.mem_of_find?_eq_some hfound)
    have hlocked : (s.rx (8 * (n / 8) + k)).lock = .locked := by simpa using List.find?_some hfound
    have hgroup := List.mem_range.1 hk
    have hself : 8 * (n / 8) + k = n := by_contra fun hne => halone _ (by omega) hne hlocked
    rw [hself]

end Sys2Proof.Machine

/-! ## One tested comma position of a receiver (R256, R257) -/

namespace Sys2Proof.Machine

/-- The comma that a receiver expects next: its LANE, exact, with the CHECK of the next PHASE. -/
def RxLane.expects (x : RxLane) (c : CommaSeen) : Prop :=
  CommaSeen.pattern c = commaPattern ∧ CommaSeen.lane c = x.remoteLane ∧ CommaSeen.check c = commaCheck x.remoteLane ((x.phase + 1) % 5)

/-- A receiver that loses lock: it searches, and the loss is counted. -/
def RxLane.lose (x : RxLane) : RxLane := { x.unlock with lockLosses := rcAdd 32 x.lockLosses 1 }

theorem State.linkReport_tells (before : Nat) (s : State) : s.Tells (s.linkReport before) := by
  unfold State.linkReport
  split
  · exact .refl s
  · split <;> exact State.raise_tells ..

section Comma

variable {s : State} {l : LaneRef} {c : CommaSeen}

theorem State.comma_found (hlock : (s.receiver l).lock = .search) (hpattern : CommaSeen.pattern c = commaPattern) {k : Nat}
    (hphase : CommaSeen.phase? c = some k) :
    s.comma l c = s.modReceiver l fun x => { x with lock := .candidate 0, remoteLane := CommaSeen.lane c, phase := k } := by
  unfold State.comma
  dsimp only
  rw [hlock]
  dsimp only
  rw [if_pos (beq_iff_eq.2 hpattern), hphase]

theorem State.comma_notFound (hlock : (s.receiver l).lock = .search) (h : CommaSeen.pattern c ≠ commaPattern ∨ CommaSeen.phase? c = none) :
    s.comma l c = s := by
  have hnone : (if CommaSeen.pattern c == commaPattern then CommaSeen.phase? c else none) = none := by
    split
    next hpattern => exact h.resolve_left (not_not.2 (beq_iff_eq.1 hpattern))
    · rfl
  unfold State.comma
  dsimp only
  rw [hlock]
  dsimp only
  rw [hnone]

theorem State.comma_passes {k : Nat} (hlock : (s.receiver l).lock = .candidate k) (hk : k ≠ 2) (hgood : (s.receiver l).expects c) :
    s.comma l c = s.modReceiver l fun x => { x with lock := .candidate (k + 1), phase := ((s.receiver l).phase + 1) % 5 } := by
  obtain ⟨hpattern, hlane, hcheck⟩ := hgood
  unfold State.comma
  dsimp only
  rw [hlock]
  dsimp only
  rw [if_pos (by simp [hpattern, hlane, hcheck]), if_neg hk]

/-- The third pass locks the receiver at its comma; what the link then reports changes no receiver. -/
theorem State.comma_locks (hlock : (s.receiver l).lock = .candidate 2) (hgood : (s.receiver l).expects c) :
    ((s.modReceiver l fun y => { y.enter (((s.receiver l).phase + 1) % 5) with quiet := false }).arrive l c.atPs).Tells (s.comma l c) := by
  obtain ⟨hpattern, hlane, hcheck⟩ := hgood
  unfold State.comma
  dsimp only
  rw [hlock]
  dsimp only
  rw [if_pos (by simp [hpattern, hlane, hcheck]), if_pos rfl]
  split
  · exact .refl _
  · exact State.linkReport_tells ..

theorem State.comma_fails {k : Nat} (hlock : (s.receiver l).lock = .candidate k) (hbad : ¬ (s.receiver l).expects c) :
    s.comma l c = s.modReceiver l RxLane.unlock := by
  unfold State.comma
  dsimp only
  rw [hlock]
  dsimp only
  rw [if_neg fun h => hbad (by simpa [RxLane.expects, and_assoc] using h)]

theorem State.comma_present (hlock : (s.receiver l).lock = .locked) (hwrong : CommaSeen.wrong c ≤ 8) :
    s.comma l c = (s.modReceiver l fun x => x.present c).arrive l c.atPs := by
  unfold State.comma
  dsimp only
  rw [hlock]
  dsimp only
  rw [if_pos hwrong]

theorem State.comma_missing (hlock : (s.receiver l).lock = .locked) (hwrong : 8 < CommaSeen.wrong c) (hrun : (s.receiver l).missRun < 3) :
    s.comma l c = s.modReceiver l RxLane.missed := by
  unfold State.comma
  dsimp only
  rw [hlock]
  dsimp only
  rw [if_neg (Nat.not_le.2 hwrong), if_neg (by omega)]

theorem State.comma_lost (hlock : (s.receiver l).lock = .locked) (hwrong : 8 < CommaSeen.wrong c) (hrun : (s.receiver l).missRun = 3) :
    s.comma l c = (s.modReceiver l RxLane.missed).loseLock l := by
  unfold State.comma
  dsimp only
  rw [hlock]
  dsimp only
  rw [if_neg (Nat.not_le.2 hwrong), if_pos (by omega)]

end Comma

/-- The loss of a haul lane's lock: no other receiver changes, nor do the clocks; only what a spare carries is noted as lost. -/
theorem State.loseLock_haul (s : State) (n : Nat) :
    (s.loseLock (.haul n)).lanes.rx = (s.modRx n RxLane.lose).lanes.rx ∧ (s.loseLock (.haul n)).clocks = s.clocks ∧
      (128 ≤ n → (s.loseLock (.haul n)).lanes.spareRx = s.lanes.spareRx) := by
  have hreports (u : State) (reported : Bool) (die : Nat) (detail : List Byte) :
      (if reported then (u.raise 0x0301 die detail).evident 2 die n 1 else u).lanes = u.lanes ∧
        (if reported then (u.raise 0x0301 die detail).evident 2 die n 1 else u).clocks = u.clocks := by
    split
    · simp
    · exact ⟨rfl, rfl⟩
  unfold State.loseLock
  dsimp only
  rw [(hreports ..).1, (hreports ..).2]
  split
  next h => exact ⟨rfl, rfl, fun hn => absurd h.1 (by omega)⟩
  · exact ⟨rfl, rfl, fun _ => rfl⟩

/-! ### HAUL_REC without the lock of its lane (R291) -/

/-- Which reference inputs are qualified. -/
def State.qualified (s : State) : List Bool := s.clocks.dpll.inputs.map (·.qualified)

theorem State.refInput_qualified (s : State) (code : Nat) : (s.refInput code).qualified = s.qualified.getD (code - 1) false := by
  unfold State.refInput State.qualified
  simp only [List.getD_eq_getElem?_getD, List.getElem?_map]
  cases s.clocks.dpll.inputs[code - 1]? <;> rfl

theorem Dpll.keepWtr_qualified (d : Dpll) (keep : Nat → Bool) : (d.keepWtr keep).inputs.map (·.qualified) = d.inputs.map (·.qualified) := by
  unfold Dpll.keepWtr Dpll.showWtr
  dsimp only
  rw [List.map_map]
  conv_rhs => rw [← List.zipIdx_map_fst 0 d.inputs, List.map_map]
  refine List.map_congr_left fun p _ => ?_
  dsimp only [Function.comp]
  split <;> rfl

theorem State.raise_qualified (s : State) (code die : Nat) (detail : List Byte) : (s.raise code die detail).qualified = s.qualified := by
  rw [State.qualified, State.raise_clocks, State.qualified]

/-- Choosing among the references qualifies none and disqualifies none. -/
theorem State.reselect_qualified (s : State) : s.reselect.qualified = s.qualified := by
  have hkept (u : State) (f : Dpll → Dpll) (keep : Nat → Bool) (hf : (f u.clocks.dpll).inputs = u.clocks.dpll.inputs) :
      (u.modDpll fun d => (f d).keepWtr keep).qualified = u.qualified :=
    (Dpll.keepWtr_qualified (f u.clocks.dpll) keep).trans (congrArg _ hf)
  unfold State.reselect
  split
  next k _ =>
    have hphase : (s.switchPhase (s.clocks.dpll.entries.getD k 0)).2.2.qualified = s.qualified := by
      unfold State.switchPhase
      dsimp only
      split <;> rfl
    exact (State.raise_qualified ..).trans ((hkept _ _ _ rfl).trans hphase)
  · unfold State.loseReference
    split
    · exact (State.raise_qualified ..).trans (hkept _ _ _ rfl)
    · exact (State.raise_qualified ..).trans (hkept _ _ _ rfl)

/-- After an input is disqualified, an input that is qualified is another, and was so before. -/
theorem State.disqualify_qualified (s : State) (code test k : Nat) (h : ((s.disqualify code test).refInput k).qualified = true) :
    (s.refInput k).qualified = true ∧ k - 1 ≠ code - 1 := by
  by_cases hcode : (s.refInput code).qualified = true
  · have hlost : (s.disqualify code test).qualified = s.qualified.modify (code - 1) fun _ => false := by
      have hshown (u : State) : (u.modDpll Dpll.showWtr).qualified = u.qualified := rfl
      have hmod : (s.modRef code fun x => { x with qualified := false, wtrRunning := false, wtrLeftS := 0 }).qualified =
          s.qualified.modify (code - 1) fun _ => false := by
        refine List.ext_getElem? fun i => ?_
        simp only [State.qualified, State.modRef, State.modDpll, List.getElem?_map, List.getElem?_modify]
        cases s.clocks.dpll.inputs[i]? <;> split <;> rfl
      unfold State.disqualify
      rw [if_pos hcode]
      dsimp only
      split
      · rw [State.reselect_qualified, hshown, State.raise_qualified, hmod]
      · rw [hshown, State.raise_qualified, hmod]
    rw [State.refInput_qualified, hlost] at h
    rw [State.refInput_qualified]
    by_cases hk : k - 1 = code - 1
    · rw [hk, List.getD_eq_getElem?_getD, List.getElem?_modify_eq] at h
      cases hq : s.qualified[code - 1]? <;> simp [hq] at h
    · rw [getD_modify_other _ _ _ _ _ fun heq => hk heq.symm] at h
      exact ⟨h, hk⟩
  · rw [State.disqualify, if_neg hcode] at h
    refine ⟨h, fun hk => hcode ?_⟩
    rwa [State.refInput_qualified, ← hk, ← State.refInput_qualified]

/-- HAUL_REC is not qualified once its lane has lost lock. -/
theorem State.refCheck_haulRec {s : State} (h : s.refPasses 5 = false) : (s.refCheck.refInput 5).qualified = false := by
  have hfive : ((s.disqualify 5 1).refInput 5).qualified = false :=
    Bool.eq_false_iff.2 fun hq => (s.disqualify_qualified 5 1 5 hq).2 rfl
  have hsix (u : State) (test : Nat) (hu : (u.refInput 5).qualified = false) : ((if u.refPasses 6 then u else u.disqualify 6 test).refInput 5).qualified = false := by
    split
    · exact hu
    · exact Bool.eq_false_iff.2 fun hq => Bool.false_ne_true (hu.symm.trans (u.disqualify_qualified 6 test 5 hq).1)
  unfold State.refCheck
  rw [h]
  exact hsix _ _ hfive

end Sys2Proof.Machine

/-! ## COMMA_PERIOD (R255 to R257, R260, R274, R291, R331, R471) -/

namespace Sys2Proof.Machine

/-! ### What the twin link sends when it locks (R331, R349) -/

/-- Sending on the twin link changes its transmitters alone of the lanes, and nothing of health. -/
def State.SendsTwin (s t : State) : Prop := t.health = s.health ∧ ∃ twinTx, t.lanes = { s.lanes with twinTx := twinTx }

theorem State.SendsTwin.of_eq {s t : State} (hhealth : t.health = s.health) (hlanes : t.lanes = s.lanes) : s.SendsTwin t := ⟨hhealth, _, hlanes⟩

theorem State.SendsTwin.trans {s t u : State} (h1 : s.SendsTwin t) (h2 : t.SendsTwin u) : s.SendsTwin u := by
  obtain ⟨hhealth1, twinTx1, hlanes1⟩ := h1
  obtain ⟨hhealth2, twinTx2, hlanes2⟩ := h2
  exact ⟨hhealth2.trans hhealth1, twinTx2, by rw [hlanes2, hlanes1]⟩

theorem State.SendsTwin.tells {s t : State} (h : s.SendsTwin t) : s.Tells t := by
  obtain ⟨hhealth, twinTx, hlanes⟩ := h
  exact ⟨⟨s.lanes.tx, twinTx, hlanes⟩, State.measured_congr hhealth⟩

theorem State.twinPump_sendsTwin (n : Nat) (s : State) : s.SendsTwin (State.twinPump n s) := by
  induction n generalizing s with
  | zero => exact .of_eq rfl rfl
  | succ n ih =>
    rw [State.twinPump]
    split
    · exact State.SendsTwin.trans ⟨rfl, _, rfl⟩ (ih _)
    · exact .of_eq rfl rfl

theorem State.attachFrame_sendsTwin (s : State) (transaction : Nat) : s.SendsTwin (s.attachFrame transaction) := by
  unfold State.attachFrame State.sendTwin State.twinQueue
  split
  · exact .of_eq rfl rfl
  · exact State.SendsTwin.trans (.of_eq rfl rfl) (State.twinPump_sendsTwin _ _)

theorem State.linkUp_sendsTwin (s : State) : s.SendsTwin s.linkUp := by
  unfold State.linkUp
  split
  · exact .of_eq rfl rfl
  · split
    · exact State.SendsTwin.trans (.of_eq rfl rfl) (State.attachFrame_sendsTwin _ _)
    · exact .of_eq rfl rfl

theorem State.readyCheck_tells (s : State) : s.Tells s.readyCheck := by
  unfold State.readyCheck
  dsimp only
  split
  · exact .refl s
  · split
    · exact .after (State.raise_tells ..) rfl rfl
    · exact .after (State.raise_tells ..) rfl rfl

/-- What follows a tested comma position of the twin link: attachment, readiness and the clock inputs. -/
def State.linkChecks (s : State) : State := s.linkUp.readyCheck.refCheck

theorem State.linkChecks_tells (s : State) : s.Tells s.linkChecks :=
  s.linkUp_sendsTwin.tells.trans ((State.readyCheck_tells _).trans (State.refCheck_tells _))

/-- An event of the link stays in the log through what follows. -/
theorem State.KeepsEntry.linkChecks {s : State} {e : LogEntry} {n : Nat} (h : s.KeepsEntry e n) (hn : n + 9 < 262144) :
    s.linkChecks.KeepsEntry e (n + 10) := ((h.congr s.linkUp_sendsTwin.1).readyCheck (by omega)).refCheck (by omega)

/-! ### Which lanes of the link are locked (R331, R356) -/

theorem State.linkLanes_testBit (s : State) {n : Nat} (hn : n < 4) : s.linkLanes.testBit n = decide ((s.receiver (.twin n)).lock = .locked) := by
  show s.linkLanes.testBit n = decide ((s.lanes.twinRx.getD n {}).lock = .locked)
  have hsum (p : Fin 4 → Bool) (k : Fin 4) :
      (0 + (if p 0 then 2 ^ 0 else 0) + (if p 1 then 2 ^ 1 else 0) + (if p 2 then 2 ^ 2 else 0) + (if p 3 then 2 ^ 3 else 0)).testBit k = p k := by
    revert p k
    decide
  have hbits := hsum (fun k => decide ((s.lanes.twinRx.getD k {}).lock = .locked)) ⟨n, hn⟩
  simp only [decide_eq_true_eq] at hbits
  exact hbits

/-! ### The steps of COMMA_PERIOD -/

/-- COMMA_PERIOD on a haul lane, before the clock inputs are tested: in a pass or in DORMANT the position is not looked at, and a spare that loses lock may give its
lane back. -/
def State.haulPosition (s : State) (n : Nat) (c : CommaSeen) : State :=
  let t := if (s.rx n).inPass || s.power.mode == .dormant then s else s.comma (.haul n) c
  if 128 ≤ n ∧ (s.rx n).lock = .locked ∧ (t.rx n).lock ≠ .locked then t.spareLost (n - 128) else t

theorem exec_commaPeriod_haul (s : State) (n : Nat) (c : CommaSeen) : exec (.commaPeriod (.haul n) c) s = .next (s.haulPosition n c).refCheck := by
  rfl

theorem State.haulPosition_dormant {s : State} (hmode : s.power.mode = .dormant) (n : Nat) (c : CommaSeen) : s.haulPosition n c = s := by
  have ht : (if (s.rx n).inPass || s.power.mode == .dormant then s else s.comma (.haul n) c) = s := if_pos (by simp [hmode])
  rw [State.haulPosition, ht]
  exact if_neg fun h => h.2.2 h.2.1

section Haul

variable {s : State} {n : Nat} {c : CommaSeen} (hpass : (s.rx n).inPass = false) (hmode : s.power.mode ≠ .dormant)
include hpass hmode

theorem State.haulPosition_eq : s.haulPosition n c =
    if 128 ≤ n ∧ (s.rx n).lock = .locked ∧ ((s.comma (.haul n) c).rx n).lock ≠ .locked then (s.comma (.haul n) c).spareLost (n - 128) else s.comma (.haul n) c := by
  have ht : (if (s.rx n).inPass || s.power.mode == .dormant then s else s.comma (.haul n) c) = s.comma (.haul n) c := if_neg (by simp [hpass, hmode])
  rw [State.haulPosition, ht]

/-- A position that takes no spare out of lock is tested, and then the clock inputs are. -/
theorem exec_commaPeriod_kept (hkept : n < 128 ∨ (s.rx n).lock ≠ .locked ∨ ((s.comma (.haul n) c).rx n).lock = .locked) :
    exec (.commaPeriod (.haul n) c) s = .next (s.comma (.haul n) c).refCheck := by
  have hno : ¬ (128 ≤ n ∧ (s.rx n).lock = .locked ∧ ((s.comma (.haul n) c).rx n).lock ≠ .locked) := by
    rintro ⟨hspare, hlock, hlost⟩
    rcases hkept with hn | hne | hlocked
    · omega
    · exact hne hlock
    · exact hlost hlocked
  rw [exec_commaPeriod_haul, State.haulPosition_eq hpass hmode, if_neg hno]

/-- A spare that loses lock gives its lane back before the clock inputs are tested. -/
theorem exec_commaPeriod_spareLost (hspare : 128 ≤ n) (hlock : (s.rx n).lock = .locked) (hlost : ((s.comma (.haul n) c).rx n).lock ≠ .locked) :
    exec (.commaPeriod (.haul n) c) s = .next ((s.comma (.haul n) c).spareLost (n - 128)).refCheck := by
  rw [exec_commaPeriod_haul, State.haulPosition_eq hpass hmode, if_pos ⟨hspare, hlock, hlost⟩]

end Haul

/-- COMMA_PERIOD on the twin link, before the clock inputs are tested: in wide steering, in a pass and in DORMANT the position is not looked at. -/
def State.twinPosition (s : State) (n : Nat) (c : CommaSeen) : State :=
  if s.clocks.dpll.wide || (s.lanes.twinRx.getD n {}).inPass || s.power.mode == .dormant then s else (s.comma (.twin n) c).linkUp.readyCheck

theorem exec_commaPeriod_twinLane (s : State) (n : Nat) (c : CommaSeen) : exec (.commaPeriod (.twin n) c) s = .next (s.twinPosition n c).refCheck := by
  rfl

theorem exec_commaPeriod_twinHeld {s : State} {n : Nat} {c : CommaSeen}
    (h : s.clocks.dpll.wide = true ∨ (s.lanes.twinRx.getD n {}).inPass = true ∨ s.power.mode = .dormant) :
    exec (.commaPeriod (.twin n) c) s = .next s.refCheck := by
  have hheld : s.twinPosition n c = s := if_pos (by simpa [or_assoc] using h)
  rw [exec_commaPeriod_twinLane, hheld]

theorem exec_commaPeriod_twin {s : State} {n : Nat} {c : CommaSeen} (hwide : s.clocks.dpll.wide = false)
    (hpass : (s.lanes.twinRx.getD n {}).inPass = false) (hmode : s.power.mode ≠ .dormant) :
    exec (.commaPeriod (.twin n) c) s = .next (s.comma (.twin n) c).linkChecks := by
  have htested : s.twinPosition n c = (s.comma (.twin n) c).linkUp.readyCheck := if_neg (by rw [hwide, hpass]; simpa using hmode)
  rw [exec_commaPeriod_twinLane, htested, State.linkChecks]

/-! ### A lane that locks alone of its group, and a spare that loses lock (R260, R274) -/

theorem State.arrive_own {s : State} {n : Nat} (hn : n < 128) (hlane : n < s.lanes.rx.length) (hlock : (s.rx n).lock = .locked)
    (halone : ∀ k, k / 8 = n / 8 → k ≠ n → (s.rx k).lock ≠ .locked) (atPs : Nat) :
    ((s.arrive (.haul n) atPs).rx n).skewPs = 0 ∧ ((s.arrive (.haul n) atPs).rx n).deskewPs = 64000 := by
  have hself : (s.modRx n fun x => { x with arrivalPs := atPs }).rx n = { s.rx n with arrivalPs := atPs } := State.rx_modRx hlane _
  have hlock' : ((s.modRx n fun x => { x with arrivalPs := atPs }).rx n).lock = .locked := by rw [hself]; exact hlock
  have hlane' : n < (s.modRx n fun x => { x with arrivalPs := atPs }).lanes.rx.length := by simpa using hlane
  have hmem : .haul n ∈ (s.modRx n fun x => { x with arrivalPs := atPs }).skewedBy (.haul n) := by
    refine List.mem_filter.2 ⟨List.mem_append_left _ ?_, beq_iff_eq.2 hlock'⟩
    dsimp only
    rw [if_pos hn]
    exact List.mem_map.2 ⟨n % 8, List.mem_range.2 (by omega), congrArg LaneRef.haul (by omega)⟩
  refine State.foldl_noteSkew_own hn _ _ hlane' (State.reference_own hn hlock' fun k hk hne => ?_) (.inl hmem)
  rw [State.modReceiver_haul, State.rx_modRx_other s hne]
  exact halone k hk hne

/-- The lane that a spare carries when it loses lock serves again. -/
def State.backServes (s : State) (d : Nat) : Prop :=
  (s.spareRx d).carries = true ∧ (s.rx (s.spareRx d).lane).lock = .locked ∧ (s.rx (s.spareRx d).lane).inTolerance = true ∧
    (s.rx (s.spareRx d).lane).failed = false

theorem State.spareLost_of_backServes {s : State} {d : Nat} (h : s.backServes d) :
    (s.spareLost d).lanes.rx = (s.modRx (s.spareRx d).lane fun x => { x with carried := false }).lanes.rx := by
  obtain ⟨hcarries, hlock, htol, hworks⟩ := h
  have hd : d < s.lanes.spareRx.length := by
    by_contra hd
    rw [State.spareRx, List.getD_eq_default _ _ (Nat.not_lt.1 hd)] at hcarries
    cases hcarries
  unfold State.spareLost
  dsimp only
  rw [if_pos (by simp [hcarries, hlock, htol, hworks])]
  exact (State.returnLane_returned hd true).2

theorem State.spareLost_of_not_backServes {s : State} {d : Nat} (h : ¬ s.backServes d) : s.spareLost d = s := by
  unfold State.spareLost
  dsimp only
  rw [if_neg fun hback => h (by simpa [State.backServes, and_assoc] using hback)]

end Sys2Proof.Machine

/-! ## What COMMA_PERIOD leaves of a receiver (R256, R257, R260, R274, R291, R331) -/

namespace Sys2Proof.Machine

theorem State.rx_congr {s t : State} (h : t.lanes.rx = s.lanes.rx) (n : Nat) : t.rx n = s.rx n := congrArg (·.getD n {}) h

/-- A lane that is locked is one that the package has. -/
theorem State.lt_of_locked {s : State} {n : Nat} (h : (s.rx n).lock = .locked) : n < s.lanes.rx.length := by
  by_contra hn
  rw [State.rx, List.getD_eq_default _ _ (Nat.not_lt.1 hn)] at h
  cases h

section Haul

variable {s : State} {n : Nat} {c : CommaSeen} (hlane : n < s.lanes.rx.length) (hpass : (s.rx n).inPass = false) (hmode : s.power.mode ≠ .dormant)
include hlane hpass hmode

theorem commaPeriod_locks (hlock : (s.rx n).lock = .candidate 2) (hgood : (s.rx n).expects c) : Gives (.commaPeriod (.haul n) c) s fun t =>
    (t.rx n).lock = .locked ∧ (t.rx n).phase = ((s.rx n).phase + 1) % 5 ∧ (t.rx n).remoteLane = (s.rx n).remoteLane ∧ (t.rx n).arrivalPs = c.atPs ∧
      (t.rx n).delivering = false ∧
      (n < 128 → (∀ k, k / 8 = n / 8 → k ≠ n → (s.rx k).lock ≠ .locked) → (t.rx n).skewPs = 0 ∧ (t.rx n).deskewPs = 64000) := by
  let f (y : RxLane) : RxLane := { y.enter (((s.rx n).phase + 1) % 5) with quiet := false }
  have hrx : (s.comma (.haul n) c).rx n = ((s.modRx n f).arrive (.haul n) c.atPs).rx n := (State.comma_locks (l := .haul n) hlock hgood).rx n
  obtain ⟨skew, deskew, raised, hself⟩ := State.arrive_self (l := .haul n) hlane f c.atPs
  refine ⟨_, exec_commaPeriod_kept hpass hmode (.inr (.inl (by rw [hlock]; exact LockState.noConfusion))), ?_⟩
  dsimp only
  rw [(State.refCheck_tells _).rx n]
  have hfields := hrx.trans hself
  refine ⟨by rw [hfields]; rfl, by rw [hfields]; rfl, by rw [hfields]; rfl, by rw [hfields], by rw [hfields]; rfl, fun hn halone => ?_⟩
  rw [hrx]
  refine State.arrive_own hn (by simpa using hlane) (by rw [State.rx_modRx hlane]; rfl) (fun k hk hne => ?_) c.atPs
  rw [State.rx_modRx_other s hne]
  exact halone k hk hne

theorem commaPeriod_present (hlock : (s.rx n).lock = .locked) (hwrong : CommaSeen.wrong c ≤ 8) : Gives (.commaPeriod (.haul n) c) s fun t =>
    (t.rx n).lock = .locked ∧ (t.rx n).remoteLane = (s.rx n).remoteLane ∧ (t.rx n).phase = ((s.rx n).phase + 1) % 5 ∧ (t.rx n).missRun = 0 ∧
      (t.rx n).arrivalPs = c.atPs ∧ (t.rx n).commaMissed = (s.rx n).commaMissed ∧ (t.rx n).lockLosses = (s.rx n).lockLosses ∧
      (CommaSeen.lane c ≠ (s.rx n).remoteLane ∨ CommaSeen.check c ≠ commaCheck (s.rx n).remoteLane (((s.rx n).phase + 1) % 5) →
        (t.rx n).commaBad = rcAdd 32 (s.rx n).commaBad 1) := by
  obtain ⟨skew, deskew, raised, hself⟩ := State.arrive_self (l := .haul n) hlane (fun y => y.present c) c.atPs
  have hrx : (s.comma (.haul n) c).rx n =
      { (s.rx n).present c with arrivalPs := c.atPs, skewPs := skew, deskewPs := deskew, skewRaised := raised } := by
    rw [State.comma_present (l := .haul n) hlock hwrong]
    exact hself
  refine ⟨_, exec_commaPeriod_kept hpass hmode (.inr (.inr (by rw [hrx]; exact hlock))), ?_⟩
  dsimp only
  rw [(State.refCheck_tells _).rx n, hrx]
  refine ⟨hlock, rfl, rfl, rfl, rfl, rfl, rfl, fun hbad => ?_⟩
  have hcounted : (CommaSeen.lane c != (s.rx n).remoteLane || CommaSeen.check c != commaCheck (s.rx n).remoteLane (((s.rx n).phase + 1) % 5)) = true := by
    simpa using hbad
  show rcAdd 32 (s.rx n).commaBad (nat01 (_ || _)) = _
  rw [hcounted]
  rfl

theorem commaPeriod_missing (hlock : (s.rx n).lock = .locked) (hwrong : 8 < CommaSeen.wrong c) (hrun : (s.rx n).missRun < 3) :
    Gives (.commaPeriod (.haul n) c) s fun t => (t.rx n).lock = .locked ∧ (t.rx n).missRun = (s.rx n).missRun + 1 ∧
      (t.rx n).commaMissed = rcAdd 32 (s.rx n).commaMissed 1 ∧ (t.rx n).phase = ((s.rx n).phase + 1) % 5 := by
  have hrx : (s.comma (.haul n) c).rx n = (s.rx n).missed := by
    rw [State.comma_missing (l := .haul n) hlock hwrong hrun]
    exact State.rx_modRx hlane _
  refine ⟨_, exec_commaPeriod_kept hpass hmode (.inr (.inr (by rw [hrx]; exact hlock))), ?_⟩
  dsimp only
  rw [(State.refCheck_tells _).rx n, hrx]
  exact ⟨hlock, rfl, rfl, rfl⟩

omit hpass hmode in
/-- The comma position at which a lane loses lock: it counts the loss, no other receiver changes, and what the spares carry stays, as far as a spare is concerned. -/
theorem State.comma_lost_haul (hlock : (s.rx n).lock = .locked) (hwrong : 8 < CommaSeen.wrong c) (hrun : (s.rx n).missRun = 3) :
    (s.comma (.haul n) c).rx n = (s.rx n).missed.lose ∧ (∀ k, k ≠ n → (s.comma (.haul n) c).rx k = s.rx k) ∧
      (s.comma (.haul n) c).clocks = s.clocks ∧ (128 ≤ n → (s.comma (.haul n) c).lanes.spareRx = s.lanes.spareRx) := by
  rw [State.comma_lost (l := .haul n) hlock hwrong hrun, State.modReceiver_haul]
  obtain ⟨hrx, hclocks, hspare⟩ := (s.modRx n RxLane.missed).loseLock_haul n
  refine ⟨?_, fun k hk => ?_, hclocks, hspare⟩
  · rw [State.rx_congr hrx, State.rx_modRx (by simpa using hlane), State.rx_modRx hlane]
  · rw [State.rx_congr hrx, State.rx_modRx_other _ hk, State.rx_modRx_other _ hk]

theorem commaPeriod_lost (hlock : (s.rx n).lock = .locked) (hwrong : 8 < CommaSeen.wrong c) (hrun : (s.rx n).missRun = 3) (hn : n < 128) :
    Gives (.commaPeriod (.haul n) c) s fun t => (t.rx n).lock = .search ∧ (t.rx n).lockLosses = rcAdd 32 (s.rx n).lockLosses 1 ∧
      (t.rx n).commaMissed = rcAdd 32 (s.rx n).commaMissed 1 ∧
      (s.clocks.dpll.haulRecLane = n → (s.rx n).carried = false → s.clocks.dpll.inputs.length = 6 → (t.refInput 5).qualified = false) := by
  obtain ⟨hrx, -, hclocks, -⟩ := State.comma_lost_haul hlane hlock hwrong hrun
  refine ⟨_, exec_commaPeriod_kept hpass hmode (.inl hn), ?_⟩
  dsimp only
  rw [(State.refCheck_tells _).rx n, hrx]
  refine ⟨rfl, rfl, rfl, fun hrec hcarried _ => State.refCheck_haulRec ?_⟩
  have hlaneRec : (s.comma (.haul n) c).haulRecLane = n := by
    unfold State.haulRecLane
    dsimp only
    rw [hclocks, hrec, hrx, if_neg]
    rw [show (s.rx n).missed.lose.carried = (s.rx n).carried from rfl, hcarried]
    exact Bool.false_ne_true
  rw [State.refPasses, hlaneRec, hrx]
  exact Bool.and_false _

theorem commaPeriod_spareLost (hlock : (s.rx n).lock = .locked) (hwrong : 8 < CommaSeen.wrong c) (hrun : (s.rx n).missRun = 3) (hn : 128 ≤ n)
    (hcarry : (s.spareRx (n - 128)).lane < 128) :
    Gives (.commaPeriod (.haul n) c) s fun t => (t.rx n).lock = .search ∧ (t.rx n).lockLosses = rcAdd 32 (s.rx n).lockLosses 1 ∧
      (t.rx n).commaMissed = rcAdd 32 (s.rx n).commaMissed 1 ∧
      (s.backServes (n - 128) → (t.rx (s.spareRx (n - 128)).lane).carried = false ∧ (t.rx (s.spareRx (n - 128)).lane).lock = .locked) ∧
      (¬ s.backServes (n - 128) → t.rx (s.spareRx (n - 128)).lane = s.rx (s.spareRx (n - 128)).lane ∧ t.spareRx (n - 128) = s.spareRx (n - 128)) := by
  obtain ⟨hrx, hothers, -, hspares⟩ := State.comma_lost_haul hlane hlock hwrong hrun
  have hspare : (s.comma (.haul n) c).spareRx (n - 128) = s.spareRx (n - 128) := congrArg (·.getD (n - 128) {}) (hspares hn)
  have hcarried := hothers (s.spareRx (n - 128)).lane (by omega)
  have hback : (s.comma (.haul n) c).backServes (n - 128) ↔ s.backServes (n - 128) := by rw [State.backServes, State.backServes, hspare, hcarried]
  refine ⟨_, exec_commaPeriod_spareLost hpass hmode hn hlock (by rw [hrx]; exact LockState.noConfusion), ?_⟩
  simp only [(State.refCheck_tells _).rx, (State.refCheck_tells _).spareRx]
  by_cases h : s.backServes (n - 128)
  · have hreturned := State.rx_congr (State.spareLost_of_backServes (hback.2 h))
    rw [hspare] at hreturned
    have hlocked : ((s.comma (.haul n) c).rx (s.spareRx (n - 128)).lane).lock = .locked := hcarried ▸ h.2.1
    rw [hreturned, State.rx_modRx_other _ (by omega), hrx, hreturned, State.rx_modRx (State.lt_of_locked hlocked)]
    exact ⟨rfl, rfl, rfl, fun _ => ⟨rfl, hlocked⟩, absurd h⟩
  · rw [State.spareLost_of_not_backServes (mt hback.1 h), hrx]
    exact ⟨rfl, rfl, rfl, fun hb => absurd hb h, fun _ => ⟨hcarried, hspare⟩⟩

end Haul

end Sys2Proof.Machine

/-! ## COMMA_PERIOD on the twin link, and what O40 states (R255 to R257, R260, R274, R291, R331, R471) -/

namespace Sys2Proof.Machine

section Twin

variable {s : State} {n : Nat} {c : CommaSeen}

/-- What follows a tested position of the twin link leaves the receiver, and which lanes are locked, as the comma does. -/
theorem State.linkChecks_twinRx (s : State) (n : Nat) : s.linkChecks.lanes.twinRx.getD n {} = s.receiver (.twin n) := s.linkChecks_tells.receiver (.twin n)

theorem State.linkChecks_testBit (s : State) {n : Nat} (hn : n < 4) : s.linkChecks.linkLanes.testBit n = decide ((s.receiver (.twin n)).lock = .locked) := by
  rw [s.linkChecks_tells.linkLanes, State.linkLanes_testBit _ hn]

variable (hlane : n < s.lanes.twinRx.length)
include hlane

theorem State.comma_locks_twin (hlock : (s.receiver (.twin n)).lock = .candidate 2) (hgood : (s.receiver (.twin n)).expects c) :
    ∃ y, (s.comma (.twin n) c).receiver (.twin n) = y ∧ y.lock = .locked ∧ y.phase = ((s.receiver (.twin n)).phase + 1) % 5 ∧ y.delivering = false := by
  obtain ⟨skew, deskew, raised, hself⟩ := State.arrive_self (l := .twin n) hlane
    (fun y => { y.enter (((s.receiver (.twin n)).phase + 1) % 5) with quiet := false }) c.atPs
  exact ⟨_, ((State.comma_locks hlock hgood).receiver (.twin n)).trans hself, rfl, rfl, rfl⟩

theorem State.comma_present_twin (hlock : (s.receiver (.twin n)).lock = .locked) (hwrong : CommaSeen.wrong c ≤ 8) :
    ∃ y, (s.comma (.twin n) c).receiver (.twin n) = y ∧ y.lock = .locked ∧ y.missRun = 0 ∧ y.phase = ((s.receiver (.twin n)).phase + 1) % 5 ∧
      y.commaMissed = (s.receiver (.twin n)).commaMissed := by
  obtain ⟨skew, deskew, raised, hself⟩ := State.arrive_self (l := .twin n) hlane (fun y => y.present c) c.atPs
  have hpresent := (congrArg (·.receiver (.twin n)) (State.comma_present hlock hwrong)).trans hself
  exact ⟨_, hpresent, hlock, rfl, rfl, rfl⟩

variable (hlock : (s.receiver (.twin n)).lock = .locked) (hwrong : 8 < CommaSeen.wrong c) (hrun : (s.receiver (.twin n)).missRun = 3)
include hlock hwrong hrun

theorem State.comma_lost_twin : (s.comma (.twin n) c).receiver (.twin n) = (s.receiver (.twin n)).missed.lose := by
  rw [State.comma_lost hlock hwrong hrun]
  exact ((State.linkReport_tells ..).receiver _).trans ((State.receiver_modReceiver (by simpa [State.hasReceiver, State.modReceiver] using hlane) _).trans
    (congrArg RxLane.lose (State.receiver_modReceiver (l := .twin n) hlane _)))

/-- The loss of a lane of the link is in the cellar log: TWIN_LINK_DOWN for the last of them, TWIN_LINK_DEGRADED for another (R331). -/
theorem State.comma_lost_reported (hn : n < 4) (htakes : s.LogTakes) :
    ∃ e : LogEntry, e.code = (if (s.comma (.twin n) c).linkLanes = 0 then 0x0509 else 0x0508) ∧ (s.comma (.twin n) c).KeepsEntry e 2 := by
  let u := (s.modReceiver (.twin n) RxLane.missed).modReceiver (.twin n) RxLane.lose
  let before := (s.modReceiver (.twin n) RxLane.missed).linkLanes
  have hcomma : s.comma (.twin n) c = u.linkReport before := State.comma_lost hlock hwrong hrun
  have hlinks : (s.comma (.twin n) c).linkLanes = u.linkLanes := by rw [hcomma, (u.linkReport_tells before).linkLanes]
  have hout : u.linkLanes.testBit n = false := by
    rw [← hlinks, State.linkLanes_testBit _ hn, State.comma_lost_twin hlane hlock hwrong hrun]
    rfl
  have hin : before.testBit n = true := by
    rw [State.linkLanes_testBit _ hn, State.receiver_modReceiver (l := .twin n) hlane]
    exact decide_eq_true hlock
  have hchanged : ¬ (u.linkLanes = before ∨ u.linkLanes = 15) := by
    rintro (heq | heq)
    · rw [heq, hin] at hout
      cases hout
    · rw [heq] at hout
      interval_cases n <;> revert hout <;> decide
  have hu : u.LogTakes := ⟨htakes.live, (State.holdOk_congr (State.measured_congr rfl) .log).trans htakes.power, htakes.media⟩
  rw [hlinks, hcomma, State.linkReport, if_neg hchanged]
  split
  · exact State.KeepsEntry.of_raise hu ..
  · exact State.KeepsEntry.of_raise hu ..

end Twin

/-- Settles O40: every branch of the comma test is carried through what follows it, which changes no receiver. A lane that loses lock fails HAUL_REC's test, and the
event of a twin-link loss is the log's next entry, which what follows does not overwrite. -/
theorem commaSearchAndLock : Obligations.CommaSearchAndLock := by
  unfold Obligations.CommaSearchAndLock
  constructor
  · intro s n c hlane hpass
    refine ⟨fun hmode => by rw [exec_commaPeriod_haul, State.haulPosition_dormant hmode], fun hmode => ?_⟩
    intro x next good
    have hkept (t : State) (hlock : (s.rx n).lock ≠ .locked) (ht : s.comma (.haul n) c = t) : exec (.commaPeriod (.haul n) c) s = .next t.refCheck :=
      ht ▸ exec_commaPeriod_kept hpass hmode (.inr (.inl hlock))
    refine ⟨fun k hlock hpattern hphase => hkept _ (hlock ▸ LockState.noConfusion) (State.comma_found (l := .haul n) hlock hpattern hphase),
      fun hlock hnone => ?_, fun k hlock hk hgood => ?_, fun hlock hgood => ?_, fun k hlock hbad => ?_, fun hlock hwrong => ?_,
      fun hlock hwrong hrun => ?_, fun hlock hwrong hrun hn => ?_, fun hlock hwrong hrun hn hcarry => ?_⟩
    · exact hkept _ (hlock ▸ LockState.noConfusion) (State.comma_notFound (l := .haul n) hlock hnone)
    · exact hkept _ (hlock ▸ LockState.noConfusion) (State.comma_passes (l := .haul n) hlock hk hgood)
    · exact commaPeriod_locks hlane hpass hmode hlock hgood
    · refine ⟨_, hkept _ (hlock ▸ LockState.noConfusion) (State.comma_fails (l := .haul n) hlock hbad), ?_⟩
      dsimp only
      rw [(State.refCheck_tells _).rx n, State.modReceiver_haul, State.rx_modRx hlane]
      rfl
    · exact commaPeriod_present hlane hpass hmode hlock hwrong
    · exact commaPeriod_missing hlane hpass hmode hlock hwrong hrun
    · exact commaPeriod_lost hlane hpass hmode hlock hwrong hrun hn
    · exact commaPeriod_spareLost hlane hpass hmode hlock hwrong hrun hn hcarry
  · intro s n c hn hlane x next good gives
    refine ⟨exec_commaPeriod_twinHeld, fun hwide hpass hmode => ?_⟩
    have hgives (p : RxLane → State → Prop) {y : RxLane} (hy : (s.comma (.twin n) c).receiver (.twin n) = y) (hp : p y (s.comma (.twin n) c).linkChecks) :
        gives p := by
      refine ⟨_, exec_commaPeriod_twin hwide hpass hmode, ?_⟩
      dsimp only
      rwa [State.linkChecks_twinRx, hy]
    clear_value gives
    have hchanged {f : RxLane → RxLane} (h : s.comma (.twin n) c = s.modReceiver (.twin n) f) : (s.comma (.twin n) c).receiver (.twin n) = f x :=
      h ▸ State.receiver_modReceiver (l := .twin n) hlane f
    refine ⟨fun k hlock hpattern hphase => ?_, fun hlock hnone => ?_, fun k hlock hk hgood => ?_, fun hlock hgood => ?_, fun k hlock hbad => ?_,
      fun hlock hwrong => ?_, fun hlock hwrong hrun => ?_, fun hlock hwrong hrun => ?_⟩
    · exact hgives _ (hchanged (State.comma_found (l := .twin n) hlock hpattern hphase)) ⟨rfl, rfl, rfl⟩
    · exact hgives _ (congrArg (·.receiver (.twin n)) (State.comma_notFound (l := .twin n) hlock hnone)) rfl
    · exact hgives _ (hchanged (State.comma_passes (l := .twin n) hlock hk hgood)) ⟨rfl, rfl⟩
    · obtain ⟨y, hy, hlocked, hphase, hdelivering⟩ := State.comma_locks_twin hlane hlock hgood
      refine hgives _ hy ⟨hlocked, hphase, hdelivering, ?_⟩
      rw [State.linkChecks_testBit _ hn, hy]
      exact decide_eq_true hlocked
    · exact hgives _ (hchanged (State.comma_fails (l := .twin n) hlock hbad)) rfl
    · obtain ⟨y, hy, hpresent⟩ := State.comma_present_twin hlane hlock hwrong
      exact hgives _ hy hpresent
    · exact hgives _ (hchanged (State.comma_missing (l := .twin n) hlock hwrong hrun)) ⟨hlock, rfl, rfl⟩
    · have hy := State.comma_lost_twin hlane hlock hwrong hrun
      refine hgives _ hy ⟨rfl, rfl, rfl, ?_, fun hlive hpower hmedia => ?_⟩
      · rw [State.linkChecks_testBit _ hn, hy]
        rfl
      · obtain ⟨e, hcode, hkeeps⟩ := State.comma_lost_reported hlane hlock hwrong hrun hn ⟨hlive, hpower, hmedia⟩
        rw [(State.linkChecks_tells _).linkLanes]
        exact ⟨_, (hkeeps.linkChecks (by omega)).holds.slot, hcode⟩

end Sys2Proof.Machine

/-! ## Status reads (R13, R324, R356, R462, R465, R501, R502) -/

namespace Sys2Proof.Machine

/-- A read of class R without arguments completes with what its meaning answers (R374, R393). -/
theorem Completes.of_statusRead {i : Instr} {s u : State} {o : Origin} {op : Nat} {cmd : Cmd} {r : List Byte}
    (he : exec i s = .next (s.row o op [] (fixedLen 0) cmd)) (h : Served s o) (hop : classOf op = some .r) (hstandby : standbyRefuses op [] = false)
    (hj : journalled op [] = false) (hc : cmd o [] (s.taken o op []) = .done .ok 0 r u) (hm : u.mail = (s.taken o op []).mail) :
    Completes i s o.mailbox .ok r u :=
  Completes.of_read he h rfl (Nat.zero_le _) hop hstandby hj hc hm

/-- A flag fits a byte. -/
theorem nat01_lt (b : Bool) : nat01 b < 256 := by cases b <;> decide

/-- What CLOCK_STATUS shows of the output's rate uses at most a free value. -/
theorem State.freqOffset_free (s : State) : ∃ n, s.freqOffset.2 = { s with free := n } := by
  unfold State.freqOffset
  dsimp only
  split
  · split
    · exact ⟨s.free, rfl⟩
    · exact ⟨s.free + 1, rfl⟩
  · exact ⟨s.free, rfl⟩

section
variable {s : State} {o : Origin}

theorem clockStatus_completes (h : Served s o) :
    ∃ reply u, reply.length = 56 ∧ field reply 0 1 = s.clocks.dpll.state.code ∧ u.clocks.dpll.switches = 0 ∧ u.clocks.dpll.jumpsRefused = 0 ∧
      u.clocks.time = s.clocks.time ∧ u.twin = s.twin ∧ Completes (.clockStatus o []) s o.mailbox .ok reply u := by
  let t := (s.taken o 0x0507 []).stampFrac.2
  obtain ⟨n, hn⟩ := t.freqOffset_free
  refine ⟨_, t.freqOffset.2.modDpll fun d => { d with switches := 0, jumpsRefused := 0 }, ?_, ?_, ?_, ?_, ?_, ?_,
    Completes.of_statusRead (op := 0x0507) (cmd := cmdClockStatus) rfl h rfl rfl rfl rfl ?_⟩
  · simp only [List.length_append, leBytes_length, leInt_length]
  · simp only [List.append_assoc, field_leBytes_append, State.taken_clocks]
    cases s.clocks.dpll.state <;> rfl
  · rfl
  · rfl
  · show t.freqOffset.2.clocks.time = s.clocks.time
    rw [hn]
    exact congrArg Clocks.time (s.taken_clocks o 0x0507 [])
  · rw [hn]
    exact s.taken_twin ..
  · rw [hn]
    rfl

theorem twinStatus_completes (h : Served s o) :
    ∃ reply, reply.length = 56 ∧ field reply 8 4 = s.twin.claim % 2 ^ 32 ∧ field reply 24 4 = s.twin.digestMismatches % 2 ^ 32 ∧
      field reply 32 4 = s.twin.hbMissed % 2 ^ 32 ∧ field reply 36 4 = s.twin.takeovers % 2 ^ 32 ∧
      Completes (.twinStatus o []) s o.mailbox .ok reply ((s.taken o 0x0603 []).modTwin fun t =>
        { t with digestMismatches := 0, copiesLate := 0, hbMissed := 0, takeovers := 0, repairsServed := 0, repairsRefused := 0 }) := by
  refine ⟨_, ?_, ?_, ?_, ?_, ?_, Completes.of_statusRead (op := 0x0603) (cmd := cmdTwinStatus) rfl h rfl rfl rfl rfl rfl⟩
  · simp only [List.length_append, leBytes_length]
  all_goals simp [List.append_assoc, field_append_right, field_leBytes_append]

theorem healthStatus_completes (h : Served s o) :
    let t := s.taken o 0x0804 []
    ∃ reply, reply.length = 52 ∧ field reply 24 1 = nat01 s.health.alarm ∧ field reply 28 4 = s.health.log.badSlots % 2 ^ 32 ∧
      field reply 32 8 = s.health.log.nextSeq % 2 ^ 64 ∧
      Completes (.healthStatus o []) s o.mailbox .ok reply
        { t with health := { t.health with log := { t.health.log with badSlots := 0 }, overrides := 0, reconciles := 0 } } := by
  have htemps (f : Nat → Int) : ((List.range 8).flatMap fun d => leInt 2 (f d)).length = 16 :=
    length_flatMap_of_length_eq (fun _ => leInt_length 2 _) _
  have hlevels (f : Nat → Nat) : ((List.range 8).flatMap fun d => leBytes 1 (f d)).length = 8 :=
    length_flatMap_of_length_eq (fun _ => leBytes_length 1 _) _
  refine ⟨_, ?_, ?_, ?_, ?_, Completes.of_statusRead (op := 0x0804) (cmd := cmdHealthStatus) rfl h rfl rfl rfl rfl rfl⟩
  · simp only [List.length_append, leBytes_length, htemps, hlevels]
  · simp [List.append_assoc, field_append_right, field_leBytes_append, htemps, hlevels, -List.length_flatMap, nat01_lt]
  all_goals simp [List.append_assoc, field_append_right, field_leBytes_append, htemps, hlevels, -List.length_flatMap]

theorem holdupStatus_completes (h : Served s o) :
    let t := s.taken o 0x080A []
    ∃ reply, reply.length = 28 ∧ field reply 0 4 = s.health.holdupMv % 2 ^ 32 ∧ field reply 24 4 = s.health.episodes % 2 ^ 32 ∧
      Completes (.holdupStatus o []) s o.mailbox .ok reply { t with health := { t.health with episodes := 0 } } := by
  refine ⟨_, ?_, ?_, ?_, Completes.of_statusRead (op := 0x080A) (cmd := cmdHoldupStatus) rfl h rfl rfl rfl rfl rfl⟩
  · simp only [List.length_append, leBytes_length, leInt_length]
  · simp [List.append_assoc, field_leBytes_append]
  · simp [List.append_assoc, field_append_right, field_leBytes]

theorem crateStatus_completes (h : Served s o) :
    ∃ reply, reply.length = 36 ∧ field reply 0 1 = s.ident.nodeId % 256 ∧ field reply 1 1 = nat01 s.crate.alone ∧
      field reply 12 4 = s.crate.framesTx % 2 ^ 32 ∧ field reply 20 4 = s.crate.crcErrors % 2 ^ 32 ∧
      Completes (.crateStatus o []) s o.mailbox .ok reply ((s.taken o 0x0903 []).modCrate fun c =>
        { c with framesTx := 0, framesRx := 0, crcErrors := 0, retries := 0, aloneEntries := 0, sleepAborts := 0 }) := by
  refine ⟨_, ?_, ?_, ?_, ?_, ?_, Completes.of_statusRead (op := 0x0903) (cmd := cmdCrateStatus) rfl h rfl rfl rfl rfl rfl⟩
  · simp only [List.length_append, leBytes_length]
  all_goals simp [List.append_assoc, field_append_right, field_leBytes_append, nat01_lt]

theorem sensorRead_completes (h : Served s o) :
    let t := s.taken o 0x0904 []
    ∃ reply, reply.length = 14 ∧ field reply 4 2 = s.power.floorMv % 65536 ∧ field reply 6 2 = s.power.requestMv % 65536 ∧
      field reply 10 2 = s.power.pwrFault.toNat ∧ field reply 12 1 = nat01 s.power.thermTrip ∧ field reply 13 1 = 0 ∧
      Completes (.sensorRead o []) s o.mailbox .ok reply { t with free := t.free + 3 } := by
  have hfault : s.power.pwrFault.toNat < 65536 := s.power.pwrFault.isLt.trans (by decide)
  refine ⟨_, ?_, ?_, ?_, ?_, ?_, ?_, Completes.of_statusRead (op := 0x0904) (cmd := cmdSensorRead) rfl h rfl rfl rfl rfl rfl⟩
  · simp only [List.length_append, leBytes_length]
  all_goals simp [List.append_assoc, field_append_right, field_leBytes_append, field_leBytes, nat01_lt, hfault]

end

/-- Settles O11: a status read makes no tests, so it completes with the reply of its table. -/
theorem statusReadsComplete : Obligations.StatusReadsComplete := fun _ _ h =>
  ⟨clockStatus_completes h, twinStatus_completes h, healthStatus_completes h, holdupStatus_completes h, crateStatus_completes h, sensorRead_completes h⟩

end Sys2Proof.Machine

/-! ## What events leave of the calendar: all but the fallback ring (R315, R443 to R447) -/

namespace Sys2Proof.Machine

/-- The calendar domain without its backup SRAM, where the fallback ring lies (R445). -/
def State.dial (s : State) : Calendar := { s.cal with backup := [] }

theorem State.dial_congr {s t : State} (h : t.cal = s.cal) : t.dial = s.dial := by rw [State.dial, h, State.dial]

theorem foldl_dial {α : Type} {f : State → α → State} (h : ∀ s a, (f s a).dial = s.dial) (l : List α) (s : State) : (l.foldl f s).dial = s.dial :=
  List.foldlRecOn (motive := fun u : State => u.dial = s.dial) l f rfl fun u hu a _ => (h u a).trans hu

/-! ### Delivery (R382, R383, R441) -/

@[simp] theorem State.setCause_dial (s : State) (c : Nat) : (s.setCause c).dial = s.dial := State.dial_congr (s.setCause_cal c)

@[simp] theorem State.emit_dial (s : State) (o : OutItem) : (s.emit o).dial = s.dial := rfl

@[simp] theorem State.setHolding_dial (s : State) (l : List Nat) : (s.setHolding l).dial = s.dial := State.dial_congr (s.setHolding_cal l)

@[simp] theorem State.latch_dial (s : State) (code : Nat) : (s.latch code).dial = s.dial := by
  have hcause (u : State) (p : Prop) [Decidable p] (c : Nat) : (if p then u.setCause c else u).dial = u.dial := by
    split
    · exact u.setCause_dial c
    · rfl
  unfold State.latch
  dsimp only
  rw [hcause, hcause]
  split <;> rfl

@[simp] theorem State.sendEventDatagrams_dial (s : State) (es : List EventEntry) : (s.sendEventDatagrams es).dial = s.dial :=
  foldl_dial (fun u _ => foldl_dial (fun v _ => v.emit_dial _) es u) _ s

@[simp] theorem State.sendSyslog_dial (s : State) (e : LogEntry) : (s.sendSyslog e).dial = s.dial := by
  unfold State.sendSyslog
  split <;> rfl

@[simp] theorem State.deliverPlain_dial (s : State) (e : LogEntry) (always : Bool) : (s.deliverPlain e always).dial = s.dial := by
  unfold State.deliverPlain
  dsimp only
  rw [State.sendSyslog_dial]
  split
  · rw [State.setHolding_dial, State.sendEventDatagrams_dial]
    exact s.latch_dial e.code
  · exact s.latch_dial e.code

/-! ### Writing, deferring and reporting (R443, R444, R447, R449) -/

@[simp] theorem State.logPut_dial (s : State) (e : LogEntry) : (s.logPut e).dial = s.dial := by
  unfold State.logPut State.tail
  split <;> rfl

@[simp] theorem State.logPlain_dial (s : State) (e : LogEntry) : (s.logPlain e).dial = s.dial := by
  unfold State.logPlain
  split
  · rfl
  · split
    · split
      · rfl
      · exact s.logPut_dial e
    · split <;> rfl

section
variable {push : State → LogEntry → State} (hpush : ∀ s e, (push s e).dial = s.dial)
include hpush

theorem State.mediaFail_dial (s : State) (seq : Nat) (dead : Bool) : (s.mediaFail push seq dead).dial = s.dial := hpush _ _

theorem State.badSlot_dial (s : State) (e : LogEntry) : (s.badSlot push e).dial = s.dial := by
  unfold State.badSlot
  dsimp only
  split
  · exact (State.mediaFail_dial hpush _ _ _).trans (s.mediaFail_dial hpush _ _)
  · exact s.mediaFail_dial hpush _ _

end

@[simp] theorem State.overflowMark_dial (s : State) (m : LogEntry) : (s.overflowMark m).dial = s.dial := by
  have hmarked : ((s.logPlain m).deliverPlain m true).dial = s.dial := (State.deliverPlain_dial ..).trans (s.logPlain_dial m)
  unfold State.overflowMark
  dsimp only
  split
  · exact (State.badSlot_dial (fun u e => u.deliverPlain_dial e false) _ m).trans hmarked
  · exact hmarked

@[simp] theorem State.deliver_dial (s : State) (e : LogEntry) : (s.deliver e).dial = s.dial := by
  unfold State.deliver
  split
  · exact (State.deliverPlain_dial ..).trans (State.overflowMark_dial ..)
  · exact s.deliverPlain_dial e false

@[simp] theorem State.logStore_dial (s : State) (e : LogEntry) : (s.logStore e).dial = s.dial := by
  unfold State.logStore
  split
  · exact (State.badSlot_dial State.deliver_dial _ e).trans (s.logPlain_dial e)
  · exact s.logPlain_dial e

@[simp] theorem State.deferEpisode_dial (s : State) (op : HoldOp) : (s.deferEpisode op).dial = s.dial := by
  unfold State.deferEpisode
  split
  · rfl
  · exact (State.deliver_dial ..).trans (State.logStore_dial ..)

@[simp] theorem State.logWrite_dial (s : State) (e : LogEntry) : (s.logWrite e).dial = s.dial := by
  unfold State.logWrite
  split
  · rfl
  · split
    · exact (State.deferEpisode_dial ..).trans (s.logPlain_dial e)
    · exact s.endEpisode.logStore_dial e

@[simp] theorem State.raiseOne_dial (s : State) (code die : Nat) (detail : List Byte) : (s.raiseOne code die detail).dial = s.dial := by
  have hdelivered : (((s.newEntry code die detail).2.logWrite (s.newEntry code die detail).1).deliver (s.newEntry code die detail).1).dial = s.dial :=
    (State.deliver_dial ..).trans (State.logWrite_dial ..)
  unfold State.raiseOne
  dsimp only
  split <;> exact hdelivered

/-! ### The unit record (R434, R437) -/

@[simp] theorem State.storeNor_dial (s : State) : s.storeNor.dial = s.dial := by
  have hdeath (u : State) : (u.noteDeath s).dial = u.dial := by
    unfold State.noteDeath
    split <;> rfl
  unfold State.storeNor
  split
  · rfl
  · exact (hdeath _).trans (State.deferEpisode_dial _ .page)

@[simp] theorem State.reconcile_dial (s : State) : s.reconcile.dial = s.dial := by
  have hrecord (u : State) (x : UnitRecord) : (u.record x).dial = u.dial := by
    unfold State.record
    dsimp only
    split
    · rfl
    · exact State.raiseOne_dial ..
  unfold State.reconcile
  split
  · rfl
  · exact (State.storeNor_dial _).trans (foldl_dial hrecord _ _)

/-- An event leaves the calendar's registers as they were. -/
@[simp] theorem State.raise_dial (s : State) (code die : Nat) (detail : List Byte) : (s.raise code die detail).dial = s.dial := by
  unfold State.raise
  dsimp only
  split
  · unfold State.evident
    dsimp only
    split
    · exact (State.reconcile_dial _).trans (s.raiseOne_dial ..)
    · exact s.raiseOne_dial ..
  · exact s.raiseOne_dial ..

@[simp] theorem State.raiseCal_dial (s : State) (code : Nat) (detail : List Byte) : (s.raiseCal code detail).dial = s.dial := by
  unfold State.raiseCal
  split
  · exact s.raise_dial ..
  · rfl

@[simp] theorem State.raiseCal_clocks (s : State) (code : Nat) (detail : List Byte) : (s.raiseCal code detail).clocks = s.clocks := by
  unfold State.raiseCal
  split
  · exact s.raise_clocks ..
  · rfl

@[simp] theorem State.raiseCal_power (s : State) (code : Nat) (detail : List Byte) : (s.raiseCal code detail).power = s.power := by
  unfold State.raiseCal
  split
  · exact s.raise_power ..
  · rfl

end Sys2Proof.Machine

/-! ## The calendar domain (R305, R312 to R315) -/

namespace Sys2Proof.Machine

/-! ### The count (R312 to R314) -/

/-- The second has come at which an armed leap is done (R314). -/
def Calendar.leaps (c : Calendar) (n : Nat) : Prop := c.leapArm = true ∧ c.leap ≤ n

theorem Calendar.not_leaps {c : Calendar} {n : Nat} (h : c.leapArm = false ∨ n < c.leap) : ¬ c.leaps n := by
  rintro ⟨harm, hleap⟩
  rcases h with h | h
  · exact Bool.false_ne_true (h.symm.trans harm)
  · omega

theorem State.calCount_plain {s : State} {n : Nat} (h : ¬ s.cal.leaps n) : s.calCount n = s.modCal fun c => { c with count := n } := if_neg h

/-- An armed leap that the count reaches is done. -/
theorem State.calCount_leap {s : State} {n : Nat} (h : s.cal.leaps n) :
    (s.calCount n).dial = { s.dial with count := n, utcOffset := s.cal.utcNext, leapArm := false, leapDone := true } := by
  obtain ⟨harm, hleap⟩ := h
  unfold State.calCount
  dsimp only
  rw [if_pos ⟨harm, hleap⟩]
  exact State.raiseCal_dial ..

/-- The count takes its new value, whether a leap is done or not. -/
theorem State.calCount_count (s : State) (n : Nat) : (s.calCount n).cal.count = n := by
  by_cases h : s.cal.leaps n
  · exact congrArg Calendar.count (State.calCount_leap h)
  · rw [State.calCount_plain h]
    rfl

/-- Counting leaves the clocks but for what PTP last announced, which may be of before a leap. -/
theorem State.calCount_clocks (s : State) (n : Nat) : ∃ b, (s.calCount n).clocks = { s.clocks with ptp := { s.clocks.ptp with leapPassed := b } } := by
  unfold State.calCount
  dsimp only
  split
  · exact ⟨true, State.raiseCal_clocks ..⟩
  · exact ⟨s.clocks.ptp.leapPassed, rfl⟩

@[simp] theorem State.calCount_power (s : State) (n : Nat) : (s.calCount n).power = s.power := by
  unfold State.calCount
  dsimp only
  split
  · exact State.raiseCal_power ..
  · rfl

/-- The first second edge after reset, at which log time starts (R305). -/
def State.startLog (s : State) : State :=
  { s with clocks := { s.clocks with log := { s.clocks.log with started := true, sec := s.cal.count, ns := 0, frac := 0 } } }

theorem exec_calendarSecond (s : State) : exec .calendarSecond s =
    let s1 := s.calCount ((s.cal.count + 1) % 2 ^ 48)
    .next (if s1.clocks.log.started || !s1.coresRun then s1 else s1.startLog) := rfl

theorem calendarSecond_gives (s : State) :
    let n := (s.cal.count + 1) % 2 ^ 48
    Gives .calendarSecond s fun t => t.cal.count = n ∧
      (s.cal.leapArm = true → s.cal.leap ≤ n → t.cal.utcOffset = s.cal.utcNext ∧ t.cal.leapArm = false ∧ t.cal.leapDone = true) ∧
      (s.cal.leapArm = false ∨ n < s.cal.leap → t.cal = { s.cal with count := n }) ∧
      (s.clocks.log.started = false → s.coresRun = true → t.clocks.log.started = true ∧ t.clocks.log.sec = n ∧ t.clocks.log.ns = 0) := by
  intro n
  have hcal (u : State) : (if u.clocks.log.started || !u.coresRun then u else u.startLog).cal = u.cal := by split <;> rfl
  obtain ⟨b, hclocks⟩ := s.calCount_clocks n
  refine ⟨_, exec_calendarSecond s, ?_⟩
  dsimp only
  rw [hcal]
  refine ⟨s.calCount_count n, fun harm hleap => ?_, fun h => ?_, fun hlog hcores => ?_⟩
  · have hdone := State.calCount_leap ⟨harm, hleap⟩
    exact ⟨congrArg Calendar.utcOffset hdone, congrArg Calendar.leapArm hdone, congrArg Calendar.leapDone hdone⟩
  · exact congrArg State.cal (State.calCount_plain (Calendar.not_leaps h))
  · have hstarted : (s.calCount n).clocks.log.started = false := by rw [hclocks]; exact hlog
    have hruns : (s.calCount n).coresRun = true := by
      rw [State.coresRun, State.clocksRun, State.calCount_power]
      exact hcores
    rw [hstarted, hruns]
    exact ⟨rfl, s.calCount_count n, rfl⟩

/-! ### Reads and measurements (R315) -/

theorem calSecLoRead_gives (s : State) : Gives .calSecLoRead s fun t =>
    t.out = .readValue 0x50000 (BitVec.ofNat 32 s.cal.count) :: s.out ∧ t.cal.count = s.cal.count ∧
      t.cal.latchHi = BitVec.ofNat 32 (s.cal.count / 2 ^ 32) ∧ (s.cal.set = false → t.cal.latchDate = 0 ∧ t.cal.latchTime = 0) ∧
      (∀ a b, s.cal.fields = some (a, b) → t.cal.latchDate = BitVec.ofNat 32 a ∧ t.cal.latchTime = BitVec.ofNat 32 b) := by
  have hunset (h : s.cal.set = false) : s.cal.fields = some (0, 0) := by
    unfold Calendar.fields
    rw [h]
    rfl
  refine ⟨_, rfl, ?_⟩
  dsimp only
  cases hfields : s.cal.fields with
  | none =>
    refine ⟨rfl, rfl, rfl, fun h => ?_, fun a b h => ?_⟩
    · cases (hunset h).symm.trans hfields
    · cases h
  | some f =>
    refine ⟨rfl, rfl, rfl, fun h => ?_, fun a b h => ?_⟩
    · obtain rfl := Option.some.inj ((hunset h).symm.trans hfields)
      exact ⟨rfl, rfl⟩
    · cases h
      exact ⟨rfl, rfl⟩

theorem vbatMeasure_gives {s : State} (h : s.cal.fromVbat = false) (mv : Nat) : Gives (.vbatMeasure mv) s fun t =>
    t.cal.vbatLevel = min (mv / 20) 255 ∧ (t.cal.vbatLow = true ↔ mv < 2000) ∧ t.cal.count = s.cal.count := by
  let u : State := s.modCal fun c => { c with vbatLevel := min (mv / 20) 255, vbatLow := decide (mv < 2000) }
  have hexec : exec (.vbatMeasure mv) s = .next (if mv < 2000 ∧ !s.cal.vbatLow then u.raiseCal 0x040D (leBytes 1 (min (mv / 20) 255)) else u) := by
    show execVbatMeasure mv s = _
    rw [execVbatMeasure, h]
    rfl
  refine ⟨_, hexec, ?_⟩
  have hdial : State.dial (if mv < 2000 ∧ !s.cal.vbatLow then u.raiseCal 0x040D (leBytes 1 (min (mv / 20) 255)) else u) = u.dial := by
    split
    · exact u.raiseCal_dial ..
    · rfl
  refine ⟨congrArg Calendar.vbatLevel hdial, ?_, (congrArg Calendar.count hdial :)⟩
  exact (Bool.eq_iff_iff.1 (congrArg Calendar.vbatLow hdial)).trans decide_eq_true_iff

/-- Settles O51: the count and the bits are each one change of the calendar, and an event that reports it touches the fallback ring alone. -/
theorem calendarRuns : Obligations.CalendarRuns := by
  intro s v mv
  refine ⟨rfl, fun hload => ?_, calSecLoRead_gives s, calendarSecond_gives s, fun h => vbatMeasure_gives h mv, rfl, rfl, rfl,
    ⟨_, rfl, rfl, rfl, rfl, ?_, rfl, rfl, rfl, rfl⟩⟩
  · show execCalLoadDone s = _
    rw [execCalLoadDone, hload]
    rfl
  · simp

end Sys2Proof.Machine

/-! ## Pulse outputs and the data-path second (R292, R297, R310, R313, R323) -/

namespace Sys2Proof.Machine

/-! ### Data-path time moves on (R300, log 6) -/

theorem State.timeNs_congr {s t : State} (h : t.clocks.time = s.clocks.time) : t.timeNs = s.timeNs := by rw [State.timeNs, h, State.timeNs]

/-- SEC has 48 bits. -/
theorem State.timeNs_setTimeNs (s : State) (ns : Nat) : (s.setTimeNs ns).timeNs = ns % (2 ^ 48 * nsPerSec) := by
  show ns / nsPerSec % 2 ^ 48 * nsPerSec + ns % nsPerSec = _
  rw [Nat.mul_comm (2 ^ 48), Nat.mod_mul, Nat.add_comm, Nat.mul_comm]

/-- What leaves on the twin link takes nothing of the clocks. -/
theorem State.drainLines_clocks (s : State) : s.drainLines.clocks = s.clocks := by
  unfold State.drainLines
  refine List.foldlRecOn (motive := fun u : State => u.clocks = s.clocks) _ _ rfl fun u hu f _ => ?_
  split <;> exact hu

/-- Advancing changes data-path time alone of the clocks. -/
theorem State.advanceTo_clocks (s : State) (ns : Nat) : ∃ x, (s.advanceTo ns).clocks = { s.clocks with time := x } := by
  unfold State.advanceTo
  split
  · exact ⟨_, State.drainLines_clocks _⟩
  · exact ⟨s.clocks.time, rfl⟩

/-- Time moves forward, and never back. -/
theorem State.timeNs_advanceTo (s : State) {ns : Nat} (h : ns < 2 ^ 48 * nsPerSec) : (s.advanceTo ns).timeNs = max s.timeNs ns := by
  unfold State.advanceTo
  split
  next hlt =>
    rw [State.timeNs_congr (congrArg Clocks.time (State.drainLines_clocks _)), State.timeNs_setTimeNs, Nat.mod_eq_of_lt h, Nat.max_eq_right hlt.le]
  next hge => rw [Nat.max_eq_left (Nat.not_lt.1 hge)]

/-! ### TICK_START (R310) -/

/-- Data-path time at the rise of TICK_OUT (R310). -/
def State.toTick (s : State) (ns : Nat) : State := (s.advanceTo ns).refreshPipes

theorem State.toTick_keeps (s : State) (ns : Nat) : (s.toTick ns).clocks.pulses = s.clocks.pulses ∧ (s.toTick ns).clocks.dpll = s.clocks.dpll ∧
    (ns < 2 ^ 48 * nsPerSec → (s.toTick ns).timeNs = max s.timeNs ns) := by
  obtain ⟨x, hclocks⟩ := s.advanceTo_clocks ns
  have hkept : (s.toTick ns).clocks = (s.advanceTo ns).clocks := State.refreshPipes_clocks _
  refine ⟨by rw [hkept, hclocks], by rw [hkept, hclocks], fun h => ?_⟩
  rw [State.timeNs_congr (congrArg Clocks.time hkept), s.timeNs_advanceTo h]

/-- TICK_OUT rises where the configuration `p` enables it. -/
def State.tickRises (s : State) (p : Pulses) : State := if p.driven && p.cfg.tickEn then s.modPulses fun p => { p with tickOut := .high } else s

theorem State.tickRises_pulses (s : State) (p : Pulses) : (s.tickRises p).clocks.pulses =
    if p.driven && p.cfg.tickEn then { s.clocks.pulses with tickOut := .high } else s.clocks.pulses := by
  unfold State.tickRises
  split <;> rfl

theorem State.tickRises_rest (s : State) (p : Pulses) :
    (s.tickRises p).clocks.dpll = s.clocks.dpll ∧ (s.tickRises p).clocks.time = s.clocks.time := by
  unfold State.tickRises
  split <;> exact ⟨rfl, rfl⟩

/-- The instant stands as a variable, so that no proof evaluates it. -/
theorem exec_tickStart {s : State} (hruns : s.clocksRun = true) {n ns : Nat} {c : TickCfg} (hc : s.cfg.tick = some c) (hvalid : s.clocks.time.valid = true)
    (hns : ((c.startNs n : Int) + s.clocks.pulses.cfg.tickOffsetNs).toNat = ns) :
    exec (.tickStart n) s = .next ((s.toTick ns).tickRises s.clocks.pulses) := by
  show execTickStart n s = _
  simp only [execTickStart, hc, hvalid, hruns, hns, Bool.and_self, if_true]
  rfl

theorem tickStart_gives {s : State} (hruns : s.clocksRun = true) {n ns : Nat} {c : TickCfg} (hc : s.cfg.tick = some c) (hvalid : s.clocks.time.valid = true)
    (hns : ((c.startNs n : Int) + s.clocks.pulses.cfg.tickOffsetNs).toNat = ns) :
    let p := s.clocks.pulses
    Gives (.tickStart n) s fun t => t.clocks.pulses = (if p.driven && p.cfg.tickEn then { p with tickOut := .high } else p) ∧
      t.clocks.dpll = s.clocks.dpll ∧ (ns < 2 ^ 48 * nsPerSec → t.timeNs = max s.timeNs ns) := by
  refine ⟨_, exec_tickStart hruns hc hvalid hns, ?_⟩
  obtain ⟨hpulses, hdpll, htime⟩ := s.toTick_keeps ns
  obtain ⟨hdpll', htime'⟩ := (s.toTick ns).tickRises_rest s.clocks.pulses
  exact ⟨by rw [State.tickRises_pulses, hpulses], hdpll'.trans hdpll, fun hlt => (State.timeNs_congr htime').trans (htime hlt)⟩

/-! ### DATAPATH_SECOND (R292, R297, R310, R313) -/

/-- What PTP says of UTC leaves the count and whether it is set and synchronised (R313, R314). -/
theorem State.calFromPtp_keeps (s : State) : s.calFromPtp.clocks = s.clocks ∧ s.calFromPtp.cal.count = s.cal.count ∧ s.calFromPtp.cal.set = s.cal.set ∧
    s.calFromPtp.cal.synced = s.cal.synced := by
  unfold State.calFromPtp
  split
  · split
    · dsimp only
      split <;> exact ⟨rfl, rfl, rfl, rfl⟩
    · exact ⟨rfl, rfl, rfl, rfl⟩
  · exact ⟨rfl, rfl, rfl, rfl⟩

/-- A synchronised calendar takes the second (R313). -/
theorem State.calSync_synced {s : State} (hsync : s.cal.syncEn = true) (hvalid : s.clocks.time.valid = true) :
    s.calSync.cal.count = s.clocks.time.sec ∧ s.calSync.cal.set = true ∧ s.calSync.cal.synced = true := by
  unfold State.calSync
  rw [hsync, hvalid]
  obtain ⟨-, hcount, hset, hsynced⟩ := State.calFromPtp_keeps ((s.calCount s.clocks.time.sec).modCal fun c => { c with set := true, synced := true })
  exact ⟨hcount.trans (s.calCount_count _), hset, hsynced⟩

theorem State.calSync_free {s : State} (h : s.cal.syncEn = false ∨ s.clocks.time.valid = false) : s.calSync = s.modCal fun c => { c with synced := false } := by
  unfold State.calSync
  rcases h with h | h <;> simp [h]

theorem State.calSync_clocks (s : State) : ∃ b, s.calSync.clocks = { s.clocks with ptp := { s.clocks.ptp with leapPassed := b } } := by
  unfold State.calSync
  split
  · obtain ⟨b, hb⟩ := s.calCount_clocks s.clocks.time.sec
    exact ⟨b, (State.calFromPtp_keeps _).1.trans hb⟩
  · exact ⟨s.clocks.ptp.leapPassed, rfl⟩

/-- The time that DATAPATH_SECOND brings. -/
def State.toSecond (s : State) (sec : Nat) : State := if s.clocks.time.valid then (s.setTimeNs (sec * nsPerSec)).refreshPipes else s

/-- The second begins, and the pulse settings that waited for it take effect. -/
def State.beginSecond (s : State) (sec : Nat) : State :=
  let s1 : State := { s with clocks := { s.clocks with lastSecond := some sec } }
  s1.modPulses fun p => p.second s1.clocks.time.valid

theorem exec_datapathSecond {s : State} (hruns : s.clocksRun = true) :
    exec .datapathSecond s = .next ((s.toSecond s.nextSecond).beginSecond s.nextSecond).calSync.applyTdc.dpllSecond := by
  show execDatapathSecond s = _
  unfold execDatapathSecond
  rw [hruns]
  generalize s.nextSecond = sec
  rfl

theorem State.beginSecond_clocks (s : State) (sec : Nat) : let t := s.beginSecond sec
    t.clocks.time = s.clocks.time ∧ t.clocks.dpll = s.clocks.dpll ∧ t.clocks.pulses = s.clocks.pulses.second s.clocks.time.valid ∧ t.cal = s.cal :=
  ⟨rfl, rfl, rfl, rfl⟩

/-- Time at a whole second (R300). -/
theorem State.setTimeNs_seconds (s : State) (sec : Nat) : (s.setTimeNs (sec * nsPerSec)).clocks.time = ⟨s.clocks.time.valid, sec % 2 ^ 48, 0⟩ := by
  have hpos : 0 < nsPerSec := Nat.zero_lt_succ _
  rw [State.setTimeNs, Nat.mul_div_cancel _ hpos, Nat.mul_mod_left]

theorem State.setTimeNs_rest (s : State) (ns : Nat) : let t := s.setTimeNs ns
    t.clocks.dpll = s.clocks.dpll ∧ t.clocks.pulses = s.clocks.pulses ∧ t.cal = s.cal ∧ t.clocks.time.valid = s.clocks.time.valid :=
  ⟨rfl, rfl, rfl, rfl⟩

/-- The time moves where there is one. -/
theorem State.toSecond_keeps (s : State) (sec : Nat) : let t := s.toSecond sec
    t.clocks.dpll = s.clocks.dpll ∧ t.clocks.pulses = s.clocks.pulses ∧ t.cal = s.cal ∧ t.clocks.time.valid = s.clocks.time.valid := by
  unfold State.toSecond
  split
  · have hrest := s.setTimeNs_rest (sec * nsPerSec)
    generalize s.setTimeNs (sec * nsPerSec) = u at *
    dsimp only
    rw [State.refreshPipes_clocks, State.refreshPipes_cal]
    exact hrest
  · exact ⟨rfl, rfl, rfl, rfl⟩

theorem State.toSecond_time {s : State} (h : s.clocks.time.valid = true) (sec : Nat) : (s.toSecond sec).clocks.time = ⟨true, sec % 2 ^ 48, 0⟩ := by
  unfold State.toSecond
  rw [if_pos h, State.refreshPipes_clocks, State.setTimeNs_seconds, h]

/-- One second of the DPLL's clocks. -/
theorem State.dpllSecond_dpll (s : State) (d : Dpll) (h : s.clocks.dpll = d) : let t := s.dpllSecond
    t.clocks.dpll.sinceAcceptedS = d.sinceAcceptedS + 1 ∧
      (∀ k, (t.clocks.dpll.inputs.getD k {}).wtrLeftS = (d.inputs.getD k {}).wtrLeftS - 1) ∧
      t.clocks.dpll.holdoverS = (if d.state = .holdover then d.holdoverS + 1 else d.holdoverS) ∧
      t.clocks.dpll.selected = d.selected ∧ t.clocks.dpll.state = d.state := by
  subst h
  refine ⟨rfl, fun k => ?_, rfl, rfl, rfl⟩
  show ((s.clocks.dpll.inputs.map fun x : RefInput => { x with wtrLeftS := x.wtrLeftS - 1 }).getD k {}).wtrLeftS = _
  exact congrArg RefInput.wtrLeftS (List.getD_map (l := s.clocks.dpll.inputs) (d := {}) fun x : RefInput => { x with wtrLeftS := x.wtrLeftS - 1 })

theorem datapathSecond_gives {s : State} (hruns : s.clocksRun = true) : Gives .datapathSecond s fun t =>
    t.clocks.pulses = s.clocks.pulses.second s.clocks.time.valid ∧ t.clocks.dpll.sinceAcceptedS = s.clocks.dpll.sinceAcceptedS + 1 ∧
      (∀ k, (t.clocks.dpll.inputs.getD k {}).wtrLeftS = (s.clocks.dpll.inputs.getD k {}).wtrLeftS - 1) ∧
      t.clocks.dpll.holdoverS = (if s.clocks.dpll.state = .holdover then s.clocks.dpll.holdoverS + 1 else s.clocks.dpll.holdoverS) ∧
      t.clocks.dpll.selected = s.clocks.dpll.selected ∧ t.clocks.dpll.state = s.clocks.dpll.state ∧
      (s.clocks.time.valid = true → t.clocks.time.valid = true ∧ t.clocks.time.ns = 0 ∧ t.clocks.time.sec = s.nextSecond % 2 ^ 48 ∧
        (s.cal.syncEn = true → t.cal.count = t.clocks.time.sec ∧ t.cal.set = true ∧ t.cal.synced = true)) ∧
      (s.cal.syncEn = false ∨ s.clocks.time.valid = false → t.cal.count = s.cal.count ∧ t.cal.synced = false) := by
  refine ⟨_, exec_datapathSecond hruns, ?_⟩
  obtain ⟨hdpll0, hpulses0, hcal0, hvalid0⟩ := s.toSecond_keeps s.nextSecond
  have htime0 := fun h => State.toSecond_time (s := s) h s.nextSecond
  generalize s.nextSecond = sec at *
  generalize s.toSecond sec = u at *
  obtain ⟨htime1, hdpll1, hpulses1, hcal1⟩ := u.beginSecond_clocks sec
  generalize u.beginSecond sec = v at *
  obtain ⟨b, hclocks⟩ := v.calSync_clocks
  have hvalid : v.clocks.time.valid = s.clocks.time.valid := by rw [htime1, hvalid0]
  have htime : v.calSync.applyTdc.dpllSecond.clocks.time = v.clocks.time := (congrArg Clocks.time hclocks :)
  have hpulses : v.calSync.applyTdc.dpllSecond.clocks.pulses = v.clocks.pulses := (congrArg Clocks.pulses hclocks :)
  have hdpll : v.calSync.applyTdc.clocks.dpll = v.clocks.dpll := (congrArg Clocks.dpll hclocks :)
  obtain ⟨hsince, hwtr, hhold, hselected, hstate⟩ := State.dpllSecond_dpll _ s.clocks.dpll (hdpll.trans (hdpll1.trans hdpll0))
  refine ⟨by rw [hpulses, hpulses1, hpulses0, hvalid0], hsince, hwtr, hhold, hselected, hstate, fun h => ?_, fun h => ?_⟩
  · have hnow := htime.trans (htime1.trans (htime0 h))
    rw [hnow]
    refine ⟨rfl, rfl, rfl, fun hsync => ?_⟩
    have hsynced := State.calSync_synced (s := v) (by rw [hcal1, hcal0, hsync]) (hvalid.trans h)
    rw [htime1, htime0 h] at hsynced
    exact hsynced
  · have hfree : v.calSync = v.modCal fun c => { c with synced := false } := State.calSync_free (by rwa [hcal1, hcal0, hvalid])
    have hcal : v.calSync.applyTdc.dpllSecond.cal = { s.cal with synced := false } := by
      rw [← hcal0, ← hcal1]
      exact (congrArg State.cal hfree :)
    rw [hcal]
    exact ⟨rfl, rfl⟩

theorem exec_pulseWidthEnd_driven {s : State} (h : s.clocks.pulses.driven = true) (tick : Bool) :
    exec (.pulseWidthEnd tick) s = .next (s.modPulses fun y => if tick then { y with tickOut := .low } else { y with ppsOut := .low }) := by
  show execPulseWidthEnd tick s = _
  rw [execPulseWidthEnd, State.modPulses, if_neg (by simp [h])]
  rfl

/-- Settles O50: each pulse row changes the outputs alone, and what follows a second leaves the time and the outputs that it set. -/
theorem pulsesAndSecondsRun : Obligations.PulsesAndSecondsRun := by
  intro s hruns
  refine ⟨fun h => ⟨exec_pulseWidthEnd_driven h true, exec_pulseWidthEnd_driven h false⟩, fun h => ?_,
    fun n c hc hvalid => tickStart_gives hruns hc hvalid rfl, datapathSecond_gives hruns⟩
  show execPulseWidthEnd true s = _
  rw [execPulseWidthEnd, State.modPulses, if_pos (by simp [h])]

end Sys2Proof.Machine

/-! ## Choosing among the references (R291 to R294) -/

namespace Sys2Proof.Machine

/-- A change that a function does not see leaves what it shows of a list. -/
theorem map_modify_of_eq {α β : Type} {f : α → α} {g : α → β} (h : ∀ x, g (f x) = g x) (l : List α) (k : Nat) : (l.modify k f).map g = l.map g := by
  refine List.ext_getElem? fun i => ?_
  rw [List.getElem?_map, List.getElem?_map, List.getElem?_modify]
  cases l[i]? with
  | none => split <;> rfl
  | some x => split <;> simp [h]

/-- What choosing among the references leaves of an input. -/
def RefInput.lasting (x : RefInput) : RefInput := { x with qualified := false, wtrRunning := false, wtrLeftS := 0 }

/-- What choosing among the references leaves of the DPLL. -/
def Dpll.lasting (d : Dpll) : Dpll :=
  { d with state := .freerun, selected := none, wtrLeftS := 0, inputs := d.inputs.map RefInput.lasting, steerPpt := 0, wide := false, holdoverPpt := 0,
           phaseErrPs := 0, holdoverS := 0, acceptedSinceSelect := false, pullInPs := 0, startPpt := none, switches := 0 }

theorem Dpll.keepWtr_lasting (d : Dpll) (keep : Nat → Bool) : (d.keepWtr keep).lasting = d.lasting := by
  have hinputs : (d.keepWtr keep).inputs.map RefInput.lasting = d.inputs.map RefInput.lasting := by
    unfold Dpll.keepWtr Dpll.showWtr
    dsimp only
    rw [List.map_map]
    conv_rhs => rw [← List.zipIdx_map_fst 0 d.inputs, List.map_map]
    refine List.map_congr_left fun p _ => ?_
    dsimp only [Function.comp]
    split <;> rfl
  unfold Dpll.lasting
  rw [hinputs]
  rfl

theorem Dpll.showWtr_lasting (d : Dpll) : d.showWtr.lasting = d.lasting := rfl

theorem Dpll.lasting_modify {d : Dpll} {k : Nat} {f : RefInput → RefInput} (h : ∀ x, (f x).lasting = x.lasting) :
    Dpll.lasting { d with inputs := d.inputs.modify k f } = d.lasting := by
  unfold Dpll.lasting
  dsimp only
  rw [map_modify_of_eq h]

/-- From `s` to `t` the package only chooses among its references, and reports it. -/
structure State.Selects (s t : State) : Prop where
  clocks : ∃ d, t.clocks = { s.clocks with dpll := d }
  lasting : t.clocks.dpll.lasting = s.clocks.dpll.lasting
  steer : t.clocks.dpll.steerPpt ∈ [s.clocks.dpll.steerPpt, 0]
  mail : t.mail = s.mail

namespace State.Selects

theorem refl (s : State) : s.Selects s := ⟨⟨_, rfl⟩, rfl, List.mem_cons_self, rfl⟩

theorem trans {s t u : State} (h : s.Selects t) (g : t.Selects u) : s.Selects u := by
  obtain ⟨⟨d, hd⟩, hlasting, hsteer, hmail⟩ := h
  obtain ⟨⟨e, he⟩, glasting, gsteer, gmail⟩ := g
  refine ⟨⟨e, by rw [he, hd]⟩, glasting.trans hlasting, ?_, gmail.trans hmail⟩
  simp only [List.mem_cons, List.not_mem_nil, or_false] at hsteer gsteer ⊢
  omega

theorem of_eq {s t : State} (hclocks : t.clocks = s.clocks) (hmail : t.mail = s.mail) : s.Selects t :=
  ⟨⟨s.clocks.dpll, hclocks⟩, by rw [hclocks], by rw [hclocks]; exact List.mem_cons_self, hmail⟩

theorem raise (s : State) (code die : Nat) (detail : List Byte) : s.Selects (s.raise code die detail) := of_eq (s.raise_clocks ..) (s.raise_mail ..)

theorem modDpll (s : State) (f : Dpll → Dpll) (hlasting : (f s.clocks.dpll).lasting = s.clocks.dpll.lasting)
    (hsteer : (f s.clocks.dpll).steerPpt ∈ [s.clocks.dpll.steerPpt, 0]) : s.Selects (s.modDpll f) := ⟨⟨_, rfl⟩, hlasting, hsteer, rfl⟩

theorem time {s t : State} (h : s.Selects t) : t.clocks.time = s.clocks.time := by
  obtain ⟨d, hd⟩ := h.clocks
  rw [hd]

theorem ptp {s t : State} (h : s.Selects t) : t.clocks.ptp = s.clocks.ptp := by
  obtain ⟨d, hd⟩ := h.clocks
  rw [hd]

theorem refInput {s t : State} (h : s.Selects t) (code : Nat) : (t.refInput code).lasting = (s.refInput code).lasting := by
  have hinputs : t.clocks.dpll.inputs.map RefInput.lasting = s.clocks.dpll.inputs.map RefInput.lasting := (congrArg Dpll.inputs h.lasting :)
  have hone := congrArg (fun l : List RefInput => l.getD (code - 1) (RefInput.lasting {})) hinputs
  simp only [List.getD_map] at hone
  exact hone

end State.Selects

/-- Choosing takes free values alone besides. -/
theorem State.switchPhase_selects (s : State) (code : Nat) : s.Selects (s.switchPhase code).2.2 := by
  unfold State.switchPhase State.fresh
  dsimp only
  split <;> exact .of_eq rfl rfl

theorem State.selectEntry_selects (s : State) (k : Nat) : s.Selects (s.selectEntry k) := by
  refine (s.switchPhase_selects (s.clocks.dpll.entries.getD k 0)).trans (.trans (.modDpll _ _ ?_ ?_) (.raise ..))
  · exact Dpll.keepWtr_lasting _ _
  · exact List.mem_cons_of_mem _ List.mem_cons_self

theorem State.freshWithin_selects (s : State) (lim : Nat) : s.Selects (s.freshWithin lim).2 := .of_eq rfl rfl

theorem State.loseReference_selects (s : State) : s.Selects s.loseReference := by
  have hchosen (u : State) (f : Dpll → Dpll) (hf : ∀ d, (f d).lasting = d.lasting) (hsteer : ∀ d, (f d).steerPpt = d.steerPpt) :
      u.Selects (u.modDpll fun d => (f d).keepWtr fun _ => false) :=
    .modDpll _ _ ((Dpll.keepWtr_lasting _ _).trans (hf _)) (List.mem_cons.2 (.inl (hsteer _)))
  have hfresh := s.freshWithin_selects 75000000
  unfold State.loseReference
  split
  · generalize s.freshWithin 75000000 = p at *
    exact hfresh.trans ((hchosen _ (fun d => { d with state := .holdover, selected := none, holdoverPpt := p.1, holdoverS := 0, startPpt := none })
      (fun _ => rfl) (fun _ => rfl)).trans (.raise ..))
  · exact (hchosen _ (fun d => { d with state := .freerun, selected := none, startPpt := none }) (fun _ => rfl) (fun _ => rfl)).trans (.raise ..)

theorem State.reselect_selects (s : State) : s.Selects s.reselect := by
  unfold State.reselect
  split
  · exact s.selectEntry_selects _
  · exact s.loseReference_selects

/-- Waits that start change no more of the inputs. -/
theorem Dpll.lasting_waits (f : RefInput → RefInput) (hf : ∀ x, (f x).lasting = x.lasting) (g : Nat → Nat) (d : Dpll) (l : List Nat) :
    Dpll.lasting { d with inputs := l.foldl (fun m j => m.modify (g j) f) d.inputs } = d.lasting := by
  refine List.foldlRecOn (motive := fun m => Dpll.lasting { d with inputs := m } = d.lasting) _ _ rfl fun m hm j _ => ?_
  exact (Dpll.lasting_modify (d := { d with inputs := m }) hf).trans hm

theorem State.startWtr_selects (s : State) : s.Selects s.startWtr := by
  unfold State.startWtr
  dsimp only
  split
  · split
    · refine .modDpll _ _ ((Dpll.showWtr_lasting _).trans (Dpll.lasting_waits _ (fun x => ?_) (fun j => s.clocks.dpll.entries.getD j 0 - 1) _ _))
        List.mem_cons_self
      split <;> rfl
    · exact .modDpll _ _ (Dpll.keepWtr_lasting _ _) List.mem_cons_self
  · exact .refl s

/-- Failing a test takes the input out of the choice, and a selected one is replaced. -/
theorem State.disqualify_selects (s : State) (code test : Nat) : s.Selects (s.disqualify code test) := by
  unfold State.disqualify
  split
  · have hout : s.Selects (((s.modRef code fun x => { x with qualified := false, wtrRunning := false, wtrLeftS := 0 }).raise 0x0402 0xFF
        (leBytes 1 code ++ leBytes 1 test)).modDpll Dpll.showWtr) :=
      .trans (.trans (.modDpll _ _ (Dpll.lasting_modify (f := fun x => { x with qualified := false, wtrRunning := false, wtrLeftS := 0 }) fun _ => rfl)
        List.mem_cons_self) (.raise ..)) (.modDpll _ _ (Dpll.showWtr_lasting _) List.mem_cons_self)
    dsimp only
    split
    · exact hout.trans (State.reselect_selects _)
    · exact hout
  · exact .refl s

theorem State.refCheck_selects (s : State) : s.Selects s.refCheck := by
  have htest (u : State) (code test : Nat) : u.Selects (if u.refPasses code then u else u.disqualify code test) := by
    split
    · exact .refl u
    · exact u.disqualify_selects code test
  exact (htest s 5 1).trans (htest _ 6 _)

/-- After a disqualification the input is not qualified (R291). -/
theorem State.disqualify_refInput (s : State) (code test : Nat) : ((s.disqualify code test).refInput code).qualified = false :=
  Bool.eq_false_iff.2 fun h => (s.disqualify_qualified code test code h).2 rfl

theorem State.refSelect_selects (s : State) (old : Dpll) : s.Selects (s.refSelect old) := by
  unfold State.refSelect
  dsimp only
  split
  · split
    · exact s.selectEntry_selects _
    · exact .refl s
  · split
    · exact .trans (.modDpll _ _ (Dpll.keepWtr_lasting _ _) List.mem_cons_self) (State.reselect_selects _)
    · have hkept (j : Nat) : s.Selects (s.modDpll fun d => Dpll.keepWtr { d with selected := some j } (· < j)) :=
        .modDpll _ _ (Dpll.keepWtr_lasting _ _) List.mem_cons_self
      split
      · split
        · exact (hkept _).trans (State.selectEntry_selects _ _)
        · exact (hkept _).trans (State.startWtr_selects _)
      · exact hkept _

end Sys2Proof.Machine

/-! ## The PTP port (R291, R307 to R309) -/

namespace Sys2Proof.Machine

/-! ### Announces (R307) -/

/-- The port has heard an Announce at `now`, and `best` is the best master it knows (R307). -/
def State.hears (s : State) (a : PtpAnnounce) (now : Nat) (best : Option PtpAnnounce) : State :=
  s.modPtp fun p => { p with foreign := p.hear a now, best := best, leapPassed := p.leapPassed && !(best.map (samePort a)).getD false }

/-- The port takes an Announce of another clock (R307). -/
structure State.TakesAnnounce (s : State) (a : PtpAnnounce) : Prop where
  runs : s.clocksRun = true
  takes : s.clocks.ptp.takes a.header = true
  other : a.grandmaster ≠ Config.clockIdentity
  near : a.stepsRemoved < 255

theorem State.modPtp_congr {s : State} {f g : Ptp → Ptp} (h : f s.clocks.ptp = g s.clocks.ptp) : s.modPtp f = s.modPtp g := by rw [State.modPtp, h, State.modPtp]

theorem exec_ptpAnnounce {s : State} {a : PtpAnnounce} {now : Nat} (h : s.TakesAnnounce a) (hnow : s.timeNs = now) :
    exec (.ptpAnnounce a) s = .next (match s.clocks.ptp.choose a now with
      | none => s.hears a now none
      | some b => (s.hears a now (some b)).stateDecision b (!(s.clocks.ptp.best.map (samePort b)).getD false)) := by
  obtain ⟨hruns, htakes, hother, hnear⟩ := h
  have hgo : ¬((!s.clocksRun || !s.clocks.ptp.takes a.header || a.grandmaster == Config.clockIdentity || decide (255 ≤ a.stepsRemoved)) = true) := by
    simp [hruns, htakes, hother, hnear]
  show execPtpAnnounce a s = _
  unfold execPtpAnnounce
  dsimp only
  rw [if_neg hgo, hnow]
  unfold State.hears
  cases s.clocks.ptp.choose a now <;> rfl

/-- A slave-only port is the slave of the best master, whichever tests that master fails (R291, R307). -/
theorem State.stateDecision_slaveOnly {s : State} (h : s.clocks.ptp.mode = 1) (b : PtpAnnounce) (changed : Bool) : let t := s.stateDecision b changed
    t.clocks.ptp = { s.clocks.ptp with role := .slave } ∧ t.clocks.time = s.clocks.time := by
  have hmode (q : Prop) : ¬(s.clocks.ptp.mode = 2 ∧ q) := fun hq => absurd (h.symm.trans hq.1) (by decide)
  have htests (u : State) : u.Selects (if !b.ptpTimescale then u.disqualify 4 3 else if 187 < b.clockClass then u.disqualify 4 4 else u) := by
    split
    · exact u.disqualify_selects 4 3
    · split
      · exact u.disqualify_selects 4 4
      · exact .refl u
  have htold : (if changed || s.clocks.ptp.role == .master then s.masterChanged b.header.sourceId else s).clocks = s.clocks := by
    split
    · exact State.raise_clocks ..
    · rfl
  unfold State.stateDecision
  dsimp only
  rw [if_neg (hmode _), if_neg (hmode _)]
  have hslave := htests (State.modPtp (if changed || s.clocks.ptp.role == .master then s.masterChanged b.header.sourceId else s) fun p => { p with role := .slave })
  refine ⟨hslave.ptp.trans ?_, hslave.time.trans ?_⟩
  · rw [State.modPtp_clocks, htold]
  · rw [State.modPtp_clocks, htold]

/-- A foreign master heard once is not qualified (R307). -/
theorem Ptp.choose_first {p : Ptp} (hbest : p.best = none) (hforeign : p.foreign = []) (a : PtpAnnounce) (now : Nat) :
    p.choose a now = none ∧ p.hear a now = [{ announce := a, times := [now] }] := by
  have hheard : p.hear a now = [{ announce := a, times := [now] }] := by rw [Ptp.hear, hforeign]; rfl
  refine ⟨?_, hheard⟩
  rw [Ptp.choose, hheard, hbest]
  rfl

/-- A foreign master heard twice within the window is chosen where there is no other (R307). -/
theorem Ptp.choose_second {p : Ptp} {a b : PtpAnnounce} {at_ now : Nat} (hbest : p.best = none) (hforeign : p.foreign = [{ announce := b, times := [at_] }])
    (hsame : samePort a b = true) (hwindow : now ≤ at_ + p.foreignWindow) : p.choose a now = some a := by
  have hheard : p.hear a now = [{ announce := a, times := [now, at_] }] := by simp [Ptp.hear, hforeign, hsame]
  have hqualified : p.qualifiedMaster now { announce := a, times := [now, at_] } = true := decide_eq_true hwindow
  rw [Ptp.choose, hheard, hbest, List.filter_cons_of_pos hqualified]
  rfl

/-- No worse Announce replaces the chosen master (R307). -/
theorem Ptp.choose_worse {p : Ptp} {a b : PtpAnnounce} (now : Nat) (hbest : p.best = some b) (hother : samePort a b = false) (hworse : better a b = false)
    (hforeign : ∀ f ∈ p.foreign, better f.announce b = false) : p.choose a now = some b := by
  unfold Ptp.choose
  rw [hbest]
  refine List.foldlRecOn (motive := fun o => o = some b) _ _ (by simp [hother]) fun o ho x hx => ?_
  have hx' : better x b = false := by
    obtain ⟨f, hf, rfl⟩ := List.mem_map.1 hx
    rcases List.mem_cons.1 (List.mem_of_mem_filter hf) with rfl | hf
    · exact hworse
    · exact hforeign f (List.mem_of_mem_filter hf)
  subst ho
  exact if_neg (by simp [hx'])

/-! ### Sync and Follow_Up (R302, R307) -/

/-- A measurement of an input that is not selected is noted, and no more (R303). -/
theorem State.measure_unselected {s : State} {code : Nat} (h : s.clocks.dpll.code ≠ some code) (offsetPs : Int) :
    s.measure code offsetPs = s.modRef code fun x => { x with offsetPs := offsetPs } := if_pos h

theorem State.syncMeasured_unselected {s : State} (h : s.clocks.dpll.code ≠ some 4) (t1 t2 : Int) : let t := s.syncMeasured t1 t2
    t.clocks.ptp = { s.clocks.ptp with t1 := t1, t2 := t2, syncWait := none } ∧ t.clocks.time = s.clocks.time := by
  unfold State.syncMeasured
  dsimp only
  rw [State.measure_unselected (show (State.modPtp s _).clocks.dpll.code ≠ some 4 from h)]
  exact ⟨rfl, rfl⟩

section
variable {s : State} {h : PtpHeader} (hruns : s.clocksRun = true) (hfrom : s.clocks.ptp.fromMaster h = true)
include hruns hfrom

theorem exec_ptpSync (origin rx : Stamp) (twoStep : Bool) : exec (.ptpSync h twoStep origin rx) s = .next (
    if twoStep then s.modPtp fun y => { y with syncWait := some (h.seq, s.clocks.ptp.received rx - h.correctionNs * 1000) }
    else s.syncMeasured (Stamp.ps origin + h.correctionNs * 1000) (s.clocks.ptp.received rx)) := by
  show execPtpSync h twoStep origin rx s = _
  simp only [execPtpSync, hruns, hfrom, Bool.not_true, Bool.or_self, Bool.false_eq_true, if_false]
  rfl

theorem exec_ptpFollowUp (origin : Stamp) {v : Int} (hwait : s.clocks.ptp.syncWait = some (h.seq, v)) :
    exec (.ptpFollowUp h origin) s = .next (s.syncMeasured (Stamp.ps origin + h.correctionNs * 1000) v) := by
  show execPtpFollowUp h origin s = _
  simp only [execPtpFollowUp, hwait, hruns, hfrom, and_self, if_true]

theorem exec_ptpDelayResp (receipt : Stamp) (hmode : s.clocks.ptp.peerDelay = false) (hown : answersOwn h = true) (hseq : h.seq = s.clocks.ptp.seqDelay) :
    exec (.ptpDelayResp h receipt) s = .next (s.modPtp fun y =>
      { y with meanDelayPs := ((y.t2 - y.t1) + (Stamp.ps receipt - h.correctionNs * 1000 - y.t3)) / 2 }) := by
  show execPtpDelayResp h receipt s = _
  simp only [execPtpDelayResp, hruns, hfrom, hmode, hown, hseq, Bool.not_false, Bool.and_self, BEq.rfl, if_true]

end

/-! ### Answers (R307, R308) -/

section
variable {s : State} {h : PtpHeader} (hruns : s.clocksRun = true) (htakes : s.clocks.ptp.takes h = true)
include hruns htakes

theorem exec_ptpDelayReq (rx : Stamp) (hrole : s.clocks.ptp.role = .master) (hmode : s.clocks.ptp.peerDelay = false) :
    exec (.ptpDelayReq h rx) s = .next (s.sendPtp 4 h.seq none (s.clocks.ptp.received rx) (some h)) := by
  show execPtpDelayReq h rx s = _
  simp only [execPtpDelayReq, hruns, htakes, hrole, hmode, Bool.not_false, Bool.and_self, BEq.rfl, if_true]

theorem exec_ptpPdelayReq (rx tx : Stamp) (hmode : s.clocks.ptp.peerDelay = true) : exec (.ptpPdelayReq h rx tx) s = .next (
    if s.clocks.ptp.oneStep then s.sendPtp 6 h.seq none (s.clocks.ptp.sent tx - s.clocks.ptp.received rx) (some h)
    else (s.sendPtp 6 h.seq none (s.clocks.ptp.received rx) (some h)).sendPtp 7 h.seq none (s.clocks.ptp.sent tx) (some h)) := by
  show execPtpPdelayReq h rx tx s = _
  simp only [execPtpPdelayReq, hruns, htakes, hmode, Bool.and_self, if_true]

theorem exec_ptpPdelayResp_oneStep (tx rx : Stamp) (hmode : s.clocks.ptp.peerDelay = true) (hown : answersOwn h = true) (hseq : h.seq = s.clocks.ptp.seqDelay) :
    exec (.ptpPdelayResp h false false tx rx) s = .next (s.modPtp fun y =>
      { y with meanDelayPs := (s.clocks.ptp.received rx - s.clocks.ptp.t3 - h.correctionNs * 1000) / 2 }) := by
  show execPtpPdelayResp h false false tx rx s = _
  simp only [execPtpPdelayResp, hruns, htakes, hmode, hown, hseq, Bool.and_self, BEq.rfl, Bool.not_true, Bool.false_eq_true, if_false]
  rfl

end

/-! ### A lost master, and the port's own messages (R291, R307) -/

theorem exec_ptpAnnounceTimeout_sync {s : State} (hruns : s.clocksRun = true) (hmode : s.clocks.ptp.mode = 1) :
    exec (.ptpAnnounceTimeout true) s = .next (s.disqualify 4 2) := by
  show execPtpAnnounceTimeout true s = _
  simp [execPtpAnnounceTimeout, hruns, hmode]

/-- A slave-only port without its master listens (R307). -/
def Ptp.masterLost (p : Ptp) : Ptp :=
  { p with best := none, role := if p.role = .slave ∨ p.role = .passive then .listening else p.role
           foreign := p.foreign.filter fun f => !(p.best.map (samePort f.announce)).getD false }

theorem exec_ptpAnnounceTimeout_announce {s : State} (hruns : s.clocksRun = true) (hmode : s.clocks.ptp.mode = 1) :
    exec (.ptpAnnounceTimeout false) s = .next ((s.modPtp Ptp.masterLost).disqualify 4 1) := by
  show execPtpAnnounceTimeout false s = _
  have hon : ¬(s.clocks.ptp.mode = 0 ∨ (!s.clocksRun) = true) := by simp [hruns, hmode]
  unfold execPtpAnnounceTimeout
  rw [if_neg hon, if_neg Bool.false_ne_true]
  exact congrArg _ (if_neg (by rw [hmode]; decide))

section
variable {s : State} (hruns : s.clocksRun = true) (hmode : s.clocks.ptp.mode ≠ 0)
include hruns hmode

theorem exec_ptpTxInterval_announce (tx : Stamp) (hrole : s.clocks.ptp.role = .master) : exec (.ptpTxInterval 0 tx) s =
    .next ((s.sendPtp 0 s.clocks.ptp.seqAnnounce (some s.ownAnnounce) 0 none).modPtp fun y => { y with seqAnnounce := y.seqAnnounce + 1 }) := by
  show execPtpTxInterval 0 tx s = _
  simp [execPtpTxInterval, hruns, hmode, hrole]

theorem exec_ptpTxInterval_sync (tx : Stamp) (hrole : s.clocks.ptp.role = .master) (hstep : s.clocks.ptp.oneStep = true) : exec (.ptpTxInterval 1 tx) s =
    .next ((s.sendPtp 1 s.clocks.ptp.seqSync none (s.clocks.ptp.sent tx) none).modPtp fun y => { y with seqSync := y.seqSync + 1 }) := by
  show execPtpTxInterval 1 tx s = _
  simp [execPtpTxInterval, hruns, hmode, hrole, hstep]

theorem exec_ptpTxInterval_delay (tx : Stamp) (hrole : s.clocks.ptp.role = .slave) (hpeer : s.clocks.ptp.peerDelay = false) : exec (.ptpTxInterval 2 tx) s =
    .next ((s.sendPtp 3 (s.clocks.ptp.seqDelay + 1) none 0 none).modPtp fun y => { y with seqDelay := y.seqDelay + 1, t3 := s.clocks.ptp.sent tx }) := by
  show execPtpTxInterval 2 tx s = _
  simp [execPtpTxInterval, hruns, hmode, hrole, hpeer]

end

/-- Settles O49: the choice of R307 evaluated on what the port has heard, and a row's equation for each message. -/
theorem ptpPortRuns : Obligations.PtpPortRuns := by
  intro s hruns
  refine ⟨fun a htakes hgm hsteps hmode => ?_, fun h origin rx hfrom hcode => ?_, fun h rx tx htakes => ?_, fun hmode _ _ => ?_, fun tx hmode => ?_⟩
  · have hexec := exec_ptpAnnounce (now := s.timeNs) ⟨hruns, htakes, hgm, hsteps⟩ rfl
    generalize s.timeNs = now at *
    refine ⟨fun hbest hforeign => ?_, fun b at_ hbest hforeign hsame hwindow => ?_, fun b hbest hother hworse hforeign => ?_⟩
    · obtain ⟨hchoose, hheard⟩ := Ptp.choose_first hbest hforeign a now
      rw [hexec, hchoose]
      exact congrArg _ (State.modPtp_congr (by rw [hheard, hbest]; simp))
    · rw [Ptp.choose_second hbest hforeign hsame hwindow] at hexec
      obtain ⟨hptp, htime⟩ := State.stateDecision_slaveOnly (s := s.hears a now (some a)) hmode a (!(s.clocks.ptp.best.map (samePort a)).getD false)
      exact ⟨_, hexec, by rw [hptp]; rfl, by rw [hptp], htime⟩
    · rw [Ptp.choose_worse now hbest hother hworse hforeign] at hexec
      obtain ⟨hptp, htime⟩ := State.stateDecision_slaveOnly (s := s.hears a now (some b)) hmode b (!(s.clocks.ptp.best.map (samePort b)).getD false)
      exact ⟨_, hexec, by rw [hptp]; rfl, htime⟩
  · refine ⟨exec_ptpSync hruns hfrom origin rx true, ⟨_, exec_ptpSync hruns hfrom origin rx false, ?_⟩,
      fun v hwait => ⟨_, exec_ptpFollowUp hruns hfrom origin hwait, ?_⟩, exec_ptpDelayResp hruns hfrom origin⟩
    · obtain ⟨hptp, htime⟩ := State.syncMeasured_unselected hcode (Stamp.ps origin + h.correctionNs * 1000) (s.clocks.ptp.received rx)
      exact ⟨(congrArg Ptp.t1 hptp :), (congrArg Ptp.t2 hptp :), htime⟩
    · obtain ⟨hptp, htime⟩ := State.syncMeasured_unselected hcode (Stamp.ps origin + h.correctionNs * 1000) v
      exact ⟨(congrArg Ptp.t1 hptp :), (congrArg Ptp.t2 hptp :), (congrArg Ptp.syncWait hptp :), htime⟩
  · refine ⟨exec_ptpDelayReq hruns htakes rx, fun hpeer hstep => ?_, fun hpeer hstep => ?_, exec_ptpPdelayResp_oneStep hruns htakes tx rx⟩
    · rw [exec_ptpPdelayReq hruns htakes rx tx hpeer, hstep]
      rfl
    · rw [exec_ptpPdelayReq hruns htakes rx tx hpeer, hstep]
      rfl
  · refine ⟨⟨_, exec_ptpAnnounceTimeout_announce hruns hmode, ?_⟩, ⟨_, exec_ptpAnnounceTimeout_sync hruns hmode, ?_⟩⟩
    · have hgone := (s.modPtp Ptp.masterLost).disqualify_selects 4 1
      exact ⟨(congrArg Ptp.best hgone.ptp :), State.disqualify_refInput _ 4 1, hgone.time⟩
    · exact ⟨(s.disqualify_selects 4 2).ptp, s.disqualify_refInput 4 2⟩
  · exact ⟨exec_ptpTxInterval_announce hruns hmode tx, exec_ptpTxInterval_sync hruns hmode tx, exec_ptpTxInterval_delay hruns hmode tx⟩

end Sys2Proof.Machine

/-! ## Time inputs (R301, R302, R320) -/

namespace Sys2Proof.Machine

/-! ### A step of data-path time (R301) -/

/-- A step changes the time and its data-path second alone of the clocks, and nothing of the mailboxes. -/
theorem State.stepTime_gives (s : State) (ns source : Nat) : let t := s.stepTime ns source
    t.mail = s.mail ∧ t.clocks.time = ⟨true, ns / nsPerSec % 2 ^ 48, ns % nsPerSec⟩ ∧ t.clocks.dpll = s.clocks.dpll ∧ t.clocks.log = s.clocks.log := by
  unfold State.stepTime
  dsimp only
  split
  · exact ⟨rfl, rfl, rfl, rfl⟩
  · rw [State.raise_mail, State.raise_clocks]
    exact ⟨rfl, rfl, rfl, rfl⟩

theorem State.timeNs_stepTime (s : State) (ns source : Nat) : (s.stepTime ns source).timeNs = ns % (2 ^ 48 * nsPerSec) := by
  obtain ⟨-, htime, -, -⟩ := s.stepTime_gives ns source
  rw [State.timeNs, htime]
  exact s.timeNs_setTimeNs ns

/-! ### A measurement of the selected input (R301, R302) -/

/-- The measurement is noted as the phase error of the selected input (R302, R303). -/
def State.noted (s : State) (code : Nat) (offsetPs : Int) : State :=
  (s.modRef code fun x => { x with offsetPs := offsetPs }).modDpll fun d => { d with phaseErrPs := offsetPs }

section
variable {s : State} {code : Nat} (hcode : s.clocks.dpll.code = some code) (offsetPs : Int)
include hcode

/-- R302: a measurement within the limit is pulled in. -/
theorem State.measure_within (hpipes : s.stepAllowed = false) (h : offsetPs.natAbs ≤ s.clocks.dpll.jumpLimitPs) :
    s.measure code offsetPs = (s.noted code offsetPs).pullIn code offsetPs := by
  have hlimit : ((s.refInput code).accepted || decide (offsetPs.natAbs ≤ s.clocks.dpll.jumpLimitPs)) = true := by simp [h]
  refine (if_neg (not_not.2 hcode)).trans ?_
  rw [if_neg (by simp [hpipes])]
  exact if_pos hlimit

/-- R301: without a data pipe the measurements after the first are pulled in. -/
theorem State.measure_follows (hpipes : s.stepAllowed = true) (hvalid : s.clocks.time.valid = true) (h : s.clocks.dpll.acceptedSinceSelect = true) :
    s.measure code offsetPs = (s.noted code offsetPs).pullIn code offsetPs := by
  have hfollows : (s.clocks.dpll.acceptedSinceSelect && s.clocks.time.valid) = true := by rw [h, hvalid, Bool.and_self]
  refine (if_neg (not_not.2 hcode)).trans ?_
  rw [if_pos hpipes]
  exact if_pos hfollows

/-- R301: without a data pipe the first measurement after a selection sets the time. -/
theorem State.measure_sets (hpipes : s.stepAllowed = true) (h : s.clocks.time.valid = false ∨ s.clocks.dpll.acceptedSinceSelect = false) {now : Nat} {u : State}
    (hnow : (s.noted code offsetPs).inputTime code offsetPs = (now, u)) : s.measure code offsetPs = (u.stepTime now code).pullIn code 0 := by
  have hsets : ¬(s.clocks.dpll.acceptedSinceSelect && s.clocks.time.valid) = true := by rcases h with h | h <;> simp [h]
  refine (if_neg (not_not.2 hcode)).trans ?_
  rw [if_pos hpipes]
  refine (if_neg hsets).trans ?_
  show (let p := (s.noted code offsetPs).inputTime code offsetPs; (p.2.stepTime p.1 code).pullIn code 0) = _
  rw [hnow]

/-- The state of TIME_BAD before the input is disqualified (R302). -/
def State.refusedJump (s : State) (code : Nat) (offsetPs : Int) : State :=
  (((s.noted code offsetPs).modRef code fun x => { x with timeBad := true }).modDpll fun d => { d with jumpsRefused := rcAdd 32 d.jumpsRefused 1 }).raise 0x0408 0xFF
    (leBytes 1 code ++ leInt 4 (offsetPs / 1000) ++ leBytes 4 (s.clocks.dpll.jumpLimitPs / 1000))

/-- R302: one beyond the limit disqualifies the input as TIME_BAD. -/
theorem State.measure_beyond (hpipes : s.stepAllowed = false) (haccepted : (s.refInput code).accepted = false) (h : s.clocks.dpll.jumpLimitPs < offsetPs.natAbs) :
    s.measure code offsetPs = (s.refusedJump code offsetPs).disqualify code (timeBadTest code) := by
  have hlimit : ¬((s.refInput code).accepted || decide (offsetPs.natAbs ≤ s.clocks.dpll.jumpLimitPs)) = true := by simp [haccepted, h]
  refine (if_neg (not_not.2 hcode)).trans ?_
  rw [if_neg (by simp [hpipes])]
  exact if_neg hlimit

end

theorem State.noted_gives (s : State) (code : Nat) (offsetPs : Int) : let t := s.noted code offsetPs
    t.clocks.time = s.clocks.time ∧ t.clocks.dpll.phaseErrPs = offsetPs ∧ t.mail = s.mail := ⟨rfl, rfl, rfl⟩

theorem State.pullIn_gives (s : State) (code : Nat) (offsetPs : Int) : let t := s.pullIn code offsetPs
    t.clocks.time = s.clocks.time ∧ t.clocks.dpll.pullInPs = offsetPs ∧ t.clocks.dpll.phaseErrPs = s.clocks.dpll.phaseErrPs ∧
      t.clocks.dpll.acceptedSinceSelect = true ∧ t.clocks.dpll.sinceAcceptedS = 0 ∧ t.mail = s.mail := ⟨rfl, rfl, rfl, rfl, rfl, rfl⟩

/-- An input that the DPLL knows, after a change of it. -/
theorem State.refInput_modRef {s : State} {code : Nat} (h : code - 1 < s.clocks.dpll.inputs.length) (f : RefInput → RefInput) :
    (s.modRef code f).refInput code = f (s.refInput code) := getD_modify_same _ _ _ _ h

theorem State.refusedJump_gives {s : State} {code : Nat} (h : code - 1 < s.clocks.dpll.inputs.length) (offsetPs : Int) : let t := s.refusedJump code offsetPs
    t.clocks.time = s.clocks.time ∧ (t.refInput code).timeBad = true ∧ t.clocks.dpll.jumpsRefused = rcAdd 32 s.clocks.dpll.jumpsRefused 1 := by
  intro t
  have hclocks : t.clocks = (((s.noted code offsetPs).modRef code fun x => { x with timeBad := true }).modDpll fun d =>
      { d with jumpsRefused := rcAdd 32 d.jumpsRefused 1 }).clocks := State.raise_clocks ..
  have hknown : code - 1 < (s.noted code offsetPs).clocks.dpll.inputs.length := by
    show code - 1 < (s.clocks.dpll.inputs.modify _ _).length
    rwa [List.length_modify]
  have hbad : ((s.noted code offsetPs).modRef code fun x => { x with timeBad := true }).refInput code = _ := State.refInput_modRef hknown _
  refine ⟨by rw [hclocks]; rfl, ?_, by rw [hclocks]; rfl⟩
  rw [State.refInput, hclocks]
  exact (congrArg RefInput.timeBad hbad :)

/-- TIME_BAD leaves the time alone and takes the input out of the choice (R302). -/
theorem State.timeBad_gives {s : State} {code : Nat} (h : code - 1 < s.clocks.dpll.inputs.length) (offsetPs : Int) (test : Nat) :
    let t := (s.refusedJump code offsetPs).disqualify code test
    t.clocks.time = s.clocks.time ∧ (t.refInput code).timeBad = true ∧ (t.refInput code).qualified = false ∧
      t.clocks.dpll.jumpsRefused = rcAdd 32 s.clocks.dpll.jumpsRefused 1 := by
  obtain ⟨htime, hbad, hjumps⟩ := State.refusedJump_gives h offsetPs
  have hout := (s.refusedJump code offsetPs).disqualify_selects code test
  exact ⟨hout.time.trans htime, (congrArg RefInput.timeBad (hout.refInput code) :).trans hbad, State.disqualify_refInput _ code test,
    (congrArg Dpll.jumpsRefused hout.lasting :).trans hjumps⟩

/-- The time that a measurement gives while there is one: local time less its offset (R301). -/
theorem State.inputTime_offset {s : State} {code now : Nat} (hvalid : s.clocks.time.valid = true) (hnow : s.timeNs = now) (offsetPs : Int) :
    s.inputTime code offsetPs = ((((now : Int) * 1000 - offsetPs) / 1000 % ((2 ^ 48 * nsPerSec : Nat) : Int)).toNat, s) := by
  unfold State.inputTime
  rw [if_neg (by simp [hvalid]), hnow]

/-- The time that an edge of PPS_IN gives while there is none: a whole second that nothing names, and the delay from it (R318, log 84). -/
theorem State.inputTime_edge {s : State} (hvalid : s.clocks.time.valid = false) (offsetPs : Int) : ∃ sec u, sec < 2 ^ 48 ∧ u.mail = s.mail ∧
    s.inputTime 3 offsetPs = ((((sec * nsPerSec : Nat) : Int) + rndDiv (s.refInput 3).delayPs 1000).toNat % (2 ^ 48 * nsPerSec), u) := by
  refine ⟨s.fresh.1 % 2 ^ 48, s.fresh.2, Nat.mod_lt _ (Nat.two_pow_pos 48), rfl, ?_⟩
  unfold State.inputTime
  rw [if_pos ⟨rfl, by simp [hvalid]⟩]

/-- What a measurement that sets the time leaves (R301). -/
theorem State.setsTime_gives (u : State) (code now : Nat) : let t := (u.stepTime now code).pullIn code 0
    t.clocks.time.valid = true ∧ t.timeNs = now % (2 ^ 48 * nsPerSec) ∧ t.clocks.dpll.pullInPs = 0 ∧
      t.clocks.dpll.acceptedSinceSelect = true ∧ t.mail = u.mail := by
  obtain ⟨hmail, htime, -, -⟩ := u.stepTime_gives now code
  obtain ⟨hkept, hpull, -, haccepted, -, hmail'⟩ := (u.stepTime now code).pullIn_gives code 0
  exact ⟨by rw [hkept, htime], (State.timeNs_congr hkept).trans (u.timeNs_stepTime now code), hpull, haccepted, hmail'.trans hmail⟩

/-! ### TIME_SET at an edge (R320) -/

theorem State.waitingPps_none {s : State} : s.waitingPps = none ↔ ∀ r ∈ s.mail.running, ∀ sec, r.waits ≠ .pps sec := by
  unfold State.waitingPps
  rw [List.findSome?_eq_none_iff]
  refine forall₂_congr fun r _ => ?_
  cases r.waits <;> simp

theorem State.waitingPps_some {s : State} {r : Running} {sec : Nat} (h : s.waitingPps = some (r, sec)) : r ∈ s.mail.running := by
  obtain ⟨q, hq, hsome⟩ := List.exists_of_findSome?_eq_some h
  split at hsome
  · obtain ⟨rfl, -⟩ := Prod.mk.inj (Option.some.inj hsome)
    exact hq
  · exact absurd hsome (by simp)

theorem State.finishWith_running (s : State) (r : Running) (st : Status) : (s.finishWith r st).mail.running = s.mail.running.erase r := State.complete_running ..

/-- An edge ends the command that waits for it (R320). -/
theorem State.ppsTimeSet_running (s : State) (r : Running) (sec : Nat) : (s.ppsTimeSet r sec).mail.running = s.mail.running.erase r := by
  unfold State.ppsTimeSet
  split
  · rw [State.finishWith_running, (s.stepTime_gives _ _).1]
  · rw [State.finishWith_running]

/-- Every command that waits for the edge ends at it (R320). -/
theorem State.ppsTimeSets_all (n : Nat) (s : State) (h : s.mail.running.length ≤ n) : (State.ppsTimeSets n s).waitingPps = none := by
  induction n generalizing s with
  | zero =>
    have hnone : s.mail.running = [] := List.length_eq_zero_iff.1 (Nat.le_zero.1 h)
    exact State.waitingPps_none.2 (by simp [State.ppsTimeSets, hnone])
  | succ n ih =>
    unfold State.ppsTimeSets
    split
    next r sec hwait =>
      refine ih _ ?_
      rw [State.ppsTimeSet_running, List.length_erase_of_mem (State.waitingPps_some hwait)]
      exact Nat.sub_le_iff_le_add.2 h
    next hnone => exact hnone

theorem State.ppsTimeSets_none {s : State} (h : s.waitingPps = none) (n : Nat) : State.ppsTimeSets n s = s := by
  cases n with
  | zero => rfl
  | succ n => rw [State.ppsTimeSets, h]

/-- One command alone that waits. -/
theorem State.ppsTimeSets_one {s : State} {r : Running} {sec : Nat} (h : s.waitingPps = some (r, sec))
    (halone : ∀ q ∈ s.mail.running.erase r, ∀ v, q.waits ≠ .pps v) : State.ppsTimeSets s.mail.running.length s = s.ppsTimeSet r sec := by
  have hrest : (s.ppsTimeSet r sec).waitingPps = none := State.waitingPps_none.2 (by rwa [State.ppsTimeSet_running])
  obtain ⟨k, hk⟩ := Nat.exists_eq_succ_of_ne_zero (List.length_pos_of_mem (State.waitingPps_some h)).ne'
  rw [hk, State.ppsTimeSets, h]
  exact State.ppsTimeSets_none hrest k

/-- The command that an edge or the lack of one ends has its answer (R320, R364). -/
theorem State.finishWith_answered {s : State} {r : Running} (hbox : r.origin.mailbox < s.mail.boxes.length)
    (hqueue : (s.mail.queues.getD (s.box r.origin.mailbox).cqSel.toNat {}).depth < 16) (st : Status) :
    Answered (s.finishWith r st) r.origin.mailbox st [] ∧ (s.finishWith r st).clocks = s.clocks :=
  ⟨State.complete_answered _ _ _ _ _ hbox hqueue, State.complete_clocks ..⟩

/-! ### PPS_IN_EDGE -/

theorem exec_ppsInEdge_measures {s : State} (hruns : s.clocksRun = true) (h : s.waitingPps = none) (ns : Int) :
    exec (.ppsInEdge ns) s = .next (s.measure 3 (ns * 1000 - (s.refInput 3).delayPs)) := by
  show execPpsInEdge ns s = _
  simp only [execPpsInEdge, hruns, h, Option.isSome_none, Bool.and_false, Bool.false_and, Bool.not_true, Bool.false_eq_true, if_false]

theorem exec_ppsInEdge_ends {s : State} (hruns : s.clocksRun = true) (h : s.waitingPps.isSome = true) (hqualified : (s.refInput 3).qualified = true)
    (hpipes : s.stepAllowed = true) (ns : Int) : exec (.ppsInEdge ns) s = .next (State.ppsTimeSets s.mail.running.length s) := by
  show execPpsInEdge ns s = _
  simp only [execPpsInEdge, hruns, h, hqualified, hpipes, Bool.and_self, Bool.not_true, Bool.false_eq_true, if_true, if_false]

theorem State.inputTime_mail (s : State) (code : Nat) (offsetPs : Int) : (s.inputTime code offsetPs).2.mail = s.mail := by
  unfold State.inputTime
  split <;> rfl

/-- A measurement with no data pipe leaves the mailboxes alone. -/
theorem State.measure_mail {s : State} (hpipes : s.stepAllowed = true) (code : Nat) (offsetPs : Int) : (s.measure code offsetPs).mail = s.mail := by
  by_cases hcode : s.clocks.dpll.code = some code
  · by_cases hfollows : s.clocks.time.valid = true ∧ s.clocks.dpll.acceptedSinceSelect = true
    · rw [State.measure_follows hcode offsetPs hpipes hfollows.1 hfollows.2]
      rfl
    · have hsets : s.clocks.time.valid = false ∨ s.clocks.dpll.acceptedSinceSelect = false := by
        rcases Bool.eq_false_or_eq_true s.clocks.time.valid with hvalid | hvalid
        · exact .inr (Bool.eq_false_iff.2 fun hfirst => hfollows ⟨hvalid, hfirst⟩)
        · exact .inl hvalid
      have hmail := (s.noted code offsetPs).inputTime_mail code offsetPs
      generalize hinput : (s.noted code offsetPs).inputTime code offsetPs = p at hmail
      rw [State.measure_sets hcode offsetPs hpipes hsets (now := p.1) (u := p.2) hinput]
      obtain ⟨-, -, -, -, hset⟩ := State.setsTime_gives p.2 code p.1
      exact hset.trans hmail
  · rw [State.measure_unselected hcode]
    rfl

/-- After an edge nothing waits for it (R320). -/
theorem ppsInEdge_ends_all {s : State} (hruns : s.clocksRun = true) (hqualified : (s.refInput 3).qualified = true) (hpipes : s.stepAllowed = true) (ns : Int) :
    Gives (.ppsInEdge ns) s fun t => ∀ r ∈ t.mail.running, ∀ sec, r.waits ≠ .pps sec := by
  cases hwait : s.waitingPps with
  | none =>
    refine ⟨_, exec_ppsInEdge_measures hruns hwait ns, ?_⟩
    show ∀ r ∈ (s.measure 3 _).mail.running, _
    rw [State.measure_mail hpipes]
    exact State.waitingPps_none.1 hwait
  | some w => exact ⟨_, exec_ppsInEdge_ends hruns (by rw [hwait]; rfl) hqualified hpipes ns, State.waitingPps_none.1 (State.ppsTimeSets_all _ s le_rfl)⟩

/-- The one TIME_SET that waits takes the time of a qualified edge (R301, R318, R320). -/
theorem ppsInEdge_sets {s : State} {r : Running} {sec now : Nat} (hruns : s.clocksRun = true) (hwait : s.waitingPps = some (r, sec))
    (halone : ∀ q ∈ s.mail.running.erase r, ∀ v, q.waits ≠ .pps v) (hbox : r.origin.mailbox < s.mail.boxes.length)
    (hqueue : (s.mail.queues.getD (s.box r.origin.mailbox).cqSel.toNat {}).depth < 16) (hqualified : (s.refInput 3).qualified = true)
    (hpipes : s.stepAllowed = true) (hnow : (((sec * nsPerSec : Nat) : Int) + rndDiv (s.refInput 3).delayPs 1000).toNat = now) (hlt : now < 2 ^ 48 * nsPerSec)
    (ns : Int) : Gives (.ppsInEdge ns) s fun t => Answered t r.origin.mailbox .ok [] ∧ t.clocks.time.valid = true ∧ t.timeNs = now := by
  refine ⟨_, exec_ppsInEdge_ends hruns (by rw [hwait]; rfl) hqualified hpipes ns, ?_⟩
  rw [State.ppsTimeSets_one hwait halone]
  unfold State.ppsTimeSet
  rw [if_pos hpipes, hnow]
  obtain ⟨hmail, htime, -, -⟩ := s.stepTime_gives now 0
  have hnow' := (s.timeNs_stepTime now 0).trans (Nat.mod_eq_of_lt hlt)
  generalize s.stepTime now 0 = u at *
  have hbox' : u.box r.origin.mailbox = s.box r.origin.mailbox := by rw [State.box, hmail, State.box]
  obtain ⟨hanswered, hclocks⟩ := State.finishWith_answered (s := u) (r := r) (by rwa [hmail]) (by rwa [hmail, hbox']) .ok
  exact ⟨hanswered, by rw [hclocks, htime], (State.timeNs_congr (congrArg Clocks.time hclocks)).trans hnow'⟩

theorem timeSetPpsTimeout_ends {s : State} {r : Running} {sec : Nat} (hwait : s.waitingPps = some (r, sec)) (hbox : r.origin.mailbox < s.mail.boxes.length)
    (hqueue : (s.mail.queues.getD (s.box r.origin.mailbox).cqSel.toNat {}).depth < 16) :
    Gives .timeSetPpsTimeout s fun t => Answered t r.origin.mailbox .tooLate [] ∧ t.clocks = s.clocks := by
  refine ⟨s.finishWith r .tooLate, ?_, State.finishWith_answered hbox hqueue .tooLate⟩
  show execTimeSetPpsTimeout s = _
  rw [execTimeSetPpsTimeout, hwait]

/-- The measurement of an edge, by what R301 and R302 ask of it. -/
theorem ppsInEdge_measures {s : State} (hinputs : s.clocks.dpll.inputs.length = 6) (hruns : s.clocksRun = true) (hwait : s.waitingPps = none) (ns off : Int)
    (hoff : ns * 1000 - (s.refInput 3).delayPs = off) : let d := s.clocks.dpll
    (d.code = some 3 → s.stepAllowed = false → off.natAbs ≤ d.jumpLimitPs → Gives (.ppsInEdge ns) s fun t => t.clocks.time = s.clocks.time ∧
      t.clocks.dpll.pullInPs = off ∧ t.clocks.dpll.phaseErrPs = off ∧ t.clocks.dpll.acceptedSinceSelect = true ∧ t.clocks.dpll.sinceAcceptedS = 0) ∧
    (d.code = some 3 → s.stepAllowed = false → (s.refInput 3).accepted = false → d.jumpLimitPs < off.natAbs → Gives (.ppsInEdge ns) s fun t =>
      t.clocks.time = s.clocks.time ∧ (t.refInput 3).timeBad = true ∧ (t.refInput 3).qualified = false ∧
      t.clocks.dpll.jumpsRefused = rcAdd 32 d.jumpsRefused 1) ∧
    (d.code = some 3 → s.stepAllowed = true → s.clocks.time.valid = true → d.acceptedSinceSelect = true → Gives (.ppsInEdge ns) s fun t =>
      t.clocks.time = s.clocks.time ∧ t.clocks.dpll.pullInPs = off ∧ t.clocks.dpll.sinceAcceptedS = 0) ∧
    (d.code ≠ some 3 → exec (.ppsInEdge ns) s = .next (s.modRef 3 fun y => { y with offsetPs := off })) := by
  have hexec := exec_ppsInEdge_measures hruns hwait ns
  rw [hoff] at hexec
  obtain ⟨htime, hphase, -⟩ := s.noted_gives 3 off
  obtain ⟨hkept, hpull, herr, haccepted, hsince, -⟩ := (s.noted 3 off).pullIn_gives 3 off
  refine ⟨fun hcode hpipes hlim => ?_, fun hcode hpipes hnot hlim => ?_, fun hcode hpipes hvalid hfirst => ?_, fun hcode => ?_⟩
  · rw [State.measure_within hcode off hpipes hlim] at hexec
    exact ⟨_, hexec, hkept.trans htime, hpull, herr.trans hphase, haccepted, hsince⟩
  · rw [State.measure_beyond hcode off hpipes hnot hlim] at hexec
    exact ⟨_, hexec, State.timeBad_gives (by omega) off _⟩
  · rw [State.measure_follows hcode off hpipes hvalid hfirst] at hexec
    exact ⟨_, hexec, hkept.trans htime, hpull, hsince⟩
  · rw [hexec, State.measure_unselected hcode]

/-- The first measurement after a selection sets the time with no data pipe (R301). -/
theorem ppsInEdge_first {s : State} {at_ now : Nat} (hruns : s.clocksRun = true) (hwait : s.waitingPps = none) (ns : Int) {off : Int}
    (hoff : ns * 1000 - (s.refInput 3).delayPs = off) (hcode : s.clocks.dpll.code = some 3) (hpipes : s.stepAllowed = true)
    (hvalid : s.clocks.time.valid = true) (hfirst : s.clocks.dpll.acceptedSinceSelect = false) (hat : s.timeNs = at_)
    (hnow : (((at_ : Int) * 1000 - off) / 1000 % ((2 ^ 48 * nsPerSec : Nat) : Int)).toNat = now) (hlt : now < 2 ^ 48 * nsPerSec) :
    Gives (.ppsInEdge ns) s fun t => t.clocks.time.valid = true ∧ t.timeNs = now ∧ t.clocks.dpll.pullInPs = 0 ∧ t.clocks.dpll.acceptedSinceSelect = true := by
  have hinput : (s.noted 3 off).inputTime 3 off = (now, s.noted 3 off) := by
    rw [State.inputTime_offset (s := s.noted 3 off) hvalid ((State.timeNs_congr rfl).trans hat), hnow]
  have hexec := exec_ppsInEdge_measures hruns hwait ns
  rw [hoff, State.measure_sets hcode off hpipes (.inr hfirst) hinput] at hexec
  obtain ⟨hset, htime, hpull, haccepted, -⟩ := State.setsTime_gives (s.noted 3 off) 3 now
  exact ⟨_, hexec, hset, htime.trans (Nat.mod_eq_of_lt hlt), hpull, haccepted⟩

/-- With no time yet an edge sets a whole second that nothing names (log 84). -/
theorem ppsInEdge_begins {s : State} (hinputs : s.clocks.dpll.inputs.length = 6) (hruns : s.clocksRun = true) (hwait : s.waitingPps = none) (ns : Int)
    (hcode : s.clocks.dpll.code = some 3) (hpipes : s.stepAllowed = true) (hvalid : s.clocks.time.valid = false) :
    Gives (.ppsInEdge ns) s fun t => t.clocks.time.valid = true ∧ t.clocks.dpll.pullInPs = 0 ∧ t.clocks.dpll.acceptedSinceSelect = true ∧
      ∃ sec, sec < 2 ^ 48 ∧ t.timeNs = (((sec * nsPerSec : Nat) : Int) + rndDiv (s.refInput 3).delayPs 1000).toNat % (2 ^ 48 * nsPerSec) := by
  generalize hoff : ns * 1000 - (s.refInput 3).delayPs = off
  obtain ⟨sec, u, hsec, -, hinput⟩ := State.inputTime_edge (s := s.noted 3 off) hvalid off
  have hdelay : ((s.noted 3 off).refInput 3).delayPs = (s.refInput 3).delayPs :=
    (congrArg RefInput.delayPs (State.refInput_modRef (s := s) (code := 3) (by omega) fun x => { x with offsetPs := off }) :)
  rw [hdelay] at hinput
  generalize hedge : (((sec * nsPerSec : Nat) : Int) + rndDiv (s.refInput 3).delayPs 1000).toNat % (2 ^ 48 * nsPerSec) = now at hinput
  have hexec := exec_ppsInEdge_measures hruns hwait ns
  rw [hoff, State.measure_sets hcode off hpipes (.inl hvalid) hinput] at hexec
  obtain ⟨hset, htime, hpull, haccepted, -⟩ := State.setsTime_gives u 3 now
  refine ⟨_, hexec, hset, hpull, haccepted, sec, hsec, ?_⟩
  rw [htime, ← hedge, Nat.mod_mod]

/-- The nanoseconds of data-path time have a bound (R300). -/
theorem toNat_emod_lt (x : Int) : (x % ((2 ^ 48 * nsPerSec : Nat) : Int)).toNat < 2 ^ 48 * nsPerSec := by
  have hpos : 0 < 2 ^ 48 * nsPerSec := Nat.mul_pos (Nat.two_pow_pos 48) (Nat.zero_lt_succ _)
  generalize 2 ^ 48 * nsPerSec = m at *
  have hlt := Int.emod_lt_of_pos x (Int.natCast_pos.2 hpos)
  omega

/-- Settles O48: a measurement takes one of the cases of R301 and R302, and an edge ends each command that waits. -/
theorem timeInputsMeasure : Obligations.TimeInputsMeasure := by
  intro s ns hinputs hruns
  refine ⟨fun hwait => ?_, fun hqualified hpipes => ppsInEdge_ends_all hruns hqualified hpipes ns, fun r sec hwait halone hbox hqueue =>
    ⟨fun hqualified hpipes hlt => ppsInEdge_sets hruns hwait halone hbox hqueue hqualified hpipes rfl hlt ns, timeSetPpsTimeout_ends hwait hbox hqueue⟩⟩
  obtain ⟨hwithin, hbeyond, hfollows, hother⟩ := ppsInEdge_measures hinputs hruns hwait ns _ rfl
  exact ⟨hwithin, fun hcode hpipes haccepted _ hlim => hbeyond hcode hpipes haccepted hlim,
    fun hcode hpipes hvalid hfirst => ppsInEdge_first hruns hwait ns rfl hcode hpipes hvalid hfirst rfl rfl (toNat_emod_lt _), hfollows,
    ppsInEdge_begins hinputs hruns hwait ns, hother⟩

end Sys2Proof.Machine

/-! ## What the twin link sends, and what leaves the DPLL and the mailboxes alone (R331, R399, R476) -/

namespace Sys2Proof.Machine

/-- Frames sent on the twin link: transmitters, what waits, and what leaves the package. -/
def State.TwinSent (s t : State) : Prop :=
  ∃ x w r o, t = { s with lanes := { s.lanes with twinTx := x }, twin := { s.twin with waiting := w, rotation := r }, out := o }

theorem State.TwinSent.refl (s : State) : s.TwinSent s := ⟨_, _, _, _, rfl⟩

theorem State.TwinSent.trans {s t u : State} (h : s.TwinSent t) (g : t.TwinSent u) : s.TwinSent u := by
  obtain ⟨_, _, _, _, rfl⟩ := h
  obtain ⟨_, _, _, _, rfl⟩ := g
  exact ⟨_, _, _, _, rfl⟩

theorem State.twinPump_sent (n : Nat) (s : State) : s.TwinSent (State.twinPump n s) := by
  induction n generalizing s with
  | zero => exact .refl s
  | succ n ih =>
    rw [State.twinPump]
    split
    · exact .trans ⟨_, _, _, _, rfl⟩ (ih _)
    · exact .refl s

theorem State.sendTwin_sent (s : State) (msg transaction : Nat) (payload : List Byte) : s.TwinSent (s.sendTwin msg transaction payload) := by
  unfold State.sendTwin State.twinQueue
  split
  · exact .refl s
  · exact .trans ⟨_, _, _, _, rfl⟩ (State.twinPump_sent _ _)

/-- The mailboxes and the DPLL stay as they are. -/
def State.KeepsDpll (s t : State) : Prop := t.mail = s.mail ∧ t.clocks.dpll = s.clocks.dpll

theorem State.KeepsDpll.trans {s t u : State} (h : s.KeepsDpll t) (g : t.KeepsDpll u) : s.KeepsDpll u := ⟨g.1.trans h.1, g.2.trans h.2⟩

theorem State.EventStep.keepsDpll {s t : State} (h : s.EventStep t) : s.KeepsDpll t := by
  obtain ⟨_, _, _, _, _, _, rfl⟩ := h
  exact ⟨rfl, rfl⟩

theorem State.TwinSent.keepsDpll {s t : State} (h : s.TwinSent t) : s.KeepsDpll t := by
  obtain ⟨_, _, _, _, rfl⟩ := h
  exact ⟨rfl, rfl⟩

theorem State.storeConfig_keepsDpll (s : State) : s.KeepsDpll s.storeConfig := by
  unfold State.storeConfig
  split
  · exact ⟨rfl, rfl⟩
  · exact ((State.EventStep.health s _).trans ((State.deferEpisode_step _ _).trans (State.noteDeath_step _ s))).keepsDpll

theorem State.keepSettings_keepsDpll (s before : State) : s.KeepsDpll (s.keepSettings before) := by
  unfold State.keepSettings
  split
  · exact ⟨rfl, rfl⟩
  · exact s.storeConfig_keepsDpll

theorem State.takeRole_keepsDpll (s : State) (role : TwinRole) : s.KeepsDpll (s.takeRole role).2 := by
  unfold State.takeRole
  split
  · dsimp only
    split
    · exact ⟨rfl, rfl⟩
    · exact (State.raise_step (s.modTwin fun t => { t with exhausted := true }) _ _ _).keepsDpll
  · exact ⟨rfl, rfl⟩

theorem State.becomeAlone_keepsDpll (s : State) : s.KeepsDpll s.becomeAlone := by
  unfold State.becomeAlone
  dsimp only
  split
  · exact (s.takeRole_keepsDpll .alone).trans ⟨rfl, rfl⟩
  · exact (s.takeRole_keepsDpll .alone).trans ⟨rfl, rfl⟩

theorem State.linkUp_keepsDpll (s : State) : s.KeepsDpll s.linkUp := by
  unfold State.linkUp
  split
  · exact ⟨rfl, rfl⟩
  · split
    · exact .trans ⟨rfl, rfl⟩ (State.sendTwin_sent ..).keepsDpll
    · exact ⟨rfl, rfl⟩

theorem State.stepSeven_keepsDpll (s : State) : s.KeepsDpll s.stepSeven := by
  unfold State.stepSeven
  dsimp only
  split
  · unfold State.clocksDone
    dsimp only
    split
    · exact .trans (t := (s.setStage 7).becomeAlone) (State.becomeAlone_keepsDpll (s.setStage 7)) ⟨rfl, rfl⟩
    · exact .trans ⟨rfl, rfl⟩ (State.linkUp_keepsDpll _)
  · exact ⟨rfl, rfl⟩

theorem Answered.congr {s t : State} {m : Nat} {st : Status} {r : List Byte} (h : Answered s m st r) (hmail : t.mail = s.mail) : Answered t m st r := by
  have hbox : t.box m = s.box m := by rw [State.box, hmail, State.box]
  obtain ⟨hdone, hbusy, hstatus, hlen, hreply⟩ := h
  exact ⟨hbox ▸ hdone, hbox ▸ hbusy, hbox ▸ hstatus, hbox ▸ hlen, hbox ▸ hreply⟩

end Sys2Proof.Machine

/-! ## Clock commands (R298, R301, R303, R306, R317 to R323) -/

namespace Sys2Proof.Machine

/-- A command of class O that is not journalled completes with what its meaning answers, for the lease holder and on a standby (R374, R393). -/
theorem Completes.of_owned {i : Instr} {s u : State} {o : Origin} {op n d : Nat} {args : List Byte} {cmd : Cmd} {st : Status} {r : List Byte}
    (he : exec i s = .next (s.row o op args (fixedLen n) cmd)) (h : Leads s o) (hlen : args.length = n) (hn : n ≤ 1024) (hop : classOf op = some .o)
    (hstandby : standbyRefuses op args = false) (hj : journalled op args = false) (hc : cmd o args (s.taken o op args) = .done st d r u)
    (hm : u.mail = (s.taken o op args).mail) : Completes i s o.mailbox st r u := by
  refine Completes.of_row he h.served (hlen ▸ hn) (fixedLen_none n args hlen) (by rw [hop]; rfl) (by rw [hstandby, Bool.and_false]) (fun _ => h.leads) hc hm
    (.inl hj) ?_
  rintro rfl
  exact absurd hop (by decide)

/-! ### REF_CONFIG (R292, R293, R317) -/

/-- The settings that REF_CONFIG names (R317). -/
def Dpll.configured (d : Dpll) (args : List Byte) : Dpll :=
  { d with revertive := (field args 0 1).testBit 0, haulRecLane := field args 1 1, wtrS := if field args 2 2 = 0xFFFF then 60 else field args 2 2
           xoFreqHz := field args 4 4, entries := refEntries args, slopePpb := orDefault (field args 14 2) 100
           jumpThreshNs := orDefault (field args 16 4) 100, holdAllowPpb := if field args 20 2 = 0xFFFF then 1 else field args 20 2
           holdAvgS := orDefault (field args 22 2) 100 }

/-- The settings that PULSE_CONFIG names (R323). -/
def pulseSettings (args : List Byte) : PulseCfg :=
  { ppsWidthUs := orDefault (field args 0 4) 100, tickWidthUs := orDefault (field args 4 4) 10, tickOffsetNs := fieldS args 8 4
    refOutDiv := field args 12 1, ppsEn := (field args 13 1).testBit 0, tickEn := (field args 13 1).testBit 1 }

/-- The port that PTP_CONFIG starts (R322). -/
def ptpSettings (args : List Byte) : Ptp :=
  { mode := field args 0 1, oneStep := (field args 1 1).testBit 0, peerDelay := (field args 1 1).testBit 1, transport := field args 1 1 / 4 % 4
    domain := field args 2 1, priority1 := field args 3 1, priority2 := field args 4 1, logAnnounce := fieldS args 5 1, logSync := fieldS args 6 1
    logDelay := fieldS args 7 1, announceTimeout := field args 8 1, txLatencyPs := field args 12 4, rxLatencyPs := field args 16 4
    asymmetryPs := fieldS args 20 4, role := if field args 0 1 = 0 then .disabled else .listening }

/-- REF_TIME_ACCEPT takes the present offset of a time input (R303). -/
def State.acceptTime (s : State) (code : Nat) : State :=
  let t := s.modRef code fun x => { x with timeBad := false, accepted := true }
  if s.clocks.dpll.code = some code then t.pullIn code (s.refInput code).offsetPs else t

theorem State.acceptTime_gives {s : State} {code : Nat} (h : code - 1 < s.clocks.dpll.inputs.length) : let u := s.acceptTime code
    (u.refInput code).timeBad = false ∧
      (s.clocks.dpll.code = some code → u.clocks.dpll.pullInPs = (s.refInput code).offsetPs ∧ (u.refInput code).accepted = false) ∧
      (s.clocks.dpll.code ≠ some code → u.clocks.dpll.pullInPs = s.clocks.dpll.pullInPs ∧ (u.refInput code).accepted = true) ∧ u.mail = s.mail := by
  have htaken := State.refInput_modRef h fun x => { x with timeBad := false, accepted := true }
  unfold State.acceptTime
  dsimp only
  split
  next hcode =>
    have hpulled := State.refInput_modRef (s := s.modRef code fun x => { x with timeBad := false, accepted := true }) (code := code)
      (by show code - 1 < (s.clocks.dpll.inputs.modify _ _).length; rwa [List.length_modify]) fun x => { x with accepted := false }
    rw [htaken] at hpulled
    exact ⟨(congrArg RefInput.timeBad hpulled :), fun _ => ⟨rfl, (congrArg RefInput.accepted hpulled :)⟩, fun hnot => absurd hcode hnot, rfl⟩
  next hcode => exact ⟨by rw [htaken], fun hyes => absurd hyes hcode, fun _ => ⟨rfl, by rw [htaken]⟩, rfl⟩

section
variable {s : State} {o : Origin} {args : List Byte} (h : Leads s o)
include h

/-- REF_CONFIG's own outcome leaves what choosing, keeping the settings and the end of step 7 leave (R293, R399, R476). -/
theorem refConfig_gives (hlen : args.length = 24) (haccepted : (cmdRefConfig o args (s.taken o 0x0500 args)).accepted = true) :
    ∃ u, exec (.refConfig o args) s = .next u ∧ Answered u o.mailbox .ok [] ∧ u.clocks.dpll.lasting = (s.clocks.dpll.configured args).lasting ∧
      u.clocks.dpll.steerPpt ∈ [s.clocks.dpll.steerPpt, 0] := by
  let t := s.taken o 0x0500 args
  let u := ((t.modDpll (·.configured args)).refSelect t.clocks.dpll).refCheck
  have hchosen : (t.modDpll (·.configured args)).Selects u := (State.refSelect_selects _ _).trans (State.refCheck_selects _)
  have hcmd : cmdRefConfig o args t = .done .ok 0 [] u := by
    unfold cmdRefConfig at haccepted ⊢
    exact checked_accepted haccepted
  have hrow := State.row_done (len := fixedLen 24) h.served (by omega) (fixedLen_none 24 args hlen) rfl (Bool.and_false _)
    (fun _ => h.leads) hcmd (.inl rfl) (by decide)
  have hkept := ((s.row o 0x0500 args (fixedLen 24) cmdRefConfig).keepSettings_keepsDpll s).trans (State.stepSeven_keepsDpll _)
  rw [hrow] at hkept
  have hdpll : ((u.complete o.mailbox .ok 0 []).keepSettings s).stepSeven.clocks.dpll = u.clocks.dpll :=
    hkept.2.trans (congrArg Clocks.dpll (State.complete_clocks ..))
  have hbefore : t.clocks.dpll = s.clocks.dpll := congrArg Clocks.dpll (s.taken_clocks ..)
  refine ⟨((u.complete o.mailbox .ok 0 []).keepSettings s).stepSeven, congrArg (fun v : State => Host.Outcome.next (v.keepSettings s).stepSeven) hrow,
    Answered.congr (State.row_answered h.served hchosen.mail) hkept.1, ?_, ?_⟩
  · rw [hdpll, hchosen.lasting]
    exact congrArg (fun d : Dpll => (d.configured args).lasting) hbefore
  · rw [hdpll, ← hbefore]
    exact hchosen.steer

/-! ### REF_INPUT_CONFIG, CLOCK_STEER, PULSE_CONFIG (R298, R318, R319, R323) -/

theorem refInputConfig_completes (hlen : args.length = 20) (haccepted : (cmdRefInputConfig o args (s.taken o 0x0501 args)).accepted = true) :
    Completes (.refInputConfig o args) s o.mailbox .ok [] ((s.taken o 0x0501 args).modRef (field args 0 1) fun x =>
      { x with qualS := if field args 2 2 = 0 then 10 else field args 2 2, freqHz := field args 4 4
               bwMilliHz := if field args 8 4 = 0 then [10000, 10000, 50, 10, 200000, 200000].getD (field args 0 1 - 1) 0 else field args 8 4
               qualPpm := if field args 0 1 = 3 ∨ field args 0 1 = 4 then 0 else if field args 12 2 = 0 then 10 else field args 12 2
               delayPs := fieldS args 16 4 }) := by
  refine Completes.of_owned (op := 0x0501) (cmd := cmdRefInputConfig) (d := 0) rfl h hlen (by decide) rfl rfl rfl ?_ rfl
  unfold cmdRefInputConfig at haccepted ⊢
  refine (checked_accepted haccepted).trans (congrArg (fun f => okay ((s.taken o 0x0501 args).modRef (field args 0 1) f)) (funext fun x => ?_))
  simp only [orDefault, defaultBandwidth, Bool.or_eq_true, beq_iff_eq]

theorem clockSteer_completes (hlen : args.length = 4) (hrange : (fieldS args 0 4).natAbs ≤ 200000000) (hacquire : s.clocks.dpll.state ≠ .acquire)
    (hlocked : s.clocks.dpll.state ≠ .locked) (hwide : s.clocks.dpll.beyondPull (fieldS args 0 4) = true → s.lanesQuiet = true) :
    Completes (.clockSteer o args) s o.mailbox .ok [] ((s.taken o 0x0502 args).modDpll fun d =>
      { d with steerPpt := fieldS args 0 4, wide := s.clocks.dpll.beyondPull (fieldS args 0 4) }) := by
  have hquiet : (s.taken o 0x0502 args).lanesQuiet = s.lanesQuiet := by simp only [State.lanesQuiet, State.linkLanes, State.taken_lanes]
  refine Completes.of_owned (op := 0x0502) (cmd := cmdClockSteer) (d := 0) rfl h hlen (by decide) rfl rfl rfl ?_ rfl
  unfold cmdClockSteer
  refine (checked_pass ?_).trans ?_
  · simp only [firstFail_cons, firstFail_nil, signedRange, bad_fst, refusedIf_fst, hquiet, State.taken_clocks]
    refine ⟨decide_eq_false (by omega), by simp [hacquire, hlocked], ?_, trivial⟩
    cases hbeyond : s.clocks.dpll.beyondPull (fieldS args 0 4) with
    | true => rw [hwide hbeyond]; rfl
    | false => rfl
  · simp only [State.modDpll, State.taken_clocks]
    rfl

theorem pulseConfig_completes (hlen : args.length = 16) (haccepted : (cmdPulseConfig o args (s.taken o 0x0506 args)).accepted = true) :
    Completes (.pulseConfig o args) s o.mailbox .ok [] ((s.taken o 0x0506 args).modPulses fun p => { p with next := some (pulseSettings args) }) := by
  refine Completes.of_owned (op := 0x0506) (cmd := cmdPulseConfig) (d := 0) rfl h hlen (by decide) rfl rfl rfl ?_ rfl
  unfold cmdPulseConfig at haccepted ⊢
  exact checked_accepted haccepted

/-! ### PTP_CONFIG (R322) -/

/-- The port restarts with its settings, and the PTP input must qualify again (R322). -/
theorem ptpConfig_completes (hlen : args.length = 24) (haccepted : (cmdPtpConfig o args (s.taken o 0x0505 args)).accepted = true) :
    ∃ u, u.clocks.ptp = ptpSettings args ∧ (u.refInput 4).qualified = false ∧ Completes (.ptpConfig o args) s o.mailbox .ok [] u := by
  let t := (s.taken o 0x0505 args).modPtp fun _ => ptpSettings args
  have hcmd : cmdPtpConfig o args (s.taken o 0x0505 args) = okay (t.disqualify 4 7) := by
    unfold cmdPtpConfig at haccepted ⊢
    exact checked_accepted haccepted
  have hout := t.disqualify_selects 4 7
  exact ⟨_, hout.ptp, t.disqualify_refInput 4 7,
    Completes.of_owned (op := 0x0505) (cmd := cmdPtpConfig) (d := 0) rfl h hlen (by decide) rfl rfl rfl hcmd hout.mail⟩

/-! ### REF_TIME_ACCEPT (R303) -/

theorem refTimeAccept_completes (hlen : args.length = 4) (hlo : 3 ≤ field args 0 1) (hhi : field args 0 1 ≤ 4) (hzero : ZeroBytes args 1 4)
    (hinputs : 4 ≤ s.clocks.dpll.inputs.length) : ∃ u, (u.refInput (field args 0 1)).timeBad = false ∧
      (s.clocks.dpll.code = some (field args 0 1) → u.clocks.dpll.pullInPs = (s.refInput (field args 0 1)).offsetPs ∧
        (u.refInput (field args 0 1)).accepted = false) ∧
      (s.clocks.dpll.code ≠ some (field args 0 1) → u.clocks.dpll.pullInPs = s.clocks.dpll.pullInPs ∧ (u.refInput (field args 0 1)).accepted = true) ∧
      Completes (.refTimeAccept o args) s o.mailbox .ok [] u := by
  have hcmd : cmdRefTimeAccept o args (s.taken o 0x0508 args) = okay ((s.taken o 0x0508 args).acceptTime (field args 0 1)) := by
    unfold cmdRefTimeAccept
    refine checked_pass ?_
    rw [firstFail_append, firstFail_cons, inRange_fst]
    exact ⟨⟨⟨hlo, hhi⟩, rfl⟩, reserved_pass hzero⟩
  have hclocks : (s.taken o 0x0508 args).clocks = s.clocks := s.taken_clocks ..
  obtain ⟨hbad, hselected, hother, hmail⟩ := State.acceptTime_gives (s := s.taken o 0x0508 args) (code := field args 0 1) (by rw [hclocks]; omega)
  rw [State.refInput, hclocks] at hselected
  rw [hclocks] at hother
  exact ⟨_, hbad, hselected, hother,
    Completes.of_owned (op := 0x0508) (cmd := cmdRefTimeAccept) (d := 0) rfl h hlen (by decide) rfl rfl rfl hcmd hmail⟩

end

end Sys2Proof.Machine

/-! ## The commands that set a time (R301, R306, R320, R321) -/

namespace Sys2Proof.Machine

/-! ### An entry of the log, found in its slot (R443) -/

theorem find_assign_self {β : Type} (l : List (Nat × β)) (k : Nat) (v : β) : (assign l k v).find? (·.1 == k) = some (k, v) := by
  unfold assign
  induction l with
  | nil => simp [upsert]
  | cons a l ih =>
    rw [upsert]
    split
    · simp
    next h => rw [List.find?_cons_of_neg (by simpa using h), ih]

theorem find_assign_other {β : Type} {l : List (Nat × β)} {k j : Nat} {v : Nat × β} {w : β} (h : l.find? (·.1 == k) = some v) (hkey : k ≠ j) :
    (assign l j w).find? (·.1 == k) = some v := by
  unfold assign
  induction l with
  | nil => cases h
  | cons a l ih =>
    rw [upsert]
    by_cases ha : (a.1 == k) = true
    · rw [List.find?_cons_of_pos (p := fun x : Nat × β => x.1 == k) ha] at h
      rw [if_neg (by simp [eq_of_beq ha, hkey]), List.find?_cons_of_pos (p := fun x : Nat × β => x.1 == k) ha, h]
    · rw [List.find?_cons_of_neg (p := fun x : Nat × β => x.1 == k) ha] at h
      split
      · rw [List.find?_cons_of_neg (by simpa using hkey.symm), h]
      · rw [List.find?_cons_of_neg (p := fun x : Nat × β => x.1 == k) ha, ih h]

/-- A log that takes entries holds in the next slot what it is told. -/
theorem State.LogTakes.raise_slot {s : State} (h : s.LogTakes) (code die : Nat) (detail : List Byte) :
    (s.raise code die detail).health.log.slots.find? (·.1 == s.health.log.nextSeq % 262144) =
      some (s.health.log.nextSeq % 262144, (s.newEntry code die detail).1) := by
  let e := (s.newEntry code die detail).1
  let w := (s.newEntry code die detail).2.logWrite e
  have hnumbered : (s.newEntry code die detail).2.LogTakes := ⟨h.live, h.power, h.media⟩
  have hwritten : w.health.log = s.health.log.next e := by
    show ((s.newEntry code die detail).2.logWrite e).health.log = _
    rw [hnumbered.logWrite, State.logPut_log]
    rfl
  have hdelivered := (h.of_next hwritten ((State.logWrite_measured ..).trans rfl)).deliver_log e
  have hraised : (s.raise code die detail).health.log = (w.deliver e).health.log := by
    have hone : (s.raiseOne code die detail).health.log = (w.deliver e).health.log := by
      unfold State.raiseOne
      dsimp only
      split <;> rfl
    have hlive : (s.raiseOne code die detail).health.log.dead = false := by
      rw [hone]
      rcases hdelivered with hlog | ⟨m, -, hlog⟩ <;> rw [hlog, hwritten] <;> exact h.live
    unfold State.raise
    dsimp only
    rw [hlive]
    exact hone
  have hself : (s.health.log.next e).slots.find? (·.1 == s.health.log.nextSeq % 262144) = some (s.health.log.nextSeq % 262144, e) := find_assign_self ..
  rw [hraised]
  rcases hdelivered with hlog | ⟨m, hm, hlog⟩
  · rw [hlog, hwritten, hself]
  · rw [hlog, hwritten]
    refine find_assign_other hself ?_
    rw [hm, hwritten]
    show s.health.log.nextSeq % 262144 ≠ (s.health.log.nextSeq + 1) % 262144
    omega

/-! ### LOG_TIME_SET (R306, R321) -/

theorem State.logTimeNs_congr {s t : State} (hsec : t.clocks.log.sec = s.clocks.log.sec) (hns : t.clocks.log.ns = s.clocks.log.ns) :
    t.logTimeNs = s.logTimeNs := by rw [State.logTimeNs, hsec, hns, State.logTimeNs]

theorem State.stepLog_gives (s : State) (sec ns : Nat) : let t := s.stepLog sec ns
    t.mail = s.mail ∧ t.clocks = { s.clocks with log := { s.clocks.log with sec := sec, ns := ns, frac := 0 } } :=
  ⟨State.raise_mail .., State.raise_clocks ..⟩

/-- A step of log time tells the time before it and the time after it (R306). -/
theorem State.stepLog_entry {s : State} (h : s.LogTakes) (sec ns : Nat) :
    ∃ k e, (s.stepLog sec ns).health.log.slots.find? (·.1 == s.health.log.nextSeq % 262144) = some (k, e) ∧ e.code = 0x040B ∧
      e.detail = leBytes 8 s.logTimeNs ++ leBytes 8 (s.stepLog sec ns).logTimeNs := by
  let u : State := { s with
    clocks := { s.clocks with log := { s.clocks.log with sec := sec, ns := ns, frac := 0 } }
    health := { s.health with kiln := s.health.kiln.map fun k => { k with passSec := k.passSec + (sec : Int) - s.clocks.log.sec } } }
  have hu : u.LogTakes := ⟨h.live, h.power, h.media⟩
  have htime : (s.stepLog sec ns).logTimeNs = u.logTimeNs :=
    State.logTimeNs_congr (by rw [(s.stepLog_gives sec ns).2]) (by rw [(s.stepLog_gives sec ns).2])
  rw [htime]
  exact ⟨_, _, hu.raise_slot 0x040B 0xFF (leBytes 8 s.logTimeNs ++ leBytes 8 u.logTimeNs), rfl, rfl⟩

/-- The increment that LOG_TIME_SET names, where it sets one (R306). -/
def State.setInc (s : State) (args : List Byte) : State :=
  if (field args 0 1).testBit 0 then { s with clocks := { s.clocks with log := { s.clocks.log with incNs := field args 1 1, incFrac := field args 4 4 } } } else s

/-- What LOG_TIME_SET does (R321). -/
def State.setLog (s : State) (args : List Byte) : State :=
  let t := s.setInc args
  if (field args 0 1).testBit 1 then t.stepLog (field args 8 8) (field args 16 4)
  else if (field args 0 1).testBit 2 then t.stepLog t.clocks.time.sec t.clocks.time.ns
  else t

theorem State.setInc_gives (s : State) (args : List Byte) : let t := s.setInc args
    t.mail = s.mail ∧ t.health = s.health ∧ t.clocks.time = s.clocks.time ∧ t.clocks.log.sec = s.clocks.log.sec ∧ t.clocks.log.ns = s.clocks.log.ns ∧
      t.clocks.log.incNs = (if (field args 0 1).testBit 0 then field args 1 1 else s.clocks.log.incNs) ∧
      t.clocks.log.incFrac = (if (field args 0 1).testBit 0 then field args 4 4 else s.clocks.log.incFrac) := by
  unfold State.setInc
  split <;> exact ⟨rfl, rfl, rfl, rfl, rfl, rfl, rfl⟩

/-- The settings and the step of LOG_TIME_SET, by its flags (R306, R321). -/
theorem State.setLog_gives (s : State) (args : List Byte) : let u := s.setLog args
    u.mail = s.mail ∧ u.clocks.time = s.clocks.time ∧
      u.clocks.log.incNs = (if (field args 0 1).testBit 0 then field args 1 1 else s.clocks.log.incNs) ∧
      u.clocks.log.incFrac = (if (field args 0 1).testBit 0 then field args 4 4 else s.clocks.log.incFrac) ∧
      ((field args 0 1).testBit 1 = true → u.clocks.log.sec = field args 8 8 ∧ u.clocks.log.ns = field args 16 4) ∧
      ((field args 0 1).testBit 1 = false → (field args 0 1).testBit 2 = true → u.clocks.log.sec = s.clocks.time.sec ∧ u.clocks.log.ns = s.clocks.time.ns) ∧
      ((field args 0 1).testBit 1 = false → (field args 0 1).testBit 2 = false → u.clocks.log.sec = s.clocks.log.sec ∧ u.clocks.log.ns = s.clocks.log.ns) := by
  obtain ⟨hmail, -, htime, hsec, hns, hinc, hfrac⟩ := s.setInc_gives args
  unfold State.setLog
  dsimp only
  generalize s.setInc args = t at *
  split
  next hset =>
    obtain ⟨hmail', hclocks⟩ := t.stepLog_gives (field args 8 8) (field args 16 4)
    rw [hmail', hclocks]
    exact ⟨hmail, htime, hinc, hfrac, fun _ => ⟨rfl, rfl⟩, fun hnot => absurd (hset.symm.trans hnot) (by decide),
      fun hnot => absurd (hset.symm.trans hnot) (by decide)⟩
  next hunset =>
    split
    next hcopy =>
      obtain ⟨hmail', hclocks⟩ := t.stepLog_gives t.clocks.time.sec t.clocks.time.ns
      rw [hmail', hclocks]
      exact ⟨hmail, htime, hinc, hfrac, fun hset => absurd hset hunset, fun _ _ => ⟨by rw [htime], by rw [htime]⟩,
        fun _ hnot => absurd (hcopy.symm.trans hnot) (by decide)⟩
    next hplain => exact ⟨hmail, htime, hinc, hfrac, fun hset => absurd hset hunset, fun _ hcopy => absurd hcopy hplain, fun _ _ => ⟨hsec, hns⟩⟩

/-- A step that LOG_TIME_SET makes is an entry of the log (R306). -/
theorem State.setLog_entry {s : State} (h : s.LogTakes) (args : List Byte) (hstep : (field args 0 1).testBit 1 = true ∨ (field args 0 1).testBit 2 = true) :
    ∃ k e, (s.setLog args).health.log.slots.find? (·.1 == s.health.log.nextSeq % 262144) = some (k, e) ∧ e.code = 0x040B ∧
      e.detail = leBytes 8 s.logTimeNs ++ leBytes 8 (s.setLog args).logTimeNs := by
  obtain ⟨-, hhealth, -, hsec, hns, -, -⟩ := s.setInc_gives args
  have htakes : (s.setInc args).LogTakes :=
    ⟨hhealth ▸ h.live, (State.holdOk_congr (State.measured_congr hhealth) .log).trans h.power, hhealth ▸ h.media⟩
  have htime : (s.setInc args).logTimeNs = s.logTimeNs := State.logTimeNs_congr hsec hns
  unfold State.setLog
  dsimp only
  rw [← htime, ← hhealth]
  split
  · exact State.stepLog_entry htakes _ _
  next hunset =>
    rw [if_pos (hstep.resolve_left hunset)]
    exact State.stepLog_entry htakes _ _

section
variable {s : State} {o : Origin} {args : List Byte} (h : Leads s o)
include h

theorem logTimeSet_completes (hlen : args.length = 20) (hflags : field args 0 1 < 8) (hlo : 3 ≤ field args 1 1) (hhi : field args 1 1 ≤ 5)
    (hone : ¬((field args 0 1).testBit 1 = true ∧ (field args 0 1).testBit 2 = true)) (hzero : ZeroBytes args 2 4) (hsec : field args 8 8 < 2 ^ 48)
    (hns : field args 16 4 < 10 ^ 9) : Completes (.logTimeSet o args) s o.mailbox .ok [] ((s.taken o 0x0504 args).setLog args) := by
  refine Completes.of_owned (op := 0x0504) (cmd := cmdLogTimeSet) (d := 0) rfl h hlen (by decide) rfl rfl rfl ?_ (State.setLog_gives _ args).1
  unfold cmdLogTimeSet
  refine checked_pass ?_
  have hbits : ((field args 0 1).testBit 1 && (field args 0 1).testBit 2) = false := by simpa using hone
  simp only [firstFail_cons, firstFail_nil, inRange_fst, bad_fst, hbits, hzero 2 le_rfl (by decide), hzero 3 (by decide) (by decide)]
  exact ⟨by simp; omega, ⟨hlo, hhi⟩, rfl, rfl, decide_eq_false (by omega), ⟨Nat.zero_le _, by omega⟩, trivial⟩

/-- INC_NS is tested with SET_INC clear too (log 87). -/
theorem logTimeSet_badArgument (hlen : args.length = 20) (hflags : field args 0 1 < 8)
    (hone : ¬((field args 0 1).testBit 1 = true ∧ (field args 0 1).testBit 2 = true)) (hout : field args 1 1 < 3 ∨ 5 < field args 1 1) :
    Completes (.logTimeSet o args) s o.mailbox .badArgument [] (s.taken o 0x0504 args) := by
  refine Completes.of_owned (op := 0x0504) (cmd := cmdLogTimeSet) (d := 1) rfl h hlen (by decide) rfl rfl rfl ?_ rfl
  unfold cmdLogTimeSet
  refine checked_fail (st := .badArgument) ?_
  have hbits : ((field args 0 1).testBit 1 && (field args 0 1).testBit 2) = false := by simpa using hone
  have hfirst : (decide (8 ≤ field args 0 1) || (field args 0 1).testBit 1 && (field args 0 1).testBit 2) = false := by
    rw [hbits, Bool.or_false]
    exact decide_eq_false (by omega)
  have hsecond : (decide (field args 1 1 < 3) || decide (5 < field args 1 1)) = true := by simpa using hout
  unfold firstFail
  rw [List.find?_cons_of_neg (by rw [bad_fst, hfirst]; exact Bool.false_ne_true), List.find?_cons_of_pos (by rw [inRange, bad_fst, hsecond])]
  rfl

end

/-! ### TIME_SET (R301, R320) -/

theorem cmdTimeSet_passes {t : State} {o : Origin} {args : List Byte} (hsec : field args 0 8 < 2 ^ 48) (hns : field args 8 4 < 10 ^ 9) (hflags : field args 12 1 < 2)
    (hzero : ZeroBytes args 13 16) (hpipes : t.stepAllowed = true) : cmdTimeSet o args t =
      if (field args 12 1).testBit 0 then .wait (.pps (field args 0 8)) .ok 0 [] t else okay (t.stepTime (field args 0 8 * nsPerSec + field args 8 4) 0) := by
  unfold cmdTimeSet
  refine checked_pass ?_
  simp only [firstFail_append, firstFail_cons, firstFail_nil, inRange_fst, bad_fst, refusedIf_fst, reservedHigh_fst, hpipes]
  exact ⟨⟨⟨decide_eq_false (by omega), ⟨Nat.zero_le _, by omega⟩, by omega, trivial⟩, reserved_pass hzero⟩, rfl, trivial⟩

/-- The seconds and nanoseconds of a time (R300). -/
theorem secNs_of_sum {sec ns : Nat} (hsec : sec < 2 ^ 48) (hns : ns < nsPerSec) :
    (sec * nsPerSec + ns) / nsPerSec % 2 ^ 48 = sec ∧ (sec * nsPerSec + ns) % nsPerSec = ns := by
  have hpos : 0 < nsPerSec := Nat.zero_lt_succ _
  generalize nsPerSec = n at *
  rw [Nat.add_comm, Nat.add_mul_div_right _ _ hpos, Nat.div_eq_of_lt hns, Nat.zero_add, Nat.mod_eq_of_lt hsec, Nat.add_mul_mod_self_right, Nat.mod_eq_of_lt hns]
  exact ⟨rfl, rfl⟩

theorem timeSet_completes {s : State} {o : Origin} {args : List Byte} (h : Leads s o) (hlen : args.length = 16) (hsec : field args 0 8 < 2 ^ 48)
    (hns : field args 8 4 < 10 ^ 9)
    (hcmd : cmdTimeSet o args (s.taken o 0x0503 args) = okay ((s.taken o 0x0503 args).stepTime (field args 0 8 * nsPerSec + field args 8 4) 0)) :
    ∃ u, u.clocks.time.valid = true ∧ u.clocks.time.sec = field args 0 8 ∧ u.clocks.time.ns = field args 8 4 ∧ u.clocks.log = s.clocks.log ∧
      Completes (.timeSet o args) s o.mailbox .ok [] u := by
  obtain ⟨hmail, htime, -, hlog⟩ := (s.taken o 0x0503 args).stepTime_gives (field args 0 8 * nsPerSec + field args 8 4) 0
  obtain ⟨hs, hn⟩ := secNs_of_sum hsec hns
  have hdone := Completes.of_owned (i := .timeSet o args) (op := 0x0503) (cmd := cmdTimeSet) (d := 0) rfl h hlen (by decide) rfl rfl rfl hcmd hmail
  rw [hs, hn] at htime
  exact ⟨_, by rw [htime], by rw [htime], by rw [htime], hlog.trans (congrArg Clocks.log (s.taken_clocks ..)), hdone⟩

/-- With AT_PPS the command stays in progress (R320). -/
theorem timeSet_waits {s : State} {o : Origin} {args : List Byte} (h : Leads s o) (hlen : args.length = 16)
    (hcmd : cmdTimeSet o args (s.taken o 0x0503 args) = .wait (.pps (field args 0 8)) .ok 0 [] (s.taken o 0x0503 args)) :
    ∃ u, exec (.timeSet o args) s = .next u ∧ (u.box o.mailbox).busy = true ∧ u.clocks = s.clocks ∧
      ∃ r ∈ u.mail.running, r.origin = o ∧ r.waits = .pps (field args 0 8) := by
  have hrow := State.row_wait (len := fixedLen 16) h.served (by omega) (fixedLen_none 16 args hlen) rfl (Bool.and_false _) (fun _ => h.leads) hcmd
  refine ⟨_, congrArg Host.Outcome.next hrow, ?_, s.taken_clocks .., _, List.mem_append_right _ List.mem_cons_self, rfl, rfl⟩
  show ((s.taken o 0x0503 args).box o.mailbox).busy = true
  rw [State.taken_box s o 0x0503 args h.served.mailbox]
  rfl

/-- Settles O18: each command passes its tests, and what it changes is what its table names. -/
theorem clockCommandsComplete : Obligations.ClockCommandsComplete := by
  refine ⟨fun s o args h => ⟨fun hlen haccepted => ?_, refInputConfig_completes h, clockSteer_completes h,
    fun hlen hflags hlo hhi hone hzero hsec hns => ?_, logTimeSet_badArgument h, fun hlen haccepted => ?_, pulseConfig_completes h, refTimeAccept_completes h⟩,
    fun s o args h hlen hsec hns hflags hzero hpipes => ?_⟩
  · obtain ⟨u, hexec, hanswered, hlasting, hsteer⟩ := refConfig_gives h hlen haccepted
    exact ⟨u, hexec, hanswered, (congrArg Dpll.entries hlasting :), (congrArg Dpll.revertive hlasting :), (congrArg Dpll.haulRecLane hlasting :),
      (congrArg Dpll.xoFreqHz hlasting :), (congrArg Dpll.slopePpb hlasting :), (congrArg Dpll.wtrS hlasting :), (congrArg Dpll.jumpThreshNs hlasting :),
      (congrArg Dpll.holdAllowPpb hlasting :), (congrArg Dpll.holdAvgS hlasting :), hsteer⟩
  · have hclocks : (s.taken o 0x0504 args).clocks = s.clocks := s.taken_clocks ..
    have hhealth : (s.taken o 0x0504 args).health = s.health := s.taken_health ..
    have htime : (s.taken o 0x0504 args).logTimeNs = s.logTimeNs := State.logTimeNs_congr (by rw [hclocks]) (by rw [hclocks])
    have hentry := fun hstep (htakes : (s.taken o 0x0504 args).LogTakes) => State.setLog_entry htakes args hstep
    have hgives := (s.taken o 0x0504 args).setLog_gives args
    rw [hclocks] at hgives
    rw [hhealth, htime] at hentry
    obtain ⟨-, hkept, hinc, hfrac, hset, hcopy, hplain⟩ := hgives
    refine ⟨_, hkept, hinc, hfrac, hset, fun hbit => hcopy (Bool.eq_false_iff.2 fun hbit1 => hone ⟨hbit1, hbit⟩) hbit, hplain,
      fun hstep hlive hpower hmedia => ?_,
      logTimeSet_completes h hlen hflags hlo hhi hone hzero hsec hns⟩
    exact hentry hstep ⟨by rw [hhealth, hlive], (State.holdOk_congr (State.measured_congr hhealth) .log).trans hpower, by rw [hhealth, hmedia]⟩
  · obtain ⟨u, hptp, hout, hdone⟩ := ptpConfig_completes h hlen haccepted
    exact ⟨u, hptp, fun _ => hout, hdone⟩
  · have hcmd := cmdTimeSet_passes (o := o) hsec hns hflags hzero hpipes
    refine ⟨fun hnow => timeSet_completes h hlen hsec hns (hcmd.trans (if_neg (by simp [hnow]))), fun hpps => timeSet_waits h hlen (hcmd.trans (if_pos hpps))⟩

end Sys2Proof.Machine

/-! ## Attachment and switch of a twin pair (R304, R326, R338, R347, R349, R350) -/

namespace Sys2Proof.Machine

/-! ### A frame that the twin link takes (R264, R329, R331) -/

/-- What says whether a receiver of the twin link carries frames (R261, R331). -/
def RxLane.carrying (x : RxLane) : LockState × Int × Bool × Bool := (x.lock, x.skewPs, x.inPass, x.failed)

/-- What a frame that passes its checks leaves: other receivers of the twin link, which carry frames as they did, and other claims. -/
def State.TookTwin (s t : State) : Prop :=
  ∃ x c, t = { s with lanes := { s.lanes with twinRx := x, claims := c } } ∧ x.map RxLane.carrying = s.lanes.twinRx.map RxLane.carrying

theorem State.TookTwin.trans {s t u : State} (h : s.TookTwin t) (g : t.TookTwin u) : s.TookTwin u := by
  obtain ⟨x, c, rfl, hx⟩ := h
  obtain ⟨y, d, rfl, hy⟩ := g
  exact ⟨y, d, rfl, hy.trans hx⟩

theorem State.modTwinRx_took (s : State) (n : Nat) {f : RxLane → RxLane} (hf : ∀ x, (f x).carrying = x.carrying) : s.TookTwin (s.modTwinRx n f) :=
  ⟨s.lanes.twinRx.modify n f, s.lanes.claims, rfl, map_modify_of_eq hf _ _⟩

theorem State.popFrame_took (s : State) (n : Nat) : s.TookTwin (s.popFrame (.twin n)) := by
  unfold State.popFrame
  split
  · exact ⟨_, _, rfl, rfl⟩
  · exact s.modTwinRx_took n fun _ => rfl

theorem State.receiveOn_took {s : State} {n type : Nat} {f : Frame} (h : (s.receiveOn (.twin n) type f).1 = true) :
    s.TookTwin (s.receiveOn (.twin n) type f).2 := by
  have hclaim (u : State) (pos claim : Nat) : u.TookTwin (u.enterClaim pos claim) := ⟨_, _, rfl, rfl⟩
  have htook := ((s.popFrame_took n).trans (hclaim _ (f.source.toNat % 1024) f.claim.toNat)).trans
    (State.modTwinRx_took _ n (f := fun x => x.noteSeq f) fun _ => rfl)
  unfold State.receiveOn at h ⊢
  dsimp only at h ⊢
  split_ifs at h ⊢
  exact htook

/-- A frame that is taken came on a twin link in use, and changes its receivers alone. -/
theorem State.twinReceive_took {s u : State} {lane : LaneRef} {msg len : Nat} {f : Frame} (h : s.twinReceive lane msg len f = (true, u)) :
    s.TookTwin u ∧ s.twinUsed = true := by
  unfold State.twinReceive State.twinAccept at h
  cases lane with
  | haul n => cases h
  | twin n =>
    dsimp only at h
    split_ifs at h with hused hok hbad
    · cases h
    · cases h
    · cases h
    · obtain ⟨-, rfl⟩ := Prod.mk.inj h
      refine ⟨(State.receiveOn_took (by simpa using hok)).trans (State.modTwinRx_took _ n fun _ => rfl), by simpa using hused⟩

theorem State.TookTwin.carrying {s t : State} (h : s.TookTwin t) (k : Nat) : (t.twinRx k).carrying = (s.twinRx k).carrying := by
  obtain ⟨x, c, rfl, hx⟩ := h
  have hone := congrArg (fun l => l.getD k (RxLane.carrying {})) hx
  simp only [List.getD_map] at hone
  exact hone

theorem State.TookTwin.twinCarries {s t : State} (h : s.TookTwin t) (k : Nat) : t.twinCarries k = s.twinCarries k := by
  have hone := h.carrying k
  simp only [RxLane.carrying, Prod.mk.injEq] at hone
  obtain ⟨hlock, hskew, hpass, hfailed⟩ := hone
  unfold State.twinCarries
  rw [hlock, hskew, hpass, hfailed]
  obtain ⟨x, c, rfl, -⟩ := h
  rfl

theorem State.TookTwin.twin {s t : State} (h : s.TookTwin t) : t.twin = s.twin := by
  obtain ⟨x, c, rfl, -⟩ := h
  rfl

theorem State.TookTwin.mail {s t : State} (h : s.TookTwin t) : t.mail = s.mail := by
  obtain ⟨x, c, rfl, -⟩ := h
  rfl

theorem State.TookTwin.freeLanes {s t : State} (h : s.TookTwin t) : t.freeLanes = s.freeLanes := by
  have hlocked : t.lockedLanes = s.lockedLanes := List.filter_congr fun k _ => h.twinCarries k
  obtain ⟨x, c, rfl, -⟩ := h
  unfold State.freeLanes
  rw [hlocked]
  rfl

theorem State.TookTwin.linkLanes {s t : State} (h : s.TookTwin t) : t.linkLanes = s.linkLanes := by
  have hlock (k : Nat) : (t.lanes.twinRx.getD k {}).lock = (s.lanes.twinRx.getD k {}).lock := (congrArg Prod.fst (h.carrying k) :)
  simp only [State.linkLanes, hlock]

theorem State.TookTwin.standbyReady {s t : State} (h : s.TookTwin t) : t.standbyReady = s.standbyReady := by
  have hlink := h.linkLanes
  obtain ⟨x, c, rfl, -⟩ := h
  unfold State.standbyReady State.readyBits
  rw [hlink]

/-! ### What settling the roles leaves alone -/

/-- The role, the claim and the partner, the configuration, the lease and package memory stay. -/
structure State.KeepsPair (s t : State) : Prop where
  role : t.twin.role = s.twin.role
  claim : t.twin.claim = s.twin.claim
  partner : t.twin.partner = s.twin.partner
  cfg : t.cfg = s.cfg
  lease : t.lease = s.lease
  fabric : t.fabric = s.fabric

namespace State.KeepsPair

theorem refl (s : State) : s.KeepsPair s := ⟨rfl, rfl, rfl, rfl, rfl, rfl⟩

theorem trans {s t u : State} (h : s.KeepsPair t) (g : t.KeepsPair u) : s.KeepsPair u :=
  ⟨g.role.trans h.role, g.claim.trans h.claim, g.partner.trans h.partner, g.cfg.trans h.cfg, g.lease.trans h.lease, g.fabric.trans h.fabric⟩

theorem raise (s : State) (code die : Nat) (detail : List Byte) : s.KeepsPair (s.raise code die detail) := by
  obtain ⟨-, l, hl⟩ := s.raise_reports code die detail
  exact ⟨by rw [hl], by rw [hl], by rw [hl], s.raise_cfg .., s.raise_lease .., s.raise_fabric ..⟩

end State.KeepsPair

theorem State.TookTwin.keepsPair {s t : State} (h : s.TookTwin t) : s.KeepsPair t := by
  obtain ⟨_, _, rfl, -⟩ := h
  exact ⟨rfl, rfl, rfl, rfl, rfl, rfl⟩

theorem State.TwinSent.keepsPair {s t : State} (h : s.TwinSent t) : s.KeepsPair t := by
  obtain ⟨_, _, _, _, rfl⟩ := h
  exact ⟨rfl, rfl, rfl, rfl, rfl, rfl⟩

theorem State.sendEntry_sent (s : State) (e : JournalEntry) : s.TwinSent (s.sendEntry e) := by
  unfold State.sendEntry
  refine List.foldlRecOn (motive := fun u : State => s.TwinSent u) _ _ (.refl s) fun u hu p _ => hu.trans ?_
  dsimp only
  unfold State.twinQueue
  split
  · exact .refl u
  · exact .trans ⟨_, _, _, _, rfl⟩ (State.twinPump_sent _ _)

/-- The journal is sent afresh (R349 step 5). -/
theorem State.sendJournal_keepsPair (s : State) : s.KeepsPair s.sendJournal := by
  unfold State.sendJournal
  refine List.foldlRecOn (motive := fun u : State => s.KeepsPair u) _ _ ⟨rfl, rfl, rfl, rfl, rfl, rfl⟩ fun u hu e _ => hu.trans (u.sendEntry_sent e).keepsPair

theorem State.attached_keepsPair (s : State) : s.KeepsPair s.attached := by
  unfold State.attached
  split
  · have hdone : s.KeepsPair (s.modTwin fun t => { t with reloading := false }) := ⟨rfl, rfl, rfl, rfl, rfl, rfl⟩
    exact hdone.trans (.raise ..)
  · exact .refl s

theorem State.settleDone_keepsPair (s : State) : s.KeepsPair s.settleDone := by
  unfold State.settleDone
  split
  · exact s.attached_keepsPair
  · exact .refl s

theorem State.readyCheck_keepsPair (s : State) : s.KeepsPair s.readyCheck := by
  have hseen : s.KeepsPair { s with twin := { s.twin with wasReady := s.standbyReady } } := ⟨rfl, rfl, rfl, rfl, rfl, rfl⟩
  unfold State.readyCheck
  dsimp only
  split
  · exact .refl s
  · split
    · exact hseen.trans (.raise ..)
    · exact hseen.trans (.raise ..)

theorem State.stepEight_keepsPair (s : State) : s.KeepsPair s.stepEight := by
  unfold State.stepEight
  split
  · exact ⟨rfl, rfl, rfl, rfl, rfl, rfl⟩
  · exact .refl s

/-- The end of an attachment settles nothing more (R349 step 6, R476). -/
theorem State.settled_keepsPair (s : State) : s.KeepsPair s.settleDone.readyCheck.stepEight :=
  s.settleDone_keepsPair.trans ((State.readyCheck_keepsPair _).trans (State.stepEight_keepsPair _))

/-! ### ATTACH (R349) -/

theorem State.attachFrame_sent (s : State) (transaction : Nat) : s.TwinSent (s.attachFrame transaction) := s.sendTwin_sent ..

theorem State.sendAttach_keepsPair (s : State) : s.KeepsPair s.sendAttach := by
  unfold State.sendAttach
  refine State.KeepsPair.trans ?_ (State.attachFrame_sent _ _).keepsPair
  exact ⟨rfl, rfl, rfl, rfl, rfl, rfl⟩

/-- An ATTACH is the reply to this package's own (log 56). -/
def State.isReply (s : State) (f : Frame) : Bool := s.twin.attachSent && twinTransaction f == s.twin.attachTransaction

/-- The delay that a reply measures, or the answer to the partner's own ATTACH (R349 steps 1 to 3). -/
def State.answersAttach (s : State) (f : Frame) (rxNs : Nat) : State :=
  if s.isReply f then s.modTwin fun t => { t with delayPs := (((rxNs : Int) - (t.attachSentNs : Int)) * 1000) / 2 }
  else (if s.twin.attachSent then s else s.sendAttach).attachFrame (twinTransaction f)

theorem State.answersAttach_keepsPair (s : State) (f : Frame) (rxNs : Nat) : s.KeepsPair (s.answersAttach f rxNs) := by
  unfold State.answersAttach
  split
  · exact ⟨rfl, rfl, rfl, rfl, rfl, rfl⟩
  · have hsent : s.KeepsPair (if s.twin.attachSent then s else s.sendAttach) := by
      split
      · exact .refl s
      · exact s.sendAttach_keepsPair
    exact hsent.trans (State.attachFrame_sent ..).keepsPair

/-- The partner that an ATTACH shows (R349). -/
def attachingPartner (f : Frame) : Partner :=
  { role := if field f.payload 3 1 = 2 then .standby else if field f.payload 3 1 = 1 then .active else .alone, variant := field f.payload 0 1
    versionLo := field f.payload 1 1, versionHi := field f.payload 2 1 }

/-- The partner's variant and versions fit this package's own (R349 step 2). -/
def State.fits (s : State) (f : Frame) : Prop :=
  field f.payload 0 1 = s.dies ∧ s.ident.twinWindow.toNat % 16 ≤ field f.payload 2 1 ∧ field f.payload 1 1 ≤ s.ident.twinWindow.toNat / 16

/-- An ATTACH taken at a package that is up and not detached. -/
structure State.AttachComes (s u : State) (lane : LaneRef) (f : Frame) : Prop where
  taken : s.twinReceive lane 7 16 f = (true, u)
  held : s.twin.detached = false
  up : 7 ≤ s.power.stage

section
variable {s u : State} {lane : LaneRef} {f : Frame} (h : s.AttachComes u lane f) (rx : Nat)
include h

theorem exec_attach : exec (.attach lane f rx) s = .next (
    if field f.payload 0 1 ≠ s.dies ∨ field f.payload 2 1 < s.ident.twinWindow.toNat % 16 ∨ s.ident.twinWindow.toNat / 16 < field f.payload 1 1 then
      ((if u.isReply f then u else u.attachFrame (twinTransaction f)).modTwin fun t => { t with incompatible := true }).raise 0x050A 0xFF
        (leBytes 1 (field f.payload 0 1) ++ leBytes 1 (field f.payload 1 1) ++ leBytes 1 (field f.payload 2 1))
    else if u.isReply f && u.twin.partner.isSome then u.answersAttach f rx
    else (((u.answersAttach f rx).settle (attachingPartner f) (max f.claim.toNat (field f.payload 4 4))).settleDone).readyCheck.stepEight) := by
  obtain ⟨htaken, hheld, hup⟩ := h
  have hgo : ¬((!true || u.twin.detached || decide (u.power.stage < 7)) = true) := by
    obtain ⟨_, _, rfl, -⟩ := (State.twinReceive_took htaken).1
    simp [hheld, hup]
  show execAttach lane f rx s = _
  unfold execAttach
  rw [htaken]
  dsimp only
  rw [if_neg hgo]
  rfl

/-- An incompatible partner is told so, and no role changes (R349 step 2). -/
theorem attach_incompatible (hfits : ¬s.fits f) : Gives (.attach lane f rx) s fun t =>
    t.twin.incompatible = true ∧ t.twin.role = s.twin.role ∧ t.twin.partner = s.twin.partner ∧ t.cfg = s.cfg := by
  have hnot : field f.payload 0 1 ≠ s.dies ∨ field f.payload 2 1 < s.ident.twinWindow.toNat % 16 ∨ s.ident.twinWindow.toNat / 16 < field f.payload 1 1 := by
    unfold State.fits at hfits
    omega
  have hexec := exec_attach h rx
  rw [if_pos hnot] at hexec
  generalize leBytes 1 (field f.payload 0 1) ++ leBytes 1 (field f.payload 1 1) ++ leBytes 1 (field f.payload 2 1) = detail at hexec
  have htold : s.KeepsPair (if u.isReply f then u else u.attachFrame (twinTransaction f)) := by
    refine (State.twinReceive_took h.taken).1.keepsPair.trans ?_
    split
    · exact .refl u
    · exact (u.attachFrame_sent _).keepsPair
  generalize (if u.isReply f then u else u.attachFrame (twinTransaction f)) = v at hexec htold
  have hmarked : v.KeepsPair (v.modTwin fun t => { t with incompatible := true }) := ⟨rfl, rfl, rfl, rfl, rfl, rfl⟩
  obtain ⟨-, l, hl⟩ := State.raise_reports (v.modTwin fun t => { t with incompatible := true }) 0x050A 0xFF detail
  have hkept := htold.trans (hmarked.trans (.raise _ 0x050A 0xFF detail))
  exact ⟨_, hexec, by rw [hl]; rfl, hkept.role, hkept.partner, hkept.cfg⟩

/-- A partner that fits is answered. -/
theorem exec_attach_fits (hfits : s.fits f) : exec (.attach lane f rx) s = .next (
    if u.isReply f && u.twin.partner.isSome then u.answersAttach f rx
    else (((u.answersAttach f rx).settle (attachingPartner f) (max f.claim.toNat (field f.payload 4 4))).settleDone).readyCheck.stepEight) := by
  have hfit : ¬(field f.payload 0 1 ≠ s.dies ∨ field f.payload 2 1 < s.ident.twinWindow.toNat % 16 ∨
      s.ident.twinWindow.toNat / 16 < field f.payload 1 1) := by
    obtain ⟨hdies, hlo, hhi⟩ := hfits
    omega
  rw [exec_attach h rx, if_neg hfit]

/-- The reply of a partner that is attached sets the delay alone (R349 step 3). -/
theorem attach_reply (hfits : s.fits f) (hsent : s.twin.attachSent = true) (hecho : twinTransaction f = s.twin.attachTransaction)
    (hpartner : s.twin.partner.isSome = true) : Gives (.attach lane f rx) s fun t =>
      t.twin.delayPs = (((rx : Int) - (s.twin.attachSentNs : Int)) * 1000) / 2 ∧ t.twin.role = s.twin.role ∧ t.twin.partner = s.twin.partner := by
  have hexec := exec_attach_fits h rx hfits
  have hsame := (State.twinReceive_took h.taken).1.twin
  have hreply : u.isReply f = true := by rw [State.isReply, hsame, hsent, hecho, BEq.rfl, Bool.and_self]
  rw [if_pos (by rw [hreply, hsame, hpartner, Bool.and_self]), State.answersAttach, if_pos hreply] at hexec
  refine ⟨_, hexec, ?_⟩
  simp only [State.modTwin_twin, hsame, and_self]

/-- Roles that a package and its new partner settle (R349 step 4). -/
theorem attach_settles (hfits : s.fits f) (hpartner : s.twin.partner = none) : ∃ v, s.KeepsPair v ∧ exec (.attach lane f rx) s =
    .next ((v.settle (attachingPartner f) (max f.claim.toNat (field f.payload 4 4))).settleDone).readyCheck.stepEight := by
  have htook := (State.twinReceive_took h.taken).1
  have hnone : ¬((u.isReply f && u.twin.partner.isSome) = true) := by simp [htook.keepsPair.partner, hpartner]
  exact ⟨_, htook.keepsPair.trans (u.answersAttach_keepsPair f rx), (exec_attach_fits h rx hfits).trans (congrArg _ (if_neg hnone))⟩

end

/-! ### Settling the roles (R349 steps 4 and 5) -/

/-- What a partner that attaches changes before any role is settled (R349). -/
def Twin.meets (t : Twin) (p : Partner) (claim : Nat) : Twin :=
  { t with partner := some p, windows := [], seen := {}, claimKnown := max claim t.claimKnown, copy := none, copyOk := (false, false), diverged := false
           offsetPs := 0, skewRaised := false, copyDue := false }

/-- The part of the active, before it sends its journal. -/
def State.asActive (s : State) (p : Partner) (claim : Nat) : State :=
  (s.modTwin fun t => t.meets p claim).modTwin fun t => { t with role := .active, partner := some { p with role := .standby } }

/-- The part of the standby, before it gives up its configuration. -/
def State.asStandby (s : State) (p : Partner) (claim : Nat) : State :=
  ((s.modTwin fun t => t.meets p claim).drivePins false).modTwin fun t =>
    { t with role := .standby, claim := max claim t.claim, partner := some { p with role := .active }, announceDue := false }

theorem State.settle_active {s : State} {p : Partner} (hrole : s.twin.role ≠ .standby) (hp : p.role = .standby) (claim : Nat) :
    s.settle p claim = (s.asActive p claim).sendJournal := if_pos ⟨hrole, by rw [hp]; rfl⟩

theorem State.settle_standby {s : State} {p : Partner} (hrole : s.twin.role = .standby) (hp : p.role ≠ .standby) (claim : Nat) :
    s.settle p claim = (s.asStandby p claim).clearConfig :=
  (if_neg fun hnot => hnot.1 hrole).trans (if_pos ⟨hrole, bne_iff_ne.2 hp⟩)

/-- The working state of pipes is given up (R349 step 5). -/
def State.clearPipes (s : State) (l : List Nat) : State := l.foldl (fun s i => if (s.cfg.pipes.getD i {}).state = .free then s else s.clearPipe i) s

/-- No pipe, no lease, and a journal at its start (R343, R349 step 5). -/
def State.blank (s : State) : State :=
  State.modTwin { s with cfg := { s.cfg with pipes := s.cfg.pipes.map fun (e : PipeEntry) => ({ gen := e.gen } : PipeEntry) }, lease := {} } fun t =>
    { t with journalSeq := 0, journalCrc := 0, history := [], inSync := false, crcBad := false, reloading := true, shadowed := false }

theorem State.clearConfig_eq (s : State) : s.clearConfig = (s.clearPipes (List.range 512)).blank := by
  unfold State.clearConfig
  generalize List.range 512 = l
  rfl

theorem State.clearPipes_twin (s : State) (l : List Nat) : (s.clearPipes l).twin = s.twin := by
  refine List.foldlRecOn (motive := fun u : State => u.twin = s.twin) _ _ rfl fun u hu i _ => ?_
  split <;> exact hu

theorem State.blank_gives (s : State) : let t := s.blank
    t.twin.role = s.twin.role ∧ t.twin.claim = s.twin.claim ∧ t.twin.partner = s.twin.partner ∧ (∀ e ∈ t.cfg.pipes, e.state = .free) ∧ t.lease = {} := by
  refine ⟨rfl, rfl, rfl, fun e he => ?_, rfl⟩
  obtain ⟨x, -, rfl⟩ := List.mem_map.1 he
  rfl

theorem State.clearConfig_gives (s : State) : let t := s.clearConfig
    t.twin.role = s.twin.role ∧ t.twin.claim = s.twin.claim ∧ t.twin.partner = s.twin.partner ∧ (∀ e ∈ t.cfg.pipes, e.state = .free) ∧ t.lease = {} := by
  rw [s.clearConfig_eq, ← s.clearPipes_twin (List.range 512)]
  exact State.blank_gives _

/-- A package that sends and a standby that attaches: ACTIVE and STANDBY, with the claim that the package had (log 59). -/
theorem attach_active {s u : State} {lane : LaneRef} {f : Frame} (h : s.AttachComes u lane f) (rx : Nat) (hfits : s.fits f) (hrole : s.twin.role = .alone)
    (hshown : field f.payload 3 1 = 2) (hpartner : s.twin.partner = none) : Gives (.attach lane f rx) s fun t => t.twin.role = .active ∧
      t.twin.claim = s.twin.claim ∧ (∃ p, t.twin.partner = some p ∧ p.role = .standby) ∧ t.fabric.mem = s.fabric.mem := by
  obtain ⟨v, hv, hexec⟩ := attach_settles h rx hfits hpartner
  have hp : (attachingPartner f).role = .standby := if_pos hshown
  rw [State.settle_active (by rw [hv.role, hrole]; decide) hp] at hexec
  have hend := (State.sendJournal_keepsPair (v.asActive (attachingPartner f) (max f.claim.toNat (field f.payload 4 4)))).trans (State.settled_keepsPair _)
  exact ⟨_, hexec, hend.role, hend.claim.trans hv.claim, ⟨_, hend.partner, rfl⟩, congrArg Fabric.mem (hend.fabric.trans hv.fabric)⟩

/-- A standby and an active that attaches: the standby takes its claim and gives up its configuration. -/
theorem attach_standby {s u : State} {lane : LaneRef} {f : Frame} (h : s.AttachComes u lane f) (rx : Nat) (hfits : s.fits f) (hrole : s.twin.role = .standby)
    (hshown : field f.payload 3 1 = 1) (hpartner : s.twin.partner = none) : Gives (.attach lane f rx) s fun t => t.twin.role = .standby ∧
      t.twin.claim = max (max f.claim.toNat (field f.payload 4 4)) s.twin.claim ∧ (∃ p, t.twin.partner = some p ∧ p.role = .active) ∧
      (∀ e ∈ t.cfg.pipes, e.state = .free) ∧ t.lease.owner = none := by
  obtain ⟨v, hv, hexec⟩ := attach_settles h rx hfits hpartner
  have hp : (attachingPartner f).role = .active := (if_neg (by rw [hshown]; decide)).trans (if_pos hshown)
  rw [State.settle_standby (hv.role.trans hrole) (by rw [hp]; decide)] at hexec
  obtain ⟨hstandby, hclaim, hactive, hfree, hlease⟩ := (v.asStandby (attachingPartner f) (max f.claim.toNat (field f.payload 4 4))).clearConfig_gives
  have hend := State.settled_keepsPair (v.asStandby (attachingPartner f) (max f.claim.toNat (field f.payload 4 4))).clearConfig
  refine ⟨_, hexec, hend.role.trans hstandby, (hend.claim.trans hclaim).trans ?_, ⟨_, hend.partner.trans hactive, rfl⟩,
    by rwa [hend.cfg], by rw [hend.lease, hlease]⟩
  exact congrArg (max _) hv.claim

/-! ### ATTACH_WAIT_EXPIRY (R326, R338, R349 step 4) -/

/-- A package that may take a claim becomes ALONE with the next one, and announces it (R338). -/
theorem State.becomeAlone_gives {s : State} (h : s.highestClaim < lastClaim) : let t := s.becomeAlone
    t.twin.role = .alone ∧ t.twin.claim = s.highestClaim + 1 ∧ t.twin.announceDue = true ∧ t.power = s.power := by
  unfold State.becomeAlone State.takeRole
  rw [if_neg (Nat.not_le.2 h)]
  generalize s.highestClaim = c
  exact ⟨rfl, rfl, rfl, rfl⟩

theorem attachWaitExpiry_alone {s : State} (hup : 7 ≤ s.power.stage) (hmode : s.twin.mode ≠ .untwinned) (hrole : s.twin.role = .standby)
    (hpartner : s.twin.partner = none) (hheld : s.twin.detached = false) (hclaim : s.highestClaim < lastClaim) : Gives .attachWaitExpiry s fun t =>
      t.twin.role = .alone ∧ t.twin.claim = s.highestClaim + 1 ∧ t.twin.announceDue = true ∧ 8 ≤ t.power.stage := by
  have hexec : exec .attachWaitExpiry s = .next s.becomeAlone.stepEight := by
    show execAttachWaitExpiry s = _
    simp [execAttachWaitExpiry, hup, hmode, hrole, hpartner, hheld]
  obtain ⟨halone, hnext, hdue, hpower⟩ := State.becomeAlone_gives hclaim
  generalize s.becomeAlone = v at *
  have hstage : 7 ≤ v.power.stage := hpower ▸ hup
  refine ⟨_, hexec, ?_⟩
  unfold State.stepEight
  split
  · exact ⟨halone, hnext, hdue, le_rfl⟩
  next hlater => exact ⟨halone, hnext, hdue, by omega⟩

/-! ### SWITCH and SWITCH_ACK (R350, R355) -/

/-- A message leaves at once on a free lane when nothing waits before it (R331). -/
theorem State.sendTwin_leaves {s : State} (hfree : s.freeLanes ≠ []) (hwaiting : s.twin.waiting = []) (hused : s.twin.incompatible = false) (msg transaction : Nat)
    (payload : List Byte) : ∃ k g, .twin k g ∈ (s.sendTwin msg transaction payload).out ∧ g.layout = BitVec.ofNat 16 msg ∧ g.payload = payload := by
  obtain ⟨lane, rest, hlanes⟩ := List.exists_cons_of_ne_nil hfree
  have hlocked : s.lockedLanes.isEmpty = false := by
    rw [List.isEmpty_eq_false_iff]
    intro hnone
    exact hfree (by rw [State.freeLanes, hnone]; simp)
  unfold State.sendTwin State.twinQueue
  generalize hg : s.twinFrame msg s.eventTick 0 transaction payload = g
  rw [hlocked, hused, hwaiting]
  refine ⟨lane, sealFrame 5 { g with seq := (s.twinTx lane).seq }, ?_, ?_, ?_⟩
  · rw [Bool.or_self, if_neg Bool.false_ne_true]
    unfold State.twinPump
    rw [show State.freeLanes { s with twin := { s.twin with waiting := insertBy (fun g => twinRank (g.layout.toNat % 256)) g [] } } = lane :: rest from hlanes]
    exact List.mem_cons_self
  · exact hg ▸ rfl
  · exact hg ▸ rfl

theorem exec_switch {s u : State} {lane : LaneRef} {f : Frame} (h : s.twinReceive lane 8 8 f = (true, u)) (hrole : s.twin.role = .standby) :
    exec (.switch lane f) s = .next (
      let v := u.sendTwin 9 (twinTransaction f) (leBytes 6 (field f.payload 0 6) ++ leBytes 2 (nat01 (!s.standbyReady)))
      if s.standbyReady then v.modTwin fun t => { t with switchAt := some (field f.payload 0 6) } else v) := by
  have htook := (State.twinReceive_took h).1
  show execSwitch lane f s = _
  unfold execSwitch
  rw [h]
  dsimp only
  rw [if_pos (by rw [htook.twin, hrole]; rfl), htook.standbyReady]

/-- A standby answers SWITCH with whether it takes it, and takes it where it is standby-ready (R350). -/
theorem switch_gives {s u : State} {lane : LaneRef} {f : Frame} (h : s.twinReceive lane 8 8 f = (true, u)) (hrole : s.twin.role = .standby) :
    Gives (.switch lane f) s fun t => (s.standbyReady = true → t.twin.switchAt = some (field f.payload 0 6)) ∧
      (s.standbyReady = false → t.twin.switchAt = s.twin.switchAt) ∧
      (s.freeLanes ≠ [] → s.twin.waiting = [] → ∃ k g, .twin k g ∈ t.out ∧ g.layout = 9 ∧ field g.payload 0 6 = field f.payload 0 6 ∧
        field g.payload 6 2 = nat01 (!s.standbyReady)) := by
  obtain ⟨htook, hused⟩ := State.twinReceive_took h
  have hlinked : s.twin.incompatible = false := by
    unfold State.twinUsed at hused
    simp only [Bool.and_eq_true, Bool.not_eq_true'] at hused
    exact hused.1.1.2
  have hexec := exec_switch h hrole
  have hleaves (hfree : s.freeLanes ≠ []) (hwaiting : s.twin.waiting = []) := State.sendTwin_leaves (s := u) (by rwa [htook.freeLanes])
    (by rw [htook.twin, hwaiting]) (by rw [htook.twin, hlinked]) 9 (twinTransaction f) (leBytes 6 (field f.payload 0 6) ++ leBytes 2 (nat01 (!s.standbyReady)))
  have hsent : (u.sendTwin 9 (twinTransaction f) (leBytes 6 (field f.payload 0 6) ++ leBytes 2 (nat01 (!s.standbyReady)))).twin.switchAt = s.twin.switchAt := by
    rw [← htook.twin]
    obtain ⟨_, _, _, _, hv⟩ := u.sendTwin_sent 9 (twinTransaction f) (leBytes 6 (field f.payload 0 6) ++ leBytes 2 (nat01 (!s.standbyReady)))
    rw [hv]
  have htick : field (leBytes 6 (field f.payload 0 6) ++ leBytes 2 (nat01 (!s.standbyReady))) 0 6 = field f.payload 0 6 := by
    rw [field_leBytes_append, Nat.mod_eq_of_lt (field_lt ..)]
  have hanswer : field (leBytes 6 (field f.payload 0 6) ++ leBytes 2 (nat01 (!s.standbyReady))) 6 2 = nat01 (!s.standbyReady) := by
    rw [field_append_right _ _ _ _ (by rw [leBytes_length]), leBytes_length, field_leBytes]
    cases s.standbyReady <;> rfl
  generalize u.sendTwin 9 (twinTransaction f) (leBytes 6 (field f.payload 0 6) ++ leBytes 2 (nat01 (!s.standbyReady))) = v at *
  have hout (hfree : s.freeLanes ≠ []) (hwaiting : s.twin.waiting = []) : ∃ k g, .twin k g ∈ v.out ∧ g.layout = 9 ∧
      field g.payload 0 6 = field f.payload 0 6 ∧ field g.payload 6 2 = nat01 (!s.standbyReady) := by
    obtain ⟨k, g, hg, hlayout, hpayload⟩ := hleaves hfree hwaiting
    exact ⟨k, g, hg, hlayout, by rw [hpayload, htick], by rw [hpayload, hanswer]⟩
  refine ⟨_, hexec, ?_⟩
  cases hready : s.standbyReady with
  | true =>
    rw [hready] at hout
    exact ⟨fun _ => rfl, fun hnot => absurd hnot (by decide), hout⟩
  | false =>
    rw [hready] at hout
    exact ⟨fun hyes => absurd hyes (by decide), fun _ => hsent, hout⟩

/-- The TWIN_SWITCH that waits for this acknowledgement ends as it says (R350). -/
theorem exec_switchAck {s u : State} {lane : LaneRef} {f : Frame} {r : Running} (h : s.twinReceive lane 9 8 f = (true, u)) (hwait : s.switchWaiting = some r)
    (htick : field r.args 0 6 = field f.payload 0 6) : exec (.switchAck lane f) s = .next (
      if field f.payload 6 2 = 0 then (u.finishWith r .ok).modTwin fun t => { t with switchAt := some (field r.args 0 8) } else u.switchRefused r) := by
  have hwait' : u.switchWaiting = some r := by rw [State.switchWaiting, (State.twinReceive_took h).1.mail]; exact hwait
  show execSwitchAck lane f s = _
  unfold execSwitchAck
  rw [h]
  dsimp only
  rw [if_neg (by decide), hwait']
  dsimp only
  rw [if_neg (not_not.2 htick)]

theorem switchAck_gives {s u : State} {lane : LaneRef} {f : Frame} {r : Running} (h : s.twinReceive lane 9 8 f = (true, u)) (hwait : s.switchWaiting = some r)
    (htick : field r.args 0 6 = field f.payload 0 6) (hbox : r.origin.mailbox < s.mail.boxes.length)
    (hqueue : (s.mail.queues.getD (s.box r.origin.mailbox).cqSel.toNat {}).depth < 16) :
    (field f.payload 6 2 = 0 → Gives (.switchAck lane f) s fun t => Answered t r.origin.mailbox .ok [] ∧ t.twin.switchAt = some (field r.args 0 8)) ∧
    (field f.payload 6 2 ≠ 0 → (field r.args 8 1).testBit 0 = false → Gives (.switchAck lane f) s fun t =>
      Answered t r.origin.mailbox .refusedState [] ∧ t.twin = s.twin) := by
  have htook := (State.twinReceive_took h).1
  have hexec := exec_switchAck h hwait htick
  have hbox' : u.box r.origin.mailbox = s.box r.origin.mailbox := by rw [State.box, htook.mail, State.box]
  have hanswered (st : Status) := (State.finishWith_answered (s := u) (r := r) (by rwa [htook.mail]) (by rwa [htook.mail, hbox']) st).1
  refine ⟨fun hyes => ⟨_, hexec.trans (congrArg _ (if_pos hyes)), (hanswered .ok).congr rfl, rfl⟩,
    fun hno hforce => ⟨_, hexec.trans (congrArg _ (if_neg hno)), ?_⟩⟩
  rw [State.switchRefused, if_neg (by rw [hforce]; decide)]
  exact ⟨hanswered .refusedState, (State.complete_twin ..).trans htook.twin⟩

/-! ### SWITCH_OUTPUT_DRIVE (R347) -/

theorem exec_switchOutputDrive {s : State} (h : s.twin.driveDue = true) :
    exec .switchOutputDrive s = .next ((s.modTwin fun t => { t with driveDue := false }).drivePins true) := by
  show execSwitchOutputDrive s = _
  rw [execSwitchOutputDrive, if_pos h]

/-- A frame that is taken leaves some state. -/
theorem State.twinReceive_of_ok {s : State} {lane : LaneRef} {msg len : Nat} {f : Frame} (h : (s.twinReceive lane msg len f).1 = true) :
    s.twinReceive lane msg len f = (true, (s.twinReceive lane msg len f).2) := Prod.ext h rfl

/-- Settles O46: what a taken frame changes is its receiver, so roles, claims and switches follow from the pair's own state. -/
theorem twinAttachesAndSwitches : Obligations.TwinAttachesAndSwitches := by
  intro s
  refine ⟨fun lane f rx htaken hheld hup => ?_, fun hup hmode hrole hpartner hheld hclaim => attachWaitExpiry_alone hup hmode hrole hpartner hheld hclaim,
    fun lane f htaken hrole => switch_gives (State.twinReceive_of_ok htaken) hrole,
    fun lane f r htaken hwait htick hbox hqueue => switchAck_gives (State.twinReceive_of_ok htaken) hwait htick hbox hqueue,
    fun hdue => ⟨_, exec_switchOutputDrive hdue, rfl, rfl, rfl, rfl⟩⟩
  have hcomes : s.AttachComes _ lane f := ⟨State.twinReceive_of_ok htaken, hheld, hup⟩
  exact ⟨attach_incompatible hcomes rx, attach_reply hcomes rx, attach_active hcomes rx, attach_standby hcomes rx⟩

end Sys2Proof.Machine

/-! ## TWIN_SWITCH on a link that stays unused (R331, R349, R350)

`TwinAndFabricCommandsComplete` asks that TWIN_SWITCH sends SWITCH at once wherever a lane of the twin link is free and nothing waits. A link whose partner was
found incompatible stays unused (R349 step 2): its lanes may be LOCKED, and no frame goes out on them. -/

namespace Sys2Proof.Machine

theorem exec_twinSwitch (o : Origin) (args : List Byte) (s : State) : exec (.twinSwitch o args) s = .next (s.row o 0x0601 args (fixedLen 12) cmdTwinSwitch) := rfl

/-- Nothing is sent on a link that stays unused. -/
theorem State.sendTwin_of_incompatible {s : State} (h : s.twin.incompatible = true) (msg transaction : Nat) (payload : List Byte) :
    s.sendTwin msg transaction payload = s := by
  unfold State.sendTwin State.twinQueue
  rw [h, Bool.or_true, if_pos rfl]

/-- TWIN_SWITCH on a link that stays unused waits for an answer to a SWITCH that nobody was sent. -/
theorem twinSwitch_unsent {s : State} {o : Origin} {args : List Byte} (h : Leads s o) (hrole : s.twin.role ≠ .standby) (hlen : args.length = 12)
    (haccepted : (cmdTwinSwitch o args (s.taken o 0x0601 args)).accepted = true) (hlink : (s.taken o 0x0601 args).linkLanes ≠ 0)
    (hunused : s.twin.incompatible = true) : ∃ u, exec (.twinSwitch o args) s = .next u ∧ u.out = s.out := by
  have hcmd : cmdTwinSwitch o args (s.taken o 0x0601 args) = .wait .switchAck .ok 0 [] (s.taken o 0x0601 args) := by
    unfold cmdTwinSwitch at haccepted ⊢
    refine (checked_accepted haccepted).trans ?_
    rw [if_neg hlink, State.sendTwin_of_incompatible (by rwa [State.taken_twin])]
  have hrow := State.row_wait (len := fixedLen 12) h.served (by omega) (fixedLen_none 12 args hlen) rfl
    (by rw [beq_eq_false_iff_ne.2 hrole, Bool.false_and]) (fun _ => h.leads) hcmd
  exact ⟨_, (exec_twinSwitch o args s).trans (congrArg _ hrow), State.taken_out ..⟩

/-- An ACTIVE that is up and attached, whose link is LOCKED and stays unused: the ATTACH that came last did not fit. -/
def activeOnUnusedLink : State :=
  { State.reset with
    power := { State.reset.power with inReset := false, stage := 9, ready := true }
    lease := { owner := some (false, 5) }
    cfg := { pipes := [], tick := some {} }
    lanes := { twinRx := [{ lock := .locked }], twinTx := [{}] }
    twin := { mode := .hot, role := .active, partner := some { role := .standby }, incompatible := true } }

/-- The host that holds its lease, through mailbox 0. -/
def leaseHolder : Origin := { id := 5 }

/-- TWIN_SWITCH for tick 2. -/
def switchAtTwo : List Byte := leBytes 8 2 ++ leBytes 4 0

theorem leads_activeOnUnusedLink : Leads activeOnUnusedLink leaseHolder := ⟨⟨by decide, rfl, by decide, by decide⟩, .inl rfl⟩

/-- Refutes O19: nothing in it says that the link is in use, and on one that stays unused TWIN_SWITCH sends no SWITCH, though a LOCKED lane is free and nothing
waits. -/
theorem not_twinAndFabricCommandsComplete : ¬ Obligations.TwinAndFabricCommandsComplete := by
  intro h
  obtain ⟨u, hu, hout⟩ := twinSwitch_unsent (args := switchAtTwo) leads_activeOnUnusedLink nofun rfl (by decide +kernel) (by decide +kernel) rfl
  obtain ⟨-, hswitches⟩ := h
  obtain ⟨hsends, -⟩ := hswitches activeOnUnusedLink leaseHolder switchAtTwo leads_activeOnUnusedLink rfl rfl rfl rfl (by decide) (by decide)
    (by unfold ZeroBytes; decide) (by decide +kernel)
  obtain ⟨v, hv, -, -, hleaves⟩ := hsends (by decide)
  obtain ⟨lane, f, hf, -⟩ := hleaves (by decide +kernel) rfl
  rw [← Host.Outcome.next.inj (hu.symm.trans hv), hout] at hf
  exact absurd hf List.not_mem_nil

end Sys2Proof.Machine

/-! ## Commands that the gates refuse (R364, R374, R507) -/

namespace Sys2Proof.Machine

/-! ### What the gates answer -/

/-- The gates refuse a command of this length with a status and a DETAIL. -/
def State.GatesRefuse (s : State) (o : Origin) (op : Nat) (args : List Byte) (st : Status) (d : Nat) : Prop :=
  ∃ r : Reason, firstFail ((s.taken o op args).gates o op args none) = some (r, d) ∧ r.status = st

section
variable {s : State} {o : Origin} {op : Nat} {args : List Byte}

/-- A command of class S or O finds the lease free (R374). -/
theorem State.gatesRefuse_noLock (h : Served s o) (hclass : classOf op = some .s ∨ classOf op = some .o) (hrole : s.twin.role ≠ .standby)
    (hfree : s.lease.owner = none) : s.GatesRefuse o op args .noLock 0 := by
  refine ⟨.noLock, ?_, rfl⟩
  rcases hclass with hclass | hclass <;> simp [State.gates, firstFail, State.lockChecks, h.normal, hclass, hrole, hfree]

/-- A command of class S or O finds that another holds the lease (R374). -/
theorem State.gatesRefuse_lockHeld (h : Served s o) (hclass : classOf op = some .s ∨ classOf op = some .o) (hrole : s.twin.role ≠ .standby)
    (howner : s.lease.owner ≠ none) (hother : s.holds o = false) : s.GatesRefuse o op args .lockHeld (s.taken o op args).holderDetail := by
  refine ⟨.lockHeld, ?_, rfl⟩
  rcases hclass with hclass | hclass <;> simp [State.gates, firstFail, State.lockChecks, h.normal, hclass, hrole, howner, hother]

/-- A STANDBY does not take what changes the configuration of a pair (R374). -/
theorem State.gatesRefuse_notActive (h : Served s o) (hclass : (classOf op).isSome = true) (hrole : s.twin.role = .standby) (hclaims : s.claimless = false)
    (hrefuses : standbyRefuses op args = true) : s.GatesRefuse o op args .notActive 0 := by
  have hclaims' : (s.taken o op args).claimless = false := by rwa [State.claimless, State.taken_twin]
  have hknown : (classOf op).isNone = false := by rw [← Option.not_isSome, hclass]; rfl
  refine ⟨.notActive, ?_, rfl⟩
  simp [State.gates, firstFail, h.normal, hknown, hrole, hclaims', hrefuses]

/-! ### A command that the gates refuse changes nothing but its mailbox -/

/-- The completion that the gates give. -/
theorem State.row_refused {len : List Byte → Option Nat} {cmd : Cmd} {st : Status} {d : Nat} (h : Served s o) (hlen : args.length ≤ 1024)
    (hargs : len args = none) (hgates : s.GatesRefuse o op args st d) :
    s.row o op args len cmd = (s.taken o op args).complete o.mailbox st d [] := by
  obtain ⟨r, hfirst, rfl⟩ := hgates
  have hstage : ¬ (s.power.stage < 3 ∧ ¬ s.health.fw.recovery = true) := fun hlow => absurd h.stage (Nat.not_le.2 hlow.1)
  unfold State.row State.runCommand
  dsimp only
  rw [State.modBox_power, State.modBox_health, if_neg hstage, if_pos hlen, hargs]
  unfold State.taken at hfirst ⊢
  rw [hfirst]

@[simp] theorem State.taken_settings (s : State) (o : Origin) (op : Nat) (args : List Byte) : (s.taken o op args).settings = s.settings := by
  have hpipes (u : State) : u.refreshPipes.settings = u.settings := by
    unfold State.refreshPipes
    split
    · rfl
    · split <;> rfl
  have hlease (u : State) : (u.renew o op).settings = u.settings := by
    unfold State.renew
    split <;> rfl
  exact (hlease _).trans (hpipes _)

/-- A completion leaves the sessions of the management port a reply, and none of its settings. -/
theorem State.complete_mgmt (s : State) (m : Nat) (st : Status) (d : Nat) (r : List Byte) :
    ∃ l, (s.complete m st d r).mgmt = { s.mgmt with sessions := l } := by
  have hreply (u : State) : ∃ l, (u.sendReply m).mgmt = { u.mgmt with sessions := l } := by
    unfold State.sendReply
    split
    · exact ⟨_, rfl⟩
    · exact ⟨_, rfl⟩
  have hpush (u : State) (c : Nat) (e : Completion) : (u.pushCompletion c e).mgmt = u.mgmt := State.setCause_mgmt _ _
  unfold State.complete
  dsimp only
  obtain ⟨l, hl⟩ := hreply _
  refine ⟨l, hl.trans ?_⟩
  split
  · rw [hpush]
    rfl
  · rfl

@[simp] theorem State.complete_settings (s : State) (m : Nat) (st : Status) (d : Nat) (r : List Byte) : (s.complete m st d r).settings = s.settings := by
  obtain ⟨l, hmgmt⟩ := s.complete_mgmt m st d r
  simp only [State.settings, State.complete_cfg, State.complete_clocks, State.complete_twin, State.complete_health, State.complete_crate, hmgmt]

/-- A command that the gates refuse, where what follows its completion does nothing after it. -/
theorem Completes.of_refused {i : Instr} {len : List Byte → Option Nat} {cmd : Cmd} {st : Status} {d : Nat} {after : State → State}
    (he : exec i s = .next (after (s.row o op args len cmd))) (h : Served s o) (hlen : args.length ≤ 1024) (hargs : len args = none)
    (hgates : s.GatesRefuse o op args st d)
    (hafter : after ((s.taken o op args).complete o.mailbox st d []) = (s.taken o op args).complete o.mailbox st d []) :
    Completes i s o.mailbox st [] (s.taken o op args) := by
  refine ⟨_, he, ?_⟩
  rw [State.row_refused h hlen hargs hgates, hafter]
  exact ⟨State.row_answered h rfl, State.complete_same ..⟩

end

/-! ### The rows of a class -/

/-- The row runs its command through the mailbox, and at most keeps the settings that it changed. -/
def MailRow.Runs (x : MailRow) : Prop :=
  ∀ o args s, ∃ cmd, exec (x.cmd o args) s = .next (s.row o x.op args x.len cmd) ∨ exec (x.cmd o args) s = .next ((s.row o x.op args x.len cmd).keepSettings s)

theorem MailRow.Runs.plain {x : MailRow} {cmd : Cmd} (h : ∀ o args s, exec (x.cmd o args) s = .next (s.row o x.op args x.len cmd)) : x.Runs :=
  fun o args s => ⟨cmd, .inl (h o args s)⟩

theorem MailRow.Runs.keeping {x : MailRow} {cmd : Cmd} (h : ∀ o args s, exec (x.cmd o args) s = .next ((s.row o x.op args x.len cmd).keepSettings s)) : x.Runs :=
  fun o args s => ⟨cmd, .inr (h o args s)⟩

theorem MailRow.Runs.completes {x : MailRow} (hx : x.Runs) {s : State} {o : Origin} {args : List Byte} {st : Status} {d : Nat} (h : Served s o)
    (hlen : args.length ≤ 1024) (hargs : x.len args = none) (hgates : s.GatesRefuse o x.op args st d) :
    Completes (x.cmd o args) s o.mailbox st [] (s.taken o x.op args) := by
  obtain ⟨cmd, he | he⟩ := hx o args s
  · exact Completes.of_refused (after := id) he h hlen hargs hgates rfl
  · exact Completes.of_refused (after := fun t => t.keepSettings s) he h hlen hargs hgates (if_pos (by simp))

theorem runs_of_mem_sRows : ∀ x ∈ sRows, x.Runs := by
  simp only [sRows, List.forall_mem_cons]
  exact ⟨.plain fun _ _ _ => rfl, .plain fun _ _ _ => rfl, .plain fun _ _ _ => rfl, .plain fun _ _ _ => rfl, .plain fun _ _ _ => rfl, .plain fun _ _ _ => rfl,
    .plain fun _ _ _ => rfl, .plain fun _ _ _ => rfl, .plain fun _ _ _ => rfl, .plain fun _ _ _ => rfl, .plain fun _ _ _ => rfl, .plain fun _ _ _ => rfl,
    List.forall_mem_nil _⟩

theorem runs_of_mem_oRows (r : KilnReading) (fault : Bool) (host : List Byte) : ∀ x ∈ oRows r fault host, x.Runs := by
  simp only [oRows, List.forall_mem_cons]
  exact ⟨.keeping fun _ _ _ => rfl, .plain fun _ _ _ => rfl, .plain fun _ _ _ => rfl, .plain fun _ _ _ => rfl, .plain fun _ _ _ => rfl, .plain fun _ _ _ => rfl,
    .plain fun _ _ _ => rfl, .plain fun _ _ _ => rfl, .plain fun _ _ _ => rfl, .plain fun _ _ _ => rfl, .keeping fun _ _ _ => rfl, .plain fun _ _ _ => rfl,
    .plain fun _ _ _ => rfl, .plain fun _ _ _ => rfl, .plain fun _ _ _ => rfl, .plain fun _ _ _ => rfl, .plain fun _ _ _ => rfl, .plain fun _ _ _ => rfl,
    .keeping fun _ _ _ => rfl, .plain fun _ _ _ => rfl, .plain fun _ _ _ => rfl, .plain fun _ _ _ => rfl, .plain fun _ _ _ => rfl, .keeping fun _ _ _ => rfl,
    List.forall_mem_nil _⟩

theorem runs_of_mem_activeRows : ∀ x ∈ activeRows, x.Runs := by
  simp only [activeRows, List.forall_mem_cons]
  exact ⟨.plain fun _ _ _ => rfl, .keeping fun _ _ _ => rfl, .plain fun _ _ _ => rfl, .plain fun _ _ _ => rfl, .plain fun _ _ _ => rfl, .plain fun _ _ _ => rfl,
    .plain fun _ _ _ => rfl, .plain fun _ _ _ => rfl, .plain fun _ _ _ => rfl, .keeping fun _ _ _ => rfl, List.forall_mem_nil _⟩

theorem classOf_of_mem_sRows : ∀ x ∈ sRows, classOf x.op = some .s := by decide

theorem classOf_of_mem_oRows (r : KilnReading) (fault : Bool) (host : List Byte) : ∀ x ∈ oRows r fault host, classOf x.op = some .o := by
  have hops : (oRows r fault host).map MailRow.op = (oRows {} false []).map MailRow.op := rfl
  have hclass : ∀ op ∈ (oRows {} false []).map MailRow.op, classOf op = some .o := by decide
  exact fun x hx => hclass x.op (hops ▸ List.mem_map_of_mem hx)

theorem standbyRefuses_of_mem_activeRows (args : List Byte) : ∀ x ∈ activeRows, standbyRefuses x.op args = true ∧ (classOf x.op).isSome = true := by
  simp only [activeRows, List.forall_mem_cons]
  exact ⟨⟨rfl, rfl⟩, ⟨rfl, rfl⟩, ⟨rfl, rfl⟩, ⟨rfl, rfl⟩, ⟨rfl, rfl⟩, ⟨rfl, rfl⟩, ⟨rfl, rfl⟩, ⟨rfl, rfl⟩, ⟨rfl, rfl⟩, ⟨rfl, rfl⟩, List.forall_mem_nil _⟩

theorem standbyRefuses_of_mem_sRows (args : List Byte) {x : MailRow} (hx : x ∈ sRows) : standbyRefuses x.op args = true := by
  rw [standbyRefuses, classOf_of_mem_sRows x hx]
  rfl

/-! ### REF_CONFIG, FW_ACTIVATE and PACKAGE_RESET, after whose completion something else may follow -/

section
variable {s : State} {o : Origin} {args : List Byte} {st : Status} {d : Nat} (h : Served s o)
include h

/-- Step 7 of start-up does not end at a completion while the DPLL is not LOCKED and its table names an input (R476). -/
theorem refConfig_refused (hlen : args.length = 24)
    (hstage : s.power.stage = 6 → s.clocks.dpll.state ≠ .locked ∧ ∃ c ∈ s.clocks.dpll.entries, c ≠ 0) (hgates : s.GatesRefuse o 0x0500 args st d) :
    Completes (.refConfig o args) s o.mailbox st [] (s.taken o 0x0500 args) := by
  refine Completes.of_refused (after := fun t => (t.keepSettings s).stepSeven) rfl h (by omega) (fixedLen_none 24 args hlen) hgates ?_
  rw [State.keepSettings, if_pos (by simp), State.stepSeven, State.complete_power, State.complete_clocks, State.taken_power, State.taken_clocks]
  refine if_neg fun ⟨hsix, hends⟩ => ?_
  obtain ⟨hlocked, c, hc, hne⟩ := hstage hsix
  rcases hends with hends | hends
  · exact hlocked hends
  · exact hne (by simpa using List.all_eq_true.1 hends c hc)

theorem fwActivate_refused (hlen : args.length = 4) (hreset : s.health.fw.resetDue = false) (hgates : s.GatesRefuse o 0x0808 args st d) :
    Completes (.fwActivate o args) s o.mailbox st [] (s.taken o 0x0808 args) := by
  refine Completes.of_refused (after := State.resetNow) rfl h (by omega) (fixedLen_none 4 args hlen) hgates ?_
  have hnot : ¬ ((s.taken o 0x0808 args).complete o.mailbox st d []).health.fw.resetDue = true := by simp [hreset]
  rw [State.resetNow, State.resetIfDue, if_neg hnot, ite_self]

theorem packageReset_refused (hlen : args.length = 4) (hreset : s.health.fw.resetDue = false) (hgates : s.GatesRefuse o 0x0905 args st d) :
    Completes (.packageReset o args) s o.mailbox st [] (s.taken o 0x0905 args) := by
  refine Completes.of_refused (after := (State.afterCommand · 0x0905)) rfl h (by omega) (fixedLen_none 4 args hlen) hgates ?_
  have hnot : ¬ ((s.taken o 0x0905 args).complete o.mailbox st d []).health.fw.resetDue = true := by simp [hreset]
  rw [State.afterCommand, State.resetIfDue, if_neg hnot]
  exact ite_self _

end

/-- Settles O6: the gates answer before the command does, and what follows a completion finds nothing to do after a refusal. -/
theorem sendersWithoutTheLeaseAreRefused : Obligations.SendersWithoutTheLeaseAreRefused := by
  intro s o args r fault host h refused all leased
  have hrows {rows : List MailRow} {st : Status} (hruns : ∀ x ∈ rows, x.Runs) (hgates : ∀ x ∈ rows, ∃ d, s.GatesRefuse o x.op args st d) : all st rows := by
    intro x hx hargs hlen
    obtain ⟨d, hrefused⟩ := hgates x hx
    exact (hruns x hx).completes h hlen hargs hrefused
  have hleased {st : Status} (hgates : ∀ op, classOf op = some .s ∨ classOf op = some .o → ∃ d, s.GatesRefuse o op args st d) : leased st := by
    refine ⟨hrows (fun x hx => ?_) fun x hx => hgates x.op ?_, fun hlen hstage => ?_, fun hlen hreset => ?_⟩
    · exact (List.mem_append.1 hx).elim (runs_of_mem_sRows x) (runs_of_mem_oRows r fault host x)
    · exact (List.mem_append.1 hx).imp (classOf_of_mem_sRows x) (classOf_of_mem_oRows r fault host x)
    · obtain ⟨d, hrefused⟩ := hgates 0x0500 (.inr rfl)
      exact refConfig_refused h hlen hstage hrefused
    · obtain ⟨d, hactivate⟩ := hgates 0x0808 (.inr rfl)
      obtain ⟨e, hresets⟩ := hgates 0x0905 (.inr rfl)
      exact ⟨fwActivate_refused h hlen hreset hactivate, packageReset_refused h hlen hreset hresets⟩
  refine ⟨fun hrole hfree => hleased fun op hclass => ⟨_, State.gatesRefuse_noLock h hclass hrole hfree⟩,
    fun hrole howner hother => hleased fun op hclass => ⟨_, State.gatesRefuse_lockHeld h hclass hrole howner hother⟩, fun hrole hclaims => ?standby⟩
  case standby =>
    have hpartner {op : Nat} (hclass : (classOf op).isSome = true) (htarget : targetPartner op args = true) : s.GatesRefuse o op args .notActive 0 :=
      State.gatesRefuse_notActive h hclass hrole hclaims (by simp [standbyRefuses, journalled, htarget])
    refine ⟨hrows (fun x hx => ?_) fun x hx => ⟨_, State.gatesRefuse_notActive h ?_ hrole hclaims ?_⟩, fun hlen htarget => ?_, fun hlen hreset htarget => ?_,
      fun hlen htarget => ?_⟩
    · exact (List.mem_append.1 hx).elim (runs_of_mem_sRows x) (runs_of_mem_activeRows x)
    · rcases List.mem_append.1 hx with hx | hx
      · rw [classOf_of_mem_sRows x hx]
        rfl
      · exact (standbyRefuses_of_mem_activeRows args x hx).2
    · exact (List.mem_append.1 hx).elim (standbyRefuses_of_mem_sRows args) fun hx => (standbyRefuses_of_mem_activeRows args x hx).1
    · exact Completes.of_refused (after := id) rfl h (by omega) (fixedLen_none 24 args hlen) (hpartner rfl (by simp [targetPartner, htarget])) rfl
    · exact fwActivate_refused h hlen hreset (hpartner rfl (by simp [targetPartner, htarget]))
    · exact Completes.of_refused (after := id) rfl h (by omega) (fixedLen_none 12 args hlen) (hpartner rfl (by simp [targetPartner, htarget])) rfl

end Sys2Proof.Machine

/-! ## Commands that load the tables of a pipe (R115, R146, R147, R149, R219, R339, R372, R374) -/

namespace Sys2Proof.Machine

/-! ### The journal at the package that sends (R339) -/

/-- An entry is noted, and sent to a partner: of the mailboxes, MODE, role and partner nothing changes. -/
theorem State.journal_keeps (s : State) (op : Nat) (args mem : List Byte) (handle : Nat) : let t := s.journal op args mem handle
    t.mail = s.mail ∧ t.twin.role = s.twin.role ∧ t.twin.mode = s.twin.mode ∧ t.twin.partner = s.twin.partner := by
  have hsent (u : State) (e : JournalEntry) : (u.sendEntry e).mail = u.mail ∧ (u.sendEntry e).twin.role = u.twin.role ∧
      (u.sendEntry e).twin.mode = u.twin.mode ∧ (u.sendEntry e).twin.partner = u.twin.partner := by
    obtain ⟨_, _, _, _, hu⟩ := u.sendEntry_sent e
    rw [hu]
    exact ⟨rfl, rfl, rfl, rfl⟩
  unfold State.journal
  dsimp only
  split
  · exact hsent _ _
  · exact ⟨rfl, rfl, rfl, rfl⟩

theorem State.journal_hotPair (s : State) (op : Nat) (args mem : List Byte) (handle : Nat) : (s.journal op args mem handle).hotPair = s.hotPair := by
  obtain ⟨-, hrole, hmode, hpartner⟩ := s.journal_keeps op args mem handle
  unfold State.hotPair
  rw [hrole, hmode, hpartner]

/-! ### What a table takes effect on -/

/-- A load of a table concerns neither the mailboxes, the lease nor the twin. -/
structure State.LoadsTable (s t : State) : Prop where
  mail : t.mail = s.mail
  lease : t.lease = s.lease
  twin : t.twin = s.twin

theorem State.LoadsTable.refl (s : State) : s.LoadsTable s := ⟨rfl, rfl, rfl⟩

theorem State.LoadsTable.trans {s t u : State} (h : s.LoadsTable t) (g : t.LoadsTable u) : s.LoadsTable u :=
  ⟨g.mail.trans h.mail, g.lease.trans h.lease, g.twin.trans h.twin⟩

theorem foldl_loadsTable {α : Type} {f : State → α → State} (h : ∀ s a, State.LoadsTable s (f s a)) (l : List α) (s : State) : s.LoadsTable (l.foldl f s) :=
  List.foldlRecOn (motive := s.LoadsTable) l f (.refl s) fun u hu a _ => hu.trans (h u a)

theorem applyOffsetFreeze_loads (args : List Byte) (s : State) : s.LoadsTable (applyOffsetFreeze args s) := ⟨rfl, rfl, rfl⟩

theorem applyDelayLoad_loads (args : List Byte) (s : State) : s.LoadsTable (applyDelayLoad args s) := by
  refine .trans (t := { s with data := { s.data with delayVersions := assign s.data.delayVersions (field args 0 2) (field args 12 2) } }) ⟨rfl, rfl, rfl⟩ ?_
  exact foldl_loadsTable (f := fun u k => u.modChains (Chain.isOf (field args 0 2) (delayEntry args (field args 4 8) k).1) _) (fun u k => ⟨rfl, rfl, rfl⟩) _ _

theorem applyGainLoad_loads (args : List Byte) (s : State) : s.LoadsTable (applyGainLoad args s) := ⟨rfl, rfl, rfl⟩

theorem applyWindowLoad_loads (args : List Byte) (s : State) : s.LoadsTable (applyWindowLoad args s) := by
  unfold applyWindowLoad
  exact foldl_loadsTable (fun u k => by exact ⟨rfl, rfl, rfl⟩) _ _

theorem State.pkgRead_loads (s : State) (a n : Nat) : s.LoadsTable (s.pkgRead a n).2 := by
  unfold State.pkgRead
  dsimp only
  split <;> exact ⟨rfl, rfl, rfl⟩

theorem State.healWeights_loads (s : State) (pipe : Nat) (ws : List Weight) : s.LoadsTable (s.healWeights pipe ws) := by
  refine foldl_loadsTable (fun u die => ?_) _ _
  unfold State.healItems
  split <;> exact ⟨rfl, rfl, rfl⟩

theorem applyWeights_loads (args mem : List Byte) (s : State) : s.LoadsTable (applyWeights args mem s) := by
  have hhealed := s.healWeights_loads (field args 0 2) (loadTargets args mem)
  exact ⟨hhealed.mail, hhealed.lease, hhealed.twin⟩

/-- The weights that a table in package memory names (R200, R219). -/
def loadWeights (args : List Byte) (s : State) : State :=
  applyWeights args (s.pkgRead (field args 16 8) (tableBytes args)).1 (s.pkgRead (field args 16 8) (tableBytes args)).2

theorem loadWeights_loads (args : List Byte) (s : State) : s.LoadsTable (loadWeights args s) := (s.pkgRead_loads _ _).trans (applyWeights_loads ..)

/-! ### A T command of a package that sends -/

/-- The commands that load a table of a pipe. -/
def tableOps : List Nat := [0x0201, 0x0211, 0x0212, 0x0214, 0x0312]

theorem classOf_tableOps : ∀ op ∈ tableOps, classOf op = some .t := by decide

theorem targetPartner_tableOps (args : List Byte) {op : Nat} (h : op ∈ tableOps) : targetPartner op args = false := by
  have hnone : ∀ op ∈ tableOps, op ≠ 0x0808 ∧ op ≠ 0x0806 ∧ op ≠ 0x0809 := by decide
  simp [targetPartner, hnone op h]

theorem journalled_tableOps (args : List Byte) {op : Nat} (h : op ∈ tableOps) : journalled op args = true := by
  have hlisted : ∀ op ∈ tableOps, op ∈ [0x0201, 0x0211, 0x0212, 0x0214, 0x0312, 0x0803] := by decide
  rw [journalled, decide_eq_true (hlisted op h), Bool.true_or]

section
variable {s : State} {o : Origin} {op : Nat} {args : List Byte}

/-- What a T command on a pipe does when its tests pass (R372, R374). -/
theorem tableCommand_accepted {kind : Nat} {early : Checks} {state : State → Checks} {late : State → PipeEntry → Checks} {deadline : State → Checks}
    {f : State → State} (h : (tableCommand op kind early state late deadline f o args s).accepted = true) :
    tableCommand op kind early state late deadline f o args s =
      if s.isStagedPipe o (field args 0 4) then okay (s.stage { opcode := op, args := args, mem := s.journalMem op args }) else okay (f s) := by
  unfold tableCommand at h ⊢
  exact checked_accepted h

variable {len : List Byte → Option Nat} {cmd : Cmd} {i : Instr} {f : State → State}

/-- A T command that is accepted is staged with its pipe, or takes effect now and is journalled (R339, R374). -/
theorem tableCommand_completes (h : Served s o) (hrole : s.twin.role ≠ .standby) (hlen : args.length ≤ 1024) (hargs : len args = none)
    (he : exec i s = .next (s.row o op args len cmd)) (hop : op ∈ tableOps)
    (hcmd : cmd o args (s.taken o op args) = if (s.taken o op args).isStagedPipe o (field args 0 4) then
      okay ((s.taken o op args).stage { opcode := op, args := args, mem := (s.taken o op args).journalMem op args }) else okay (f (s.taken o op args)))
    (hloads : (s.taken o op args).LoadsTable (f (s.taken o op args))) : let t := s.taken o op args
      (t.isStagedPipe o (field args 0 4) = false → t.hotPair = false →
        Completes i s o.mailbox .ok [] ((f t).journal op args (t.journalMem op args) 0)) ∧
      (t.isStagedPipe o (field args 0 4) = true → Completes i s o.mailbox .ok [] (t.stage { opcode := op, args := args, mem := t.journalMem op args })) := by
  have hclass := classOf_tableOps op hop
  have hnever : op ≠ 0x0011 := by rintro rfl; exact absurd hop (by decide)
  have hknown : (classOf op).isSome = true := by rw [hclass]; rfl
  have hstandby : (s.twin.role == .standby && standbyRefuses op args) = false := by rw [beq_eq_false_iff_ne.2 hrole, Bool.false_and]
  have hlease : classOf op = some .s ∨ classOf op = some .o → s.holds o = true ∨ s.twin.role = .standby := by simp [hclass]
  refine ⟨fun hnow hsingle => ?_, fun hstaged => ?_⟩
  · rw [hnow, if_neg Bool.false_ne_true] at hcmd
    have hkeeps := (f (s.taken o op args)).journal_keeps op args ((s.taken o op args).journalMem op args) 0
    have hack : ((f (s.taken o op args)).journal op args ((s.taken o op args).journalMem op args) 0).awaitsAck op args = false := by
      rw [State.awaitsAck, State.journal_hotPair, State.hotPair, hloads.twin, ← State.hotPair, hsingle, targetPartner_tableOps args hop]
      rfl
    have hrow := State.row_journalled h hlen hargs hknown hstandby hlease hcmd (journalled_tableOps args hop) (by rw [hloads.lease, State.taken_staged]; exact lt_irrefl _) hack
    exact ⟨_, he.trans (congrArg _ hrow), State.row_answered h (hkeeps.1.trans hloads.mail), State.complete_same ..⟩
  · rw [hstaged, if_pos rfl] at hcmd
    exact Completes.of_row he h hlen hargs hknown hstandby hlease hcmd rfl (.inr (by simp [State.stage])) hnever

end

/-- Settles O17: an accepted T command is staged or loads its table, and a load concerns nothing that its entry of the journal or its completion looks at. -/
theorem tableCommandsComplete : Obligations.TableCommandsComplete := by
  intro s o args hserved hrole hlen h done
  refine ⟨fun hargs haccepted => ?_, fun hargs haccepted => ?_, fun hargs haccepted => ?_, fun hargs haccepted => ?_, fun hargs haccepted => ?_⟩
  · refine tableCommand_completes (f := applyOffsetFreeze args) hserved hrole hlen (fixedLen_none 20 args hargs) rfl (by decide) ?_ (applyOffsetFreeze_loads ..)
    unfold cmdOffsetFreeze at haccepted ⊢
    exact tableCommand_accepted haccepted
  · refine tableCommand_completes (f := applyDelayLoad args) hserved hrole hlen hargs rfl (by decide) ?_ (applyDelayLoad_loads ..)
    unfold cmdDelayLoad at haccepted ⊢
    exact tableCommand_accepted haccepted
  · refine tableCommand_completes (f := applyGainLoad args) hserved hrole hlen hargs rfl (by decide) ?_ (applyGainLoad_loads ..)
    unfold cmdGainLoad at haccepted ⊢
    exact tableCommand_accepted haccepted
  · refine tableCommand_completes (f := applyWindowLoad args) hserved hrole hlen hargs rfl (by decide) ?_ (applyWindowLoad_loads ..)
    unfold cmdWindowLoad at haccepted ⊢
    exact tableCommand_accepted haccepted
  · refine tableCommand_completes (f := loadWeights args) hserved hrole hlen (fixedLen_none 40 args hargs) rfl (by decide) ?_ (loadWeights_loads ..)
    unfold cmdWeightLoad at haccepted ⊢
    exact tableCommand_accepted haccepted

end Sys2Proof.Machine

/-! ## What events leave of the firmware's state (R437, R443 to R449, R452, R453) -/

namespace Sys2Proof.Machine

@[simp] theorem State.deliverPlain_fw (s : State) (e : LogEntry) (always : Bool) : (s.deliverPlain e always).health.fw = s.health.fw := by
  obtain ⟨a, ha⟩ := s.deliverPlain_health e always
  rw [ha]

@[simp] theorem State.logPut_fw (s : State) (e : LogEntry) : (s.logPut e).health.fw = s.health.fw := by rw [State.logPut, State.tail_health]

@[simp] theorem State.logPlain_fw (s : State) (e : LogEntry) : (s.logPlain e).health.fw = s.health.fw := by
  unfold State.logPlain
  split
  · rfl
  · split
    · split
      · rfl
      · exact s.logPut_fw e
    · split <;> rfl

section
variable {push : State → LogEntry → State} (hpush : ∀ s e, (push s e).health.fw = s.health.fw)
include hpush

theorem State.mediaFail_fw (s : State) (seq : Nat) (dead : Bool) : (s.mediaFail push seq dead).health.fw = s.health.fw := hpush _ _

theorem State.badSlot_fw (s : State) (e : LogEntry) : (s.badSlot push e).health.fw = s.health.fw := by
  unfold State.badSlot
  dsimp only
  split
  · exact (State.mediaFail_fw hpush _ _ _).trans (s.mediaFail_fw hpush _ _)
  · exact s.mediaFail_fw hpush _ _

end

@[simp] theorem State.overflowMark_fw (s : State) (m : LogEntry) : (s.overflowMark m).health.fw = s.health.fw := by
  have hmarked : ((s.logPlain m).deliverPlain m true).health.fw = s.health.fw := (State.deliverPlain_fw ..).trans (s.logPlain_fw m)
  unfold State.overflowMark
  dsimp only
  split
  · exact (State.badSlot_fw (fun u e => u.deliverPlain_fw e false) _ m).trans hmarked
  · exact hmarked

@[simp] theorem State.deliver_fw (s : State) (e : LogEntry) : (s.deliver e).health.fw = s.health.fw := by
  unfold State.deliver
  split
  · exact (State.deliverPlain_fw ..).trans (State.overflowMark_fw ..)
  · exact s.deliverPlain_fw e false

@[simp] theorem State.logStore_fw (s : State) (e : LogEntry) : (s.logStore e).health.fw = s.health.fw := by
  unfold State.logStore
  split
  · exact (State.badSlot_fw State.deliver_fw _ e).trans (s.logPlain_fw e)
  · exact s.logPlain_fw e

@[simp] theorem State.deferEpisode_fw (s : State) (op : HoldOp) : (s.deferEpisode op).health.fw = s.health.fw := by
  unfold State.deferEpisode
  split
  · rfl
  · exact (State.deliver_fw ..).trans (State.logStore_fw ..)

@[simp] theorem State.logWrite_fw (s : State) (e : LogEntry) : (s.logWrite e).health.fw = s.health.fw := by
  unfold State.logWrite
  split
  · rfl
  · split
    · exact (State.deferEpisode_fw ..).trans (s.logPlain_fw e)
    · exact s.endEpisode.logStore_fw e

@[simp] theorem State.raiseOne_fw (s : State) (code die : Nat) (detail : List Byte) : (s.raiseOne code die detail).health.fw = s.health.fw := by
  have hdelivered : (((s.newEntry code die detail).2.logWrite (s.newEntry code die detail).1).deliver (s.newEntry code die detail).1).health.fw = s.health.fw :=
    (State.deliver_fw ..).trans (State.logWrite_fw ..)
  unfold State.raiseOne
  dsimp only
  split <;> exact hdelivered

@[simp] theorem State.noteDeath_fw (s s0 : State) : (s.noteDeath s0).health.fw = s.health.fw := by
  unfold State.noteDeath
  split <;> rfl

@[simp] theorem State.storeNor_fw (s : State) : s.storeNor.health.fw = s.health.fw := by
  unfold State.storeNor
  split
  · rfl
  · exact (State.noteDeath_fw _ s).trans (State.deferEpisode_fw _ .page)

@[simp] theorem State.record_fw (s : State) (u : UnitRecord) : (s.record u).health.fw = s.health.fw := by
  unfold State.record
  dsimp only
  split
  · rfl
  · exact State.raiseOne_fw ..

@[simp] theorem State.reconcile_fw (s : State) : s.reconcile.health.fw = s.health.fw := by
  unfold State.reconcile
  split
  · rfl
  · exact (State.storeNor_fw _).trans (List.foldlRecOn (motive := fun u : State => u.health.fw = s.health.fw) _ _ rfl fun u hu x _ => (u.record_fw x).trans hu)

@[simp] theorem State.evident_fw (s : State) (kind die index new : Nat) : (s.evident kind die index new).health.fw = s.health.fw := by
  unfold State.evident
  dsimp only
  split
  · exact State.reconcile_fw _
  · rfl

@[simp] theorem State.raise_fw (s : State) (code die : Nat) (detail : List Byte) : (s.raise code die detail).health.fw = s.health.fw := by
  unfold State.raise
  dsimp only
  split
  · exact (State.evident_fw ..).trans (s.raiseOne_fw ..)
  · exact s.raiseOne_fw ..

end Sys2Proof.Machine

/-! ## Crate frames that arrive (R338, R479 to R481, R484, R485) -/

namespace Sys2Proof.Machine

/-! ### The checks of a frame (R480, R481) -/

/-- A bad frame is counted, and no more (R480). -/
def State.crateBad (s : State) : State := { s with crate := { s.crate with crcErrors := rcAdd 32 s.crate.crcErrors 1 } }

/-- What a valid frame leaves: its sender heard, and of the rest only what an event or an ACK touches. -/
structure State.HeardCrate (s t : State) (src : Nat) : Prop where
  heard : src ∈ t.crate.heard
  framesRx : t.crate.framesRx = rcAdd 32 s.crate.framesRx 1
  alone : t.crate.alone = false
  lanes : t.lanes = s.lanes
  cfg : t.cfg = s.cfg
  power : t.power = s.power
  ident : t.ident = s.ident
  fw : t.health.fw = s.health.fw
  reports : s.Reports t

section
variable {s : State} {type : Nat} {f : CrateFrame}

theorem State.crateReceive_bad (hup : s.power.inReset = false) (hbad : crateValid type f = false) : s.crateReceive type f = (false, s.crateBad) := by
  unfold State.crateReceive
  simp only [hup, hbad, Bool.not_false, Bool.false_eq_true, if_false, if_true]
  rfl

/-- A node that is heard (R481, R482). -/
def Crate.hears (c : Crate) (type : Nat) (f : CrateFrame) : Crate := Crate.rejoin
  { c with framesRx := rcAdd 32 c.framesRx 1, heard := if f.src.toNat % 32 ∈ c.heard then c.heard else c.heard ++ [f.src.toNat % 32]
           lastSeq := if type = 1 then c.lastSeq else assign c.lastSeq (f.src.toNat % 32 + 32 * type) f.seq }

theorem Crate.hears_gives (c : Crate) (type : Nat) (f : CrateFrame) :
    f.src.toNat % 32 ∈ (c.hears type f).heard ∧ (c.hears type f).framesRx = rcAdd 32 c.framesRx 1 ∧ (c.hears type f).alone = false := by
  have hmem : f.src.toNat % 32 ∈ (if f.src.toNat % 32 ∈ c.heard then c.heard else c.heard ++ [f.src.toNat % 32]) := by
    split
    next hin => exact hin
    · exact List.mem_append_right _ List.mem_cons_self
  unfold Crate.hears Crate.rejoin
  dsimp only
  split
  · exact ⟨hmem, rfl, rfl⟩
  next halone => exact ⟨hmem, rfl, by simpa using halone⟩

theorem State.heardCrate_hears (s : State) (type : Nat) (f : CrateFrame) : s.HeardCrate (s.modCrate (·.hears type f)) (f.src.toNat % 32) := by
  obtain ⟨hmem, hrx, halone⟩ := s.crate.hears_gives type f
  exact ⟨hmem, hrx, halone, rfl, rfl, rfl, rfl, rfl, .of_eq rfl rfl⟩

namespace State.HeardCrate
variable {t : State} {src : Nat}

/-- The end of crate state ALONE is reported (R482). -/
theorem raise (h : s.HeardCrate t src) (code die : Nat) (detail : List Byte) : s.HeardCrate (t.raise code die detail) src :=
  ⟨by rw [t.raise_crate]; exact h.heard, by rw [t.raise_crate]; exact h.framesRx, by rw [t.raise_crate]; exact h.alone, (t.raise_lanes ..).trans h.lanes,
    (t.raise_cfg ..).trans h.cfg, (t.raise_power ..).trans h.power, (t.raise_ident ..).trans h.ident, (t.raise_fw ..).trans h.fw,
    h.reports.trans (t.raise_reports ..)⟩

/-- The ACKER answers (R481). -/
theorem acknowledges (h : s.HeardCrate t src) (n : Nat) (o : OutItem) : s.HeardCrate ((t.modCrate fun c => { c with framesTx := n }).emit o) src :=
  ⟨h.heard, h.framesRx, h.alone, h.lanes, h.cfg, h.power, h.ident, h.fw, h.reports.trans ⟨List.suffix_cons _ _, _, rfl⟩⟩

end State.HeardCrate

theorem State.crateReceive_valid (hup : s.power.inReset = false) (hvalid : crateValid type f = true) :
    s.HeardCrate (s.crateReceive type f).2 (f.src.toNat % 32) := by
  have hnoted := s.heardCrate_hears type f
  have htold : s.HeardCrate (if s.crate.alone then (s.modCrate (·.hears type f)).raise 0x0804 0xFF (leBytes 1 (f.src.toNat % 32))
      else s.modCrate (·.hears type f)) (f.src.toNat % 32) := by
    split
    · exact hnoted.raise ..
    · exact hnoted
  unfold State.crateReceive
  simp only [hup, hvalid, Bool.not_true, Bool.false_eq_true, if_false]
  split
  · exact htold.acknowledges ..
  · exact htold

theorem State.HeardCrate.crateUp {t : State} {src : Nat} (h : s.HeardCrate t src) : t.crateUp = s.crateUp := by
  rw [State.crateUp, h.power, h.fw, State.crateUp]

/-- A frame that is taken is valid, and is no repetition. -/
theorem State.crateReceive_of_ok (h : (s.crateReceive type f).1 = true) : s.power.inReset = false ∧ crateValid type f = true := by
  by_contra hrefused
  unfold State.crateReceive at h
  dsimp only at h
  split at h
  · cases h
  next hreset =>
    rw [if_pos (by simpa using fun hvalid => hrefused ⟨by simpa using hreset, hvalid⟩)] at h
    cases h

end

/-! ### A state block (R483 to R485) -/

/-- A claim enters the table at its place. -/
theorem State.claimOf_enterClaim {s : State} {pos : Nat} (h : pos < s.lanes.claims.length) (claim : Nat) :
    (s.enterClaim pos claim).claimOf pos = max (s.claimOf pos) claim := getD_modify_same _ _ _ _ h

/-- A node's state block is noted: of the lanes the spares' holders may change, of the crate node the blocks that it keeps. -/
theorem State.noteBlock_eq (s : State) (node source role claim : Nat) : ∃ b x, s.noteBlock node source role claim =
    { s with crate := { s.crate with blocks := b }, lanes := { s.lanes with spareTx := x } } := by
  unfold State.noteBlock
  dsimp only
  split
  · exact ⟨_, _, rfl⟩
  · exact ⟨_, s.lanes.spareTx, rfl⟩

/-- The block of a node that is present is noted, and its claim entered in any case (R484). -/
def State.takeBlock (s : State) (f : CrateFrame) : State :=
  (if (field f.payload 0 2).testBit 11 then
    s.noteBlock (f.src.toNat % 32) (field f.payload 0 2 % 2048) (field f.payload 2 1) (field f.payload 4 4) else s).enterClaim
      (field f.payload 0 2 % 1024) (field f.payload 4 4)

theorem State.takeBlock_eq (s : State) (f : CrateFrame) : ∃ b x, s.takeBlock f =
    ({ s with crate := { s.crate with blocks := b }, lanes := { s.lanes with spareTx := x } } : State).enterClaim (field f.payload 0 2 % 1024)
      (field f.payload 4 4) := by
  unfold State.takeBlock
  split
  · obtain ⟨b, x, h⟩ := s.noteBlock_eq (f.src.toNat % 32) (field f.payload 0 2 % 2048) (field f.payload 2 1) (field f.payload 4 4)
    exact ⟨b, x, by rw [h]⟩
  · exact ⟨s.crate.blocks, s.lanes.spareTx, rfl⟩

section
variable {s : State} {type : Nat} {f : CrateFrame}

theorem State.stateBlockIn_bad (hup : s.power.inReset = false) (hbad : crateValid type f = false) : s.stateBlockIn type f = s.crateBad := by
  unfold State.stateBlockIn
  simp [State.crateReceive_bad hup hbad, hbad]

theorem State.stateBlockIn_repeated (h : s.repeated type f = true) : s.stateBlockIn type f = (s.crateReceive type f).2 := by
  unfold State.stateBlockIn
  simp [h]

/-- A block that concerns another position, or whose sender is not present, is taken and no more. -/
theorem State.stateBlockIn_other (hup : s.power.inReset = false) (hvalid : crateValid type f = true) (hnew : s.repeated type f = false)
    (hother : (field f.payload 0 2).testBit 11 = false ∨ field f.payload 0 2 % 1024 ≠ s.cfg.position) :
    s.stateBlockIn type f = (s.crateReceive type f).2.takeBlock f := by
  have hown : (s.cfg.positionValid && field f.payload 0 2 % 1024 == s.cfg.position && (field f.payload 0 2).testBit 11) = false := by
    rcases hother with h | h
    · rw [h, Bool.and_false]
    · rw [beq_eq_false_iff_ne.2 h, Bool.and_false, Bool.false_and]
  unfold State.stateBlockIn
  simp [hup, hvalid, hnew, hown, State.takeBlock]

/-- Its claim is entered once, and the role stays. -/
theorem State.stateBlockIn_other_gives (hup : s.power.inReset = false) (hvalid : crateValid type f = true) (hnew : s.repeated type f = false)
    (hother : (field f.payload 0 2).testBit 11 = false ∨ field f.payload 0 2 % 1024 ≠ s.cfg.position) (hclaims : s.lanes.claims.length = 1024) :
    let t := s.stateBlockIn type f
    (f.src.toNat % 32 ∈ t.crate.heard ∧ t.crate.framesRx = rcAdd 32 s.crate.framesRx 1 ∧ t.crate.alone = false) ∧
      t.claimOf (field f.payload 0 2 % 1024) = max (s.claimOf (field f.payload 0 2 % 1024)) (field f.payload 4 4) ∧ t.twin.role = s.twin.role := by
  have hheard := State.crateReceive_valid hup hvalid
  obtain ⟨b, x, htaken⟩ := (s.crateReceive type f).2.takeBlock_eq f
  obtain ⟨-, l, htwin⟩ := hheard.reports
  rw [State.stateBlockIn_other hup hvalid hnew hother, htaken]
  refine ⟨⟨hheard.heard, hheard.framesRx, hheard.alone⟩, ?_, by show (s.crateReceive type f).2.twin.role = _; rw [htwin]⟩
  rw [State.claimOf_enterClaim (by show _ < (s.crateReceive type f).2.lanes.claims.length; rw [hheard.lanes, hclaims]; exact Nat.mod_lt _ (by decide))]
  simp only [State.claimOf, hheard.lanes]

/-! ### A higher claim for the own position (R338, R353) -/

/-- What a package that gives way to a claim holds then: the claim as a STANDBY, released pins and no sparge (R353). -/
def State.GaveWay (s : State) (claim : Nat) : Prop :=
  s.twin.role = .standby ∧ s.twin.claim = claim ∧ s.clocks.pulses.driven = false ∧ s.data.scopes = []

theorem State.GaveWay.raise {claim : Nat} (h : s.GaveWay claim) (code die : Nat) (detail : List Byte) : (s.raise code die detail).GaveWay claim := by
  obtain ⟨-, l, htwin⟩ := s.raise_reports code die detail
  simpa only [State.GaveWay, htwin, State.raise_clocks, State.raise_data] using h

/-- The record of the role leaves it as it is. -/
theorem State.GaveWay.roleReconciled {claim : Nat} (h : s.GaveWay claim) : s.roleReconciled.GaveWay claim := by
  unfold State.roleReconciled
  dsimp only
  refine State.GaveWay.raise ?_ ..
  exact h

theorem State.roleReconciled_fw : s.roleReconciled.health.fw = s.health.fw := State.raise_fw ..

theorem State.resetIfDue_of_not_due (h : s.health.fw.resetDue = false) : s.resetIfDue = s := by rw [State.resetIfDue, h]; rfl

/-- A package steps out of service, where no reset waits for that (R353). -/
theorem State.demote_gaveWay (hreset : s.health.fw.resetDue = false) (claim source : Nat) : (s.demote claim source).GaveWay claim := by
  unfold State.demote
  dsimp only
  rw [State.resetIfDue_of_not_due (by rw [State.roleReconciled_fw, State.raise_fw]; exact hreset)]
  exact State.GaveWay.roleReconciled (State.GaveWay.raise ⟨rfl, rfl, rfl, rfl⟩ ..)

/-- The backup heartbeat changes what was seen, and what is declared of the active. -/
theorem State.GaveWay.backupHeartbeat {claim : Nat} (h : s.GaveWay claim) (role flags : Nat) : (s.backupHeartbeat role flags).GaveWay claim := by
  unfold State.backupHeartbeat
  dsimp only
  split
  · unfold State.declare
    split
    · exact h
    · exact h
  · exact h

theorem State.seeClaim_higher {claim : Nat} (hrole : s.twin.role ≠ .standby) (hclaim : s.twin.claim < claim) (role source : Nat) :
    s.seeClaim claim role source = (s.modTwin fun t => { t with claimKnown := max claim t.claimKnown }).demote claim source := by
  unfold State.seeClaim
  simp only [if_pos hrole, if_pos (Or.inl hclaim)]

/-- A claim for the own position that is higher than what it sends with takes a package out of service (R338). -/
theorem State.stateBlockIn_gaveWay (hup : s.power.inReset = false) (hvalid : crateValid type f = true) (hnew : s.repeated type f = false)
    (hpresent : (field f.payload 0 2).testBit 11 = true) (hown : field f.payload 0 2 % 1024 = s.cfg.position) (hposition : s.cfg.positionValid = true)
    (hnode : s.crateUp = true) (hknown : s.claimOf (field f.payload 0 2 % 1024) ≤ field f.payload 4 4) (hclaim : s.twin.claim < field f.payload 4 4)
    (hrole : s.twin.role ≠ .standby) (hreset : s.health.fw.resetDue = false) : (s.stateBlockIn type f).GaveWay (field f.payload 4 4) := by
  have hheard := State.crateReceive_valid hup hvalid
  obtain ⟨b, x, htaken⟩ := (s.crateReceive type f).2.takeBlock_eq f
  obtain ⟨-, l, htwin⟩ := hheard.reports
  have hseen : (((s.crateReceive type f).2.takeBlock f).seeClaim (field f.payload 4 4) (field f.payload 2 1) (field f.payload 0 2 % 2048)).GaveWay
      (field f.payload 4 4) := by
    rw [htaken, State.seeClaim_higher]
    · exact State.demote_gaveWay (by show (s.crateReceive type f).2.health.fw.resetDue = false; rw [hheard.fw, hreset]) ..
    · show (s.crateReceive type f).2.twin.role ≠ _
      rw [htwin]
      exact hrole
    · show (s.crateReceive type f).2.twin.claim < _
      rw [htwin]
      exact hclaim
  have hfresh : ¬ field f.payload 4 4 < (s.crateReceive type f).2.claimOf (field f.payload 0 2 % 1024) := by
    simpa only [State.claimOf, hheard.lanes, not_lt] using hknown
  have htakes : s.stateBlockIn type f =
      let t := ((s.crateReceive type f).2.takeBlock f).seeClaim (field f.payload 4 4) (field f.payload 2 1) (field f.payload 0 2 % 2048)
      if t.twin.mode ≠ .untwinned ∧ (field f.payload 0 2).testBit 10 ≠ s.ident.twinBit then t.backupHeartbeat (field f.payload 2 1) (field f.payload 3 1)
      else t := by
    have hconcerns : (s.cfg.positionValid && field f.payload 0 2 % 1024 == s.cfg.position && (field f.payload 0 2).testBit 11) = true := by
      rw [hposition, hpresent, hown, beq_self_eq_true]
      rfl
    unfold State.stateBlockIn
    dsimp only
    rw [if_neg (by simp [hup, hvalid, hnew]), hconcerns, if_neg (by rw [hheard.crateUp, hnode]; decide), if_neg hfresh]
    rfl
  rw [htakes]
  dsimp only
  split
  · exact hseen.backupHeartbeat ..
  · exact hseen

/-! ### BOOT (R485) -/

/-- What BOOT tells of its node: whether its start-up has ended, and whether it is activating. -/
def activatingAfter (f : CrateFrame) (l : List Nat) : List Nat :=
  if field f.payload 0 1 = 9 ∨ (field f.payload 1 1).testBit 1 = true then l.filter (· != f.src.toNat % 32)
  else if (field f.payload 1 1).testBit 0 = true ∧ f.src.toNat % 32 ∉ l then l ++ [f.src.toNat % 32] else l

theorem not_mem_activatingAfter (h : field f.payload 0 1 = 9) (l : List Nat) : f.src.toNat % 32 ∉ activatingAfter f l := by
  simp [activatingAfter, h]

theorem mem_activatingAfter (hstage : field f.payload 0 1 ≠ 9) (hrec : (field f.payload 1 1).testBit 1 = false)
    (hact : (field f.payload 1 1).testBit 0 = true) (l : List Nat) : f.src.toNat % 32 ∈ activatingAfter f l := by
  by_cases hin : f.src.toNat % 32 ∈ l <;> simp [activatingAfter, hstage, hrec, hact, hin]

/-- BOOT is answered, and tells of its node. -/
theorem execBoot_of_ok (hok : (s.crateReceive 4 f).1 = true) (hnode : s.crateUp = true) : execBoot f s =
    .next (let t := (s.crateReceive 4 f).2.modCrate fun c => { c with activating := activatingAfter f c.activating }
      t.crateSend 3 (f.src.toNat % 32) t.stateBlock) := by
  obtain ⟨hup, hvalid⟩ := State.crateReceive_of_ok hok
  unfold execBoot
  simp only [hok, (State.crateReceive_valid hup hvalid).crateUp, hnode, Bool.and_self, if_true, activatingAfter, Bool.or_eq_true, decide_eq_true_eq]

/-- A frame other than a HEARTBEAT queues, but in crate state ALONE (R481). -/
theorem State.crateSend_queued (halone : s.crate.alone = false) (htype : type ≠ 2) (dest : Nat) (payload : List Byte) :
    s.crateSend type dest payload = s.modCrate fun c => { c with queue := c.queue ++ [{ type := type, dest := dest, payload := payload }] } := by
  unfold State.crateSend State.modCrate
  simp [halone, htype]

/-! ### Frames with a bad CRC (R480) -/

/-- A bad frame of any other type is counted, and no more (R480). -/
theorem exec_crateBad (hup : s.power.inReset = false) :
    (crateValid 1 f = false → execAck f s = .next s.crateBad) ∧ (crateValid 4 f = false → execBoot f s = .next s.crateBad) ∧
    (crateValid 0x10 f = false → execSleepPropose f s = .next s.crateBad) ∧ (crateValid 0x11 f = false → execSleepVote f s = .next s.crateBad) ∧
    (crateValid 0x12 f = false → execSleepCommit f s = .next s.crateBad) ∧ (crateValid 0x13 f = false → execSleepAbort f s = .next s.crateBad) ∧
    (crateValid 0x14 f = false → execWake f s = .next s.crateBad) := by
  refine ⟨fun h => ?_, fun h => ?_, fun h => ?_, fun h => ?_, fun h => ?_, fun h => ?_, fun h => ?_⟩
  · simp [execAck, State.crateReceive_bad hup h, h]
  · simp [execBoot, State.crateReceive_bad hup h]
  · simp [execSleepPropose, State.crateReceive_bad hup h]
  · simp [execSleepVote, State.crateReceive_bad hup h]
  · unfold execSleepCommit
    rw [State.crateReceive_bad hup h]
    dsimp only
    split
    · simp
    · rfl
  · unfold execSleepAbort
    rw [State.crateReceive_bad hup h]
    dsimp only
    split
    · simp
    · rfl
  · simp [execWake, State.crateReceive_bad hup h]

end

/-- Settles O59: a frame that fails its checks is counted, one that passes them is heard; what its type does then is said of state blocks and of BOOT. -/
theorem crateFramesArrive : Obligations.CrateFramesArrive := by
  intro s f hup bad p claim known heard
  obtain ⟨hack, hboot, hpropose, hvote, hcommit, habort, hwake⟩ := exec_crateBad hup
  refine ⟨hack, fun h => congrArg _ (State.stateBlockIn_bad hup h), fun h => congrArg _ (State.stateBlockIn_bad hup h), hboot, hpropose, hvote, hcommit, habort,
    hwake, fun hvalid hagain => ⟨_, rfl, ?_⟩, fun hclaims => ⟨fun hvalid hnew hother => ⟨_, rfl, State.stateBlockIn_other_gives hup hvalid hnew hother hclaims⟩,
      fun hvalid hnew hother => ⟨_, rfl, State.stateBlockIn_other_gives hup hvalid hnew hother hclaims⟩,
      fun hvalid hnew hpresent hown hposition hnode hknown hclaim hrole hreset =>
        ⟨_, rfl, State.stateBlockIn_gaveWay hup hvalid hnew hpresent hown hposition hnode hknown hclaim hrole hreset⟩⟩, fun hok hnode => ?_⟩
  · have hheard := State.crateReceive_valid hup hvalid
    obtain ⟨-, l, htwin⟩ := hheard.reports
    rw [State.stateBlockIn_repeated hagain]
    exact ⟨⟨hheard.heard, hheard.framesRx, hheard.alone⟩, congrArg Lanes.claims hheard.lanes, by rw [htwin]⟩
  · obtain ⟨-, hvalid⟩ := State.crateReceive_of_ok hok
    have hheard := State.crateReceive_valid hup hvalid
    refine ⟨_, execBoot_of_ok hok hnode, ?_⟩
    dsimp only
    rw [State.crateSend_queued (type := 3) (by exact hheard.alone) (by decide)]
    exact ⟨⟨hheard.heard, hheard.framesRx, hheard.alone⟩, ⟨_, List.mem_append_right _ List.mem_cons_self, rfl, rfl⟩, fun h => not_mem_activatingAfter h _,
      fun hstage hrec hact => mem_activatingAfter hstage hrec hact _⟩

end Sys2Proof.Machine

/-! ## What follows a message of the twin link: reports, readiness, references, and what leaves (R291, R328, R331, R349) -/

namespace Sys2Proof.Machine

/-- The state of the twin but for what sending, readiness and reports change of it. -/
def Twin.lasting (t : Twin) : Twin :=
  { t with logTail := [], waiting := [], rotation := 0, wasReady := false, attachSent := false, attachSentNs := 0, attachTransaction := 0, reloading := false }

/-- What is asked of the twin's state is the same where what sending, readiness and reports change does not matter to it. -/
theorem Twin.field_of_lasting {α : Type} {x y : Twin} (h : x.lasting = y.lasting) (g : Twin → α) (hg : ∀ z : Twin, g z.lasting = g z) : g x = g y := by
  rw [← hg, h, hg]

/-- A step that sends, reports, chooses references or stores settings: it adds to what leaves the package, and leaves the pair's state, the configuration and
the fabric. -/
structure State.FollowsUp (s t : State) : Prop where
  tells : s.Tells t
  out : s.out <:+ t.out
  twin : t.twin.lasting = s.twin.lasting
  cfg : t.cfg = s.cfg
  fabric : t.fabric = s.fabric

namespace State.FollowsUp
variable {s t u : State}

theorem of_eq (hlanes : t.lanes = s.lanes) (hmeasured : t.measured = s.measured) (hout : t.out = s.out) (htwin : t.twin.lasting = s.twin.lasting)
    (hcfg : t.cfg = s.cfg) (hfabric : t.fabric = s.fabric) : s.FollowsUp t :=
  ⟨.of_eq hlanes hmeasured, hout ▸ List.suffix_rfl, htwin, hcfg, hfabric⟩

theorem refl (s : State) : s.FollowsUp s := of_eq rfl rfl rfl rfl rfl rfl

theorem trans (h : s.FollowsUp t) (g : t.FollowsUp u) : s.FollowsUp u :=
  ⟨h.tells.trans g.tells, h.out.trans g.out, g.twin.trans h.twin, g.cfg.trans h.cfg, g.fabric.trans h.fabric⟩

/-- A change of nothing that is said here may come first. -/
theorem after (h : t.FollowsUp u) (hlanes : t.lanes = s.lanes) (hmeasured : t.measured = s.measured) (hout : t.out = s.out)
    (htwin : t.twin.lasting = s.twin.lasting) (hcfg : t.cfg = s.cfg) (hfabric : t.fabric = s.fabric) : s.FollowsUp u :=
  (of_eq hlanes hmeasured hout htwin hcfg hfabric).trans h

/-- What leaves before stays among what has left. -/
theorem mem_out (h : s.FollowsUp t) {x : OutItem} (hx : x ∈ s.out) : x ∈ t.out := h.out.subset hx

theorem of_event (hstep : s.EventStep t) (hreports : s.Reports t) (hmeasured : t.measured = s.measured) : s.FollowsUp t := by
  obtain ⟨hout, l, htwin⟩ := hreports
  obtain ⟨_, _, _, _, _, _, rfl⟩ := hstep
  exact ⟨.of_eq rfl hmeasured, hout, by rw [htwin]; rfl, rfl, rfl⟩

theorem raise (s : State) (code die : Nat) (detail : List Byte) : s.FollowsUp (s.raise code die detail) :=
  of_event (s.raise_step ..) (s.raise_reports ..) (s.raise_measured ..)

theorem field {α : Type} (h : s.FollowsUp t) (g : Twin → α) (hg : ∀ z : Twin, g z.lasting = g z) : g t.twin = g s.twin := Twin.field_of_lasting h.twin g hg

theorem policy (h : s.FollowsUp t) : t.health.policy = s.health.policy := congrArg (fun m : List KilnRecord × Policy × Nat => m.2.1) h.tells.measured

end State.FollowsUp

theorem foldl_followsUp {α : Type} {f : State → α → State} (h : ∀ s a, State.FollowsUp s (f s a)) (l : List α) (s : State) : s.FollowsUp (l.foldl f s) :=
  List.foldlRecOn (motive := s.FollowsUp) l f (.refl s) fun u hu a _ => hu.trans (h u a)

/-! ### Sending (R331) -/

theorem State.twinGive_followsUp (s : State) (lane : Nat) (f : Frame) : s.FollowsUp (s.twinGive lane f) :=
  ⟨⟨⟨_, _, rfl⟩, rfl⟩, List.suffix_cons _ _, rfl, rfl, rfl⟩

theorem State.twinPump_followsUp (n : Nat) (s : State) : s.FollowsUp (State.twinPump n s) := by
  induction n generalizing s with
  | zero => exact .refl s
  | succ n ih =>
    rw [State.twinPump]
    split
    · exact State.FollowsUp.after ((State.twinGive_followsUp _ _ _).trans (ih _)) rfl rfl rfl rfl rfl rfl
    · exact .refl s

theorem State.twinQueue_followsUp (s : State) (f : Frame) : s.FollowsUp (s.twinQueue f) := by
  unfold State.twinQueue
  split
  · exact .refl s
  · exact State.FollowsUp.after (State.twinPump_followsUp _ _) rfl rfl rfl rfl rfl rfl

theorem State.sendTwin_followsUp (s : State) (msg transaction : Nat) (payload : List Byte) : s.FollowsUp (s.sendTwin msg transaction payload) :=
  s.twinQueue_followsUp _

theorem State.sendAttach_followsUp (s : State) : s.FollowsUp s.sendAttach :=
  State.FollowsUp.after (State.sendTwin_followsUp ..) rfl rfl rfl rfl rfl rfl

/-- A frame that waits leaves on the next locked lane, and with none it is not sent (log 143). -/
def State.lineTakes (s : State) (f : Frame) : State :=
  match s.lockedLanes with
  | [] => s
  | lanes => s.twinGive (lanes.getD (s.twin.rotation % lanes.length) 0) f

/-- No frame is left in the line of a transmitter. -/
def TxLane.drained (x : TxLane) : TxLane := { x with line := { x.line with queue := [], sending := [] } }

def State.linesIdle (s : State) : State := { s with lanes := { s.lanes with tx := s.lanes.tx.map .drained, twinTx := s.lanes.twinTx.map .drained } }

theorem State.drainLines_eq (s : State) : s.drainLines =
    (s.twin.waiting.foldl State.lineTakes { s with twin := { s.twin with waiting := [] } }).linesIdle := rfl

theorem State.lineTakes_followsUp (s : State) (f : Frame) : s.FollowsUp (s.lineTakes f) := by
  unfold State.lineTakes
  split
  · exact .refl s
  · exact s.twinGive_followsUp _ _

theorem State.linesIdle_followsUp (s : State) : s.FollowsUp s.linesIdle := ⟨⟨⟨_, _, rfl⟩, rfl⟩, List.suffix_rfl, rfl, rfl, rfl⟩

/-- Frames that wait have left by the time that data-path time has moved on (log 143). -/
theorem State.drainLines_followsUp (s : State) : s.FollowsUp s.drainLines := by
  rw [s.drainLines_eq]
  exact State.FollowsUp.after ((foldl_followsUp State.lineTakes_followsUp _ _).trans (State.linesIdle_followsUp _)) rfl rfl rfl rfl rfl rfl

theorem State.advanceTo_followsUp (s : State) (ns : Nat) : s.FollowsUp (s.advanceTo ns) := by
  unfold State.advanceTo
  split
  · exact State.FollowsUp.after (State.drainLines_followsUp _) rfl rfl rfl rfl rfl rfl
  · exact .refl s

/-! ### Attachment and readiness (R328, R349) -/

theorem State.attached_followsUp (s : State) : s.FollowsUp s.attached := by
  unfold State.attached
  split
  · exact State.FollowsUp.after (State.FollowsUp.raise ..) rfl rfl rfl rfl rfl rfl
  · exact .refl s

theorem State.readyCheck_followsUp (s : State) : s.FollowsUp s.readyCheck := by
  have hseen : s.FollowsUp { s with twin := { s.twin with wasReady := s.standbyReady } } := .of_eq rfl rfl rfl rfl rfl rfl
  unfold State.readyCheck
  dsimp only
  split
  · exact .refl s
  · split
    · exact hseen.trans (.raise ..)
    · exact hseen.trans (.raise ..)

/-! ### References (R291 to R293) -/

theorem State.modDpll_followsUp (s : State) (f : Dpll → Dpll) : s.FollowsUp (s.modDpll f) := .of_eq rfl rfl rfl rfl rfl rfl

theorem State.switchPhase_followsUp (s : State) (code : Nat) : s.FollowsUp (s.switchPhase code).2.2 := by
  unfold State.switchPhase State.fresh
  dsimp only
  split <;> exact .of_eq rfl rfl rfl rfl rfl rfl

theorem State.selectEntry_followsUp (s : State) (k : Nat) : s.FollowsUp (s.selectEntry k) :=
  (s.switchPhase_followsUp _).trans ((State.modDpll_followsUp ..).trans (.raise ..))

theorem State.loseReference_followsUp (s : State) : s.FollowsUp s.loseReference := by
  unfold State.loseReference
  split
  · exact State.FollowsUp.after (State.FollowsUp.raise ..) rfl rfl rfl rfl rfl rfl
  · exact (State.modDpll_followsUp ..).trans (.raise ..)

theorem State.reselect_followsUp (s : State) : s.FollowsUp s.reselect := by
  unfold State.reselect
  split
  · exact s.selectEntry_followsUp _
  · exact s.loseReference_followsUp

theorem State.disqualify_followsUp (s : State) (code test : Nat) : s.FollowsUp (s.disqualify code test) := by
  unfold State.disqualify
  split
  · have hout : s.FollowsUp (((s.modRef code fun x => { x with qualified := false, wtrRunning := false, wtrLeftS := 0 }).raise 0x0402 0xFF
        (leBytes 1 code ++ leBytes 1 test)).modDpll Dpll.showWtr) :=
      State.FollowsUp.after (State.FollowsUp.trans (.raise ..) (State.modDpll_followsUp ..)) rfl rfl rfl rfl rfl rfl
    dsimp only
    split
    · exact hout.trans (State.reselect_followsUp _)
    · exact hout
  · exact .refl s

theorem State.refCheck_followsUp (s : State) : s.FollowsUp s.refCheck := by
  have htest (u : State) (code test : Nat) : u.FollowsUp (if u.refPasses code then u else u.disqualify code test) := by
    split
    · exact .refl u
    · exact u.disqualify_followsUp code test
  exact (htest s 5 1).trans (htest _ 6 _)

/-! ### Settings that are kept (R399, R448, R449) -/

theorem State.storeConfig_followsUp (s : State) : s.FollowsUp s.storeConfig := by
  unfold State.storeConfig
  split
  · exact .of_eq rfl rfl rfl rfl rfl rfl
  · refine State.FollowsUp.trans (.of_eq (t := { s with health := { s.health with configDue := true } }) rfl rfl rfl rfl rfl rfl) (.of_event ?_ ?_ ?_)
    · exact (State.deferEpisode_step _ .page).trans (State.noteDeath_step _ s)
    · exact (State.deferEpisode_reports _ .page).trans (State.noteDeath_reports _ s)
    · exact (State.noteDeath_measured _ s).trans (State.deferEpisode_measured _ .page)

theorem State.keepSettings_followsUp (s before : State) : s.FollowsUp (s.keepSettings before) := by
  unfold State.keepSettings
  split
  · exact .refl s
  · exact s.storeConfig_followsUp

/-! ### A frame that leaves at once (R331) -/

/-- The lane that is next in rotation takes a frame at once, when nothing waits before it. -/
theorem State.twinQueue_leaves {s : State} (hfree : s.freeLanes ≠ []) (hwaiting : s.twin.waiting = []) (hused : s.twin.incompatible = false) (f : Frame) :
    ∃ k, OutItem.twin k (sealFrame 5 { f with seq := (s.twinTx k).seq }) ∈ (s.twinQueue f).out := by
  obtain ⟨lane, rest, hlanes⟩ := List.exists_cons_of_ne_nil hfree
  have hlocked : s.lockedLanes.isEmpty = false := by
    rw [List.isEmpty_eq_false_iff]
    intro hnone
    exact hfree (by rw [State.freeLanes, hnone]; simp)
  refine ⟨lane, ?_⟩
  unfold State.twinQueue
  rw [hlocked, hused, hwaiting, Bool.or_self, if_neg Bool.false_ne_true]
  unfold State.twinPump
  rw [show State.freeLanes { s with twin := { s.twin with waiting := insertBy (fun g => twinRank (g.layout.toNat % 256)) f [] } } = lane :: rest from hlanes]
  exact List.mem_cons_self

theorem twinTransaction_twinFrame (s : State) (msg : Nat) (payload : List Byte) {transaction : Nat} (h : transaction < 2 ^ 32) (tick : Nat) :
    twinTransaction (s.twinFrame msg tick 0 transaction payload) = transaction := by
  show (BitVec.ofNat 64 (0 + 2 ^ 32 * transaction)).toNat / 2 ^ 32 = transaction
  rw [BitVec.toNat_ofNat]
  omega

theorem twinTransaction_lt (f : Frame) : twinTransaction f < 2 ^ 32 := Nat.div_lt_of_lt_mul f.spec.isLt

/-- A message of one frame leaves at once, with its TRANSACTION (R329, R331). -/
theorem State.sendTwin_transaction {s : State} (hfree : s.freeLanes ≠ []) (hwaiting : s.twin.waiting = []) (hused : s.twin.incompatible = false) (msg : Nat)
    {transaction : Nat} (htransaction : transaction < 2 ^ 32) (payload : List Byte) : ∃ k g, .twin k g ∈ (s.sendTwin msg transaction payload).out ∧
      g.layout = BitVec.ofNat 16 msg ∧ g.payload = payload ∧ twinTransaction g = transaction := by
  obtain ⟨k, hk⟩ := State.twinQueue_leaves hfree hwaiting hused (s.twinFrame msg s.eventTick 0 transaction payload)
  exact ⟨k, _, hk, rfl, rfl, twinTransaction_twinFrame s msg payload htransaction s.eventTick⟩

end Sys2Proof.Machine

/-! ## The frames of a message as they come (R264, R287, R329) -/

namespace Sys2Proof.Machine

/-- What the checks of frames leave, whether they pass or not: the twin's state but for LOG_TAIL, the configuration, the fabric, and which lanes of the twin link
carry frames. -/
structure State.Received (s t : State) : Prop where
  reports : s.Reports t
  measured : t.measured = s.measured
  cfg : t.cfg = s.cfg
  fabric : t.fabric = s.fabric
  boundary : t.data.boundary = s.data.boundary
  twinTx : t.lanes.twinTx = s.lanes.twinTx
  carrying : t.lanes.twinRx.map RxLane.carrying = s.lanes.twinRx.map RxLane.carrying

namespace State.Received
variable {s t u : State}

theorem refl (s : State) : s.Received s := ⟨.refl s, rfl, rfl, rfl, rfl, rfl, rfl⟩

theorem trans (h : s.Received t) (g : t.Received u) : s.Received u :=
  ⟨h.reports.trans g.reports, g.measured.trans h.measured, g.cfg.trans h.cfg, g.fabric.trans h.fabric, g.boundary.trans h.boundary, g.twinTx.trans h.twinTx,
    g.carrying.trans h.carrying⟩

theorem raise (s : State) (code die : Nat) (detail : List Byte) : s.Received (s.raise code die detail) := by
  refine ⟨s.raise_reports .., s.raise_measured .., s.raise_cfg .., s.raise_fabric .., ?_, ?_, ?_⟩
  · rw [State.raise_data]
  · rw [State.raise_lanes]
  · rw [State.raise_lanes]

theorem modReceiver (s : State) (l : LaneRef) {f : RxLane → RxLane} (hf : ∀ x, (f x).carrying = x.carrying) : s.Received (s.modReceiver l f) := by
  cases l with
  | haul n => exact ⟨.of_eq rfl rfl, rfl, rfl, rfl, rfl, rfl, rfl⟩
  | twin n => exact ⟨.of_eq rfl rfl, rfl, rfl, rfl, rfl, rfl, map_modify_of_eq hf _ _⟩

theorem enterClaim (s : State) (pos claim : Nat) : s.Received (s.enterClaim pos claim) := ⟨.of_eq rfl rfl, rfl, rfl, rfl, rfl, rfl, rfl⟩

theorem twin (h : s.Received t) : ∃ l, t.twin = { s.twin with logTail := l } := h.reports.2

/-- What is asked of the twin's state stays, but for LOG_TAIL. -/
theorem field {α : Type} (h : s.Received t) (g : Twin → α) (hg : ∀ (z : Twin) (l : List LogEntry), g { z with logTail := l } = g z) : g t.twin = g s.twin := by
  obtain ⟨l, htwin⟩ := h.twin
  rw [htwin, hg]

theorem freeLanes (h : s.Received t) : t.freeLanes = s.freeLanes := by
  obtain ⟨l, htwin⟩ := h.twin
  have htx (k : Nat) : t.twinTx k = s.twinTx k := by rw [State.twinTx, h.twinTx, State.twinTx]
  have hcarries (k : Nat) : t.twinCarries k = s.twinCarries k := by
    have hone : (t.twinRx k).carrying = (s.twinRx k).carrying := by
      have hmap := congrArg (fun l => l.getD k (RxLane.carrying {})) h.carrying
      simp only [List.getD_map] at hmap
      exact hmap
    simp only [RxLane.carrying, Prod.mk.injEq] at hone
    obtain ⟨hlock, hskew, hpass, hfailed⟩ := hone
    unfold State.twinCarries
    rw [hlock, hskew, hpass, hfailed, htx]
  have hlocked : t.lockedLanes = s.lockedLanes := List.filter_congr fun k _ => hcarries k
  simp only [State.freeLanes, hlocked, htx, htwin]

end State.Received

theorem State.popFrame_received (s : State) (l : LaneRef) : s.Received (s.popFrame l) := by
  unfold State.popFrame
  split
  · exact .refl s
  · exact .modReceiver s l fun _ => rfl

theorem State.versionDrop_received (s : State) (l : LaneRef) (version : Nat) : s.Received (s.versionDrop l version) := by
  have hcounted : s.Received (s.modReceiver l fun x => { x with versionDrops := rcAdd 32 x.versionDrops 1, versionRaised := true }) :=
    .modReceiver s l fun _ => rfl
  unfold State.versionDrop
  dsimp only
  split
  · exact hcounted
  · exact hcounted.trans (.raise ..)

theorem State.receiveOn_received (s : State) (l : LaneRef) (type : Nat) (f : Frame) : s.Received (s.receiveOn l type f).2 := by
  have hpopped := s.popFrame_received l
  have hcounted {g : RxLane → RxLane} (hg : ∀ x, (g x).carrying = x.carrying) : s.Received ((s.popFrame l).modReceiver l g) := hpopped.trans (.modReceiver _ l hg)
  unfold State.receiveOn
  dsimp only
  split_ifs
  · exact hpopped
  · exact hpopped
  · exact hcounted fun _ => rfl
  · exact hpopped.trans (State.versionDrop_received ..)
  · exact hcounted fun _ => rfl
  · exact hcounted fun _ => rfl
  · exact hcounted fun _ => rfl
  · exact (hpopped.trans (.enterClaim ..)).trans (.modReceiver _ l fun _ => rfl)

theorem State.receive_received (s : State) (lane type : Nat) (f : Frame) : s.Received (s.receive lane type f).2 := by
  have hchecked := s.receiveOn_received (.haul lane) type f
  unfold State.receive
  dsimp only
  split
  · exact hchecked.trans ⟨.of_eq rfl rfl, rfl, rfl, rfl, rfl, rfl, rfl⟩
  · exact hchecked

/-- A link in use has a compatible partner (R349). -/
theorem State.compatible_of_twinUsed {s : State} (h : s.twinUsed = true) : s.twin.incompatible = false := by
  unfold State.twinUsed at h
  simp only [Bool.and_eq_true, Bool.not_eq_true'] at h
  exact h.1.1.2

/-- A frame is checked; one that is taken came on a link in use. -/
theorem State.twinAccept_received (s : State) (lane : LaneRef) (msg : Nat) (lenOk : Nat → Bool) (f : Frame) :
    s.Received (s.twinAccept lane msg lenOk f).2 ∧ ((s.twinAccept lane msg lenOk f).1 = true → s.twin.incompatible = false) := by
  unfold State.twinAccept
  cases lane with
  | haul n => exact ⟨s.receive_received n 5 f, nofun⟩
  | twin n =>
    have hchecked := s.receiveOn_received (.twin n) 5 f
    have hcounted {g : RxLane → RxLane} (hg : ∀ x, (g x).carrying = x.carrying) : s.Received ((s.receiveOn (.twin n) 5 f).2.modReceiver (.twin n) g) :=
      hchecked.trans (.modReceiver _ _ hg)
    dsimp only
    split_ifs
    · exact ⟨.refl s, nofun⟩
    · exact ⟨hchecked, nofun⟩
    · exact ⟨hcounted fun _ => rfl, nofun⟩
    next hused _ _ => exact ⟨hcounted fun _ => rfl, fun _ => State.compatible_of_twinUsed (by simpa using hused)⟩

/-- The frames of a message that spans several; where one is taken, the link is in use. -/
theorem State.twinFrames_received (msg : Nat) (lenOk : Nat → Bool) (frames : List (LaneRef × Frame)) (s : State) :
    s.Received (s.twinFrames msg lenOk frames).2 ∧ ((s.twinFrames msg lenOk frames).1 ≠ [] → s.twin.incompatible = false) := by
  induction frames generalizing s with
  | nil => exact ⟨.refl s, fun h => absurd rfl h⟩
  | cons x rest ih =>
    obtain ⟨lane, f⟩ := x
    obtain ⟨hone, hused⟩ := s.twinAccept_received lane msg lenOk f
    obtain ⟨hrest, hlater⟩ := ih (s.twinAccept lane msg lenOk f).2
    refine ⟨hone.trans hrest, fun hsome => ?_⟩
    cases hok : (s.twinAccept lane msg lenOk f).1 with
    | true => exact hused hok
    | false =>
      obtain ⟨l, htwin⟩ := hone.twin
      rw [htwin] at hlater
      refine hlater fun hnone => hsome ?_
      unfold State.twinFrames
      simp [hok, hnone]

end Sys2Proof.Machine

/-! ## The journal and tun repair over the link (R339, R348) -/

namespace Sys2Proof.Machine

/-! ### An entry at the standby (R339) -/

theorem State.makeChains_followsUp (s : State) (i t : Nat) : s.FollowsUp (s.makeChains i t) := by
  unfold State.makeChains
  dsimp only
  split
  · exact .of_eq rfl rfl rfl rfl rfl rfl
  · exact .refl s

theorem State.makeChangeChains_followsUp (s : State) (i : Nat) : s.FollowsUp (s.makeChangeChains i) := .of_eq rfl rfl rfl rfl rfl rfl

/-- Chains that start late change the data path alone. -/
theorem State.lateChains_followsUp (s : State) (i : Nat) : s.FollowsUp (s.lateChains i) := by
  unfold State.lateChains
  dsimp only
  split
  · exact (s.makeChains_followsUp i _).trans (State.makeChangeChains_followsUp _ i)
  · exact .refl s

theorem State.deferChains_followsUp (s : State) : s.FollowsUp s.deferChains := by
  unfold State.deferChains
  dsimp only
  split
  · exact (foldl_followsUp State.lateChains_followsUp _ _).trans (.of_eq rfl rfl rfl rfl rfl rfl)
  · exact .refl s

/-- An entry in the journal of the standby, before it is acknowledged. -/
def State.entryNoted (s : State) (e : JournalEntry) : State :=
  s.modTwin fun t => { t with journalSeq := e.seq, journalCrc := crc64From t.journalCrc (journalBytes e), history := t.history ++ [e]
                              shadowFrom := if t.reloading then s.eventTick + 1 else t.shadowFrom }

theorem State.noteEntry_eq (s : State) (e : JournalEntry) (transaction : Nat) :
    s.noteEntry e transaction = (s.entryNoted e).sendTwin 4 transaction (leBytes 4 e.seq ++ leBytes 4 0) := rfl

section
variable {s : State} {e : JournalEntry}

/-- POLICY_SET names no pipe that a standby could lack. -/
theorem State.lacksPipe_policy (hop : e.opcode = 0x0803) : s.lacksPipe e = false := by
  have hnone : entryHandle e.opcode e.args = none := by
    rw [hop]
    rfl
  rw [State.lacksPipe, hnone]
  rfl

/-- POLICY_SET in its turn takes effect, is noted and is acknowledged (R339, R461). -/
theorem State.journalIn_policy (hseq : e.seq = s.twin.journalSeq + 1) (hop : e.opcode = 0x0803) (transaction : Nat) : s.journalIn e transaction =
    (((((s.applyPolicy e.args).entryNoted e).sendTwin 4 transaction (leBytes 4 e.seq ++ leBytes 4 0)).keepSettings s).deferChains).readyCheck := by
  have happly : s.applyEntry e = s.applyPolicy e.args := if_pos hop
  unfold State.journalIn
  dsimp only
  rw [if_neg (c := e.seq = 1 ∧ 1 ≤ s.twin.journalSeq) (by omega), if_neg (not_not.2 hseq), State.lacksPipe_policy hop, if_neg Bool.false_ne_true,
    if_neg (by rw [hop]; decide), happly, State.noteEntry_eq]

theorem State.journalIn_outOfTurn (hseq : e.seq ≠ s.twin.journalSeq + 1) (hfirst : e.seq ≠ 1) (transaction : Nat) :
    s.journalIn e transaction = s.modTwin fun t => { t with inSync := false } := by
  unfold State.journalIn
  dsimp only
  rw [if_neg (c := e.seq = 1 ∧ 1 ≤ s.twin.journalSeq) fun h => hfirst h.1, if_pos hseq]

/-- An entry that is acknowledged stands in the journal, and its policy is in force; the acknowledgement leaves at once where a lane is free. -/
theorem State.journalIn_policy_gives (hseq : e.seq = s.twin.journalSeq + 1) (hop : e.opcode = 0x0803) {transaction : Nat} (htransaction : transaction < 2 ^ 32) :
    let t := s.journalIn e transaction
    t.twin.journalSeq = e.seq ∧ t.twin.journalCrc = crc64From s.twin.journalCrc (journalBytes e) ∧ t.twin.history = s.twin.history ++ [e] ∧
      t.health.policy = parsePolicy e.args ∧
      (s.freeLanes ≠ [] → s.twin.waiting = [] → s.twin.incompatible = false → ∃ k g, .twin k g ∈ t.out ∧ g.layout = 4 ∧ field g.payload 0 4 = e.seq % 2 ^ 32 ∧
        twinTransaction g = transaction) := by
  rw [State.journalIn_policy hseq hop]
  have hsent := ((s.applyPolicy e.args).entryNoted e).sendTwin_followsUp 4 transaction (leBytes 4 e.seq ++ leBytes 4 0)
  have hleaves (hfree : s.freeLanes ≠ []) (hwaiting : s.twin.waiting = []) (hused : s.twin.incompatible = false) :=
    State.sendTwin_transaction (s := (s.applyPolicy e.args).entryNoted e) hfree hwaiting hused 4 htransaction (leBytes 4 e.seq ++ leBytes 4 0)
  have hafter := ((State.keepSettings_followsUp (((s.applyPolicy e.args).entryNoted e).sendTwin 4 transaction (leBytes 4 e.seq ++ leBytes 4 0)) s).trans
    (State.deferChains_followsUp _)).trans (State.readyCheck_followsUp _)
  have hall := hsent.trans hafter
  refine ⟨(hall.field Twin.journalSeq fun _ => rfl), (hall.field Twin.journalCrc fun _ => rfl), (hall.field Twin.history fun _ => rfl), hall.policy,
    fun hfree hwaiting hused => ?_⟩
  obtain ⟨k, g, hg, hlayout, hpayload, hsame⟩ := hleaves hfree hwaiting hused
  exact ⟨k, g, hafter.mem_out hg, hlayout, by rw [hpayload, field_leBytes_append]; norm_num, hsame⟩

end

/-- The frames of a whole entry come to an attached standby. -/
theorem exec_journal {s : State} {first : LaneRef × Frame} {rest : List (LaneRef × Frame)} {e : JournalEntry}
    (hwhole : wholeEntry (s.twinFrames 3 (fun n => decide (8 ≤ n)) (first :: rest)).1 = some e) (hrole : s.twin.role = .standby)
    (hpartner : s.twin.partner.isSome = true) : exec (.journal first rest) s = .next
      ((s.twinFrames 3 (fun n => decide (8 ≤ n)) (first :: rest)).2.journalIn e
        (((s.twinFrames 3 (fun n => decide (8 ≤ n)) (first :: rest)).1.map twinTransaction).headD 0)) := by
  obtain ⟨l, htwin⟩ := (State.twinFrames_received 3 (fun n => decide (8 ≤ n)) (first :: rest) s).1.twin
  have hattached : ((s.twinFrames 3 (fun n => decide (8 ≤ n)) (first :: rest)).2.twin.role != .standby ||
      (s.twinFrames 3 (fun n => decide (8 ≤ n)) (first :: rest)).2.twin.partner.isNone) = false := by
    rw [htwin]
    simp [hrole, hpartner]
  show execJournal first rest s = _
  unfold execJournal
  dsimp only
  rw [hattached, hwhole]
  rfl

theorem wholeEntry_ne_nil {fs : List Frame} {e : JournalEntry} (h : wholeEntry fs = some e) : fs ≠ [] := by
  rintro rfl
  cases h

theorem headD_twinTransaction_lt (fs : List Frame) : (fs.map twinTransaction).headD 0 < 2 ^ 32 := by
  cases fs with
  | nil => exact Nat.two_pow_pos 32
  | cons f fs => exact twinTransaction_lt f

/-! ### Acknowledgements (R339) -/

theorem not_of_mem_diff_filter {α : Type} [DecidableEq α] {p : α → Bool} {l : List α} {x : α} (h : x ∈ l.diff (l.filter p)) : p x = false := by
  by_contra hp
  have hcount := List.count_pos_iff.2 h
  rw [List.count_diff, List.count_filter (by simpa using hp), Nat.sub_self] at hcount
  exact absurd hcount (lt_irrefl 0)

theorem State.finishRunning_gives (s : State) (r : Running) : let t := s.finishRunning r
    t.twin = s.twin ∧ t.cfg = s.cfg ∧ t.mail.running = s.mail.running.erase r := by
  unfold State.finishRunning
  dsimp only
  rw [State.complete_twin, State.complete_cfg, State.complete_running]
  split <;> exact ⟨rfl, rfl, rfl⟩

theorem State.finishAll_gives (l : List Running) (s : State) : let t := l.foldl (fun s r => s.finishRunning r) s
    t.twin = s.twin ∧ t.cfg = s.cfg ∧ t.mail.running = s.mail.running.diff l := by
  induction l generalizing s with
  | nil => exact ⟨rfl, rfl, (List.diff_nil _).symm⟩
  | cons r l ih =>
    obtain ⟨htwin, hcfg, hrunning⟩ := s.finishRunning_gives r
    obtain ⟨itwin, icfg, irunning⟩ := ih (s.finishRunning r)
    exact ⟨itwin.trans htwin, icfg.trans hcfg, by rw [List.diff_cons, ← hrunning]; exact irunning⟩

/-- What waits for an acknowledgement up to `seq` has ended. -/
theorem State.journalDone_gives (s : State) (seq : Nat) : let t := s.journalDone seq
    t.twin.lasting = s.twin.lasting ∧ t.cfg = s.cfg ∧ ∀ r ∈ t.mail.running, ∀ q, r.waits = .journal q → seq < q := by
  unfold State.journalDone
  generalize hdone : s.mail.running.filter _ = l
  obtain ⟨htwin, hcfg, hrunning⟩ := State.finishAll_gives l s
  have hkept := State.keepSettings_followsUp (l.foldl (fun s r => s.finishRunning r) s) s
  refine ⟨hkept.twin.trans (congrArg Twin.lasting htwin), hkept.cfg.trans hcfg, fun r hr q hq => ?_⟩
  rw [(State.keepSettings_keepsDpll _ s).1, hrunning, ← hdone] at hr
  have hlater := not_of_mem_diff_filter hr
  rw [hq] at hlater
  simpa using hlater

/-- An acknowledgement ends what waits for it, and at the journal's end the standby is in sync (R339). -/
theorem journalAck_gives {s u : State} {lane : LaneRef} {f : Frame} (h : s.twinReceive lane 4 8 f = (true, u)) (hrole : s.twin.role = .active) :
    Gives (.journalAck lane f) s fun t => (∀ r ∈ t.mail.running, ∀ q, r.waits = .journal q → field f.payload 0 4 < q) ∧
      (field f.payload 0 4 = s.twin.journalSeq → t.twin.inSync = true) ∧ t.twin.journalSeq = s.twin.journalSeq ∧ t.cfg = s.cfg := by
  have htook := (State.twinReceive_took h).1
  obtain ⟨htwin, hcfg, hended⟩ := u.journalDone_gives (field f.payload 0 4)
  have hseq : (u.journalDone (field f.payload 0 4)).twin.journalSeq = s.twin.journalSeq :=
    Twin.field_of_lasting (htwin.trans (congrArg Twin.lasting htook.twin)) Twin.journalSeq fun _ => rfl
  have hcfg' := hcfg.trans htook.keepsPair.cfg
  have hexec : exec (.journalAck lane f) s = .next (let v := u.journalDone (field f.payload 0 4)
      if field f.payload 0 4 = v.twin.journalSeq then (v.modTwin fun t => { t with inSync := true }).attached else v) := by
    show execJournalAck lane f s = _
    unfold execJournalAck
    rw [h]
    dsimp only
    rw [if_pos (by rw [htook.twin, hrole]; rfl)]
  generalize u.journalDone (field f.payload 0 4) = v at *
  refine ⟨_, hexec, ?_⟩
  dsimp only
  split
  · have hattached := (v.modTwin fun t => { t with inSync := true }).attached_followsUp
    have hmail : (v.modTwin fun t => { t with inSync := true }).attached.mail = v.mail := by
      unfold State.attached
      split
      · exact State.raise_mail ..
      · rfl
    exact ⟨by rw [hmail]; exact hended, fun _ => (hattached.field Twin.inSync fun _ => rfl), (hattached.field Twin.journalSeq fun _ => rfl).trans hseq,
      hattached.cfg.trans hcfg'⟩
  next hlater => exact ⟨hended, fun hnow => absurd (hnow.trans hseq.symm) hlater, hseq, hcfg'⟩

theorem State.sendEntry_mail (s : State) (e : JournalEntry) : (s.sendEntry e).mail = s.mail := by
  obtain ⟨_, _, _, _, h⟩ := s.sendEntry_sent e
  rw [h]

theorem State.sendEntries_mail (l : List JournalEntry) (s : State) : (l.foldl (fun s e => s.sendEntry e) s).mail = s.mail := by
  induction l generalizing s with
  | nil => rfl
  | cons e l ih => rw [List.foldl_cons, ih, State.sendEntry_mail]

theorem State.sendJournal_mail (s : State) : s.sendJournal.mail = s.mail := State.sendEntries_mail _ _

/-- 2 ms without an acknowledgement end what waits for it as well (R339). -/
theorem journalAckTimeout_gives {s : State} {q : Nat} (h : ∃ r ∈ s.mail.running, r.waits = .journal q) :
    Gives (.journalAckTimeout q) s fun t => (∀ r ∈ t.mail.running, ∀ k, r.waits = .journal k → q < k) ∧ t.cfg = s.cfg := by
  obtain ⟨-, hcfg, hended⟩ := s.journalDone_gives q
  have hwaits : s.mail.running.any (fun r => r.waits == .journal q) = true := by simpa using h
  have hexec : exec (.journalAckTimeout q) s = .next (let v := s.journalDone q
      if v.twin.role = .active ∧ v.twin.partner.isSome then v.sendJournal else v) := by
    show execJournalAckTimeout q s = _
    unfold execJournalAckTimeout
    rw [hwaits]
    rfl
  generalize s.journalDone q = v at *
  refine ⟨_, hexec, ?_⟩
  dsimp only
  split
  · exact ⟨by rw [v.sendJournal_mail]; exact hended, v.sendJournal_keepsPair.cfg.trans hcfg⟩
  · exact ⟨hended, hcfg⟩

/-! ### Tun repair (R179, R348) -/

/-- What a frame that is taken leaves decides the answer to a repair read. -/
theorem State.TookTwin.repairAnswer {s t : State} (h : s.TookTwin t) : t.repairAnswer = s.repairAnswer := by
  obtain ⟨x, c, rfl, -⟩ := h
  rfl

/-- The counters of the answers to repair reads. -/
def Twin.answered (t : Twin) (status : Nat) : Twin :=
  if status = 0 then { t with repairsServed := rcAdd 32 t.repairsServed 1 } else { t with repairsRefused := rcAdd 32 t.repairsRefused 1 }

/-- The payload of the answer to a repair read (R348). -/
def repairPayload (a : Nat × List Byte) : List Byte := leBytes 1 a.1 ++ leBytes 3 0 ++ padTo 32 a.2

/-- The answer that a REPAIR_REQ asks for. -/
def State.answerTo (s : State) (f : Frame) : Nat × List Byte :=
  s.repairAnswer (field f.payload 0 4) (field f.payload 4 1) (field f.payload 5 1) (field f.payload 6 2) (field f.payload 8 4) (field f.payload 12 4)

theorem exec_repairReq {s u : State} {lane : LaneRef} {f : Frame} (h : s.twinReceive lane 5 16 f = (true, u)) :
    exec (.repairReq lane f) s = .next ((u.sendTwin 6 (twinTransaction f) (repairPayload (s.answerTo f))).modTwin fun t => t.answered (s.answerTo f).1) := by
  rw [State.answerTo, ← (State.twinReceive_took h).1.repairAnswer]
  show execRepairReq lane f s = _
  unfold execRepairReq
  rw [h]
  rfl

/-- A repair read is answered with its TRANSACTION, and counted (R348). -/
theorem repairReq_gives {s u : State} {lane : LaneRef} {f : Frame} (h : s.twinReceive lane 5 16 f = (true, u)) :
    Gives (.repairReq lane f) s fun t => t.fabric.mem = s.fabric.mem ∧
      t.twin.repairsServed = (if (s.answerTo f).1 = 0 then rcAdd 32 s.twin.repairsServed 1 else s.twin.repairsServed) ∧
      t.twin.repairsRefused = (if (s.answerTo f).1 = 0 then s.twin.repairsRefused else rcAdd 32 s.twin.repairsRefused 1) ∧
      (s.freeLanes ≠ [] → s.twin.waiting = [] → ∃ k x, .twin k x ∈ t.out ∧ x.layout = 6 ∧ twinTransaction x = twinTransaction f ∧
        x.payload = repairPayload (s.answerTo f)) := by
  obtain ⟨htook, hused⟩ := State.twinReceive_took h
  have hlinked := State.compatible_of_twinUsed hused
  have hsent := u.sendTwin_followsUp 6 (twinTransaction f) (repairPayload (s.answerTo f))
  have hserved : (u.sendTwin 6 (twinTransaction f) (repairPayload (s.answerTo f))).twin.repairsServed = s.twin.repairsServed :=
    Twin.field_of_lasting (hsent.twin.trans (congrArg Twin.lasting htook.twin)) Twin.repairsServed fun _ => rfl
  have hrefused : (u.sendTwin 6 (twinTransaction f) (repairPayload (s.answerTo f))).twin.repairsRefused = s.twin.repairsRefused :=
    Twin.field_of_lasting (hsent.twin.trans (congrArg Twin.lasting htook.twin)) Twin.repairsRefused fun _ => rfl
  refine ⟨_, exec_repairReq h, congrArg Fabric.mem (hsent.fabric.trans htook.keepsPair.fabric), ?_, ?_, fun hfree hwaiting => ?_⟩
  · show (Twin.answered _ _).repairsServed = _
    rw [← hserved, Twin.answered]
    split <;> rfl
  · show (Twin.answered _ _).repairsRefused = _
    rw [← hrefused, Twin.answered]
    split <;> rfl
  · obtain ⟨k, g, hg, hlayout, hpayload, hsame⟩ := State.sendTwin_transaction (s := u) (by rwa [htook.freeLanes]) (by rw [htook.twin, hwaiting])
      (by rw [htook.twin, hlinked]) 6 (twinTransaction_lt f) (repairPayload (s.answerTo f))
    exact ⟨k, g, hg, hlayout, hsame, hpayload⟩

section
variable {s u : State} {lane : LaneRef} {f : Frame} {r : Repair} (h : s.twinReceive lane 6 36 f = (true, u))
  (hfind : s.data.repairs.find? (·.transaction.toNat == twinTransaction f) = some r) (howner : r.owner = none)
include h hfind

theorem exec_repairReply : exec (.repairReply lane f) s = .next (if field f.payload 0 1 = 0 then u.repairWith r (f.payload.drop 4) else u.repairFails r) := by
  have hfound : u.data.repairs.find? (·.transaction.toNat == twinTransaction f) = some r := by
    obtain ⟨_, _, rfl, -⟩ := (State.twinReceive_took h).1
    exact hfind
  show execRepairReply lane f s = _
  unfold execRepairReply
  rw [h]
  dsimp only
  rw [hfound]
  rfl

include howner

/-- The word that comes is stored, and its repair ends (R179, R348). -/
theorem repairReply_stores (hok : field f.payload 0 1 = 0) : Gives (.repairReply lane f) s fun t => (∀ x ∈ t.data.repairs, x.transaction ≠ r.transaction) ∧
    t.fabric.mem = (s.memWrite ((s.repairEntry r.pipe).tunAddr r.die r.bank r.channel r.tp + 32 * r.word) (f.payload.drop 4)).fabric.mem := by
  refine ⟨_, (exec_repairReply h hfind).trans (congrArg _ (if_pos hok)), ?_⟩
  obtain ⟨_, _, rfl, -⟩ := (State.twinReceive_took h).1
  unfold State.repairWith
  rw [howner]
  dsimp only
  rw [State.raise_data, State.raise_fabric]
  exact ⟨fun x hx => by simpa using (List.mem_filter.1 hx).2, rfl⟩

/-- A word that is not to be had marks its tile position, and its repair ends (R179, R348). -/
theorem repairReply_fails (hno : field f.payload 0 1 ≠ 0) : Gives (.repairReply lane f) s fun t => (∀ x ∈ t.data.repairs, x.transaction ≠ r.transaction) ∧
    (t.tilePos r.pipe r.die r.bank r.channel r.tp).corrupt = true ∧ t.fabric.mem = s.fabric.mem := by
  have hexec : exec (.repairReply lane f) s = .next ((u.endRepair r).giveUpWords r.pipe r.die r.bank r.channel r.tp [r.word]) := by
    rw [exec_repairReply h hfind, if_neg hno, State.repairFails, howner]
  obtain ⟨-, -, hrepairs, hmem⟩ := State.sinkFrame_eq_iff.1 ((u.endRepair r).giveUpWords_sinkFrame r.pipe r.die r.bank r.channel r.tp [r.word])
  refine ⟨_, hexec, fun x hx => ?_, State.markCorrupt_corrupt .., hmem.trans (congrArg Fabric.mem (State.twinReceive_took h).1.keepsPair.fabric)⟩
  rw [hrepairs] at hx
  simpa using (List.mem_filter.1 hx).2

end

/-- Settles O45: frames that are checked leave the pair's state, so an entry, an acknowledgement and a repair are judged by the state before them. -/
theorem twinJournalAndRepair : Obligations.TwinJournalAndRepair := by
  intro s
  refine ⟨?journal, fun lane f htaken hrole => journalAck_gives (State.twinReceive_of_ok htaken) hrole,
    fun q hwaits => journalAckTimeout_gives hwaits, fun lane f htaken => repairReq_gives (State.twinReceive_of_ok htaken),
    fun lane f r htaken hfind howner => ⟨repairReply_stores (State.twinReceive_of_ok htaken) hfind howner,
      repairReply_fails (State.twinReceive_of_ok htaken) hfind howner⟩⟩
  intro first rest e got hwhole hrole hpartner
  have hexec := exec_journal hwhole hrole hpartner
  obtain ⟨hreceived, hused⟩ := State.twinFrames_received 3 (fun n => decide (8 ≤ n)) (first :: rest) s
  have hlinked := hused (wholeEntry_ne_nil hwhole)
  obtain ⟨l, htwin⟩ := hreceived.twin
  refine ⟨fun hseq _ hop => ⟨_, hexec, ?_⟩, fun hseq hfirst => ⟨_, hexec, ?_⟩⟩
  · obtain ⟨hjournal, hcrc, hhistory, hpolicy, hleaves⟩ := State.journalIn_policy_gives
      (s := (s.twinFrames 3 (fun n => decide (8 ≤ n)) (first :: rest)).2) (by rw [htwin]; exact hseq) hop (headD_twinTransaction_lt got)
    rw [hreceived.freeLanes, htwin] at hleaves
    exact ⟨hjournal, by rw [hcrc, htwin], by rw [hhistory, htwin], hpolicy, fun hfree hwaiting => hleaves hfree hwaiting hlinked⟩
  · rw [State.journalIn_outOfTurn (by rw [htwin]; exact hseq) hfirst]
    exact ⟨rfl, hreceived.field Twin.journalSeq fun _ _ => rfl, hreceived.cfg, congrArg (fun m : List KilnRecord × Policy × Nat => m.2.1) hreceived.measured,
      hreceived.fabric⟩

end Sys2Proof.Machine

/-! ## Heartbeats and state copies (R332 to R338, R342) -/

namespace Sys2Proof.Machine

/-! ### The claim that a heartbeat or a copy carries (R338) -/

/-- What a frame for the own position tells of a claim. -/
def State.claimHeard (s : State) (f : Frame) (claim role : Nat) : State := if s.ownPosition f then s.seeClaim claim role f.source.toNat else s

/-- A STANDBY takes the claim of its active. -/
theorem State.claimHeard_standby {s : State} (hrole : s.twin.role = .standby) (f : Frame) (claim role : Nat) : ∃ c k,
    s.claimHeard f claim role = (s.modTwin fun t => { t with claim := c, claimKnown := k }) ∧ (s.ownPosition f = true → role = 1 → c = max claim s.twin.claim) := by
  unfold State.claimHeard
  split
  · unfold State.seeClaim
    dsimp only
    rw [if_neg (not_not.2 hrole)]
    split
    · exact ⟨max claim s.twin.claim, _, rfl, fun _ _ => rfl⟩
    next hnot => exact ⟨s.twin.claim, _, rfl, fun _ hone => absurd hone hnot⟩
  next hother => exact ⟨s.twin.claim, s.twin.claimKnown, rfl, fun hown => absurd hown hother⟩

/-- An active keeps its claim where the other is not higher, and not announced as that of an active. -/
theorem State.claimHeard_active {s : State} (hrole : s.twin.role = .active) (f : Frame) {claim role : Nat} (hclaim : claim ≤ s.twin.claim) (hother : role ≠ 1) :
    ∃ k, s.claimHeard f claim role = s.modTwin fun t => { t with claimKnown := k } := by
  unfold State.claimHeard
  split
  · unfold State.seeClaim
    dsimp only
    rw [if_pos (by rw [hrole]; decide), if_neg fun h => h.elim (Nat.not_lt.2 hclaim) fun h => hother h.2.1]
    exact ⟨_, rfl⟩
  · exact ⟨s.twin.claimKnown, rfl⟩

/-! ### HEARTBEAT (R333, R335) -/

/-- What a HEARTBEAT shows of the partner (R333). -/
def Twin.shows (t : Twin) (f : Frame) : Twin :=
  { t with seen := { t.seen with any := true, active := t.seen.active || field f.payload 1 1 == 1 }
           partner := t.partner.map fun p =>
             { p with role := if field f.payload 1 1 = 0 then .alone else if field f.payload 1 1 = 1 then .active else .standby
                      ready := (field f.payload 2 2).testBit 1, hot := (field f.payload 2 2).testBit 2, diverged := (field f.payload 2 2).testBit 3
                      window := some (field f.payload 0 1 % 8) } }

/-- A HEARTBEAT with FAULT declares the active failed, but for an earlier declaration (R335). -/
theorem State.declare_eq (s : State) (cause boundary : Nat) : ∃ d r, s.declare cause boundary =
    (s.modTwin fun t => { t with declared := d, declaredReady := r }) ∧ (s.twin.declared = none → d = some (cause, boundary)) := by
  unfold State.declare
  split
  next hsome => exact ⟨s.twin.declared, s.twin.declaredReady, rfl, fun hnone => absurd (hnone ▸ hsome) (by decide)⟩
  · exact ⟨_, _, rfl, fun _ => rfl⟩

theorem State.declare_gives {s : State} (h : s.twin.declared = none) (cause boundary : Nat) :
    (s.declare cause boundary).twin.declared = some (cause, boundary) ∧ (s.declare cause boundary).twin.hbMissed = s.twin.hbMissed := by
  obtain ⟨d, r, hdeclared, hcause⟩ := s.declare_eq cause boundary
  rw [hdeclared]
  exact ⟨hcause h, rfl⟩

/-- A failure that it tells of, and whether the journal agrees. -/
def State.standbyJudges (s : State) (f : Frame) : State :=
  (if (field f.payload 2 2).testBit 0 then s.declare (field f.payload 8 1) s.nextBoundary else s).modTwin fun t =>
    { t with inSync := field f.payload 4 4 == t.journalSeq && !t.crcBad }

/-- What a standby does with what a HEARTBEAT shows: attachment and readiness follow. -/
def State.standbyHears (s : State) (f : Frame) : State :=
  (if (s.standbyJudges f).twin.inSync then (s.standbyJudges f).attached else s.standbyJudges f).readyCheck

theorem State.standbyJudges_eq (s : State) (f : Frame) : ∃ d r, s.standbyJudges f =
    (s.modTwin fun t => { t with declared := d, declaredReady := r, inSync := field f.payload 4 4 == t.journalSeq && !t.crcBad }) ∧
    ((field f.payload 2 2).testBit 0 = true → s.twin.declared = none → d = some (field f.payload 8 1, s.nextBoundary)) := by
  unfold State.standbyJudges
  split
  · obtain ⟨d, r, hdeclared, hcause⟩ := s.declare_eq (field f.payload 8 1) s.nextBoundary
    rw [hdeclared]
    exact ⟨d, r, rfl, fun _ => hcause⟩
  next hfine => exact ⟨s.twin.declared, s.twin.declaredReady, rfl, fun hfault => absurd hfault hfine⟩

theorem State.standbyHears_followsUp (s : State) (f : Frame) : (s.standbyJudges f).FollowsUp (s.standbyHears f) := by
  unfold State.standbyHears
  split
  · exact (State.attached_followsUp _).trans (State.readyCheck_followsUp _)
  · exact State.readyCheck_followsUp _

section
variable {s u : State} {lane : LaneRef} {f : Frame} {p : Partner} (h : s.twinReceive lane 1 16 f = (true, u)) (hpartner : s.twin.partner = some p)
include h hpartner

/-- A HEARTBEAT at a standby whose partner is active. -/
theorem exec_heartbeat_standby (hrole : s.twin.role = .standby) (hshown : field f.payload 1 1 = 1) :
    exec (.heartbeat lane f) s = .next (((u.claimHeard f f.claim.toNat (field f.payload 1 1)).modTwin (·.shows f)).standbyHears f) := by
  have htook := (State.twinReceive_took h).1
  obtain ⟨c, k, hheard, -⟩ := State.claimHeard_standby (s := u) (by rw [htook.twin, hrole]) f f.claim.toNat (field f.payload 1 1)
  have hpresent : (u.claimHeard f f.claim.toNat (field f.payload 1 1)).twin.partner.isNone = false := by
    rw [hheard]
    show u.twin.partner.isNone = false
    rw [htook.twin, hpartner]
    rfl
  have hstill : ((u.claimHeard f f.claim.toNat (field f.payload 1 1)).modTwin (·.shows f)).twin.role = .standby := by
    rw [hheard]
    show u.twin.role = .standby
    rw [htook.twin, hrole]
  show execHeartbeat lane f s = _
  unfold execHeartbeat
  rw [h]
  dsimp only
  rw [if_neg (by decide), if_neg (by omega), ← State.claimHeard, hpresent, if_neg Bool.false_ne_true]
  exact congrArg _ (if_pos hstill)

/-- At a standby: what it shows of the partner, a failure that it tells of, and whether the journal agrees (R333, R335, R338, R339). -/
theorem heartbeat_standby (hrole : s.twin.role = .standby) (hshown : field f.payload 1 1 = 1) : ∃ c k d r t, exec (.heartbeat lane f) s = .next t ∧
    t.twin.lasting = Twin.lasting { ({ s.twin with claim := c, claimKnown := k } : Twin).shows f with
      declared := d, declaredReady := r, inSync := field f.payload 4 4 == s.twin.journalSeq && !s.twin.crcBad } ∧
    (s.ownPosition f = true → c = max f.claim.toNat s.twin.claim) ∧
    ((field f.payload 2 2).testBit 0 = true → s.twin.declared = none → d = some (field f.payload 8 1, s.nextBoundary)) := by
  have hexec := exec_heartbeat_standby h hpartner hrole hshown
  obtain ⟨x, y, rfl, -⟩ := (State.twinReceive_took h).1
  obtain ⟨c, k, hheard, hclaim⟩ := State.claimHeard_standby (s := { s with lanes := { s.lanes with twinRx := x, claims := y } }) hrole f f.claim.toNat
    (field f.payload 1 1)
  rw [hheard] at hexec
  have hlater := State.standbyHears_followsUp ((({ s with lanes := { s.lanes with twinRx := x, claims := y } } : State).modTwin fun t =>
    { t with claim := c, claimKnown := k }).modTwin (·.shows f)) f
  obtain ⟨d, r, hjudged, hcause⟩ := State.standbyJudges_eq ((({ s with lanes := { s.lanes with twinRx := x, claims := y } } : State).modTwin fun t =>
    { t with claim := c, claimKnown := k }).modTwin (·.shows f)) f
  exact ⟨c, k, d, r, _, hexec, hlater.twin.trans (by rw [hjudged]; rfl), fun hown => hclaim hown hshown, hcause⟩

/-- At an active whose standby does not diverge (R333, R338). -/
theorem heartbeat_active (hrole : s.twin.role = .active) (hshown : field f.payload 1 1 = 2) (hclaim : f.claim.toNat ≤ s.twin.claim)
    (hsame : (field f.payload 2 2).testBit 3 = false) : ∃ k t, exec (.heartbeat lane f) s = .next t ∧
      t.twin = { ({ s.twin with claimKnown := k } : Twin).shows f with diverged := (field f.payload 2 2).testBit 3 } := by
  have htook := (State.twinReceive_took h).1
  obtain ⟨k, hheard⟩ := State.claimHeard_active (s := u) (by rw [htook.twin, hrole]) f (claim := f.claim.toNat) (role := field f.payload 1 1)
    (by rwa [htook.twin]) (by omega)
  have hpresent : (u.claimHeard f f.claim.toNat (field f.payload 1 1)).twin.partner.isNone = false := by
    rw [hheard]
    show u.twin.partner.isNone = false
    rw [htook.twin, hpartner]
    rfl
  have hstill : ((u.claimHeard f f.claim.toNat (field f.payload 1 1)).modTwin (·.shows f)).twin.role ≠ .standby := by
    rw [hheard]
    show u.twin.role ≠ .standby
    rw [htook.twin, hrole]
    decide
  have hexec : exec (.heartbeat lane f) s = .next (((u.claimHeard f f.claim.toNat (field f.payload 1 1)).modTwin (·.shows f)).modTwin fun t =>
      { t with diverged := (field f.payload 2 2).testBit 3 }) := by
    show execHeartbeat lane f s = _
    unfold execHeartbeat
    rw [h]
    dsimp only
    rw [if_neg (by decide), if_neg (by omega), ← State.claimHeard, hpresent, if_neg Bool.false_ne_true]
    refine congrArg _ ((if_neg hstill).trans ((if_neg (by omega)).trans (if_neg fun hdiverged => ?_)))
    exact absurd (hdiverged.1.symm.trans hsame) (by decide)
  rw [hheard] at hexec
  refine ⟨k, _, hexec, ?_⟩
  rw [← htook.twin]
  rfl

end

/-! ### State copies (R340 to R343) -/

/-- The copy that is held, its size, the configuration and the fabric stay. -/
structure State.KeepsCopy (s t : State) : Prop where
  copy : t.twin.copy = s.twin.copy
  bytes : t.twin.lastCopyBytes = s.twin.lastCopyBytes
  cfg : t.cfg = s.cfg
  fabric : t.fabric = s.fabric

namespace State.KeepsCopy
variable {s t u : State}

theorem refl (s : State) : s.KeepsCopy s := ⟨rfl, rfl, rfl, rfl⟩

theorem trans (h : s.KeepsCopy t) (g : t.KeepsCopy u) : s.KeepsCopy u :=
  ⟨g.copy.trans h.copy, g.bytes.trans h.bytes, g.cfg.trans h.cfg, g.fabric.trans h.fabric⟩

/-- A change of nothing that is said here may come first. -/
theorem after (h : t.KeepsCopy u) (hcopy : t.twin.copy = s.twin.copy) (hbytes : t.twin.lastCopyBytes = s.twin.lastCopyBytes) (hcfg : t.cfg = s.cfg)
    (hfabric : t.fabric = s.fabric) : s.KeepsCopy u := trans ⟨hcopy, hbytes, hcfg, hfabric⟩ h

end State.KeepsCopy

theorem State.FollowsUp.keepsCopy {s t : State} (h : s.FollowsUp t) : s.KeepsCopy t :=
  ⟨(h.field Twin.copy fun _ => rfl), (h.field Twin.lastCopyBytes fun _ => rfl), h.cfg, h.fabric⟩

theorem State.twinOffset_keepsCopy (s : State) (c : StateCopy) (rx : Nat) : s.KeepsCopy (s.twinOffset c rx) := by
  unfold State.twinOffset
  dsimp only
  split
  · exact .after (State.FollowsUp.raise ..).keepsCopy rfl rfl rfl rfl
  · exact ⟨rfl, rfl, rfl, rfl⟩

theorem State.compareCopy_keepsCopy (s : State) (c : StateCopy) : s.KeepsCopy (s.compareCopy c) := by
  unfold State.compareCopy
  extract_lets tick own digestBad journalBad s1 s2 s3
  have hnoted : s.KeepsCopy s1 := by
    unfold s1
    split <;> exact ⟨rfl, rfl, rfl, rfl⟩
  clear_value s1
  have hdiverged : s.KeepsCopy s3 :=
    hnoted.trans (.after ((State.FollowsUp.raise s2 ..).trans (State.sendTwin_followsUp ..)).keepsCopy rfl rfl rfl rfl)
  clear_value s3
  split
  · split
    · exact hdiverged.trans (.after (State.sendAttach_followsUp _).keepsCopy rfl rfl rfl rfl)
    · exact hdiverged
  · split
    · exact hnoted.trans ⟨rfl, rfl, rfl, rfl⟩
    · exact hnoted

/-- A copy that is whole and on time is held. -/
def State.holdsCopy (s : State) (c : StateCopy) (fs : List Frame) : State :=
  s.modTwin fun t => { t with copy := some c, lastCopyBytes := (fs.map (·.payload.length)).sum, gainWords := mergeGains t.gainWords c.gains }

/-- What a copy that is held tells: scopes that have ended, the offset of the twins, and whether they diverge; references and readiness follow. -/
def State.copyTells (s : State) (c : StateCopy) (rx : Nat) : State :=
  let t := (s.dropEnded c).twinOffset c rx
  (if t.twin.mode = .hot then t.compareCopy c else t).refCheck.readyCheck

theorem State.copyTells_keepsCopy (s : State) (c : StateCopy) (rx : Nat) : s.KeepsCopy (s.copyTells c rx) := by
  have hoffset : s.KeepsCopy ((s.dropEnded c).twinOffset c rx) := .after (State.twinOffset_keepsCopy ..) rfl rfl rfl rfl
  unfold State.copyTells
  dsimp only
  refine State.KeepsCopy.trans ?_ ((State.refCheck_followsUp _).trans (State.readyCheck_followsUp _)).keepsCopy
  split
  · exact hoffset.trans (State.compareCopy_keepsCopy ..)
  · exact hoffset

section
variable {s : State} {frames : List (LaneRef × Frame)} {c : StateCopy} {p : Partner}
  (hgot : (s.twinFrames 2 (fun n => decide (n ≤ 8192)) frames).1 ≠ []) (hrole : s.twin.role = .standby) (hpartner : s.twin.partner = some p) (rx : Nat)
include hgot hrole hpartner

/-- A copy at a standby that is attached: its claim is the active's, and it is held or counted late. -/
theorem exec_stateCopy : ∃ x y, let got := s.twinFrames 2 (fun n => decide (n ≤ 8192)) frames
    let v := got.2.modTwin fun t => { t with claim := x, claimKnown := y }
    exec (.stateCopy frames c rx) s = .next (if !wholeCopy c.tick got.1 || decide (c.tick + 1 ≤ s.data.boundary.getD 0) then v.copyLate c.tick
      else (v.holdsCopy c got.1).copyTells c rx) := by
  have hreceived := (State.twinFrames_received 2 (fun n => decide (n ≤ 8192)) frames s).1
  obtain ⟨l, htwin⟩ := hreceived.twin
  have hboundary := hreceived.boundary
  generalize hgotten : s.twinFrames 2 (fun n => decide (n ≤ 8192)) frames = got at *
  obtain ⟨f, hf⟩ := Option.ne_none_iff_exists'.1 fun hnone => hgot (List.getLast?_eq_none_iff.1 hnone)
  obtain ⟨x, y, hheard, -⟩ := State.claimHeard_standby (s := got.2) (by rw [htwin]; exact hrole) f (max f.claim.toNat c.claim) 1
  refine ⟨x, y, ?_⟩
  show execStateCopy frames c rx s = _
  unfold execStateCopy
  rw [hgotten]
  dsimp only
  rw [hf]
  dsimp only
  rw [← State.claimHeard, hheard, ← hboundary]
  refine congrArg _ (if_neg ?_)
  show ¬(got.2.twin.role ≠ .standby ∨ got.2.twin.partner.isNone = true)
  rw [htwin]
  simp [hrole, hpartner]

/-- A copy that is whole and on time is held (R342). -/
theorem stateCopy_held (hwhole : wholeCopy c.tick (s.twinFrames 2 (fun n => decide (n ≤ 8192)) frames).1 = true) (htime : s.data.boundary.getD 0 ≤ c.tick) :
    Gives (.stateCopy frames c rx) s fun t => t.twin.copy = some c ∧
      t.twin.lastCopyBytes = ((s.twinFrames 2 (fun n => decide (n ≤ 8192)) frames).1.map (·.payload.length)).sum ∧ t.fabric.mem = s.fabric.mem ∧ t.cfg = s.cfg := by
  obtain ⟨x, y, hexec⟩ := exec_stateCopy (c := c) hgot hrole hpartner rx
  have hreceived := (State.twinFrames_received 2 (fun n => decide (n ≤ 8192)) frames s).1
  generalize s.twinFrames 2 (fun n => decide (n ≤ 8192)) frames = got at *
  have htold := State.copyTells_keepsCopy ((got.2.modTwin fun t => { t with claim := x, claimKnown := y }).holdsCopy c got.1) c rx
  dsimp only at hexec
  rw [hwhole, if_neg (by simp; omega)] at hexec
  exact ⟨_, hexec, htold.copy, htold.bytes, congrArg Fabric.mem (htold.fabric.trans hreceived.fabric), htold.cfg.trans hreceived.cfg⟩

/-- A copy that is late or not whole is discarded, and its tick counts once (R342). -/
theorem stateCopy_late (hlate : wholeCopy c.tick (s.twinFrames 2 (fun n => decide (n ≤ 8192)) frames).1 = false ∨ c.tick < s.data.boundary.getD 0) :
    Gives (.stateCopy frames c rx) s fun t => t.twin.copy = s.twin.copy ∧
      t.twin.copiesLate = (if s.twin.lateTick = some c.tick then s.twin.copiesLate else rcAdd 32 s.twin.copiesLate 1) := by
  obtain ⟨x, y, hexec⟩ := exec_stateCopy (c := c) hgot hrole hpartner rx
  have hreceived := (State.twinFrames_received 2 (fun n => decide (n ≤ 8192)) frames s).1
  generalize s.twinFrames 2 (fun n => decide (n ≤ 8192)) frames = got at *
  obtain ⟨l, htwin⟩ := hreceived.twin
  dsimp only at hexec
  rw [if_pos (by simp; omega)] at hexec
  refine ⟨_, hexec, ?_⟩
  unfold State.copyLate State.modTwin
  dsimp only
  rw [htwin]
  split
  · exact ⟨rfl, rfl⟩
  · exact ⟨rfl, rfl⟩

end

/-! ### Heartbeat windows (R332, R334, R335) -/

theorem Twin.lasting_waiting (t : Twin) (h : t.waiting = []) : ({ t with waiting := [] } : Twin) = t := by rw [← h]

/-- Lanes that are free stay so when the lines are idle. -/
theorem State.linesIdle_freeLanes {s : State} (h : s.freeLanes ≠ []) : s.linesIdle.freeLanes ≠ [] := by
  have htx (k : Nat) : s.linesIdle.twinTx k = (s.twinTx k).drained := by
    show (s.lanes.twinTx.map TxLane.drained).getD k (TxLane.drained {}) = _
    rw [List.getD_map]
    rfl
  have hlocked : s.linesIdle.lockedLanes = s.lockedLanes := List.filter_congr fun k _ => by
    unfold State.twinCarries
    rw [htx]
    rfl
  obtain ⟨k, hk⟩ := List.exists_mem_of_ne_nil _ h
  refine List.ne_nil_of_mem (a := k) (List.mem_filter.2 ⟨?_, by rw [htx]; rfl⟩)
  rw [hlocked]
  exact (List.mem_filter.1 hk).1

/-- With no frame that waits, data-path time that moves on leaves the twin's state and keeps a free lane. -/
theorem State.advanceTo_free {s : State} (hwaiting : s.twin.waiting = []) (hfree : s.freeLanes ≠ []) (ns : Nat) :
    (s.advanceTo ns).twin = s.twin ∧ (s.advanceTo ns).freeLanes ≠ [] := by
  unfold State.advanceTo
  split
  · have hdrained : (s.setTimeNs ns).drainLines = (s.setTimeNs ns).linesIdle := by
      have hnone : (s.setTimeNs ns).twin.waiting = [] := hwaiting
      rw [State.drainLines_eq, hnone]
      exact congrArg State.linesIdle (congrArg (fun t => { s.setTimeNs ns with twin := t }) (Twin.lasting_waiting _ hnone))
    rw [hdrained]
    exact ⟨rfl, State.linesIdle_freeLanes hfree⟩
  · exact ⟨rfl, hfree⟩

theorem State.mem_freeLanes_carries {s : State} {k : Nat} (h : k ∈ s.freeLanes) : k < 4 ∧ s.twinCarries k = true := by
  have hrotated := (List.mem_filter.1 h).1
  have hlocked : k ∈ s.lockedLanes := (List.mem_append.1 hrotated).elim List.mem_of_mem_drop List.mem_of_mem_take
  obtain ⟨hrange, hcarries⟩ := List.mem_filter.1 hlocked
  exact ⟨List.mem_range.1 hrange, hcarries⟩

/-- A link with a free lane has a LOCKED one. -/
theorem State.linkLanes_ne_zero {s : State} (h : s.freeLanes ≠ []) : s.linkLanes ≠ 0 := by
  obtain ⟨k, hk⟩ := List.exists_mem_of_ne_nil _ h
  obtain ⟨hlt, hcarries⟩ := State.mem_freeLanes_carries hk
  have hlock : (s.receiver (.twin k)).lock = .locked := by
    unfold State.twinCarries at hcarries
    simp only [Bool.and_eq_true, beq_iff_eq] at hcarries
    exact hcarries.1.1.1.1.1
  intro hzero
  have hbit := s.linkLanes_testBit hlt
  rw [hzero, hlock] at hbit
  simp at hbit

theorem State.modTwin_modTwin (s : State) (f g : Twin → Twin) : (s.modTwin f).modTwin g = s.modTwin fun t => g (f t) := rfl

/-- A window begins: nothing is seen in it yet. -/
def Twin.newWindow (t : Twin) (missed : Nat) (windows : List HbWindow) : Twin := { t with seen := {}, hbMissed := missed, windows := windows }

section
variable (t : Twin) (missed : Nat) (windows : List HbWindow)

@[simp] theorem Twin.newWindow_seen : (t.newWindow missed windows).seen = {} := rfl
@[simp] theorem Twin.newWindow_hbMissed : (t.newWindow missed windows).hbMissed = missed := rfl
@[simp] theorem Twin.newWindow_windows : (t.newWindow missed windows).windows = windows := rfl
@[simp] theorem Twin.newWindow_role : (t.newWindow missed windows).role = t.role := rfl
@[simp] theorem Twin.newWindow_declared : (t.newWindow missed windows).declared = t.declared := rfl
@[simp] theorem Twin.newWindow_detached : (t.newWindow missed windows).detached = t.detached := rfl
@[simp] theorem Twin.newWindow_rotation : (t.newWindow missed windows).rotation = t.rotation := rfl
@[simp] theorem Twin.newWindow_waiting : (t.newWindow missed windows).waiting = t.waiting := rfl
@[simp] theorem Twin.newWindow_incompatible : (t.newWindow missed windows).incompatible = t.incompatible := rfl

end

/-- A window ends, and with it what it has shown (R332, R335). -/
def State.windowEnds (s : State) : State :=
  s.modTwin fun x => x.newWindow (rcAdd 32 x.hbMissed (nat01 (!x.seen.any))) ((s.twin.seen :: x.windows).take 32)

theorem State.modTwin_freeLanes (s : State) {f : Twin → Twin} (hf : ∀ t, (f t).rotation = t.rotation) : (s.modTwin f).freeLanes = s.freeLanes := by
  have hrotation : (s.modTwin f).twin.rotation = s.twin.rotation := hf _
  unfold State.freeLanes
  rw [hrotation]
  rfl

theorem State.windowEnds_gives (s : State) : s.windowEnds.freeLanes = s.freeLanes ∧ s.windowEnds.linkLanes = s.linkLanes ∧
    s.windowEnds.twin = s.twin.newWindow (rcAdd 32 s.twin.hbMissed (nat01 (!s.twin.seen.any))) ((s.twin.seen :: s.twin.windows).take 32) := by
  unfold State.windowEnds
  exact ⟨s.modTwin_freeLanes fun _ => Twin.newWindow_rotation .., rfl, rfl⟩

theorem exec_heartbeatWindow {s : State} {t : TickCfg} {p : Partner} (htick : s.cfg.tick = some t) (hmode : s.twin.mode ≠ .untwinned)
    (hheld : s.twin.detached = false) (hpartner : s.twin.partner = some p) (n w : Nat) : exec (.heartbeatWindow n w) s = .next (
      let v := (s.advanceTo (t.windowNs n w)).windowEnds.judgeWindows t n
      (v.sendHeartbeat (w % 8) v.shownRole).readyCheck) := by
  have hmoves := s.advanceTo_followsUp (t.windowNs n w)
  have hmode' := hmoves.field Twin.mode fun _ => rfl
  have hheld' := hmoves.field Twin.detached fun _ => rfl
  have hpartner' := hmoves.field Twin.partner fun _ => rfl
  show execHeartbeatWindow n w s = _
  unfold execHeartbeatWindow
  rw [htick]
  dsimp only
  generalize s.advanceTo (t.windowNs n w) = v at *
  rw [if_neg (by simp [hmode', hheld', hmode, hheld]), hpartner', hpartner, if_neg (c := (some p).isNone = true) (by simp), State.modTwin_modTwin]
  rfl

section
variable {s : State} {t : TickCfg} {n : Nat} (hlink : s.linkLanes ≠ 0)
include hlink

/-- A partner that was seen as active in the window before is judged no further (R335). -/
theorem State.judgeWindows_seen {a : HbWindow} {l : List HbWindow} (hwindows : s.twin.windows = a :: l) (hany : a.any = true) (hactive : a.active = true) :
    s.judgeWindows t n = s := by
  unfold State.judgeWindows
  simp [hlink, hwindows, hany, hactive]

/-- Three windows without a heartbeat: a standby declares its active failed (R335, log 33). -/
theorem State.judgeWindows_missed (hrole : s.twin.role = .standby) {l : List HbWindow} (hwindows : s.twin.windows = {} :: {} :: {} :: l) :
    s.judgeWindows t n = s.declare 0 (n + 1) := by
  unfold State.judgeWindows
  simp [hlink, hwindows, hrole]

end

/-- A HEARTBEAT leaves at once where a lane is free (R331, R333). -/
theorem State.sendHeartbeat_leaves {s : State} (hfree : s.freeLanes ≠ []) (hwaiting : s.twin.waiting = []) (hused : s.twin.incompatible = false)
    (window role : Nat) : ∃ k g, .twin k g ∈ (s.sendHeartbeat window role).out ∧ g.layout = 1 ∧ field g.payload 0 1 = window % 256 ∧
      field g.payload 1 1 = role % 256 := by
  obtain ⟨k, g, hg, hlayout, hpayload⟩ := State.sendTwin_leaves hfree hwaiting hused 1 0 (leBytes 1 window ++ leBytes 1 role ++ leBytes 2 s.hbFlags
    ++ leBytes 4 s.twin.journalSeq ++ leBytes 1 (s.twin.fault.getD 0) ++ leBytes 7 0)
  refine ⟨k, g, hg, hlayout, ?_, ?_⟩
  · rw [hpayload]
    simp only [List.append_assoc]
    exact field_leBytes_append ..
  · rw [hpayload]
    simp only [List.append_assoc]
    rw [field_append_right _ _ _ _ (by rw [leBytes_length]), leBytes_length]
    exact field_leBytes_append ..

section
variable {s : State} {p : Partner} (htick : s.cfg.tick.isSome = true) (hmode : s.twin.mode ≠ .untwinned) (hheld : s.twin.detached = false)
  (hpartner : s.twin.partner = some p) (n w : Nat)
include htick hmode hheld hpartner

/-- A window in which the partner was seen as active: the next begins with a HEARTBEAT of this package's own (R332). -/
theorem heartbeatWindow_seen (hany : s.twin.seen.any = true) (hactive : s.twin.seen.active = true) (hfree : s.freeLanes ≠ []) (hwaiting : s.twin.waiting = [])
    (hused : s.twin.incompatible = false) : Gives (.heartbeatWindow n w) s fun t =>
      t.twin.windows = (s.twin.seen :: s.twin.windows).take 32 ∧ t.twin.seen = {} ∧ t.twin.role = s.twin.role ∧ t.twin.declared = s.twin.declared ∧
      ∃ k g, .twin k g ∈ t.out ∧ g.layout = 1 ∧ field g.payload 0 1 = w % 8 ∧ field g.payload 1 1 = s.twin.role.code := by
  obtain ⟨t, ht⟩ := Option.isSome_iff_exists.1 htick
  have hexec := exec_heartbeatWindow ht hmode hheld hpartner n w
  obtain ⟨htwin, hstays⟩ := State.advanceTo_free hwaiting hfree (t.windowNs n w)
  generalize s.advanceTo (t.windowNs n w) = v at *
  obtain ⟨hends, -, hended⟩ := v.windowEnds_gives
  rw [htwin] at hended
  rw [← hends] at hstays
  generalize v.windowEnds = z at *
  rw [State.judgeWindows_seen (a := s.twin.seen) (l := s.twin.windows.take 31) (State.linkLanes_ne_zero hstays) (by simp [hended]) hany hactive] at hexec
  dsimp only at hexec
  have hrole : z.shownRole = s.twin.role.code := by simp [State.shownRole, hended, hheld]
  have hcode : s.twin.role.code < 256 := by cases s.twin.role <;> decide
  obtain ⟨k, g, hg, hlayout, hwindow, hshown⟩ := State.sendHeartbeat_leaves hstays (by simp [hended, hwaiting]) (by simp [hended, hused]) (w % 8) z.shownRole
  have hafter := (z.sendHeartbeat (w % 8) z.shownRole).readyCheck_followsUp
  have hall := State.FollowsUp.trans (State.sendTwin_followsUp ..) hafter
  refine ⟨_, hexec, (hall.field Twin.windows fun _ => rfl).trans ?_, (hall.field Twin.seen fun _ => rfl).trans ?_, (hall.field Twin.role fun _ => rfl).trans ?_,
    (hall.field Twin.declared fun _ => rfl).trans ?_, k, g, hafter.mem_out hg, hlayout, by rw [hwindow]; omega, by rw [hshown, hrole, Nat.mod_eq_of_lt hcode]⟩
  · rw [hended, Twin.newWindow_windows]
  · rw [hended, Twin.newWindow_seen]
  · rw [hended, Twin.newWindow_role]
  · rw [hended, Twin.newWindow_declared]

/-- The third window in a row without a heartbeat: the standby declares, and the window counts in HB_MISSED (R335, log 33). -/
theorem heartbeatWindow_missed {l : List HbWindow} (hwindows : s.twin.windows = {} :: {} :: l) (hrole : s.twin.role = .standby) (hlink : s.linkLanes ≠ 0)
    (hdeclared : s.twin.declared = none) (hseen : s.twin.seen = {}) : Gives (.heartbeatWindow n w) s fun t =>
      t.twin.declared = some (0, n + 1) ∧ t.twin.hbMissed = rcAdd 32 s.twin.hbMissed 1 := by
  obtain ⟨t, ht⟩ := Option.isSome_iff_exists.1 htick
  have hexec := exec_heartbeatWindow ht hmode hheld hpartner n w
  have hmoves := s.advanceTo_followsUp (t.windowNs n w)
  generalize s.advanceTo (t.windowNs n w) = v at *
  obtain ⟨-, hlanes, hended⟩ := v.windowEnds_gives
  rw [hmoves.field Twin.seen fun _ => rfl, hseen, hmoves.field Twin.windows fun _ => rfl, hwindows, hmoves.field Twin.hbMissed fun _ => rfl] at hended
  rw [hmoves.tells.linkLanes] at hlanes
  generalize v.windowEnds = z at *
  have hnone : z.twin.declared = none := by rw [hended, Twin.newWindow_declared, hmoves.field Twin.declared fun _ => rfl, hdeclared]
  have hstandby : z.twin.role = .standby := by rw [hended, Twin.newWindow_role, hmoves.field Twin.role fun _ => rfl, hrole]
  have hmissed : z.twin.hbMissed = rcAdd 32 s.twin.hbMissed 1 := by
    rw [hended, Twin.newWindow_hbMissed]
    rfl
  rw [State.judgeWindows_missed (by rwa [hlanes]) hstandby (l := l.take 29) (by simp [hended])] at hexec
  dsimp only at hexec
  obtain ⟨hcause, hcounted⟩ := State.declare_gives hnone 0 (n + 1)
  generalize z.declare 0 (n + 1) = y at *
  have hall := State.FollowsUp.trans (State.sendTwin_followsUp ..) (State.readyCheck_followsUp (y.sendHeartbeat (w % 8) y.shownRole))
  exact ⟨_, hexec, (hall.field Twin.declared fun _ => rfl).trans hcause, (hall.field Twin.hbMissed fun _ => rfl).trans (hcounted.trans hmissed)⟩

end

/-- Settles O44: what follows a heartbeat, a copy or a window sends, reports and chooses references, so what it shows of the partner stands. -/
theorem twinHeartbeatsAndCopies : Obligations.TwinHeartbeatsAndCopies := by
  intro s p hpartner
  refine ⟨?heartbeat, ?copy, ?window, ⟨_, rfl, rfl, rfl, ?silent⟩⟩
  case heartbeat =>
    intro lane f htaken flags shown
    have h := State.twinReceive_of_ok htaken
    refine ⟨fun hrole hactive hown hcrc => ?_, fun hrole hactive hcrc => ?_, fun hrole hstandby hclaim hsame => ?_⟩
    · obtain ⟨c, k, d, r, t, hexec, htwin, hclaim, hcause⟩ := heartbeat_standby h hpartner hrole hactive
      have hfield {α : Type} (g : Twin → α) (hg : ∀ z : Twin, g z.lasting = g z) := Twin.field_of_lasting htwin g hg
      refine ⟨t, hexec, (hfield Twin.partner fun _ => rfl).trans ?_, (hfield Twin.claim fun _ => rfl).trans (hclaim hown),
        (hfield Twin.inSync fun _ => rfl).trans ?_, (hfield (fun z => z.seen.active) fun _ => rfl).trans ?_,
        fun hfault hnone => (hfield Twin.declared fun _ => rfl).trans (hcause hfault hnone)⟩
      · simp [Twin.shows, hpartner, hactive, shown, flags]
      · simp [hcrc]
      · simp [Twin.shows, hactive]
    · obtain ⟨c, k, d, r, t, hexec, htwin, -, -⟩ := heartbeat_standby h hpartner hrole hactive
      exact ⟨t, hexec, (Twin.field_of_lasting htwin Twin.inSync fun _ => rfl).trans (by simp [hcrc])⟩
    · obtain ⟨k, t, hexec, htwin⟩ := heartbeat_active h hpartner hrole hstandby hclaim hsame
      rw [Gives]
      refine ⟨t, hexec, ?_⟩
      rw [htwin]
      refine ⟨?_, rfl, hrole, hsame, rfl⟩
      simp [Twin.shows, hpartner, hstandby, shown, flags]
  case copy =>
    intro frames c rx got hgot hrole
    exact ⟨stateCopy_held hgot hrole hpartner rx, stateCopy_late hgot hrole hpartner rx⟩
  case window =>
    intro n w htick hmode hheld
    refine ⟨heartbeatWindow_seen htick hmode hheld hpartner n w, fun a b l hwindows hrole hlink hdeclared hseen ha hb => ?_⟩
    rw [ha, hb] at hwindows
    exact heartbeatWindow_missed htick hmode hheld hpartner n w hwindows hrole hlink hdeclared hseen
  case silent => exact Bool.eq_false_iff.2 fun h => by simp [State.transmits, State.drivePins, State.modTwin, State.modPulses] at h

end Sys2Proof.Machine

/-! ## The step, and reads that change nothing (R364, R375, R393, R464) -/

namespace Sys2Proof.Machine

/-- Settles O1: a step on a queue that is not empty is, by its own definition, its front command on the queue's rest. -/
theorem stepRunsTheFrontCommand : Obligations.StepRunsTheFrontCommand := by
  intro s c rest h
  rw [step, h]

section
variable {s : State} {o : Origin}

theorem nop_completes (h : Served s o) : Completes (.nop o []) s o.mailbox .ok
    (leBytes 4 s.ident.fwVersion.toNat ++ leBytes 4 s.regs.alive.toNat) (s.taken o 0x0001 []) :=
  Completes.of_statusRead (op := 0x0001) (cmd := cmdNop) rfl h rfl rfl rfl (by simp [cmdNop]) rfl

/-- The two flags of a holder fit a byte. -/
theorem holderFlags_lt (a b : Bool) : nat01 a + 2 * nat01 b < 256 := by cases a <;> cases b <;> decide

theorem lockStatus_completes (h : Served s o) :
    let t := s.taken o 0x0013 []
    ∃ reply, reply.length = 16 ∧ field reply 4 4 = t.lease.leftMs % 2 ^ 32 ∧ field reply 8 4 = s.lease.staged.length % 2 ^ 32 ∧
      field reply 2 1 = nat01 s.lease.owner.isSome + 2 * nat01 (s.lease.owner.getD (false, 0)).1 ∧ field reply 0 2 = (s.lease.owner.getD (false, 0)).2 % 65536 ∧
      Completes (.lockStatus o []) s o.mailbox .ok reply t := by
  refine ⟨_, ?_, ?_, ?_, ?_, ?_, Completes.of_statusRead (op := 0x0013) (cmd := cmdLockStatus) rfl h rfl rfl rfl rfl rfl⟩
  · simp only [List.length_append, leBytes_length]
  all_goals simp [List.append_assoc, field_append_right, field_leBytes_append, Nat.mod_eq_of_lt (holderFlags_lt _ _)] <;> rfl

theorem fwStatus_completes (h : Served s o) :
    ∃ reply, reply.length = 20 ∧ field reply 0 1 = nat01 s.ident.fwBank ∧ field reply 11 1 = s.health.fw.lastResult % 256 ∧
      Completes (.fwStatus o []) s o.mailbox .ok reply (s.taken o 0x0807 []) := by
  refine ⟨_, ?_, ?_, ?_, Completes.of_statusRead (op := 0x0807) (cmd := cmdFwStatus) rfl h rfl rfl rfl rfl rfl⟩
  · simp only [List.length_append, leBytes_length]
  all_goals simp [List.append_assoc, field_append_right, field_leBytes_append, nat01_lt]

end

/-- Settles O10: NOP, LOCK_STATUS and FW_STATUS make no tests, so each completes with the reply of its table. -/
theorem plainReadsComplete : Obligations.PlainReadsComplete := fun _ _ h => ⟨nop_completes h, lockStatus_completes h, fwStatus_completes h⟩

end Sys2Proof.Machine

/-! ## Commands that are staged (R370, R371, R373, R374, R376, R379, R507) -/

namespace Sys2Proof.Machine

/-! ### What an accepted command's tests say -/

/-- No test of a command that is accepted fails (R507). -/
theorem tests_of_accepted {l : Checks} {s : State} {k : State → CmdOut} (h : (checked l s k).accepted = true) : ∀ c ∈ l, c.1 = false := by
  rw [← firstFail_none]
  unfold checked at h
  split at h
  next st _ _ => cases st <;> exact Bool.noConfusion h
  next hnone => exact hnone

/-- An S command that its tests do not refuse answers its DETAIL and is appended to the staging. -/
theorem State.stageChecked_accepted {s : State} {x : Staged} {detail : Nat} {early state late : Checks} {admits : Bool}
    (h : (s.stageChecked x detail early state late admits).accepted = true) :
    s.stageChecked x detail early state late admits = .done .ok detail [] (s.stage x) :=
  checked_accepted h

/-- No late test of an S command that is accepted fails. -/
theorem State.lateTests_of_stageChecked {s : State} {x : Staged} {detail : Nat} {early state late : Checks} {admits : Bool}
    (h : (s.stageChecked x detail early state late admits).accepted = true) : ∀ c ∈ late, c.1 = false := by
  unfold State.stageChecked at h
  exact fun c hc => tests_of_accepted h c (List.mem_append_left _ (List.mem_append_right _ hc))

/-- A pipe is created only where the table has a free entry (R370, R371). -/
theorem cmdPipeCreate_freeEntry {s : State} {o : Origin} {args : List Byte} (h : (cmdPipeCreate o args s).accepted = true) :
    ∃ i, s.candidate.freeEntry = some i := by
  unfold cmdPipeCreate at h
  have hlate := State.lateTests_of_stageChecked h
  have hfirst := List.forall_mem_singleton.1 (List.forall_mem_append.1 (List.forall_mem_append.1 hlate).1).1
  dsimp only at hfirst
  exact Option.isSome_iff_exists.1 (Option.isNone_eq_false_iff.1 (Bool.or_eq_false_iff.1 hfirst).1)

section
variable {s : State} {o : Origin} {op d : Nat} {args : List Byte} {len : List Byte → Option Nat} {cmd : Cmd} {i : Instr} {x : Staged}

/-- The position is staged while there is no pipe, before or after the staging, and room for one more command (R376, R379). -/
theorem cmdPositionSet_staged (hready : s.power.ready = true) (hposition : field args 1 1 < 4) (hzero : ZeroBytes args 2 4)
    (hpipes : (s.candidate.anyPipe || s.cfg.anyPipe) = false) (hcount : s.lease.staged.length < 256)
    (hbytes : (s.lease.staged.map (·.args.length)).sum + args.length ≤ 262144) :
    cmdPositionSet o args s = .done .ok 0 [] (s.stage { opcode := 0x0020, args := args }) := by
  have hroom : s.stagingFull args = false := by simp [State.stagingFull, hcount, hbytes]
  unfold cmdPositionSet State.stageChecked
  refine checked_pass ?_
  have hreserved : firstFail (reserved args 2 2) = none := reserved_pass hzero
  simp only [firstFail_append, firstFail_cons, reservedHigh_fst, refusedIf_fst, State.notReady, State.noRoom, hready, hpipes, hroom]
  simp [firstFail_nil, hreserved, Nat.div_eq_of_lt hposition]

/-! ### The holder's S command runs to its completion (R364, R374) -/

theorem State.row_staged (h : Holds s o) (hlen : args.length ≤ 1024) (hargs : len args = none) (hop : classOf op = some .s)
    (hj : journalled op args = false) (hc : cmd o args (s.taken o op args) = .done .ok d [] ((s.taken o op args).stage x)) :
    s.row o op args len cmd = ((s.taken o op args).stage x).complete o.mailbox .ok d [] := by
  refine State.row_done h.served hlen hargs (by rw [hop]; rfl) ?_ (fun _ => .inl h.holds) hc (.inl hj) ?_
  · rw [beq_eq_false_iff_ne.2 h.notStandby, Bool.false_and]
  · rintro rfl
    exact absurd hop (by decide)

theorem Completes.of_staged (he : exec i s = .next (s.row o op args len cmd)) (h : Holds s o) (hlen : args.length ≤ 1024) (hargs : len args = none)
    (hop : classOf op = some .s) (hj : journalled op args = false)
    (hc : cmd o args (s.taken o op args) = .done .ok d [] ((s.taken o op args).stage x)) :
    Completes i s o.mailbox .ok [] ((s.taken o op args).stage x) :=
  ⟨_, he.trans (congrArg _ (State.row_staged h hlen hargs hop hj hc)), State.row_answered h.served rfl, State.complete_same ..⟩

/-- The mailbox after a completion whose queue has room (R364). -/
theorem State.complete_box (s : State) {m : Nat} (st : Status) (d : Nat) (r : List Byte) (hm : m < s.mail.boxes.length)
    (hq : (s.mail.queues.getD (s.box m).cqSel.toNat {}).depth < 16) : (s.complete m st d r).box m = Mailbox.finish { s.box m with
      message := overwrite (s.box m).message 0 r, status := st.code, replyLen := r.length, detail := BitVec.ofNat 32 d } := by
  have hbox := s.modBox_box m (fun b => { b with
    message := overwrite b.message 0 r, status := st.code, replyLen := r.length, detail := BitVec.ofNat 32 d }) hm
  have hroom : ((s.modBox m fun b => { b with
    message := overwrite b.message 0 r, status := st.code, replyLen := r.length, detail := BitVec.ofNat 32 d }).mail.queues.getD
      (s.box m).cqSel.toNat {}).depth < 16 := hq
  unfold State.complete
  dsimp only
  rw [hbox]
  dsimp only
  rw [if_pos hroom, State.sendReply_box, State.pushCompletion, State.setCause_box, State.modBox_box _ _ _ (by simpa [State.modBox] using hm)]
  exact congrArg Mailbox.finish hbox

theorem Mailbox.finish_detail (b : Mailbox) : b.finish.detail = b.detail := by
  unfold Mailbox.finish
  dsimp only
  split <;> rfl

end

/-- PIPE_CREATE is staged with the handle of the entry it takes, which DETAIL gives (R370, R371, R373, log 95). -/
theorem pipeCreate_staged {s : State} {o : Origin} {args : List Byte} (h : Holds s o) (hargs : pipeLen args = none) (hlen : args.length ≤ 1024)
    (haccepted : (cmdPipeCreate o args (s.taken o 0x0100 args)).accepted = true) :
    let t := s.taken o 0x0100 args
    ∃ i u, t.candidate.freeEntry = some i ∧
      (let h := makeHandle (field args 0 1) (t.candidate.pipes.getD i {}).gen i
       exec (.pipeCreate o args) s = .next u ∧ Answered u o.mailbox .ok [] ∧ (u.box o.mailbox).detail = BitVec.ofNat 32 h ∧
         SameButMail (t.stage { opcode := 0x0100, args := args, handle := h }) u) := by
  intro t
  obtain ⟨i, hi⟩ := cmdPipeCreate_freeEntry haccepted
  have hindex : t.candidate.freeEntry.getD 0 = i := by rw [hi]; rfl
  have hc : cmdPipeCreate o args t = .done .ok _ [] (t.stage _) := State.stageChecked_accepted haccepted
  rw [hindex] at hc
  have hrow := State.row_staged h hlen hargs rfl rfl hc
  have hbox : t.box o.mailbox = Mailbox.load 0x0100 args (s.box o.mailbox) := s.taken_box o 0x0100 args h.served.mailbox
  refine ⟨i, (t.stage _).complete o.mailbox .ok _ [], hi, congrArg Host.Outcome.next hrow, State.row_answered h.served rfl, ?_, State.complete_same ..⟩
  rw [State.complete_box, Mailbox.finish_detail]
  · simpa [t, State.stage] using h.served.mailbox
  · show (t.mail.queues.getD (t.box o.mailbox).cqSel.toNat {}).depth < 16
    rw [hbox]
    simpa [t, Mailbox.load] using h.served.room

/-- Settles O14: an S command that is not refused is appended to the staging by `stageChecked`, and its holder's row completes with that. -/
theorem stagedCommandsAppend : Obligations.StagedCommandsAppend := by
  unfold Obligations.StagedCommandsAppend
  refine ⟨?_, fun _ _ _ h hargs hlen => pipeCreate_staged h hargs hlen⟩
  intro s o args h hready t x
  refine ⟨fun hlen hposition hzero hpipes hcount hbytes => ?position, fun hlen ha => ?tick, fun hargs hlen ha => ?modify, fun hlen ha => ?destroy,
    fun hargs hlen ha => ?inputs, fun hargs hlen ha => ?dests, fun hargs hlen ha => ?beamInputs, fun hargs hlen ha => ?contribs, fun hargs hlen ha => ?sinks,
    fun hlen ha => ?lane, fun hlen ha => ?peer⟩
  case position =>
    refine Completes.of_staged rfl h (by omega) (fixedLen_none 4 args hlen) rfl rfl (cmdPositionSet_staged ?_ hposition hzero hpipes ?_ ?_)
    · rwa [State.taken_power]
    · rwa [State.taken_staged]
    · rwa [State.taken_staged]
  case tick => exact Completes.of_staged rfl h (by omega) (fixedLen_none 36 args hlen) rfl rfl (State.stageChecked_accepted ha)
  case modify => exact Completes.of_staged rfl h hlen hargs rfl rfl (State.stageChecked_accepted ha)
  case destroy => exact Completes.of_staged rfl h (by omega) (fixedLen_none 16 args hlen) rfl rfl (State.stageChecked_accepted ha)
  case inputs => exact Completes.of_staged rfl h hlen hargs rfl rfl (State.stageChecked_accepted ha)
  case dests => exact Completes.of_staged rfl h hlen hargs rfl rfl (State.stageChecked_accepted ha)
  case beamInputs => exact Completes.of_staged rfl h hlen hargs rfl rfl (State.stageChecked_accepted ha)
  case contribs => exact Completes.of_staged rfl h hlen hargs rfl rfl (State.stageChecked_accepted ha)
  case sinks => exact Completes.of_staged rfl h hlen hargs rfl rfl (State.stageChecked_accepted ha)
  case lane => exact Completes.of_staged rfl h (by omega) (fixedLen_none 8 args hlen) rfl rfl (State.stageChecked_accepted ha)
  case peer => exact Completes.of_staged rfl h (by omega) (fixedLen_none 8 args hlen) rfl rfl (State.stageChecked_accepted ha)

end Sys2Proof.Machine

/-! ## The lease and the management network (R363, R369, R375, R376) -/

namespace Sys2Proof.Machine

/-- What is put before a command's effect changes the configuration in the states of its pipes at most (R372). -/
theorem State.taken_cfg (s : State) (o : Origin) (op : Nat) (args : List Byte) : ∃ l, (s.taken o op args).cfg = { s.cfg with pipes := l } := by
  have hpipes (u : State) : ∃ l, u.refreshPipes.cfg = { u.cfg with pipes := l } := by
    unfold State.refreshPipes
    split
    · exact ⟨_, rfl⟩
    · split <;> exact ⟨_, rfl⟩
  have hrenew (u : State) : (u.renew o op).cfg = u.cfg := by
    unfold State.renew
    split <;> rfl
  obtain ⟨l, hl⟩ := hpipes (s.modBox o.mailbox (Mailbox.load op args))
  exact ⟨l, (hrenew _).trans hl⟩

/-! ### CONFIG_LOCK and CONFIG_ABORT (R375, R376) -/

/-- The duration of a lease: LEASE_MS, or 5 s when it is 0 (R375). -/
theorem zeroOrRange_pass {args : List Byte} {off n d lo hi : Nat} (hlo : lo ≤ orDefault (field args off n) d) (hhi : orDefault (field args off n) d ≤ hi) :
    (zeroOrRange args off n lo hi).1 = false := by
  unfold orDefault at hlo hhi
  split at hlo
  next hzero => simp [zeroOrRange, bad, hzero]
  next hset =>
    rw [if_neg hset] at hhi
    simp [zeroOrRange, bad, hlo, hhi]

/-- The holder passes the tests of the lock. -/
theorem State.lockChecks_pass {s : State} {o : Origin} (h : s.holds o = true) : firstFail (s.lockChecks o) = none := by
  have howner : s.lease.owner.isNone = false := by
    unfold State.holds at h
    cases hnone : s.lease.owner
    · simp [hnone] at h
    · rfl
  simp [State.lockChecks, firstFail_cons, firstFail_nil, howner, h]

/-- Aborting changes the configuration only in the generations of pipes that were staged (R376). -/
theorem State.abortStaging_eq (s : State) :
    ∃ l, s.abortStaging = { s with lease := { s.lease with staged := [] }, cfg := { s.cfg with pipes := l } } := by
  have hfold (made : List Staged) (c : PackageCfg) :
      ∃ l, made.foldl (fun c x => c.modEntry x.handle fun e => { e with gen := nextGen e.gen }) c = { c with pipes := l } := by
    induction made generalizing c with
    | nil => exact ⟨_, rfl⟩
    | cons x made ih =>
      obtain ⟨l, hl⟩ := ih (c.modEntry x.handle fun e => { e with gen := nextGen e.gen })
      exact ⟨l, hl⟩
  obtain ⟨l, hl⟩ := hfold (s.lease.staged.filter (·.opcode == 0x0100)) s.cfg
  exact ⟨l, congrArg (fun c : PackageCfg => { s with lease := { s.lease with staged := [] }, cfg := c }) hl⟩

section
variable {s : State} {o : Origin} {args : List Byte}

/-- The commands of the lock need no lease, and on a package that is not standby they run. -/
theorem Completes.of_lock {i : Instr} {u : State} {op n d : Nat} {cmd : Cmd} (he : exec i s = .next (s.row o op args (fixedLen n) cmd)) (h : Served s o)
    (hstandby : s.twin.role ≠ .standby) (hlen : args.length = n) (hn : n ≤ 1024) (hop : classOf op = some .l) (hj : journalled op args = false)
    (hc : cmd o args (s.taken o op args) = .done .ok d [] u) (hm : u.mail = (s.taken o op args).mail) (h11 : op ≠ 0x0011) :
    Completes i s o.mailbox .ok [] u := by
  refine Completes.of_row he h (hlen ▸ hn) (fixedLen_none n args hlen) (by rw [hop]; rfl) ?_ ?_ hc hm (.inl hj) h11
  · rw [beq_eq_false_iff_ne.2 hstandby, Bool.false_and]
  · simp [hop]

theorem configLock_grants (h : Served s o) (hstandby : s.twin.role ≠ .standby) (hlen : args.length = 4) (haction : field args 0 1 = 1)
    (hzero : field args 1 1 = 0) (howner : s.lease.owner = none ∨ s.holds o = true) (hlo : 1000 ≤ orDefault (field args 2 2) 5000)
    (hhi : orDefault (field args 2 2) 5000 ≤ 60000) :
    ∃ address, Completes (.configLock o args) s o.mailbox .ok []
      { s.taken o 0x0010 args with lease := { (s.taken o 0x0010 args).lease with
          owner := some (o.ethernet, o.id), address := address, leftMs := orDefault (field args 2 2) 5000, fullMs := orDefault (field args 2 2) 5000 } } := by
  have hfree : (s.lease.owner.isSome && !s.holds o) = false := by rcases howner with hnone | hholds <;> simp [*]
  have hcmd : ∃ address, cmdConfigLock o args (s.taken o 0x0010 args) = okay { s.taken o 0x0010 args with lease := { (s.taken o 0x0010 args).lease with
      owner := some (o.ethernet, o.id), address := address, leftMs := orDefault (field args 2 2) 5000, fullMs := orDefault (field args 2 2) 5000 } } := by
    refine ⟨if o.ethernet then (((s.taken o 0x0010 args).mgmt.sessions.find? (·.number == o.id)).map (·.address)).getD 0 else 0, ?_⟩
    unfold cmdConfigLock
    dsimp only
    rw [if_pos haction, checked_pass, if_neg (by omega)]
    simp [firstFail_cons, firstFail_nil, inRange_fst, bad_fst, refusedIf_fst, zeroOrRange_pass hlo hhi, haction, hzero, hfree]
  obtain ⟨address, hcmd⟩ := hcmd
  exact ⟨address, Completes.of_lock (op := 0x0010) (cmd := cmdConfigLock) (d := 0) rfl h hstandby hlen (by decide) rfl rfl hcmd rfl (by decide)⟩

theorem configLock_releases (h : Served s o) (hstandby : s.twin.role ≠ .standby) (hlen : args.length = 4) (haction : field args 0 1 = 2)
    (hzero : field args 1 1 = 0) (hholds : s.holds o = true) (hlo : 1000 ≤ orDefault (field args 2 2) 5000)
    (hhi : orDefault (field args 2 2) 5000 ≤ 60000) (hstaged : s.lease.staged = []) :
    Completes (.configLock o args) s o.mailbox .ok [] (s.taken o 0x0010 args).freeLease := by
  refine Completes.of_lock (op := 0x0010) (cmd := cmdConfigLock) (d := 0) rfl h hstandby hlen (by decide) rfl rfl ?_ rfl (by decide)
  unfold cmdConfigLock
  dsimp only
  have hlock : firstFail ((s.taken o 0x0010 args).lockChecks o) = none := State.lockChecks_pass (by rwa [State.taken_holds])
  rw [if_neg (by omega), if_pos haction, checked_pass]
  · rw [if_pos haction]
    rfl
  · simp [firstFail_append, firstFail_cons, firstFail_nil, inRange_fst, bad_fst, refusedIf_fst, zeroOrRange_pass hlo hhi, haction, hzero, hlock, hstaged]

theorem configAbort_discards (h : Served s o) (hstandby : s.twin.role ≠ .standby) (hholds : s.holds o = true) :
    Completes (.configAbort o []) s o.mailbox .ok [] (s.taken o 0x0012 []).abortStaging := by
  refine Completes.of_lock (op := 0x0012) (cmd := cmdConfigAbort) (d := 0) rfl h hstandby rfl (by decide) rfl rfl ?_ rfl (by decide)
  exact checked_pass (State.lockChecks_pass (by rwa [State.taken_holds]))

end

/-! ### MGMT_NET (R369) -/

/-- What a completion needs of the mailboxes: the queues, and which one each mailbox has chosen. -/
def State.mailRoom (s : State) : List CompletionQueue × List (BitVec 2) := (s.mail.queues, s.mail.boxes.map (·.cqSel))

/-- A command whose result has the queues, and the choice of them, that it found completes in its mailbox. -/
theorem State.complete_answered_of_room {s u : State} {m : Nat} {st : Status} {d : Nat} {r : List Byte} (hroom : u.mailRoom = s.mailRoom)
    (hm : m < s.mail.boxes.length) (hq : (s.mail.queues.getD (s.box m).cqSel.toNat {}).depth < 16) : Answered (u.complete m st d r) m st r := by
  obtain ⟨hqueues, hsel⟩ := Prod.mk.injEq .. ▸ hroom
  have hlen : u.mail.boxes.length = s.mail.boxes.length := by simpa using congrArg List.length hsel
  have hget (t : State) : (t.mail.boxes.map (·.cqSel)).getD m ({} : Mailbox).cqSel = (t.box m).cqSel := List.getD_map ..
  have hbox : (u.box m).cqSel = (s.box m).cqSel := by rw [← hget, ← hget, hsel]
  exact State.complete_answered _ _ _ _ _ (hlen ▸ hm) (by rwa [hqueues, hbox])

theorem map_updateAll {α β : Type} (p : α → Bool) {f : α → α} {g : α → β} (hfg : ∀ a, g (f a) = g a) (l : List α) : (updateAll p f l).map g = l.map g := by
  unfold updateAll
  rw [List.map_map]
  refine List.map_congr_left fun a _ => ?_
  simp only [Function.comp_apply]
  split
  · exact hfg a
  · rfl

theorem Mailbox.endOwner_cqSel (b : Mailbox) : b.endOwner.cqSel = b.cqSel := by
  unfold Mailbox.endOwner
  split <;> rfl

@[simp] theorem State.breakLease_mail (s : State) (cause : Nat) : (s.breakLease cause).mail = s.mail := by
  unfold State.breakLease
  split
  · rfl
  · rw [State.raise_mail]
    rfl

@[simp] theorem State.breakLease_mgmt (s : State) (cause : Nat) : (s.breakLease cause).mgmt = s.mgmt := by
  unfold State.breakLease
  split
  · rfl
  · rw [State.raise_mgmt]
    rfl

/-- The end of a session leaves every mailbox its queue. -/
theorem State.endSession_mailRoom (s : State) (n : Nat) : (s.endSession n).mailRoom = s.mailRoom := by
  unfold State.endSession State.mailRoom
  dsimp only
  rw [State.modMgmt_mail]
  split <;> simp [map_updateAll _ Mailbox.endOwner_cqSel]

/-- The end of a session takes it from the port, and nothing else of the port. -/
theorem State.endSession_mgmt (s : State) (n : Nat) :
    (s.endSession n).mgmt = { s.mgmt with sessions := s.mgmt.sessions.filter (·.number != n) } := by
  unfold State.endSession
  dsimp only
  rw [State.modMgmt_mgmt]
  split <;> simp

/-- The ends of several sessions. -/
theorem endSessions_gives (l : List Session) (s : State) :
    (l.foldl (fun s x => s.endSession x.number) s).mailRoom = s.mailRoom ∧
      ∃ left, (l.foldl (fun s x => s.endSession x.number) s).mgmt = { s.mgmt with sessions := left } ∧
        ∀ x ∈ left, x ∈ s.mgmt.sessions ∧ x ∉ l := by
  induction l generalizing s with
  | nil => exact ⟨rfl, _, rfl, fun x hx => ⟨hx, List.not_mem_nil⟩⟩
  | cons y l ih =>
    obtain ⟨hroom, left, hmgmt, hleft⟩ := ih (s.endSession y.number)
    refine ⟨hroom.trans (s.endSession_mailRoom _), left, by rw [List.foldl_cons, hmgmt, s.endSession_mgmt], fun x hx => ?_⟩
    obtain ⟨hmem, hnot⟩ := hleft x hx
    rw [s.endSession_mgmt, List.mem_filter, bne_iff_ne] at hmem
    refine ⟨hmem.1, ?_⟩
    rw [List.mem_cons, not_or]
    exact ⟨fun heq => hmem.2 (heq ▸ rfl), hnot⟩

/-- The reply that a completion leaves with a session is no part of its address. -/
theorem State.complete_addresses (s : State) (m : Nat) (st : Status) (d : Nat) (r : List Byte) :
    (s.complete m st d r).mgmt.sessions.map (·.address) = s.mgmt.sessions.map (·.address) := by
  have hreply (u : State) : (u.sendReply m).mgmt.sessions.map (·.address) = u.mgmt.sessions.map (·.address) := by
    unfold State.sendReply
    split
    · rfl
    · refine map_updateAll (g := (·.address)) _ ?_ u.mgmt.sessions
      exact fun _ => rfl
  have hpush (u : State) (c : Nat) (e : Completion) : (u.pushCompletion c e).mgmt = u.mgmt := State.setCause_mgmt _ _
  unfold State.complete
  dsimp only
  rw [hreply]
  split
  · rw [hpush]
    rfl
  · rfl

/-! ### Keeping the settings is no more than an event (R399, R449) -/

theorem State.storeConfig_step (s : State) : s.EventStep s.storeConfig := by
  unfold State.storeConfig
  split
  · exact s.endEpisode_step.trans (State.EventStep.health _ _)
  · exact (State.EventStep.health s _).trans ((State.deferEpisode_step _ _).trans (State.noteDeath_step _ s))

theorem State.keepSettings_step (s before : State) : s.EventStep (s.keepSettings before) := by
  unfold State.keepSettings
  split
  · exact .refl s
  · exact s.storeConfig_step

theorem State.EventStep.mail {s t : State} (h : s.EventStep t) : t.mail = s.mail := by
  obtain ⟨_, _, _, _, _, _, rfl⟩ := h
  rfl

theorem State.EventStep.mgmt {s t : State} (h : s.EventStep t) : t.mgmt = s.mgmt := by
  obtain ⟨_, _, _, _, _, _, rfl⟩ := h
  rfl

theorem Answered.of_mail {s t : State} {m : Nat} {st : Status} {r : List Byte} (h : Answered s m st r) (hmail : t.mail = s.mail) : Answered t m st r := by
  have hbox : t.box m = s.box m := by rw [State.box, State.box, hmail]
  exact ⟨hbox ▸ h.idle, hbox ▸ h.done, hbox ▸ h.status, hbox ▸ h.length, hbox ▸ h.bytes⟩

/-- The port with the settings of MGMT_NET in force (R369). -/
def netPort (p : MgmtPort) (args : List Byte) : MgmtPort :=
  { p with
    addr4 := BitVec.ofNat 32 (fieldBE args 0 4), prefix4 := field args 4 1, prefix6 := field args 5 1, udpPort := orDefault (field args 6 2) 47120
    gateway4 := BitVec.ofNat 32 (fieldBE args 8 4), addr6 := BitVec.ofNat 128 (fieldBE args 12 16), gateway6 := BitVec.ofNat 128 (fieldBE args 28 16)
    allow := BitVec.ofNat 128 (fieldBE args 44 16), allowLen := field args 60 1, syslogPort := orDefault (field args 62 2) 514
    syslogAddr := BitVec.ofNat 128 (fieldBE args 64 16) }

/-- The effect of MGMT_NET: its settings, and the end of each session that they do not allow. -/
def State.setNet (s : State) (args : List Byte) : State :=
  (s.mgmt.sessions.filter fun x => !(netPort s.mgmt args).allows x.address).foldl (fun s x => s.endSession x.number)
    (s.modMgmt fun _ => netPort s.mgmt args)

theorem cmdMgmtNet_accepts {s : State} {o : Origin} {args : List Byte} (h4 : field args 4 1 ≤ 32) (h5 : field args 5 1 ≤ 128) (h60 : field args 60 1 ≤ 128)
    (h61 : field args 61 1 = 0) : cmdMgmtNet o args s = .done .ok 0 [] (s.setNet args) := by
  unfold cmdMgmtNet
  refine (checked_pass ?_).trans rfl
  simp [firstFail_cons, firstFail_nil, inRange_fst, bad_fst, h4, h5, h60, h61]

/-- The sessions that stay are from addresses that the port allows. -/
theorem State.setNet_gives (s : State) (args : List Byte) :
    (s.setNet args).mailRoom = s.mailRoom ∧ ∃ left, (s.setNet args).mgmt = { netPort s.mgmt args with sessions := left } ∧
      ∀ x ∈ left, (netPort s.mgmt args).allows x.address = true := by
  obtain ⟨hroom, left, hmgmt, hleft⟩ := endSessions_gives (s.mgmt.sessions.filter fun x => !(netPort s.mgmt args).allows x.address)
    (s.modMgmt fun _ => netPort s.mgmt args)
  refine ⟨hroom, left, hmgmt, fun x hx => ?_⟩
  obtain ⟨hmem, hnot⟩ := hleft x hx
  simpa [List.mem_filter, show x ∈ s.mgmt.sessions from hmem] using hnot

theorem mgmtNet_completes {s : State} {o : Origin} {args : List Byte} (h : Leads s o) (hlen : args.length = 80) (h4 : field args 4 1 ≤ 32)
    (h5 : field args 5 1 ≤ 128) (h60 : field args 60 1 ≤ 128) (h61 : field args 61 1 = 0) :
    ∃ u l, exec (.mgmtNet o args) s = .next u ∧ Answered u o.mailbox .ok [] ∧ u.mgmt = { netPort s.mgmt args with sessions := l } ∧
      ∀ x ∈ l, (netPort s.mgmt args).allows x.address = true := by
  let t := s.taken o 0x0022 args
  have hport : netPort t.mgmt args = netPort s.mgmt args := by rw [show t.mgmt = s.mgmt from s.taken_mgmt ..]
  have hrow : s.row o 0x0022 args (fixedLen 80) cmdMgmtNet = (t.setNet args).complete o.mailbox .ok 0 [] :=
    State.row_done h.served (by omega) (fixedLen_none 80 args hlen) rfl (by rw [show standbyRefuses 0x0022 args = false from rfl, Bool.and_false]) (fun _ => h.leads) (cmdMgmtNet_accepts h4 h5 h60 h61)
      (.inl rfl) (by decide)
  obtain ⟨hroom, left, hmgmt, hleft⟩ := t.setNet_gives args
  obtain ⟨l, hl⟩ := (t.setNet args).complete_mgmt o.mailbox .ok 0 []
  have hstep := ((t.setNet args).complete o.mailbox .ok 0 []).keepSettings_step s
  have hbox : t.box o.mailbox = Mailbox.load 0x0022 args (s.box o.mailbox) := s.taken_box o 0x0022 args h.served.mailbox
  refine ⟨_, l, congrArg (fun u : State => Host.Outcome.next (u.keepSettings s)) hrow, Answered.of_mail ?_ hstep.mail, ?_, fun x hx => ?_⟩
  · refine State.complete_answered_of_room hroom (by simpa [t] using h.served.mailbox) ?_
    rw [hbox]
    simpa [t, Mailbox.load] using h.served.room
  · rw [hstep.mgmt, hl, hmgmt, hport]
  · have haddress : x.address ∈ ((t.setNet args).complete o.mailbox .ok 0 []).mgmt.sessions.map (·.address) := by
      rw [hl]
      exact List.mem_map_of_mem hx
    rw [State.complete_addresses, hmgmt] at haddress
    obtain ⟨y, hy, heq⟩ := List.mem_map.1 haddress
    rw [← heq, ← hport]
    exact hleft y hy

/-- Settles O15: the lock's commands pass their tests for the senders named, and MGMT_NET ends, one by one, the sessions that its settings do not allow. -/
theorem leaseAndNetworkCommandsComplete : Obligations.LeaseAndNetworkCommandsComplete := by
  unfold Obligations.LeaseAndNetworkCommandsComplete
  constructor
  · intro s o args h hstandby
    refine ⟨configLock_grants h hstandby, configLock_releases h hstandby, fun hholds => ?_⟩
    refine ⟨_, ?_, ?_, ?_, ?_, ?_, configAbort_discards h hstandby hholds⟩
    all_goals
      obtain ⟨l, hl⟩ := (s.taken o 0x0012 []).abortStaging_eq
      obtain ⟨k, hk⟩ := s.taken_cfg o 0x0012 []
      rw [hl]
    all_goals simp [hk]
  · intro s o args h hlen h4 h5 h60 h61
    obtain ⟨u, l, he, hanswered, hmgmt, hallows⟩ := mgmtNet_completes h hlen h4 h5 h60 h61
    refine ⟨u, he, hanswered, ?_⟩
    rw [hmgmt]
    exact ⟨rfl, rfl, rfl, rfl, rfl, rfl, rfl, hallows⟩

end Sys2Proof.Machine

/-! ## Mailbox and queue registers (R362 to R364, R380, R384, R385, R391, R477) -/

namespace Sys2Proof.Machine

theorem exec_mailboxClaim (who m : Nat) (s : State) : exec (.mailboxClaim who m) s = .next (s.hostAccess (·.claimBox (some who) m)) := rfl

theorem exec_mailboxRelease (who m : Nat) (s : State) : exec (.mailboxRelease who m) s = .next (s.hostAccess (·.releaseBox (some who) m)) := rfl

theorem exec_ring (who m : Nat) (s : State) : exec (.ring who m) s = .next (s.hostAccess (·.ringBox (some who) m)) := rfl

theorem exec_eqConsWrite (v : Word) (s : State) : exec (.eqConsWrite v) s = .next (s.hostAccess (·.writeEqCons v)) := rfl

theorem exec_cqConsWrite (c : Nat) (v : Word) (s : State) : exec (.cqConsWrite c v) s = .next (s.hostAccess (·.writeCqCons c v)) := rfl

/-- A pass in which one member of the list does all the work. -/
theorem foldl_eq_of_one {α β : Type} {f : α → β → α} {s t : α} {c : β} {l : List β} (hc : c ∈ l) (hbefore : ∀ k, k ≠ c → f s k = s) (hat : f s c = t)
    (hafter : ∀ k, f t k = t) : l.foldl f s = t := by
  induction l with
  | nil => exact absurd hc List.not_mem_nil
  | cons k l ih =>
    by_cases hk : k = c
    · subst hk
      rw [List.foldl_cons, hat]
      exact List.foldl_fixed' hafter l
    · rw [List.foldl_cons, hbefore k hk]
      exact ih ((List.mem_cons.1 hc).resolve_left (Ne.symm hk))

/-! ### Accesses that wake no command -/

/-- Before start-up step 3 a command that waits is not taken (R477, log 127). -/
theorem State.serveWaiting_of_idle {s : State} (h : s.serves = false) : s.serveWaiting = s :=
  List.foldl_fixed' (f := fun (s : State) (m : Nat) => if s.serves then s.runBox m else s) (fun _ => if_neg (ne_true_of_eq_false h)) _

theorem Mailbox.finish_busy (b : Mailbox) : b.finish.busy = false := by
  unfold Mailbox.finish
  dsimp only
  split <;> rfl

theorem Mailbox.finish_done (b : Mailbox) : b.finish.done = true := by
  unfold Mailbox.finish
  dsimp only
  split <;> rfl

theorem Mailbox.finish_waiting (b : Mailbox) : b.finish.waiting = b.waiting := by
  unfold Mailbox.finish
  dsimp only
  split <;> rfl

/-- An access after which no mailbox holds a waiting command is the access alone. -/
theorem State.hostAccess_of_none {s : State} {f : State → State} (hup : s.hostUp = true) (hnone : ∀ m, ((f s).box m).waiting = none) :
    s.hostAccess f = f s := by
  rw [State.hostAccess, if_pos hup, State.serveWaiting_of_none _ hnone]

/-- A change of one mailbox that gives it no waiting command wakes none. -/
theorem State.hostAccess_of_modBox {s : State} (hq : HostQuiet s) {f : State → State} {m : Nat} {g : Mailbox → Mailbox} (hm : m < s.mail.boxes.length)
    (hf : f s = s.modBox m g) (hg : ∀ b, (g b).waiting = b.waiting) : s.hostAccess f = s.modBox m g := by
  rw [← hf]
  refine State.hostAccess_of_none hq.up fun k => ?_
  rw [hf]
  by_cases hk : m = k
  · subst hk
    rw [s.modBox_box m g hm, hg]
    exact hq.none m
  · rw [s.modBox_box_other m k g hk]
    exact hq.none k

/-- Two changes that agree on a mailbox change it alike. -/
theorem State.modBox_congr (s : State) {m : Nat} {f g : Mailbox → Mailbox} (hm : m < s.mail.boxes.length) (h : f (s.box m) = g (s.box m)) :
    s.modBox m f = s.modBox m g := by
  have hboxes : s.mail.boxes.modify m f = s.mail.boxes.modify m g := by
    rw [List.modify_eq_set_getElem? f, List.modify_eq_set_getElem? g, List.getElem?_eq_getElem hm]
    rw [State.box, List.getD_eq_getElem _ _ hm] at h
    exact congrArg _ h
  rw [State.modBox, hboxes]
  rfl

theorem State.hostAccess_denied {s : State} (hq : HostQuiet s) {f : State → State} {bit : Nat} (hf : f s = s.setGlobalErr bit) :
    s.hostAccess f = s.setGlobalErr bit := by
  rw [State.hostAccess_of_quiet hq, hf]
  rw [hf]
  exact State.setCause_mail _ _

section
variable {s : State} {who m : Nat}

theorem mailboxClaim_of_free (hq : HostQuiet s) (hm : m < s.mail.boxes.length) (hfree : (s.box m).owned = false) :
    exec (.mailboxClaim who m) s = .next (s.modBox m fun b => { b with owned := true, ownerId := who % 65536, ethernet := false }) := by
  rw [exec_mailboxClaim, State.hostAccess_of_modBox hq hm
    (g := fun b => { b with owned := true, ownerId := who % 65536, ethernet := false }) _ fun _ => rfl]
  simp [State.claimBox, hfree]

/-- Another's claim, release or doorbell is dropped (R362, R363). -/
theorem mailbox_denied (hq : HostQuiet s) (howned : (s.box m).owned = true) (hother : (s.box m).ownedBy (some who) = false) :
    exec (.mailboxClaim who m) s = .next (s.setGlobalErr 1) ∧ exec (.mailboxRelease who m) s = .next (s.setGlobalErr 1) ∧
      exec (.ring who m) s = .next (s.setGlobalErr 1) := by
  rw [exec_mailboxClaim, exec_mailboxRelease, exec_ring]
  refine ⟨congrArg _ (State.hostAccess_denied hq ?_), congrArg _ (State.hostAccess_denied hq ?_), congrArg _ (State.hostAccess_denied hq ?_)⟩
  · simp [State.claimBox, howned, hother, State.mbDenied]
  · simp [State.releaseBox, hother, State.mbDenied]
  · simp [State.ringBox, hother, State.mbDenied]

theorem mailboxRelease_of_idle (hq : HostQuiet s) (howner : (s.box m).ownedBy (some who) = true) (hidle : (s.box m).busy = false) (hm : m < s.mail.boxes.length) :
    exec (.mailboxRelease who m) s = .next (s.modBox m fun b => { b with owned := false, ownerId := 0, ethernet := false }) := by
  rw [exec_mailboxRelease, State.hostAccess_of_modBox hq hm (g := fun b => { b with owned := false, ownerId := 0, ethernet := false }) _ fun _ => rfl]
  rw [State.releaseBox, if_pos howner]
  exact s.modBox_congr hm (by rw [Mailbox.endOwner, hidle, if_neg Bool.false_ne_true])

theorem mailboxRelease_of_busy (hq : HostQuiet s) (howner : (s.box m).ownedBy (some who) = true) (hbusy : (s.box m).busy = true) (hm : m < s.mail.boxes.length) :
    exec (.mailboxRelease who m) s = .next (s.modBox m fun b => { b with ending := true }) := by
  rw [exec_mailboxRelease, State.hostAccess_of_modBox hq hm (g := fun b => { b with ending := true }) _ fun _ => rfl]
  rw [State.releaseBox, if_pos howner]
  exact s.modBox_congr hm (by rw [Mailbox.endOwner, if_pos hbusy])

theorem ring_of_busy (hq : HostQuiet s) (howner : (s.box m).ownedBy (some who) = true) (hbusy : (s.box m).busy = true) : exec (.ring who m) s = .next s := by
  have hsame : s.ringBox (some who) m = s := by simp [State.ringBox, howner, hbusy]
  rw [exec_ring, State.hostAccess_of_quiet hq (by rw [hsame]), hsame]

end

/-! ### A NOP that waited runs to its completion (R364, R477) -/

/-- The mailboxes that a completion does not finish stay. -/
theorem State.complete_box_other (s : State) {m k : Nat} (st : Status) (d : Nat) (r : List Byte) (hk : m ≠ k) : (s.complete m st d r).box k = s.box k := by
  unfold State.complete
  dsimp only
  rw [State.sendReply_box]
  split
  · rw [State.pushCompletion, State.setCause_box, State.modBox_box_other _ _ _ _ hk]
    exact s.modBox_box_other m k _ hk
  · exact s.modBox_box_other m k _ hk

/-- NOP's reply (R393). -/
def State.nopReply (s : State) : List Byte := leBytes 4 s.ident.fwVersion.toNat ++ leBytes 4 s.regs.alive.toNat

/-- A mailbox with nothing but NOP in it completes when the lead core takes it. -/
theorem State.runBox_nop {s : State} {m : Nat} {o : Origin} (hwaiting : (s.box m).waiting = some o) (hmailbox : o.mailbox = m)
    (hnormal : s.health.fw.recovery = false) (hop : (s.box m).opcode = 0x0001) (harg : (s.box m).argLen = 0) :
    s.runBox m = ((s.modBox m fun b => { b with waiting := none }).refreshPipes.renew o 0x0001).complete m .ok 0 s.nopReply := by
  let u := (s.modBox m fun b => { b with waiting := none }).refreshPipes.renew o 0x0001
  have hident : u.ident = s.ident := by simp [u]
  have hregs : u.regs = s.regs := by simp [u]
  have hgates : firstFail (u.gates o 0x0001 [] none) = none :=
    State.gates_pass u o 0x0001 [] (by simpa [u] using hnormal) rfl (by rw [show standbyRefuses 0x0001 [] = false from rfl, Bool.and_false])
      fun h => absurd h (by decide)
  have hconclude : State.conclude o 0x0001 [] u (cmdNop o [] u) = u.complete m .ok 0 s.nopReply := by
    rw [← hmailbox, State.nopReply, ← hident, ← hregs]
    rfl
  unfold State.runBox
  simp only [hwaiting, hop, harg]
  show (State.runCommand o 0x0001 [] none cmdNop _).afterCommand 0x0001 = _
  rw [State.runCommand, hgates]
  exact hconclude

/-- A NOP that was put in progress in a mailbox completes there at once, when the lead core serves and nothing else waits. -/
theorem State.serveWaiting_nop {s : State} {m : Nat} {o : Origin} (hserves : s.serves = true) (hm : m < s.mail.boxes.length) (hrange : m < 16)
    (hother : ∀ k, k ≠ m → (s.box k).waiting = none) (hwaiting : (s.box m).waiting = some o) (hmailbox : o.mailbox = m)
    (hnormal : s.health.fw.recovery = false) (hop : (s.box m).opcode = 0x0001) (harg : (s.box m).argLen = 0)
    (hroom : (s.mail.queues.getD (s.box m).cqSel.toNat {}).depth < 16) :
    s.serveWaiting = s.runBox m ∧ Answered (s.runBox m) m .ok s.nopReply := by
  let u := (s.modBox m fun b => { b with waiting := none }).refreshPipes.renew o 0x0001
  have hrun : s.runBox m = u.complete m .ok 0 s.nopReply := State.runBox_nop hwaiting hmailbox hnormal hop harg
  have hmail : u.mail = (s.modBox m fun b => { b with waiting := none }).mail := by simp [u]
  have hbox : u.box m = { s.box m with waiting := none } := by
    rw [State.box, hmail]
    exact s.modBox_box m _ hm
  have hlen : m < u.mail.boxes.length := by
    rw [hmail]
    simpa [State.modBox] using hm
  have hroom' : (u.mail.queues.getD (u.box m).cqSel.toNat {}).depth < 16 := by
    rw [hbox, hmail]
    exact hroom
  have hnone (k : Nat) : ((s.runBox m).box k).waiting = none := by
    rw [hrun]
    by_cases hk : m = k
    · subst hk
      rw [State.complete_box _ _ _ _ hlen hroom', Mailbox.finish_waiting, hbox]
    · rw [State.complete_box_other _ _ _ _ hk, State.box, hmail]
      exact (congrArg Mailbox.waiting (s.modBox_box_other m k _ hk)).trans (hother k (Ne.symm hk))
  have hnop (t : State) (k : Nat) (h : (t.box k).waiting = none) : (if t.serves then t.runBox k else t) = t := by
    have hidle : t.runBox k = t := by
      unfold State.runBox
      simp only [h]
    rw [hidle, ite_self]
  refine ⟨foldl_eq_of_one (List.mem_range.2 hrange) (fun k hk => hnop s k (hother k hk)) (if_pos hserves) fun k => hnop _ k (hnone k), ?_⟩
  rw [hrun]
  exact State.complete_answered _ _ _ _ _ hlen hroom'

section
variable {s : State} {who m : Nat}

/-- What the owner's doorbell leaves in a mailbox that is not busy. -/
def rung (o : Origin) (b : Mailbox) : Mailbox := { b with busy := true, done := false, waiting := some o }

theorem State.ringBox_of_owner (hm : m < s.mail.boxes.length) (howner : (s.box m).ownedBy (some who) = true) (hidle : (s.box m).busy = false) :
    s.ringBox (some who) m = s.modBox m (rung { ethernet := false, id := (s.box m).ownerId, mailbox := m }) := by
  have hring : s.ringBox (some who) m =
      s.modBox m fun b => { b with busy := true, done := false, waiting := some { ethernet := false, id := b.ownerId, mailbox := m } } := by
    simp [State.ringBox, howner, hidle]
  exact hring.trans (s.modBox_congr hm rfl)

theorem ring_waits (hq : HostQuiet s) (hm : m < s.mail.boxes.length) (howner : (s.box m).ownedBy (some who) = true) (hidle : (s.box m).busy = false)
    (hserves : s.serves = false) : Gives (.ring who m) s fun t => (t.box m).busy = true ∧ (t.box m).done = false ∧
      (t.box m).waiting = some { ethernet := false, id := (s.box m).ownerId, mailbox := m } ∧ t.lease = s.lease ∧ t.cfg = s.cfg := by
  have hnot : (s.modBox m (rung { ethernet := false, id := (s.box m).ownerId, mailbox := m })).serves = false := hserves
  refine ⟨_, exec_ring who m s, ?_⟩
  rw [State.hostAccess, if_pos hq.up, State.ringBox_of_owner hm howner hidle, State.serveWaiting_of_idle hnot]
  dsimp only
  rw [s.modBox_box m _ hm]
  exact ⟨rfl, rfl, rfl, rfl, rfl⟩

theorem ring_runs_nop (hq : HostQuiet s) (hrange : m < 16) (howner : (s.box m).ownedBy (some who) = true) (hidle : (s.box m).busy = false)
    (hserved : Served s { ethernet := false, id := (s.box m).ownerId, mailbox := m }) (hreset : s.power.inReset = false)
    (hop : (s.box m).opcode = 0x0001) (harg : (s.box m).argLen = 0) : Gives (.ring who m) s fun t => Answered t m .ok s.nopReply := by
  have hm : m < s.mail.boxes.length := hserved.mailbox
  let u := s.modBox m (rung { ethernet := false, id := (s.box m).ownerId, mailbox := m })
  have hbox : u.box m = rung { ethernet := false, id := (s.box m).ownerId, mailbox := m } (s.box m) := s.modBox_box m _ hm
  have hserves : u.serves = true := by simp [u, State.serves, hreset, hserved.stage]
  obtain ⟨hserve, hanswered⟩ := State.serveWaiting_nop (s := u) (o := { ethernet := false, id := (s.box m).ownerId, mailbox := m }) hserves
    (by simpa [u, State.modBox] using hm) hrange
    (fun k hk => (congrArg Mailbox.waiting (s.modBox_box_other m k _ (Ne.symm hk))).trans (hq.none k)) (by rw [hbox]; rfl) rfl hserved.normal
    (by rw [hbox]; exact hop) (by rw [hbox]; exact harg) (by rw [hbox]; exact hserved.room)
  refine ⟨_, exec_ring who m s, ?_⟩
  rw [State.hostAccess, if_pos hq.up, State.ringBox_of_owner hm howner hidle, hserve]
  exact hanswered

end

/-- Settles O25: each register's write is one change of its mailbox; the doorbell's NOP runs through the pass over the mailboxes, where nothing else waits. -/
theorem mailboxRegistersAct : Obligations.MailboxRegistersAct := by
  intro s who m hq hm hrange
  refine ⟨mailboxClaim_of_free hq hm, mailbox_denied hq, fun howner => ⟨fun hidle => mailboxRelease_of_idle hq howner hidle hm, fun hbusy => ?_, ?_, ?_⟩⟩
  · exact ⟨mailboxRelease_of_busy hq howner hbusy hm, ring_of_busy hq howner hbusy⟩
  · exact ring_waits hq hm howner
  · exact ring_runs_nop hq hrange howner

/-! ### Consumer counts and held completions (R380, R384, R385) -/

theorem State.releaseHeld_of_none {s : State} {c : Nat} (n : Nat) (h : s.mail.held.find? (·.1 == c) = none) : State.releaseHeld n c s = s := by
  cases n with
  | zero => rfl
  | succ n =>
    unfold State.releaseHeld
    rw [h]

/-- Changing one queue of the list is setting it. -/
theorem modify_eq_set_getD {α : Type} {l : List α} {i : Nat} (f : α → α) (d : α) (h : i < l.length) : l.modify i f = l.set i (f (l.getD i d)) := by
  rw [List.modify_eq_set_get f h, List.getD_eq_getElem _ _ h]
  rfl

section
variable {s : State} {v : Word} {c : Nat}

theorem eqConsWrite_takes (hq : HostQuiet s) (hrange : (v.toNat % 2048 + 2048 - s.events.cons) % 2048 ≤ s.events.depth) :
    Gives (.eqConsWrite v) s fun t => t.events.cons = v.toNat % 2048 ∧ t.events.prod = s.events.prod ∧ t.events.slots = s.events.slots ∧
      t.events.lost = s.events.lost ∧ t.regs = s.regs := by
  have htake : s.writeEqCons v = s.modEvents fun q =>
      let q1 := { q with cons := v.toNat % 2048 }
      { q1 with delayed := q1.delayed && q1.depth != 0 } := if_neg (Nat.not_lt.2 hrange)
  refine ⟨_, exec_eqConsWrite v s, ?_⟩
  rw [State.hostAccess_of_quiet hq (by rw [htake]; rfl), htake]
  exact ⟨rfl, rfl, rfl, rfl, rfl⟩

theorem eqConsWrite_refused (hq : HostQuiet s) (hrange : s.events.depth < (v.toNat % 2048 + 2048 - s.events.cons) % 2048) :
    exec (.eqConsWrite v) s = .next (s.setGlobalErr 3) :=
  (exec_eqConsWrite v s).trans (congrArg _ (State.hostAccess_denied hq (if_pos hrange)))

theorem cqConsWrite_takes (hq : HostQuiet s) (hc : c < s.mail.queues.length) (hheld : s.mail.held = [])
    (hrange : (v.toNat % 32 + 32 - (s.mail.queues.getD c {}).cons) % 32 ≤ (s.mail.queues.getD c {}).depth) :
    Gives (.cqConsWrite c v) s fun t => t.mail.queues = s.mail.queues.set c { s.mail.queues.getD c {} with cons := v.toNat % 32 } ∧
      t.mail.boxes = s.mail.boxes ∧ t.regs = s.regs := by
  have htake : s.writeCqCons c v = { s with mail := { s.mail with queues := s.mail.queues.modify c fun q => { q with cons := v.toNat % 32 } } } :=
    (if_neg (Nat.not_lt.2 hrange)).trans (State.releaseHeld_of_none _ (congrArg (List.find? _) hheld))
  refine ⟨_, exec_cqConsWrite c v s, ?_⟩
  rw [State.hostAccess_of_none hq.up (by rw [htake]; exact hq.none), htake]
  exact ⟨modify_eq_set_getD _ {} hc, rfl, rfl⟩

theorem cqConsWrite_refused (hq : HostQuiet s)
    (hrange : (s.mail.queues.getD c {}).depth < (v.toNat % 32 + 32 - (s.mail.queues.getD c {}).cons) % 32) :
    exec (.cqConsWrite c v) s = .next (s.setGlobalErr 3) :=
  (exec_cqConsWrite c v s).trans (congrArg _ (State.hostAccess_denied hq (if_pos hrange)))

/-- The one held completion enters its queue, and its mailbox is done (R384). -/
theorem heldCompletionPush_pushes {e : Completion} (hc : c < s.mail.queues.length) (hrange : c < 4) (hheld : s.mail.held = [(c, e)])
    (hroom : (s.mail.queues.getD c {}).depth < 16) (hm : e.mailbox < s.mail.boxes.length) : Gives .heldCompletionPush s fun t => t.mail.held = [] ∧
      t.mail.queues = s.mail.queues.set c { s.mail.queues.getD c {} with
        slots := (s.mail.queues.getD c {}).slots.set ((s.mail.queues.getD c {}).prod % 16) e, prod := ((s.mail.queues.getD c {}).prod + 1) % 32 } ∧
      (t.box e.mailbox).busy = false ∧ (t.box e.mailbox).done = true := by
  let u : State := State.pushCompletion { s with mail := { s.mail with held := s.mail.held.erase (c, e) } } c e
  have hmail : u.mail = (State.modBox { s with mail := { s.mail with
      held := s.mail.held.erase (c, e)
      queues := s.mail.queues.modify c fun q => { q with slots := q.slots.set (q.prod % 16) e, prod := (q.prod + 1) % 32 } } } e.mailbox Mailbox.finish).mail :=
    State.setCause_mail _ _
  have hempty : u.mail.held = [] := by
    rw [hmail]
    show s.mail.held.erase (c, e) = []
    rw [hheld, List.erase_cons_head]
  have hfind (k : Nat) : s.mail.held.find? (·.1 == k) = if c = k then some (c, e) else none := by
    rw [hheld, List.find?_cons]
    by_cases hk : c = k
    · simp [hk]
    · simp [beq_eq_false_iff_ne.2 hk, hk]
  have hat : State.releaseHeld 16 c s = u := by
    unfold State.releaseHeld
    rw [hfind, if_pos rfl]
    dsimp only
    rw [if_pos hroom]
    exact State.releaseHeld_of_none _ (congrArg (List.find? _) hempty)
  have hpass : (List.range 4).foldl (fun s c => State.releaseHeld 16 c s) s = u :=
    foldl_eq_of_one (List.mem_range.2 hrange) (fun k hk => State.releaseHeld_of_none _ ((hfind k).trans (if_neg (Ne.symm hk)))) hat
      fun k => State.releaseHeld_of_none _ (congrArg (List.find? _) hempty)
  have hbox : u.box e.mailbox = (s.box e.mailbox).finish := by
    rw [State.box, hmail]
    exact getD_modify_same _ _ _ _ hm
  refine ⟨u, congrArg Host.Outcome.next hpass, hempty, ?_, ?_, ?_⟩
  · rw [hmail]
    exact modify_eq_set_getD _ {} hc
  · rw [hbox, Mailbox.finish_busy]
  · rw [hbox, Mailbox.finish_done]

/-- EQ_DROPPED answers its count and clears (R385). -/
theorem eqDroppedRead_clears (hq : HostQuiet s) : Gives .eqDroppedRead s fun t =>
    t.events = { s.events with dropped := 0 } ∧ t.out = .readValue 0x20010 (BitVec.ofNat 32 s.events.dropped) :: s.out := by
  have hread : s.readReg 0x20010 = (BitVec.ofNat 32 s.events.dropped, s.modEvents fun q => { q with dropped := 0 }) := rfl
  have hexec : exec .eqDroppedRead s = .next (s.hostAccess fun s => (s.readReg 0x20010).2.emit (.readValue 0x20010 (s.readReg 0x20010).1)) := rfl
  refine ⟨_, hexec, ?_⟩
  rw [State.hostAccess_of_quiet hq (by rw [hread]; rfl), hread]
  exact ⟨rfl, rfl⟩

theorem eqIrqDelayExpiry_sets (hdelay : s.events.irqDelayUs ≠ 0) (hdepth : s.events.depth ≠ 0) :
    Gives .eqIrqDelayExpiry s fun t => t.intr.cause.getLsbD 0 = true ∧ t.events.delayed = true := by
  have hexec : exec .eqIrqDelayExpiry s = .next ((s.modEvents fun q => { q with delayed := true }).setCause 0) :=
    congrArg Host.Outcome.next (if_pos ⟨hdelay, hdepth⟩)
  refine ⟨_, hexec, ?_, ?_⟩
  · rw [State.setCause_cause _ _ (by decide), decide_eq_true rfl, Bool.or_true]
  · rw [State.setCause_events]
    rfl

end

/-- Settles O26: with no command waiting a write is the write alone, and of the four queues only the held completion's has one to take. -/
theorem queueRegistersAct : Obligations.QueueRegistersAct := by
  intro s v hq
  refine ⟨eqConsWrite_takes hq, eqConsWrite_refused hq, ?_, eqDroppedRead_clears hq, eqIrqDelayExpiry_sets⟩
  intro c q hc
  exact ⟨cqConsWrite_takes hq hc, cqConsWrite_refused hq, fun e hrange => heldCompletionPush_pushes hc hrange⟩

end Sys2Proof.Machine

/-! ## An ABORT of a fill to the host where memory is not in order (R387, R389) -/

namespace Sys2Proof.Machine

/-- A fill of no byte, to host address 0. -/
def emptyFill : DmaChannel := { dst := 0x8000000000000000, mode := 1, busy := true }

/-- A package that is up, with that fill under way in channel 0. Its memory lists two cells out of order, which no statement of the row excludes. -/
def unorderedFill : State :=
  { State.reset with
    power := { State.reset.power with inReset := false }
    dma := State.reset.dma.set 0 emptyFill
    fabric := { State.reset.fabric with mem := [(2 ^ 63, 1), (0, 1)] } }

theorem unorderedFill_quiet : HostQuiet unorderedFill := ⟨by decide, State.reset_box_waiting⟩

/-- ABORT stops it, and leaves memory as it was. -/
theorem unorderedFill_aborts : ∃ t, exec (.dmaAbort 0 0x40000000) unorderedFill = .next t ∧ t.fabric.mem = [(2 ^ 63, 1), (0, 1)] :=
  ⟨_, rfl, by decide +kernel⟩

/-- A write of no byte to the end of that memory puts its cells in order. -/
theorem write_none_of_unordered :
    Memory.write unorderedFill.fabric.mem (emptyFill.dst.toNat) (emptyFill.fillBytes 0) = [(0, 1), (2 ^ 63, 1)] := by
  decide +kernel

/-- Refutes O28: nothing in it says that memory is in order. A fill to the host that is stopped writes no memory, and the write of none of its bytes that
the statement names puts the cells of such a memory in order. -/
theorem not_dmaRuns : ¬ Obligations.DmaRuns := by
  unfold Obligations.DmaRuns
  intro h
  obtain ⟨-, -, -, -, habort, -⟩ := h unorderedFill 0 0x40000000 unorderedFill_quiet (by decide)
  obtain ⟨t, ht, -, -, hfill⟩ := habort rfl (by decide)
  obtain ⟨k, hk, hmem⟩ := hfill rfl rfl (by decide) fun i hi => absurd hi (Nat.not_lt_zero i)
  obtain ⟨t', ht', hkept⟩ := unorderedFill_aborts
  obtain rfl : k = 0 := Nat.le_zero.1 hk
  rw [Host.Outcome.next.inj (ht.symm.trans ht'), hkept] at hmem
  exact absurd (hmem.trans write_none_of_unordered) (by decide)

end Sys2Proof.Machine

/-! ## SMBus (R392, R471) -/

namespace Sys2Proof.Machine

section
variable {s : State} {v : Word}

theorem exec_smbusSetPointer (p : Half) (s : State) : exec (.smbusSetPointer p) s = .next (if s.cal.fromVbat then s.emit (.smbus s.smbusAddress false none)
    else (s.modRegs fun r => { r with smbusPointer := p &&& 0x8FFF }).emit (.smbus s.smbusAddress true none)) := rfl

theorem smbusBlockRead_nack (h : s.smbusUp = false) : exec .smbusBlockRead s = .next (s.emit (.smbus s.smbusAddress false none)) :=
  congrArg Host.Outcome.next (if_neg (ne_true_of_eq_false h))

theorem smbusBlockWrite_nack (h : (s.smbusUp && smbusWritable (smbusOffset s.regs.smbusPointer)) = false) :
    exec (.smbusBlockWrite v) s = .next (s.emit (.smbus s.smbusAddress false none)) :=
  congrArg Host.Outcome.next (if_neg (ne_true_of_eq_false h))

/-- With the auxiliary supply absent nothing answers (log 177). -/
theorem State.smbusUp_of_vbat (h : s.cal.fromVbat = true) : s.smbusUp = false := by rw [State.smbusUp, h]; rfl

/-- With the core off no identity word answers (R471). -/
theorem State.smbusUp_of_off (hword : s.regs.smbusPointer.getLsbD 15 = true) (hoff : s.power.mode = .off) : s.smbusUp = false := by
  rw [State.smbusUp, hword, hoff]
  exact Bool.and_false _

theorem State.smbusUp_of_on (hvbat : s.cal.fromVbat = false) (hon : s.power.mode ≠ .off) : s.smbusUp = true := by
  rw [State.smbusUp, hvbat, bne_iff_ne.2 hon, Bool.or_true]
  rfl

/-- A pointer with bit 15 set is to a word of the identity page. -/
theorem smbusOffset_of_word {q : Half} (h : q.getLsbD 15 = true) : smbusOffset q = q.toNat % 4096 := by rw [smbusOffset, if_pos h, Nat.zero_add]

theorem smbusBlockRead_reads (hvbat : s.cal.fromVbat = false) (hword : s.regs.smbusPointer.getLsbD 15 = true) (hon : s.power.mode ≠ .off) :
    exec .smbusBlockRead s = .next ((s.modRegs fun r => { r with smbusPointer := smbusNext r.smbusPointer }).emit
      (.smbus s.smbusAddress true (some (BitVec.ofNat 32 (s.regValue (s.regs.smbusPointer.toNat % 4096)))))) := by
  have hread : s.readReg (s.regs.smbusPointer.toNat % 4096) = (BitVec.ofNat 32 (s.regValue (s.regs.smbusPointer.toNat % 4096)), s) := by
    rw [State.readReg, if_neg (by omega)]
    dsimp only
    rw [if_neg (by omega)]
  show Host.Outcome.next (if s.smbusUp then _ else _) = _
  rw [if_pos (State.smbusUp_of_on hvbat hon), smbusOffset_of_word hword, hread]

theorem smbusBlockWrite_scratch (hvbat : s.cal.fromVbat = false) (hword : s.regs.smbusPointer.getLsbD 15 = true) (hon : s.power.mode ≠ .off)
    (hscratch : s.regs.smbusPointer.toNat % 4096 = 0x03C) : exec (.smbusBlockWrite v) s = .next ({ s with
      ident := { s.ident with scratch := v }, regs := { s.regs with smbusPointer := smbusNext s.regs.smbusPointer } }.emit (.smbus s.smbusAddress true none)) := by
  have hoff : smbusOffset s.regs.smbusPointer = 0x03C := (smbusOffset_of_word hword).trans hscratch
  have hgoes : (s.smbusUp && smbusWritable (smbusOffset s.regs.smbusPointer)) = true := by
    rw [hoff, State.smbusUp_of_on hvbat hon]
    decide
  refine (congrArg Host.Outcome.next (if_pos hgoes)).trans ?_
  rw [hoff]
  rfl

/-- The words below GLOBAL_ERR are read-only (R360). -/
theorem smbusWritable_of_low {off : Nat} (h : off < 0x024) : smbusWritable off = false := by
  rw [smbusWritable, decide_eq_false_iff_not]
  simp only [List.mem_cons, List.not_mem_nil, or_false]
  omega

end

/-- Settles O30: the state of the supplies and bit 15 of the pointer decide what answers, and what answers moves the pointer. -/
theorem smbusActs : Obligations.SmbusActs := by
  intro s p v q
  refine ⟨fun hvbat => ⟨?_, ?_, ?_⟩, fun hvbat => ?_, smbusBlockRead_reads, fun hword hoff => ⟨?_, ?_⟩, smbusBlockWrite_scratch, fun hword hlow => ?_⟩
  · rw [exec_smbusSetPointer, if_pos hvbat]
    rfl
  · exact smbusBlockRead_nack (State.smbusUp_of_vbat hvbat)
  · exact smbusBlockWrite_nack (by rw [State.smbusUp_of_vbat hvbat, Bool.false_and])
  · rw [exec_smbusSetPointer, hvbat, if_neg Bool.false_ne_true]
    rfl
  · exact smbusBlockRead_nack (State.smbusUp_of_off hword hoff)
  · exact smbusBlockWrite_nack (by rw [State.smbusUp_of_off hword hoff, Bool.false_and])
  · exact smbusBlockWrite_nack (by rw [smbusOffset_of_word hword, smbusWritable_of_low hlow, Bool.and_false])

end Sys2Proof.Machine

/-! ## Sessions, the lease and owners (R363, R367 to R369, R377, R477) -/

namespace Sys2Proof.Machine

/-! ### The end of an owner (R363) -/

/-- A mailbox that is still owned when its owner has ended is busy. -/
theorem Mailbox.busy_of_endOwner {b : Mailbox} (h : b.endOwner.owned = true) : b.endOwner.busy = true := by
  unfold Mailbox.endOwner at h ⊢
  split at h
  next hbusy =>
    rw [if_pos hbusy]
    exact hbusy
  next => exact absurd h Bool.false_ne_true

/-- Of the mailboxes whose owner has ended, those that are still owned are busy. -/
theorem busy_of_updateAll_endOwner {p : Mailbox → Bool} {l : List Mailbox} {b : Mailbox} (hb : b ∈ updateAll p Mailbox.endOwner l) (howned : b.owned = true)
    (hp : p b = true) : b.busy = true := by
  obtain ⟨a, -, rfl⟩ := List.mem_map.1 hb
  by_cases ha : p a = true
  · rw [if_pos ha] at howned ⊢
    exact Mailbox.busy_of_endOwner howned
  · rw [if_neg ha] at hp
    exact absurd hp ha

section
variable {s : State} {d : Datagram}

/-- After the end of a session nothing is its own but what is busy (R363, R368). -/
theorem State.endSession_owners (n : Nat) : (∀ x ∈ (s.endSession n).mgmt.sessions, x.number ≠ n) ∧
    ∀ b ∈ (s.endSession n).mail.boxes, b.owned = true → b.ethernet = true → b.ownerId = n → b.busy = true := by
  constructor
  · intro x hx
    rw [State.endSession_mgmt, List.mem_filter] at hx
    exact bne_iff_ne.1 hx.2
  · intro b hb howned hethernet hid
    have hboxes : (s.endSession n).mail.boxes = updateAll (fun b => b.owned && b.ethernet && b.ownerId == n) Mailbox.endOwner s.mail.boxes := by
      unfold State.endSession
      dsimp only
      rw [State.modMgmt_mail]
      split
      · rw [State.breakLease_mail]
      · rfl
    rw [hboxes] at hb
    exact busy_of_updateAll_endOwner hb howned (by simp [howned, hethernet, hid])

/-! ### OPEN, KEEPALIVE and CLOSE (R368) -/

theorem mgmtOpen_opens (hok : s.datagramOk 1 d = true) (hallows : s.mgmt.allows d.srcAddr = true) (hrange : d.mailbox < 16) (hm : d.mailbox < s.mail.boxes.length)
    (hfree : (s.box d.mailbox).owned = false) (hroom : s.mgmt.sessions.length < 8) : Gives (.mgmtOpen d) s fun t =>
      (t.box d.mailbox).owned = true ∧ (t.box d.mailbox).ethernet = true ∧ (t.box d.mailbox).ownerId = s.mgmt.lastSession % 65535 + 1 ∧
      t.mgmt.sessions = s.mgmt.sessions ++ [{ number := s.mgmt.lastSession % 65535 + 1, mailbox := d.mailbox, address := d.srcAddr, port := d.srcPort,
                                              events := d.flags.getLsbD 0, lastSeq := d.seq }] := by
  have hpass : (!s.datagramOk 1 d || !s.mgmt.allows d.srcAddr || decide (16 ≤ d.mailbox)) = false := by simp [hok, hallows, hrange]
  have hbox (u : State) (hu : u.mail = s.mail) (n : Nat) :
      (u.modBox d.mailbox fun b => { b with owned := true, ownerId := n, ethernet := true }).box d.mailbox =
        { s.box d.mailbox with owned := true, ownerId := n, ethernet := true } := by
    rw [u.modBox_box _ _ (by rwa [hu]), State.box, hu, ← State.box]
  refine ⟨_, congrArg Host.Outcome.next (if_neg (ne_true_of_eq_false hpass)), ?_⟩
  rw [hfree, if_neg Bool.false_ne_true, if_neg (Nat.not_le.2 hroom)]
  have hopened := hbox (s.modMgmt fun p => { p with
    sessions := p.sessions ++ [{ number := s.mgmt.lastSession % 65535 + 1, mailbox := d.mailbox, address := d.srcAddr, port := d.srcPort,
                                 events := d.flags.getLsbD 0, lastSeq := d.seq }]
    lastSession := s.mgmt.lastSession % 65535 + 1 }) rfl (s.mgmt.lastSession % 65535 + 1)
  exact ⟨congrArg Mailbox.owned hopened, congrArg Mailbox.ethernet hopened, congrArg Mailbox.ownerId hopened, rfl⟩

theorem mgmtOpen_refused (hok : s.datagramOk 1 d = true) (hallows : s.mgmt.allows d.srcAddr = true) (hrange : d.mailbox < 16)
    (hfull : (s.box d.mailbox).owned = true ∨ 8 ≤ s.mgmt.sessions.length) : Gives (.mgmtOpen d) s fun t =>
      t.mail = s.mail ∧ t.mgmt = s.mgmt ∧ t.out.length = s.out.length + 1 := by
  have hpass : (!s.datagramOk 1 d || !s.mgmt.allows d.srcAddr || decide (16 ≤ d.mailbox)) = false := by simp [hok, hallows, hrange]
  refine ⟨_, congrArg Host.Outcome.next (if_neg (ne_true_of_eq_false hpass)), ?_⟩
  by_cases howned : (s.box d.mailbox).owned = true
  · rw [if_pos howned]
    exact ⟨rfl, rfl, rfl⟩
  · rw [if_neg howned, if_pos (hfull.resolve_left howned)]
    exact ⟨rfl, rfl, rfl⟩

theorem mgmtKeepalive_keeps (hok : s.datagramOk 5 d = true) : Gives (.mgmtKeepalive d) s fun t =>
    (∀ x ∈ t.mgmt.sessions, x.number = d.session → x.quietMs = 0) ∧ t.mail = s.mail := by
  refine ⟨_, congrArg Host.Outcome.next (if_pos hok), fun x hx hnumber => ?_, rfl⟩
  obtain ⟨y, -, rfl⟩ := List.mem_map.1 hx
  split at hnumber
  next hy => rw [if_pos hy]
  next hy => exact absurd (beq_iff_eq.2 hnumber) hy

theorem mgmtClose_ends (hok : s.datagramOk 6 d = true) (hsession : (s.sessionOf d).isSome = true) :
    exec (.mgmtClose d) s = .next (s.endSession d.session) :=
  congrArg Host.Outcome.next (if_pos (by rw [hok, hsession]; rfl))

theorem sessionTimeout_ends {k : Nat} (h : ∃ x ∈ s.mgmt.sessions, x.number = k ∧ 3000 ≤ x.quietMs) :
    exec (.sessionTimeout k) s = .next (s.endSession k) := by
  obtain ⟨x, hx, hnumber, hquiet⟩ := h
  exact congrArg Host.Outcome.next (if_pos (List.any_eq_true.2 ⟨x, hx, by simp [hnumber, hquiet]⟩))

/-! ### REQUEST (R368, R477) -/

/-- What a REQUEST puts in its session's mailbox. -/
def requested (x : Session) (d : Datagram) (b : Mailbox) : Mailbox :=
  { b with message := overwrite b.message 0 d.body, opcode := d.opcode, tag := d.tag, argLen := BitVec.ofNat 11 d.body.length, busy := true
           done := false, waiting := some { ethernet := true, id := x.number, mailbox := x.mailbox } }

/-- What a REQUEST leaves in its session. -/
def State.noteRequest (s : State) (x : Session) (d : Datagram) : State :=
  (s.modSession x.number fun y => { y with quietMs := 0 }).modSession x.number fun y =>
    { y with lastSeq := d.seq, busy := true, cached := none, address := d.srcAddr, port := d.srcPort }

theorem mgmtRequest_next {x : Session} (hx : s.sessionOf d = some x) (hok : s.datagramOk 3 d = true) (hseq : d.seq = x.lastSeq + 1)
    (hidle : (s.box x.mailbox).busy = false) :
    exec (.mgmtRequest d) s = .next ((s.noteRequest x d).modBox x.mailbox (requested x d)).serveWaiting := by
  have hnew : d.seq ≠ x.lastSeq := by bv_omega
  show execMgmtRequest d s = _
  unfold execMgmtRequest
  rw [hok, Bool.not_true, if_neg Bool.false_ne_true, hx]
  dsimp only
  rw [if_neg hnew, if_pos ⟨hseq, by rw [hidle]; rfl⟩]
  rfl

theorem mgmtRequest_repeats {x : Session} (hx : s.sessionOf d = some x) (hok : s.datagramOk 3 d = true) (hseq : d.seq = x.lastSeq) (hidle : x.busy = false)
    {bytes : List Byte} (hcached : x.cached = some bytes) : Gives (.mgmtRequest d) s fun t =>
      t.out = .mgmt d.srcAddr d.srcPort bytes :: s.out ∧ t.mail = s.mail := by
  have hexec : exec (.mgmtRequest d) s =
      .next ((s.modSession x.number fun y => { y with quietMs := 0 }).emit (.mgmt d.srcAddr d.srcPort bytes)) := by
    show execMgmtRequest d s = _
    unfold execMgmtRequest
    rw [hok, Bool.not_true, if_neg Bool.false_ne_true, hx]
    dsimp only
    rw [if_pos hseq, hcached]
    dsimp only
    rw [hidle, if_neg Bool.false_ne_true]
  exact ⟨_, hexec, rfl, rfl⟩

theorem mgmtRequest_waits {x : Session} (hx : s.sessionOf d = some x) (hok : s.datagramOk 3 d = true) (hseq : d.seq = x.lastSeq + 1)
    (hidle : (s.box x.mailbox).busy = false) (hm : x.mailbox < s.mail.boxes.length) (hserves : s.serves = false) : Gives (.mgmtRequest d) s fun t =>
      (t.box x.mailbox).busy = true ∧ (t.box x.mailbox).opcode = d.opcode ∧
        (t.box x.mailbox).waiting = some { ethernet := true, id := x.number, mailbox := x.mailbox } := by
  have hnot : ((s.noteRequest x d).modBox x.mailbox (requested x d)).serves = false := hserves
  have hbox : ((s.noteRequest x d).modBox x.mailbox (requested x d)).box x.mailbox = requested x d (s.box x.mailbox) := State.modBox_box _ _ _ hm
  refine ⟨_, mgmtRequest_next hx hok hseq hidle, ?_⟩
  rw [State.serveWaiting_of_idle hnot]
  exact ⟨congrArg Mailbox.busy hbox, congrArg Mailbox.opcode hbox, congrArg Mailbox.waiting hbox⟩

theorem mgmtRequest_nop (hq : HostQuiet s) {x : Session} (hx : s.sessionOf d = some x) (hok : s.datagramOk 3 d = true) (hseq : d.seq = x.lastSeq + 1)
    (hidle : (s.box x.mailbox).busy = false) (hrange : x.mailbox < 16) (hserved : Served s { ethernet := true, id := x.number, mailbox := x.mailbox })
    (hreset : s.power.inReset = false) (hop : d.opcode = 0x0001) (hbody : d.body = []) :
    Gives (.mgmtRequest d) s fun t => Answered t x.mailbox .ok s.nopReply := by
  have hm : x.mailbox < s.mail.boxes.length := hserved.mailbox
  let u := (s.noteRequest x d).modBox x.mailbox (requested x d)
  have hbox : u.box x.mailbox = requested x d (s.box x.mailbox) := State.modBox_box _ _ _ hm
  have hlen : x.mailbox < u.mail.boxes.length := by
    show x.mailbox < (s.mail.boxes.modify x.mailbox (requested x d)).length
    rwa [List.length_modify]
  have hserves : u.serves = true := by
    show (!s.power.inReset && (decide (3 ≤ s.power.stage) || s.health.fw.recovery)) = true
    rw [hreset, decide_eq_true hserved.stage]
    rfl
  obtain ⟨hserve, hanswered⟩ := State.serveWaiting_nop (s := u) (o := { ethernet := true, id := x.number, mailbox := x.mailbox }) hserves hlen hrange
    (fun k hk => (congrArg Mailbox.waiting ((s.noteRequest x d).modBox_box_other x.mailbox k _ (Ne.symm hk))).trans (hq.none k)) (by rw [hbox]; rfl) rfl
    hserved.normal (by rw [hbox]; exact hop) (by rw [hbox, requested, hbody]; rfl) (by rw [hbox]; exact hserved.room)
  exact ⟨_, mgmtRequest_next hx hok hseq hidle, hserve ▸ hanswered⟩

end

/-- Settles O31: the checks of each datagram pass, so its row is one change of the session and its mailbox; a REQUEST with NOP runs in the pass over the
mailboxes. -/
theorem sessionsAct : Obligations.SessionsAct := by
  intro s d hq n
  refine ⟨fun hok hallows hrange hm => ⟨mgmtOpen_opens hok hallows hrange hm, mgmtOpen_refused hok hallows hrange⟩, mgmtKeepalive_keeps,
    fun x hx hok => ⟨?_, ?_, ?_⟩, fun hok hsession => ?_, fun k hquiet => ?_⟩
  · exact fun hseq hidle bytes hcached => mgmtRequest_repeats hx hok hseq hidle hcached
  · exact mgmtRequest_waits hx hok
  · exact mgmtRequest_nop hq hx hok
  · exact ⟨_, mgmtClose_ends hok hsession, State.endSession_owners d.session⟩
  · exact ⟨_, sessionTimeout_ends hquiet, State.endSession_owners k⟩

end Sys2Proof.Machine

/-! ## Causes that an event sets stay set (R391), and the end of the lease (R363, R369, R377) -/

namespace Sys2Proof.Machine

/-- No cause clears. -/
def State.KeepsCauses (s t : State) : Prop := ∀ k, s.intr.cause.getLsbD k = true → t.intr.cause.getLsbD k = true

theorem State.KeepsCauses.of_eq {s t : State} (h : t.intr = s.intr) : s.KeepsCauses t := fun _ hk => h ▸ hk

theorem State.KeepsCauses.refl (s : State) : s.KeepsCauses s := fun _ hk => hk

theorem State.KeepsCauses.trans {s t u : State} (h1 : s.KeepsCauses t) (h2 : t.KeepsCauses u) : s.KeepsCauses u := fun k hk => h2 k (h1 k hk)

/-- A change of what is no interrupt may come first. -/
theorem State.KeepsCauses.after {s t u : State} (h : t.KeepsCauses u) (hintr : t.intr = s.intr) : s.KeepsCauses u := (State.KeepsCauses.of_eq hintr).trans h

theorem foldl_keepsCauses {α : Type} {f : State → α → State} (h : ∀ s a, State.KeepsCauses s (f s a)) (l : List α) (s : State) :
    s.KeepsCauses (l.foldl f s) :=
  List.foldlRecOn (motive := s.KeepsCauses) l f (.refl s) fun u hu a _ => hu.trans (h u a)

theorem State.setCause_keepsCauses (s : State) (c : Nat) : s.KeepsCauses (s.setCause c) := by
  intro k hk
  by_cases hrange : k < 16
  · rw [s.setCause_cause c hrange, hk, Bool.true_or]
  · exact absurd hk (by rw [BitVec.getLsbD_of_ge _ _ (Nat.not_lt.1 hrange)]; decide)

theorem State.setHolding_keepsCauses (s : State) (l : List Nat) : s.KeepsCauses (s.setHolding l) :=
  foldl_keepsCauses (fun u c => by
    split
    · exact u.setCause_keepsCauses c
    · exact .refl u) l s

theorem State.sendEventDatagrams_keepsCauses (s : State) (es : List EventEntry) : s.KeepsCauses (s.sendEventDatagrams es) := by
  have hemit (u : State) (o : OutItem) : u.KeepsCauses (u.emit o) := .of_eq rfl
  exact foldl_keepsCauses (fun u _ => foldl_keepsCauses (fun v _ => hemit v _) es u) _ s

theorem State.sendSyslog_keepsCauses (s : State) (e : LogEntry) : s.KeepsCauses (s.sendSyslog e) := by
  unfold State.sendSyslog
  split <;> exact .of_eq rfl

/-- What delivering an entry does after the causes of its code are set. -/
theorem State.deliverPlain_latched (s : State) (e : LogEntry) (always : Bool) : (s.latch e.code).KeepsCauses (s.deliverPlain e always) := by
  have hqueue (u : State) (q : EventQueue) (es : List EventEntry) : u.KeepsCauses (({ u with events := q }.sendEventDatagrams es).setHolding [0]) :=
    .after ((State.sendEventDatagrams_keepsCauses _ es).trans (State.setHolding_keepsCauses _ _)) rfl
  unfold State.deliverPlain
  dsimp only
  split
  · exact (hqueue _ _ _).trans (State.sendSyslog_keepsCauses _ e)
  · exact State.sendSyslog_keepsCauses _ e

theorem State.latch_keepsCauses (s : State) (code : Nat) : s.KeepsCauses (s.latch code) := by
  have hcause (u : State) (p : Prop) [Decidable p] (c : Nat) : u.KeepsCauses (if p then u.setCause c else u) := by
    split
    · exact u.setCause_keepsCauses c
    · exact .refl u
  have halarm : s.KeepsCauses (if severityOf code = 3 then { s with health := { s.health with alarm := true } } else s) := by split <;> exact .of_eq rfl
  exact (halarm.trans (hcause _ _ 15)).trans (hcause _ _ 14)

theorem State.deliverPlain_keepsCauses (s : State) (e : LogEntry) (always : Bool) : s.KeepsCauses (s.deliverPlain e always) :=
  (s.latch_keepsCauses e.code).trans (s.deliverPlain_latched e always)

theorem State.logPlain_keepsCauses (s : State) (e : LogEntry) : s.KeepsCauses (s.logPlain e) := by
  have hput : (s.logPut e).intr = s.intr := by
    unfold State.logPut State.tail
    split <;> rfl
  unfold State.logPlain
  split
  · exact .of_eq rfl
  · split
    · split
      · exact .of_eq rfl
      · exact .of_eq hput
    · split <;> exact .of_eq rfl

section
variable {push : State → LogEntry → State} (hpush : ∀ s e, State.KeepsCauses s (push s e))
include hpush

theorem State.badSlot_keepsCauses (s : State) (e : LogEntry) : s.KeepsCauses (s.badSlot push e) := by
  have hfail (u : State) (seq : Nat) (dead : Bool) : u.KeepsCauses (u.mediaFail push seq dead) := .after (hpush _ _) rfl
  unfold State.badSlot
  dsimp only
  split
  · exact (hfail s _ _).trans (.after (hfail _ _ _) rfl)
  · exact hfail s _ _

end

theorem State.overflowMark_keepsCauses (s : State) (m : LogEntry) : s.KeepsCauses (s.overflowMark m) := by
  have hpushed : s.KeepsCauses ((s.logPlain m).deliverPlain m true) := (s.logPlain_keepsCauses m).trans (State.deliverPlain_keepsCauses _ m true)
  unfold State.overflowMark
  dsimp only
  split
  · exact hpushed.trans (.after (State.badSlot_keepsCauses (fun u x => u.deliverPlain_keepsCauses x false) _ m) rfl)
  · exact hpushed.trans (.of_eq rfl)

/-- An entry is delivered last, whether or not an overflow is noted first. -/
theorem State.deliver_latched (s : State) (e : LogEntry) : ∃ u : State, s.KeepsCauses u ∧ s.deliver e = u.deliverPlain e false := by
  unfold State.deliver
  split
  · let m := s.newEntry 0x0001 0xFF (leBytes 4 s.events.lost)
    have hentry : m.2.intr = s.intr := rfl
    exact ⟨m.2.overflowMark m.1, (m.2.overflowMark_keepsCauses m.1).after hentry, rfl⟩
  · exact ⟨s, .refl s, rfl⟩

theorem State.deliver_keepsCauses (s : State) (e : LogEntry) : s.KeepsCauses (s.deliver e) := by
  obtain ⟨u, hu, heq⟩ := s.deliver_latched e
  rw [heq]
  exact hu.trans (u.deliverPlain_keepsCauses e false)

theorem State.logStore_keepsCauses (s : State) (e : LogEntry) : s.KeepsCauses (s.logStore e) := by
  unfold State.logStore
  split
  · exact (s.logPlain_keepsCauses e).trans (State.badSlot_keepsCauses State.deliver_keepsCauses _ e)
  · exact s.logPlain_keepsCauses e

theorem State.deferEpisode_keepsCauses (s : State) (op : HoldOp) : s.KeepsCauses (s.deferEpisode op) := by
  unfold State.deferEpisode
  split
  · exact .refl s
  · exact .after ((State.logStore_keepsCauses _ _).trans (State.deliver_keepsCauses _ _)) rfl

theorem State.logWrite_keepsCauses (s : State) (e : LogEntry) : s.KeepsCauses (s.logWrite e) := by
  unfold State.logWrite
  split
  · exact .of_eq rfl
  · split
    · exact (s.logPlain_keepsCauses e).trans (State.deferEpisode_keepsCauses _ .log)
    · exact .after (State.logStore_keepsCauses _ e) rfl

theorem State.raiseOne_intr (s : State) (code die : Nat) (detail : List Byte) : (s.raiseOne code die detail).intr =
    (((s.newEntry code die detail).2.logWrite (s.newEntry code die detail).1).deliver (s.newEntry code die detail).1).intr := by
  unfold State.raiseOne
  dsimp only
  split <;> rfl

theorem State.raiseOne_keepsCauses (s : State) (code die : Nat) (detail : List Byte) : s.KeepsCauses (s.raiseOne code die detail) := by
  refine .trans ?_ (.of_eq (s.raiseOne_intr code die detail))
  exact .after ((State.logWrite_keepsCauses _ _).trans (State.deliver_keepsCauses _ _)) rfl

theorem State.evident_keepsCauses (s : State) (kind die index new : Nat) : s.KeepsCauses (s.evident kind die index new) := by
  have hstore (u : State) : u.KeepsCauses u.storeNor := by
    unfold State.storeNor State.noteDeath
    split
    · exact .of_eq rfl
    · split <;> exact .after ((State.deferEpisode_keepsCauses _ .page).trans (.of_eq rfl)) rfl
  have hrecord (u : State) (x : UnitRecord) : u.KeepsCauses (u.record x) := by
    unfold State.record
    dsimp only
    split
    · exact .refl u
    · exact .after (State.raiseOne_keepsCauses _ _ _ _) rfl
  unfold State.evident State.reconcile
  dsimp only
  split
  · split
    · exact .of_eq rfl
    · exact .after ((foldl_keepsCauses hrecord _ _).trans (hstore _)) rfl
  · exact .of_eq rfl

/-- The event of a broken lease sets cause 14 (R377, R391). -/
theorem State.raise_cause_lease (s : State) (die : Nat) (detail : List Byte) : (s.raise 0x0002 die detail).intr.cause.getLsbD 14 = true := by
  have hone : (s.raiseOne 0x0002 die detail).intr.cause.getLsbD 14 = true := by
    rw [State.raiseOne_intr]
    obtain ⟨u, -, heq⟩ := ((s.newEntry 0x0002 die detail).2.logWrite (s.newEntry 0x0002 die detail).1).deliver_latched (s.newEntry 0x0002 die detail).1
    rw [heq]
    refine u.deliverPlain_latched _ _ 14 ?_
    show (State.setCause _ 14).intr.cause.getLsbD 14 = true
    rw [State.setCause_cause _ _ (by decide), decide_eq_true rfl, Bool.or_true]
  unfold State.raise
  dsimp only
  split
  · exact State.evident_keepsCauses _ _ _ _ _ 14 hone
  · exact hone

/-! ### The lease ends (R363, R377) -/

/-- A lease that is broken is nobody's, and its staging is gone. -/
theorem State.breakLease_lease {s : State} {o : Bool × Nat} (h : s.lease.owner = some o) (cause : Nat) :
    (s.breakLease cause).lease.owner = none ∧ (s.breakLease cause).lease.staged = [] := by
  unfold State.breakLease
  rw [h]
  dsimp only
  rw [State.raise_lease]
  exact ⟨rfl, rfl⟩

theorem State.breakLease_cause {s : State} {o : Bool × Nat} (h : s.lease.owner = some o) (cause : Nat) :
    (s.breakLease cause).intr.cause.getLsbD 14 = true := by
  unfold State.breakLease
  rw [h]
  exact State.raise_cause_lease _ _ _

theorem leaseExpiry_breaks {s : State} (hleft : s.lease.leftMs = 0) (howner : s.lease.owner.isSome = true) : Gives .leaseExpiry s fun t =>
    t.lease.owner = none ∧ t.lease.staged = [] ∧ t.mail = s.mail ∧ t.intr.cause.getLsbD 14 = true := by
  obtain ⟨o, ho⟩ := Option.isSome_iff_exists.1 howner
  obtain ⟨hnobody, hstaged⟩ := s.breakLease_lease ho 1
  exact ⟨_, congrArg Host.Outcome.next (if_pos hleft), hnobody, hstaged, s.breakLease_mail 1, s.breakLease_cause ho 1⟩

/-! ### The PCIe owner ends (R363) -/

/-- The mailboxes of the PCIe owner end. -/
def State.endPcieBoxes (s : State) : State :=
  { s with mail := { s.mail with boxes := updateAll (fun b => b.owned && !b.ethernet) Mailbox.endOwner s.mail.boxes } }

theorem exec_ownerReset (kind : OwnerResetKind) (s : State) : exec (.ownerReset kind) s = .next (match s.lease.owner with
    | some (false, _) => s.endPcieBoxes.breakLease 2
    | _ => s.endPcieBoxes) := by
  cases kind <;> rfl

theorem ownerReset_ends (s : State) (kind : OwnerResetKind) : Gives (.ownerReset kind) s fun t =>
    (∀ b ∈ t.mail.boxes, b.owned = true → b.ethernet = false → b.busy = true) ∧ (∀ id, t.lease.owner ≠ some (false, id)) ∧
      (∀ id, s.lease.owner = some (false, id) → t.lease.staged = []) ∧ (∀ id, s.lease.owner = some (true, id) → t.lease = s.lease) := by
  have hboxes : ∀ b ∈ s.endPcieBoxes.mail.boxes, b.owned = true → b.ethernet = false → b.busy = true := fun b hb howned hethernet =>
    busy_of_updateAll_endOwner hb howned (by simp [howned, hethernet])
  refine ⟨_, exec_ownerReset kind s, ?_⟩
  cases howner : s.lease.owner with
  | none => exact ⟨hboxes, fun id => by simp [State.endPcieBoxes, howner], nofun, nofun⟩
  | some o =>
    obtain ⟨ethernet, id⟩ := o
    cases ethernet with
    | true => exact ⟨hboxes, fun id => by simp [State.endPcieBoxes, howner], nofun, fun _ _ => rfl⟩
    | false =>
      obtain ⟨hnobody, hstaged⟩ := State.breakLease_lease (s := s.endPcieBoxes) howner 2
      refine ⟨?_, fun id => ?_, fun _ _ => hstaged, nofun⟩
      · dsimp only
        rw [State.breakLease_mail]
        exact hboxes
      · dsimp only
        rw [hnobody]
        nofun

/-- Settles O32: the broken lease is nobody's and its event sets cause 14; a reset of the PCIe owner breaks its lease and ends its mailboxes. -/
theorem leaseAndOwnersEnd : Obligations.LeaseAndOwnersEnd := by
  intro s
  refine ⟨leaseExpiry_breaks, ownerReset_ends s, fun hup haddr => ?_, fun hup haddr => ?_⟩
  · exact congrArg Host.Outcome.next (if_pos (by rw [hup, bne_iff_ne.2 haddr, beq_self_eq_true]; rfl))
  · exact congrArg Host.Outcome.next (if_pos (by rw [hup, bne_iff_ne.2 haddr, beq_self_eq_true]; rfl))

end Sys2Proof.Machine

/-! ## BAR2 (R361, R405, R407, R409, R418) -/

namespace Sys2Proof.Machine

/-! ### A read of package memory, byte by byte -/

theorem find?_dropWhile {α : Type} {p q : α → Bool} (h : ∀ c, p c = true → q c = false) (l : List α) : (l.dropWhile p).find? q = l.find? q := by
  induction l with
  | nil => rfl
  | cons c l ih =>
    by_cases hc : p c = true
    · rw [List.dropWhile_cons_of_pos hc, ih, List.find?_cons, h c hc]
    · rw [List.dropWhile_cons_of_neg hc]

/-- In an ordered list a key below a bound stands before everything that is not. -/
theorem find?_takeWhile_lt {l : List Host.Cell} (hsorted : l.Pairwise fun c e => c.1 < e.1) {x b : Nat} (hx : x < b) :
    (l.takeWhile fun c => decide (c.1 < b)).find? (·.1 == x) = l.find? (·.1 == x) := by
  induction l with
  | nil => rfl
  | cons c l ih =>
    obtain ⟨hfirst, hrest⟩ := List.pairwise_cons.1 hsorted
    by_cases hc : c.1 < b
    · rw [List.takeWhile_cons, decide_eq_true hc, if_pos rfl, List.find?_cons, List.find?_cons, ih hrest]
    · have hnone : (c :: l).find? (·.1 == x) = none := by
        rw [List.find?_eq_none]
        intro e he
        rw [beq_iff_eq]
        rcases List.mem_cons.1 he with rfl | he
        · omega
        · have := hfirst e he
          omega
      rw [List.takeWhile_cons, decide_eq_false hc, if_neg Bool.false_ne_true, hnone]
      rfl

/-- Byte `i` of a read of well-formed memory is the byte at that address. -/
theorem Memory.getElem?_read {m : List Host.Cell} (h : Memory.wf m = true) {a n i : Nat} (hi : i < n) :
    (Memory.read m a n)[i]? = some (Memory.get m (a + i)) := by
  have hsorted := (Memory.wf_iff m).1 h |>.1
  have hfind : ((m.dropWhile fun c => decide (c.1 < a)).takeWhile fun c => decide (c.1 < a + n)).find? (·.1 == a + i) = m.find? (·.1 == a + i) := by
    rw [find?_takeWhile_lt (hsorted.sublist (List.dropWhile_sublist _)) (by omega)]
    refine find?_dropWhile (fun c hc => ?_) m
    rw [beq_eq_false_iff_ne]
    have := of_decide_eq_true hc
    omega
  unfold Memory.read
  dsimp only
  rw [List.getElem?_map, List.getElem?_range hi, Option.map_some, Memory.get, hfind]
  rfl

/-- A read gives as many bytes as it asks for; in areas that the host may know, those of memory. -/
theorem State.pkgRead_gives (s : State) (a n : Nat) : (s.pkgRead a n).1.length = n ∧ ∀ i, i < n → s.Sound → s.opaqueArea (a + i) = false →
    inLog (a + i) = false → (s.pkgRead a n).1[i]? = some (Memory.get s.fabric.mem (a + i)) := by
  constructor
  · simp [State.pkgRead, State.memRead, Memory.read]
  · intro i hi hsound hopaque hlog
    have hread : (s.memRead a n)[i]? = some (Memory.get s.fabric.mem (a + i)) := Memory.getElem?_read hsound hi
    unfold State.pkgRead
    simp [hread, hopaque, hlog]

/-- A read of package memory uses up free values at most. -/
theorem State.pkgRead_state (s : State) (a n : Nat) : ∃ k, (s.pkgRead a n).2 = { s with free := k } := by
  unfold State.pkgRead
  dsimp only
  split
  · exact ⟨_, rfl⟩
  · exact ⟨s.free, rfl⟩

/-! ### A write of package memory -/

/-- The bytes of a write that the NOR store's reserved part does not take away (R399). -/
def stored (a : Nat) (d : List Byte) : List Byte := if norBase ≤ a ∧ a < norBase + norSize then d.take (norReserve - a) else d

/-- What an access of memory leaves: the host's registers, the configuration, the mailboxes and the requests held at the masters. -/
structure State.Accessed (s t : State) : Prop where
  regs : t.regs = s.regs
  cfg : t.cfg = s.cfg
  mail : t.mail = s.mail
  held : t.fabric.held = s.fabric.held

theorem State.Accessed.trans {s t u : State} (h : s.Accessed t) (g : t.Accessed u) : s.Accessed u :=
  ⟨g.regs.trans h.regs, g.cfg.trans h.cfg, g.mail.trans h.mail, g.held.trans h.held⟩

theorem State.pkgWrite_gives (s : State) (a : Nat) (d : List Byte) :
    (s.pkgWrite a d).fabric.mem = Memory.write s.fabric.mem a (stored a d) ∧ s.Accessed (s.pkgWrite a d) := by
  unfold State.pkgWrite
  dsimp only
  split <;> exact ⟨rfl, rfl, rfl, rfl, rfl⟩

/-- A host reaches no NOR store to write, so all of a write that reaches its target is stored (R418). -/
theorem stored_of_reaches {s : State} {die a : Nat} {d : List Byte} (h : s.reaches .pcie die true a d.length = true) : stored a d = d := by
  unfold stored
  split
  next hnor =>
    have hlimited : s.limited .pcie true a = true := by simp [State.limited, inNor, hnor]
    have hempty : d = [] := by
      cases htarget : s.targetOf die a <;> simpa [State.reaches, rangeIn, hlimited, htarget] using h
    rw [hempty, List.take_nil]
  next => rfl

/-! ### A request at a controller that is idle (R409, R414) -/

theorem State.releaseRequests_of_none {s : State} (h : s.fabric.held = []) : s.releaseRequests = s := by
  have hspace : s.giveSpace = { s with fabric := { s.fabric with held := s.fabric.held } } := by
    unfold State.giveSpace
    dsimp only
    rw [h]
    rfl
  rw [State.releaseRequests, h]
  exact hspace

/-- A change of nothing but the stacks and the requests in flight. -/
def State.withRequests (s : State) (hbm : List HbmStack) (inFlight : List (MatrixRequest × Nat)) : State :=
  { s with fabric := { s.fabric with hbm := hbm, inFlight := inFlight } }

/-- The one request in flight is at the head of its stack's order. -/
theorem State.atHead_of_one {s : State} {x : MatrixRequest × Nat} (h : s.fabric.inFlight = [x]) : s.atHead x = true := by
  simp [State.atHead, h, servable]

/-- What `controllerIdle` says, part by part. -/
structure Idle (s : State) (die : Nat) : Prop where
  stack : die < s.fabric.hbm.length
  held : s.fabric.held = []
  inFlight : s.fabric.inFlight = []
  behind : (s.stack die).behind = []
  calm : (s.stack die).panic = false
  awake : (s.stack die).selfRefresh = false

theorem idle_of_controllerIdle {s : State} {die : Nat} (h : controllerIdle s die = true) : Idle s die := by
  simp only [controllerIdle, Bool.and_eq_true, decide_eq_true_eq, List.isEmpty_iff, Bool.not_eq_true'] at h
  obtain ⟨⟨⟨⟨⟨hstack, hheld⟩, hflight⟩, hbehind⟩, hcalm⟩, hawake⟩ := h
  exact ⟨hstack, hheld, hflight, hbehind, hcalm, hawake⟩

/-- A request that an idle controller is named is served at once. -/
theorem State.name_of_idle {s : State} {die : Nat} (h : Idle s die) (r : MatrixRequest) (ecc : EccSeen) : ∃ hbm,
    s.name die r false ecc = ((s.withRequests hbm [(r, s.timeNs)]).hbmServe die (r, s.timeNs) false ecc).releaseRequests := by
  let x : MatrixRequest × Nat := (r, s.timeNs)
  let w : NamedRequest := { req := x, ecc := ecc, realTime := false }
  let u := (s.withRequests s.fabric.hbm [x]).modStack die fun h => { h with behind := h.behind ++ [w] }
  have harrive : s.hbmArrive r = (x, s.withRequests s.fabric.hbm [x]) := by
    rw [State.hbmArrive, h.inFlight]
    rfl
  have hstack : u.stack die = { s.stack die with behind := (s.stack die).behind ++ [w] } := State.stack_modStack h.stack _
  rw [h.behind, List.nil_append] at hstack
  have hnext : u.nextNamed die = some w := by
    rw [State.nextNamed, hstack]
    dsimp only
    rw [h.awake, if_neg Bool.false_ne_true, h.calm, if_neg Bool.false_ne_true, List.find?_cons, State.atHead_of_one rfl]
  refine ⟨(u.fabric.hbm.modify die fun h => { h with behind := h.behind.erase w }), ?_⟩
  unfold State.name
  rw [harrive]
  show (State.serveNamed die (u.stack die).behind.length u).releaseRequests = _
  rw [hstack, List.length_singleton, State.serveNamed, hnext]
  rfl

/-- A stack in panic that only requests of lower priority wait for serves none of them (R407). -/
theorem State.name_of_panic {s : State} {die : Nat} (hpanic : (s.stack die).panic = true) (hbehind : ∀ w ∈ (s.stack die).behind, w.realTime = false)
    (hheld : s.fabric.held = []) (r : MatrixRequest) (ecc : EccSeen) : ∃ hbm inFlight, s.name die r false ecc = s.withRequests hbm inFlight := by
  have hstack : die < s.fabric.hbm.length := by
    by_contra hd
    rw [State.stack, List.getD_eq_default _ _ (Nat.not_lt.1 hd)] at hpanic
    exact Bool.false_ne_true hpanic
  obtain ⟨x, inFlight, harrive⟩ : ∃ x inFlight, s.hbmArrive r = (x, s.withRequests s.fabric.hbm inFlight) := by
    unfold State.hbmArrive
    cases s.fabric.inFlight.find? (·.1 == r) with
    | none => exact ⟨_, _, rfl⟩
    | some x => exact ⟨_, s.fabric.inFlight, rfl⟩
  let u := (s.withRequests s.fabric.hbm inFlight).modStack die fun h => { h with behind := h.behind ++ [{ req := x, ecc := ecc, realTime := false }] }
  have hu : u.stack die = { s.stack die with behind := (s.stack die).behind ++ [{ req := x, ecc := ecc, realTime := false }] } :=
    State.stack_modStack hstack _
  have hnext : u.nextNamed die = none := by
    rw [State.nextNamed, hu]
    dsimp only
    rw [hpanic, if_pos rfl]
    refine ite_eq_left_iff.2 fun _ => List.find?_eq_none.2 fun w hw => ?_
    rcases List.mem_append.1 hw with hw | hw
    · rw [hbehind w hw]
      exact Bool.false_ne_true
    · rw [List.mem_singleton.1 hw]
      exact Bool.false_ne_true
  have hserve (n : Nat) : State.serveNamed die n u = u := by
    cases n with
    | zero => rfl
    | succ n => rw [State.serveNamed, hnext]
  refine ⟨u.fabric.hbm, inFlight, ?_⟩
  unfold State.name
  rw [harrive]
  show (State.serveNamed die (u.stack die).behind.length u).releaseRequests = _
  rw [hserve]
  exact State.releaseRequests_of_none hheld

/-! ### What the controller serves (R405, R409) -/

/-- A host's write without an error of the code is a write of package memory. -/
theorem State.hbmServe_write (s : State) (die a len : Nat) (d : List Byte) (since : Nat) :
    ∃ u : State, s.hbmServe die ({ write := true, addr := a, len := len, data := d }, since) false .clean = u.pkgWrite a d ∧ u.fabric.mem = s.fabric.mem ∧
      s.Accessed u := by
  unfold State.hbmServe
  dsimp only
  rw [if_pos rfl, if_neg Bool.false_ne_true]
  split <;> exact ⟨_, rfl, rfl, rfl, rfl, rfl, rfl⟩

/-- A host's read without an error of the code is a read of package memory, answered. -/
theorem State.hbmServe_read (s : State) (die a len : Nat) (d : List Byte) (since : Nat) :
    ∃ u : State, s.hbmServe die ({ write := false, addr := a, len := len, data := d }, since) false .clean =
        (u.pkgRead a len).2.emit (.pcieData (u.pkgRead a len).1 false) ∧ u.fabric.mem = s.fabric.mem ∧ s.Accessed u ∧ u.out = s.out :=
  ⟨_, rfl, rfl, ⟨rfl, rfl, rfl, rfl⟩, rfl⟩

/-! ### An access of the window (R361, R418) -/

/-- The package address of an offset in the window (R361). -/
def State.windowAddr (s : State) (off : Nat) : Nat := s.regs.winSel.toNat * 2 ^ 36 + off

theorem exec_bar2Access (who : Nat) (write : Bool) (off len : Nat) (data : List Byte) (ecc : EccSeen) (s : State) :
    exec (.bar2Access who write off len data ecc) s = .next (s.hostAccess (·.bar2 who write off len data ecc)) := rfl

theorem bar2Access_of_mail {s u : State} (hq : HostQuiet s) {who off len : Nat} {write : Bool} {data : List Byte} {ecc : EccSeen}
    (hu : s.bar2 who write off len data ecc = u) (hmail : u.mail = s.mail) : exec (.bar2Access who write off len data ecc) s = .next u := by
  rw [exec_bar2Access, State.hostAccess_of_quiet hq (hu ▸ hmail), hu]

theorem State.opaqueArea_congr {s t : State} (h : t.cfg = s.cfg) (a : Nat) : t.opaqueArea a = s.opaqueArea a := by rw [State.opaqueArea, State.opaqueArea, h]

/-- Nothing holds back a request for an idle controller. -/
theorem State.holdsBack_of_idle {s : State} {die : Nat} (h : Idle s die) {r : MatrixRequest} (hspace : r.responseSpace = true) :
    s.holdsBack (s.fabric.held.map (·.1)) r = false := by
  simp [State.holdsBack, h.held, h.inFlight, hspace]

section
variable {s : State} {who off len a : Nat} {write : Bool} {data : List Byte} {ecc : EccSeen}

/-- An access that reaches a stack, and that nothing holds back, is named at its controller. -/
theorem State.bar2_named (ha : s.windowAddr off = a) (hreaches : s.reaches .pcie 0 write a (if write then data.length else len) = true)
    (hhbm : s.inHbm a = true)
    (hfree : s.holdsBack (s.fabric.held.map (·.1)) { write := write, addr := a, len := len, data := data } = false) :
    s.bar2 who write off len data ecc = s.name (dieOfAddr a) { write := write, addr := a, len := len, data := data } false ecc := by
  unfold State.bar2
  extract_lets b n
  obtain rfl : b = a := ha
  clear_value b
  rw [hreaches, Bool.not_true, if_neg Bool.false_ne_true, hhbm, if_pos rfl, hfree, if_neg Bool.false_ne_true]

/-- One that is held back waits at its master (R417). -/
theorem State.bar2_held (ha : s.windowAddr off = a) (hreaches : s.reaches .pcie 0 write a (if write then data.length else len) = true)
    (hhbm : s.inHbm a = true)
    (hheld : s.holdsBack (s.fabric.held.map (·.1)) { write := write, addr := a, len := len, data := data } = true) :
    s.bar2 who write off len data ecc = { s with fabric := { s.fabric with
      held := s.fabric.held ++ [({ write := write, addr := a, len := len, data := data }, s.timeNs)] } } := by
  unfold State.bar2
  extract_lets b n
  obtain rfl : b = a := ha
  clear_value b
  rw [hreaches, Bool.not_true, if_neg Bool.false_ne_true, hhbm, if_pos rfl, hheld, if_pos rfl]

theorem State.sramRead_clean (s : State) (a : Nat) : s.sramRead a .clean = s := by
  unfold State.sramRead
  split <;> rfl

/-- An access that reaches another target than a stack is made at once. -/
theorem State.bar2_other (ha : s.windowAddr off = a) (hreaches : s.reaches .pcie 0 write a (if write then data.length else len) = true)
    (hhbm : s.inHbm a = false) (hregs : inRegs a = false) : s.bar2 who write off len data .clean =
      if write then s.pkgWrite a data else (s.pkgRead a len).2.emit (.pcieData (s.pkgRead a len).1 false) := by
  have hwrite : s.busWrite .pcie (some who) a data = s.pkgWrite a data := if_neg (ne_true_of_eq_false hregs)
  have hread : s.busRead a len = s.pkgRead a len := if_neg (ne_true_of_eq_false hregs)
  unfold State.bar2
  extract_lets b n
  obtain rfl : b = a := ha
  clear_value b
  rw [hreaches, Bool.not_true, if_neg Bool.false_ne_true, hhbm, if_neg Bool.false_ne_true, hwrite, sramMet, State.sramRead_clean, hread]

/-- A write that reaches its target changes just its bytes. -/
theorem State.bar2_write (ha : s.windowAddr off = a) (hreaches : s.reaches .pcie 0 true a data.length = true) (hregs : inRegs a = false)
    (hidle : s.inHbm a = false ∨ controllerIdle s (dieOfAddr a) = true) :
    (s.bar2 who true off len data .clean).fabric.mem = Memory.write s.fabric.mem a data ∧
      s.Accessed (s.bar2 who true off len data .clean) := by
  have hput (u : State) (hmem : u.fabric.mem = s.fabric.mem) (haccessed : s.Accessed u) :
      (u.pkgWrite a data).fabric.mem = Memory.write s.fabric.mem a data ∧ s.Accessed (u.pkgWrite a data) := by
    obtain ⟨hmem', haccessed'⟩ := u.pkgWrite_gives a data
    exact ⟨by rw [hmem', hmem, stored_of_reaches hreaches], haccessed.trans haccessed'⟩
  cases hhbm : s.inHbm a with
  | true =>
    have h := idle_of_controllerIdle (hidle.resolve_left (by rw [hhbm]; decide))
    obtain ⟨hbm, hname⟩ := State.name_of_idle h { write := true, addr := a, len := len, data := data } .clean
    obtain ⟨u, hserve, hmem, haccessed⟩ :=
      (s.withRequests hbm [({ write := true, addr := a, len := len, data := data }, s.timeNs)]).hbmServe_write (dieOfAddr a) a len data s.timeNs
    obtain ⟨hwritten, hput'⟩ := hput u hmem ⟨haccessed.regs, haccessed.cfg, haccessed.mail, haccessed.held⟩
    have hheld : (u.pkgWrite a data).fabric.held = [] := hput'.held.trans h.held
    rw [State.bar2_named ha hreaches hhbm (State.holdsBack_of_idle h rfl), hname, hserve, State.releaseRequests_of_none hheld]
    exact ⟨hwritten, hput'⟩
  | false =>
    rw [State.bar2_other ha hreaches hhbm hregs]
    exact hput s rfl ⟨rfl, rfl, rfl, rfl⟩

/-- A read that reaches its target answers the bytes there. -/
theorem State.bar2_read (ha : s.windowAddr off = a) (hreaches : s.reaches .pcie 0 false a len = true) (hregs : inRegs a = false)
    (hidle : s.inHbm a = false ∨ controllerIdle s (dieOfAddr a) = true) :
    ∃ u : State, s.bar2 who false off len data .clean = (u.pkgRead a len).2.emit (.pcieData (u.pkgRead a len).1 false) ∧
      u.fabric.mem = s.fabric.mem ∧ s.Accessed u ∧ u.out = s.out := by
  cases hhbm : s.inHbm a with
  | true =>
    have h := idle_of_controllerIdle (hidle.resolve_left (by rw [hhbm]; decide))
    obtain ⟨hbm, hname⟩ := State.name_of_idle h { write := false, addr := a, len := len, data := data } .clean
    obtain ⟨u, hserve, hmem, haccessed, hout⟩ :=
      (s.withRequests hbm [({ write := false, addr := a, len := len, data := data }, s.timeNs)]).hbmServe_read (dieOfAddr a) a len data s.timeNs
    have hheld : ((u.pkgRead a len).2.emit (.pcieData (u.pkgRead a len).1 false)).fabric.held = [] := by
      obtain ⟨k, hk⟩ := u.pkgRead_state a len
      rw [hk]
      exact haccessed.held.trans h.held
    refine ⟨u, ?_, hmem, ⟨haccessed.regs, haccessed.cfg, haccessed.mail, haccessed.held⟩, hout⟩
    rw [State.bar2_named ha hreaches hhbm (State.holdsBack_of_idle h rfl), hname, hserve, State.releaseRequests_of_none hheld]
  | false => exact ⟨s, State.bar2_other ha hreaches hhbm hregs, rfl, ⟨rfl, rfl, rfl, rfl⟩, rfl⟩

theorem bar2Access_writes (hq : HostQuiet s) (ha : s.windowAddr off = a) (hreaches : s.reaches .pcie 0 true a data.length = true) (hregs : inRegs a = false)
    (hidle : s.inHbm a = false ∨ controllerIdle s (dieOfAddr a) = true) : Gives (.bar2Access who true off len data .clean) s fun t =>
      t.fabric.mem = Memory.write s.fabric.mem a data ∧ t.regs = s.regs ∧ t.cfg = s.cfg := by
  obtain ⟨hmem, haccessed⟩ := State.bar2_write (who := who) (len := len) ha hreaches hregs hidle
  exact ⟨_, bar2Access_of_mail hq rfl haccessed.mail, hmem, haccessed.regs, haccessed.cfg⟩

theorem bar2Access_reads (hq : HostQuiet s) (ha : s.windowAddr off = a) (hreaches : s.reaches .pcie 0 false a len = true) (hregs : inRegs a = false)
    (hidle : s.inHbm a = false ∨ controllerIdle s (dieOfAddr a) = true) : Gives (.bar2Access who false off len data .clean) s fun t =>
      t.fabric.mem = s.fabric.mem ∧ ∃ d, d.length = len ∧ t.out = .pcieData d false :: s.out ∧
        (∀ i, i < len → s.Sound → s.opaqueArea (a + i) = false → inLog (a + i) = false → d[i]? = some (Memory.get s.fabric.mem (a + i))) := by
  obtain ⟨u, hbar2, hmem, haccessed, hout⟩ := State.bar2_read (who := who) (data := data) ha hreaches hregs hidle
  obtain ⟨k, hk⟩ := u.pkgRead_state a len
  obtain ⟨hlen, hbytes⟩ := u.pkgRead_gives a len
  rw [hk] at hbar2
  refine ⟨_, bar2Access_of_mail hq hbar2 haccessed.mail, hmem, _, hlen, congrArg (_ :: ·) hout, fun i hi hsound hopaque hlog => ?_⟩
  rw [hbytes i hi (by rwa [State.Sound, hmem]) (by rwa [State.opaqueArea_congr haccessed.cfg]) hlog, hmem]

/-- What reaches no target is noted with its address (R418). -/
theorem State.defaultTarget_gives (s : State) (die a : Nat) : (s.defaultTarget .pcie die a).fabric.mem = s.fabric.mem ∧
    (s.defaultTarget .pcie die a).regs.globalErr.getLsbD 0 = true ∧ (s.defaultTarget .pcie die a).regs.defaultAddr = BitVec.ofNat 40 a ∧
    (s.defaultTarget .pcie die a).mail = s.mail := by
  have hnote (u : State) (hu : u.fabric.mem = s.fabric.mem ∧ u.mail = s.mail) : (u.setDefaultTarget a).fabric.mem = s.fabric.mem ∧
      (u.setDefaultTarget a).regs.globalErr.getLsbD 0 = true ∧ (u.setDefaultTarget a).regs.defaultAddr = BitVec.ofNat 40 a ∧
      (u.setDefaultTarget a).mail = s.mail := by
    unfold State.setDefaultTarget State.setGlobalErr
    dsimp only
    rw [State.setCause_fabric, State.setCause_regs, State.setCause_mail, BitVec.getLsbD_or]
    exact ⟨hu.1, Bool.or_eq_true_iff.2 (.inr (by decide)), rfl, hu.2⟩
  unfold State.defaultTarget
  dsimp only
  refine hnote _ ?_
  split
  · rw [State.raise_fabric, State.raise_mail]
    exact ⟨rfl, rfl⟩
  · exact ⟨rfl, rfl⟩

theorem State.bar2_nowhere (ha : s.windowAddr off = a) (hreaches : s.reaches .pcie 0 write a (if write then data.length else len) = false) :
    s.bar2 who write off len data ecc =
      if write then s.defaultTarget .pcie 0 a else (s.defaultTarget .pcie 0 a).emit (.pcieData (List.replicate len 0xFF) false) := by
  unfold State.bar2
  extract_lets b n
  obtain rfl : b = a := ha
  clear_value b
  rw [hreaches, Bool.not_false, if_pos rfl]

theorem bar2Access_reads_nowhere (hq : HostQuiet s) (ha : s.windowAddr off = a) (hreaches : s.reaches .pcie 0 false a len = false) :
    Gives (.bar2Access who false off len data .clean) s fun t => t.fabric.mem = s.fabric.mem ∧ t.regs.globalErr.getLsbD 0 = true ∧
      t.regs.defaultAddr = BitVec.ofNat 40 a ∧ .pcieData (List.replicate len 0xFF) false ∈ t.out := by
  obtain ⟨hmem, herr, haddr, hmail⟩ := s.defaultTarget_gives 0 a
  exact ⟨_, bar2Access_of_mail hq (State.bar2_nowhere ha hreaches) hmail, hmem, herr, haddr, List.mem_cons_self⟩

theorem bar2Access_writes_nowhere (hq : HostQuiet s) (ha : s.windowAddr off = a) (hreaches : s.reaches .pcie 0 true a data.length = false) :
    Gives (.bar2Access who true off len data .clean) s fun t =>
      t.fabric.mem = s.fabric.mem ∧ t.regs.globalErr.getLsbD 0 = true ∧ t.regs.defaultAddr = BitVec.ofNat 40 a := by
  obtain ⟨hmem, herr, haddr, hmail⟩ := s.defaultTarget_gives 0 a
  exact ⟨_, bar2Access_of_mail hq (State.bar2_nowhere ha hreaches) hmail, hmem, herr, haddr⟩

/-- A write to a stack in panic waits, held at its master or named behind the real-time port (R407). -/
theorem bar2Access_waits (hq : HostQuiet s) (ha : s.windowAddr off = a) (hreaches : s.reaches .pcie 0 true a data.length = true)
    (hpanic : (s.stack (dieOfAddr a)).panic = true) (hhbm : s.inHbm a = true) (hbehind : ∀ w ∈ (s.stack (dieOfAddr a)).behind, w.realTime = false)
    (hheld : s.fabric.held = []) :
    Gives (.bar2Access who true off len data .clean) s fun t => t.fabric.mem = s.fabric.mem ∧ t.out = s.out := by
  cases hfree : s.holdsBack (s.fabric.held.map (·.1)) { write := true, addr := a, len := len, data := data } with
  | false =>
    obtain ⟨hbm, inFlight, hname⟩ := State.name_of_panic hpanic hbehind hheld { write := true, addr := a, len := len, data := data } .clean
    exact ⟨_, bar2Access_of_mail hq ((State.bar2_named ha hreaches hhbm hfree).trans hname) rfl, rfl, rfl⟩
  | true =>
    exact ⟨_, bar2Access_of_mail hq (State.bar2_held ha hreaches hhbm hfree) rfl, rfl, rfl⟩

end

/-- Settles O29: where the access lands decides, and an idle controller serves what it is named at once. -/
theorem bar2Reaches : Obligations.Bar2Reaches := by
  intro s who off len data hq a
  exact ⟨bar2Access_writes hq rfl, bar2Access_reads hq rfl, bar2Access_reads_nowhere hq rfl, bar2Access_writes_nowhere hq rfl,
    fun hreaches _ hpanic hhbm => bar2Access_waits hq rfl hreaches hpanic hhbm⟩

end Sys2Proof.Machine

/-! ## CONFIG_COMMIT (R339, R376) -/

namespace Sys2Proof.Machine

/-! ### What the candidate, once it is in force, concerns no more -/

/-- What the effects of a commit outside the configuration leave: package memory, the configuration, the lease, the mailboxes and the twin's roles. -/
def State.committed (s : State) : List Host.Cell × PackageCfg × Lease × Mail × TwinRole × TwinMode × Option Partner :=
  (s.fabric.mem, s.cfg, s.lease, s.mail, s.twin.role, s.twin.mode, s.twin.partner)

theorem foldl_committed {α : Type} {f : State → α → State} (h : ∀ s a, (f s a).committed = s.committed) (l : List α) (s : State) :
    (l.foldl f s).committed = s.committed :=
  List.foldlRecOn (motive := fun u : State => u.committed = s.committed) l f rfl fun u hu a _ => (h u a).trans hu

theorem State.raise_committed (s : State) (code die : Nat) (detail : List Byte) : (s.raise code die detail).committed = s.committed := by
  obtain ⟨-, l, htwin⟩ := s.raise_reports code die detail
  simp only [State.committed, State.raise_fabric, State.raise_cfg, State.raise_lease, State.raise_mail, htwin]

theorem State.clearPipe_committed (s : State) (i : Nat) : (s.clearPipe i).committed = s.committed := rfl

theorem State.commitChains_committed (s : State) (i : Nat) : (s.commitChains i).committed = s.committed := by
  have hmake (u : State) (t : Nat) : (u.makeChains i t).committed = u.committed := by
    unfold State.makeChains
    dsimp only
    split <;> rfl
  have hchange (u : State) : (u.makeChangeChains i).committed = u.committed := rfl
  unfold State.commitChains
  dsimp only
  split
  · rfl
  · split
    · rw [hchange, hmake]
    · split
      · rw [hchange]
      · rfl

theorem State.assignChains_committed (s : State) : s.assignChains.committed = s.committed := rfl

theorem applyDelayLoad_committed (args : List Byte) (s : State) : (applyDelayLoad args s).committed = s.committed :=
  (foldl_committed (f := fun u k => u.modChains (Chain.isOf (field args 0 2) (delayEntry args (field args 4 8) k).1) _) (fun _ _ => rfl) _ _).trans rfl

theorem applyWindowLoad_committed (args : List Byte) (s : State) : (applyWindowLoad args s).committed = s.committed := by
  unfold applyWindowLoad
  exact foldl_committed (fun u k => by exact rfl) _ s

theorem applyWeights_committed (args mem : List Byte) (s : State) : (applyWeights args mem s).committed = s.committed := by
  have hheal (u : State) (e : PipeEntry) (die : Nat) (keys : List (List Nat)) : (u.healItems e die .weights keys).committed = u.committed := by
    unfold State.healItems
    split <;> rfl
  have hweights : (s.healWeights (field args 0 2) (loadTargets args mem)).committed = s.committed := foldl_committed (fun u die => hheal u _ die _) _ s
  exact hweights

theorem applyTable_committed (x : Staged) (s : State) : (applyTable x s).committed = s.committed := by
  unfold applyTable
  split
  · rfl
  · exact applyDelayLoad_committed ..
  · rfl
  · exact applyWindowLoad_committed ..
  · exact applyWeights_committed ..
  · rfl

theorem State.portsUpdate_committed (s : State) : s.portsUpdate.committed = s.committed := by
  refine foldl_committed (fun u port => ?_) _ s
  have hdrop : (if u.portServes port then u else u.dropPort port).committed = u.committed := by split <;> rfl
  dsimp only
  generalize (if u.portServes port then u else u.dropPort port) = v at hdrop ⊢
  split
  · exact hdrop
  · split
    · split <;> exact hdrop
    · split
      · exact hdrop
      · rw [State.raise_committed]
        exact hdrop

theorem State.TwinSent.committed {s t : State} (h : s.TwinSent t) : t.committed = s.committed := by
  obtain ⟨_, _, _, _, rfl⟩ := h
  rfl

theorem State.journal_committed (s : State) (op : Nat) (args mem : List Byte) (handle : Nat) : (s.journal op args mem handle).committed = s.committed := by
  unfold State.journal
  dsimp only
  split
  · exact (State.sendEntry_sent _ _).committed.trans rfl
  · rfl

theorem State.journalStaged_committed (s : State) (xs : List Staged) : (s.journalStaged xs).committed = s.committed := by
  unfold State.journalStaged
  rw [foldl_committed]
  intro u x
  rw [State.journal_committed]

/-! ### The candidate takes effect (R376) -/

/-- The configuration that a commit of the candidate `c` puts in force. -/
def PackageCfg.inForce (c : PackageCfg) : PackageCfg := { c with pipes := c.pipes.map PipeEntry.commit, clearClaims := false }

theorem State.enact_committed (s : State) (c : PackageCfg) (xs : List Staged) : (s.enact c xs).committed = State.committed { s with cfg := c.inForce } := by
  have hclaims : State.committed (if c.clearClaims then
      { s with
        cfg := c.inForce
        lanes := { s.lanes with claims := List.replicate 1024 0 }
        twin := { s.twin with claim := 0, claimKnown := 0, exhausted := false, copy := s.twin.copy.map fun c => { c with claim := 0 } }
        data := { s.data with boundary := none } }
      else { s with cfg := c.inForce }) = State.committed { s with cfg := c.inForce } := by
    split <;> rfl
  unfold State.enact
  dsimp only
  rw [State.portsUpdate_committed, foldl_committed]
  · rw [foldl_committed, State.assignChains_committed, foldl_committed State.commitChains_committed, foldl_committed]
    · exact hclaims
    · intro u i
      split
      · rfl
      · split
        · rfl
        · exact u.clearPipe_committed i
    · exact fun u x => applyTable_committed x u
  · exact fun _ _ => rfl

/-- The effect of CONFIG_COMMIT. -/
def State.commitTo (s : State) (c : PackageCfg) : State :=
  (State.enact { s with lease := { s.lease with staged := [] } } c s.lease.staged).journalStaged s.lease.staged

theorem State.commitTo_committed (s : State) (c : PackageCfg) :
    (s.commitTo c).committed = State.committed { s with cfg := c.inForce, lease := { s.lease with staged := [] } } :=
  (State.journalStaged_committed _ _).trans (State.enact_committed _ _ _)

theorem State.hotPair_of_committed {s t : State} (h : s.twin.role = t.twin.role ∧ s.twin.mode = t.twin.mode ∧ s.twin.partner = t.twin.partner) :
    s.hotPair = t.hotPair := by
  rw [State.hotPair, State.hotPair, h.1, h.2.1, h.2.2]

theorem cmdConfigCommit_accepts {s : State} {o : Origin} {args : List Byte} {c : PackageCfg} (hholds : s.holds o = true) (hlate : s.commitLate.1 = false)
    (hshort : s.shortPipes = false) (hplaced : placeAll s.dies s.data.scopes (touched s.lease.staged) s.candidate = .ok c) :
    cmdConfigCommit o args s = .done .ok 0 [] (s.commitTo c) := by
  unfold cmdConfigCommit
  dsimp only
  rw [hplaced, checked_pass]
  · rfl
  · simp [firstFail_append, firstFail_cons, firstFail_nil, bad_fst, State.lockChecks_pass hholds, hlate, hshort]

/-! ### The holder's commit runs to its completion (R364, R376) -/

/-- With no hot standby to wait for, a commit completes with its effect. -/
theorem State.row_commit {s u : State} {o : Origin} (h : Holds s o) (hc : cmdConfigCommit o [] (s.taken o 0x0011 []) = .done .ok 0 [] u)
    (hpair : u.hotPair = false) : s.row o 0x0011 [] (fixedLen 0) cmdConfigCommit = u.complete o.mailbox .ok 0 [] := by
  have hgates : firstFail ((s.taken o 0x0011 []).gates o 0x0011 [] none) = none :=
    State.gates_pass _ o 0x0011 [] (by simpa using h.served.normal) rfl (by rw [show standbyRefuses 0x0011 [] = true from rfl]; simpa using h.notStandby)
      (fun _ => .inl (by simpa using h.holds))
  have hstage : ¬ (s.power.stage < 3 ∧ ¬ s.health.fw.recovery = true) := fun hlow => absurd h.served.stage (Nat.not_le.2 hlow.1)
  unfold State.row State.runCommand
  dsimp only
  rw [State.modBox_power, State.modBox_health, if_neg hstage, if_pos (by decide)]
  unfold State.taken at hgates hc
  rw [show fixedLen 0 [] = none from rfl, hgates, hc]
  unfold State.conclude
  dsimp only
  rw [if_neg fun hjournal => absurd hjournal.2.1 (by decide), if_neg fun hwait => by rw [hpair] at hwait; exact Bool.false_ne_true hwait.2.2.1]

theorem configCommit_completes {s : State} {o : Origin} {c : PackageCfg} (h : Holds s o) (hlate : (s.taken o 0x0011 []).commitLate.1 = false)
    (hshort : (s.taken o 0x0011 []).shortPipes = false)
    (hplaced : placeAll (s.taken o 0x0011 []).dies (s.taken o 0x0011 []).data.scopes (touched (s.taken o 0x0011 []).lease.staged)
      (s.taken o 0x0011 []).candidate = .ok c) (hpair : (s.taken o 0x0011 []).hotPair = false) :
    ∃ u, exec (.configCommit o []) s = .next u ∧ Answered u o.mailbox .ok [] ∧ u.lease = { (s.taken o 0x0011 []).lease with staged := [] } ∧
      u.fabric.mem = s.fabric.mem ∧ u.cfg = c.inForce := by
  let t := s.taken o 0x0011 []
  have hcommitted := t.commitTo_committed c
  obtain ⟨hmem, hcfg, hlease, hmail, hrole, hmode, hpartner⟩ : _ ∧ _ ∧ _ ∧ _ ∧ _ ∧ _ ∧ _ := by
    simpa only [State.committed, Prod.mk.injEq] using hcommitted
  have hrow : s.row o 0x0011 [] (fixedLen 0) cmdConfigCommit = (t.commitTo c).complete o.mailbox .ok 0 [] :=
    State.row_commit h (cmdConfigCommit_accepts (by simpa using h.holds) hlate hshort hplaced)
      ((State.hotPair_of_committed ⟨hrole, hmode, hpartner⟩).trans hpair)
  obtain ⟨ev, i, cal, w, health, out, hkeep⟩ := ((t.commitTo c).complete o.mailbox .ok 0 []).keepSettings_step s
  refine ⟨_, congrArg (fun u : State => Host.Outcome.next (u.keepSettings s)) hrow, ?_, ?_, ?_, ?_⟩
  · exact (State.row_answered h.served hmail).of_mail (State.keepSettings_step _ s).mail
  · rw [hkeep]
    exact (State.complete_lease ..).trans hlease
  · rw [hkeep]
    show ((t.commitTo c).complete o.mailbox .ok 0 []).fabric.mem = s.fabric.mem
    rw [State.complete_fabric, hmem, State.taken_fabric]
  · rw [hkeep]
    exact (State.complete_cfg ..).trans hcfg

/-! ### The places of the candidate (R339) -/

/-- Placing gives pipes their areas, and changes nothing else of the candidate. -/
theorem placeAll_places {dies : Nat} {scopes : List Scope} {idx : List Nat} {c c' : PackageCfg} (h : placeAll dies scopes idx c = .ok c') :
    ∃ l, c' = { c with pipes := l } := by
  have hchanges (i : Nat) (gs : List PipeChange) (k : Nat) (e : PipeEntry) (c c' : PackageCfg) (h : placeChanges dies scopes i gs k e c = .ok c') :
      ∃ l, c' = { c with pipes := l } := by
    induction gs generalizing k e c with
    | nil =>
      obtain rfl := Except.ok.inj h
      exact ⟨c.pipes, rfl⟩
    | cons g gs ih =>
      unfold placeChanges placeChange at h
      dsimp only at h
      split at h
      next => cases h
      next c1 e1 hplaced =>
        obtain ⟨l, rfl⟩ := ih _ _ _ h
        split at hplaced
        next => cases hplaced
        next =>
          obtain ⟨rfl, -⟩ := Prod.mk.inj (Except.ok.inj hplaced)
          exact ⟨l, rfl⟩
  have hentry (i : Nat) (c c' : PackageCfg) (h : placeEntry dies scopes i c = .ok c') : ∃ l, c' = { c with pipes := l } := by
    unfold placeEntry at h
    dsimp only at h
    split at h
    · obtain rfl := Except.ok.inj h
      exact ⟨_, rfl⟩
    · split at h
      · split at h
        next => cases h
        next =>
          obtain ⟨l, rfl⟩ := hchanges _ _ _ _ _ _ h
          exact ⟨l, rfl⟩
      · exact hchanges _ _ _ _ _ _ h
  induction idx generalizing c with
  | nil =>
    obtain rfl := Except.ok.inj h
    exact ⟨c.pipes, rfl⟩
  | cons i idx ih =>
    unfold placeAll at h
    split at h
    next => cases h
    next c1 hplaced =>
      obtain ⟨l, rfl⟩ := hentry i c c1 hplaced
      obtain ⟨k, rfl⟩ := ih h
      exact ⟨k, rfl⟩

/-- Settles O16: the tests pass, the effects of the commit outside the configuration leave it and package memory, and no hot standby is waited for. -/
theorem commitTakesTheCandidate : Obligations.CommitTakesTheCandidate := by
  intro s o h t c hlate hshort hplaced hpair
  obtain ⟨u, hexec, hanswered, hlease, hmem, hcfg⟩ := configCommit_completes h hlate hshort hplaced hpair
  obtain ⟨l, hl⟩ := placeAll_places hplaced
  refine ⟨u, ⟨u, hexec, hanswered, _, _, _, _, rfl⟩, ?_, ?_, hmem, ?_⟩
  · rw [hlease]
  · rw [hlease]
    exact s.taken_owner ..
  · rw [hcfg]
    refine ⟨?_, ?_, ?_, ?_, ?_, ?_, rfl⟩
    all_goals rw [hl]; rfl

end Sys2Proof.Machine

/-! ## What the rows of the lines and clocks, of health and of the crate bus leave alone (R360, R361, R363, R386, R396) -/

namespace Sys2Proof.Machine

/-- Package memory, the lease, the DMA channels, the host's registers, the identity, and of the configuration the tick, the position and the lanes' roles. -/
def State.lineRest (s : State) :
    List Host.Cell × Lease × List DmaChannel × HostRegs × Ident × Option TickCfg × Nat × List LaneCfg × List LaneCfg × List SparePeerCfg :=
  (s.fabric.mem, s.lease, s.dma, s.regs, s.ident, s.cfg.tick, s.cfg.position, s.cfg.rxCfg, s.cfg.txCfg, s.cfg.peers)

@[simp] theorem State.ite_lineRest (c : Prop) [Decidable c] (a b : State) : (if c then a else b).lineRest = if c then a.lineRest else b.lineRest :=
  apply_ite _ _ _ _

@[simp] theorem State.lineRest_update (s : State) (mail : Mail) (events : EventQueue) (intr : Interrupts) (mgmt : MgmtPort) (data : DataPath) (lanes : Lanes)
    (clocks : Clocks) (cal : Calendar) (twin : Twin) (health : Health) (power : Power) (crate : Crate) (free : Nat) (out : List OutItem) :
    State.lineRest { s with
      mail := mail, events := events, intr := intr, mgmt := mgmt, data := data, lanes := lanes, clocks := clocks, cal := cal, twin := twin
      health := health, power := power, crate := crate, free := free, out := out } = s.lineRest := rfl

theorem foldl_lineRest {α : Type} {f : State → α → State} (h : ∀ s a, (f s a).lineRest = s.lineRest) (l : List α) (s : State) :
    (l.foldl f s).lineRest = s.lineRest := by
  induction l generalizing s with
  | nil => rfl
  | cons a l ih => rw [List.foldl_cons, ih, h]

theorem State.EventStep.lineRest {s t : State} (h : s.EventStep t) : t.lineRest = s.lineRest := by
  obtain ⟨_, _, _, _, _, _, rfl⟩ := h
  rfl

theorem SameButMail.lineRest {s t : State} (h : SameButMail s t) : t.lineRest = s.lineRest := by
  obtain ⟨_, _, _, _, rfl⟩ := h
  rfl

/-- An outcome that is a next state with the rest as it was. -/
def KeepsRest (r : Host.Outcome State Fault Refusal) (s : State) : Prop := ∃ t, r = .next t ∧ t.lineRest = s.lineRest

theorem KeepsRest.next {s t : State} (h : t.lineRest = s.lineRest) : KeepsRest (.next t) s := ⟨t, rfl, h⟩

@[simp] theorem keepsRest_next (s t : State) : KeepsRest (.next t) s ↔ t.lineRest = s.lineRest := by simp [KeepsRest]

/-! ### Events, the log and evidence (spec chapters 11 and 13) -/

@[simp] theorem State.emit_lineRest (s : State) (o : OutItem) : (s.emit o).lineRest = s.lineRest :=
  (s.emit_step o).lineRest

@[simp] theorem State.fresh_lineRest (s : State) : s.fresh.2.lineRest = s.lineRest := by
  simp [State.fresh]

@[simp] theorem State.setTimeNs_lineRest (s : State) (t : Nat) : (s.setTimeNs t).lineRest = s.lineRest := rfl

@[simp] theorem State.ringPut_lineRest (s : State) (e : LogEntry) : (s.ringPut e).lineRest = s.lineRest :=
  (s.ringPut_step e).lineRest

@[simp] theorem State.deferEpisode_lineRest (s : State) (op : HoldOp) : (s.deferEpisode op).lineRest = s.lineRest :=
  (s.deferEpisode_step op).lineRest

@[simp] theorem State.endEpisode_lineRest (s : State) : s.endEpisode.lineRest = s.lineRest :=
  s.endEpisode_step.lineRest

@[simp] theorem State.logWrite_lineRest (s : State) (e : LogEntry) : (s.logWrite e).lineRest = s.lineRest :=
  (s.logWrite_step e).lineRest

@[simp] theorem State.noteDeath_lineRest (s s0 : State) : (s.noteDeath s0).lineRest = s.lineRest :=
  (s.noteDeath_step s0).lineRest

@[simp] theorem State.storeNor_lineRest (s : State) : s.storeNor.lineRest = s.lineRest :=
  s.storeNor_step.lineRest

@[simp] theorem State.reconcile_lineRest (s : State) : s.reconcile.lineRest = s.lineRest :=
  s.reconcile_step.lineRest

@[simp] theorem State.evident_lineRest (s : State) (kind die index new : Nat) : (s.evident kind die index new).lineRest = s.lineRest :=
  (s.evident_step kind die index new).lineRest

@[simp] theorem State.raise_lineRest (s : State) (code die : Nat) (detail : List Byte) : (s.raise code die detail).lineRest = s.lineRest :=
  (s.raise_step code die detail).lineRest

@[simp] theorem State.override_lineRest (s : State) (loop key die tick : Nat) : (s.override loop key die tick).lineRest = s.lineRest :=
  (s.override_step loop key die tick).lineRest

/-! ### Lanes: frames, commas and lock (spec chapter 8) -/

@[simp] theorem State.modRx_lineRest (s : State) (n : Nat) (f : RxLane → RxLane) : (s.modRx n f).lineRest = s.lineRest := rfl

@[simp] theorem State.modTx_lineRest (s : State) (n : Nat) (f : TxLane → TxLane) : (s.modTx n f).lineRest = s.lineRest := rfl

@[simp] theorem State.modTwinRx_lineRest (s : State) (n : Nat) (f : RxLane → RxLane) : (s.modTwinRx n f).lineRest = s.lineRest := rfl

@[simp] theorem State.modReceiver_lineRest (s : State) (l : LaneRef) (f : RxLane → RxLane) : (s.modReceiver l f).lineRest = s.lineRest := by
  unfold State.modReceiver
  split
  · rw [State.modRx_lineRest]
  · rw [State.modTwinRx_lineRest]

@[simp] theorem State.enterClaim_lineRest (s : State) (pos claim : Nat) : (s.enterClaim pos claim).lineRest = s.lineRest := rfl

@[simp] theorem State.hear_lineRest (s : State) (pos : Nat) : (s.hear pos).lineRest = s.lineRest := rfl

@[simp] theorem State.popFrame_lineRest (s : State) (l : LaneRef) : (s.popFrame l).lineRest = s.lineRest := by
  unfold State.popFrame
  split
  · rfl
  · rw [State.modReceiver_lineRest]

@[simp] theorem State.versionDrop_lineRest (s : State) (l : LaneRef) (version : Nat) : (s.versionDrop l version).lineRest = s.lineRest := by
  unfold State.versionDrop
  dsimp only
  split <;> simp

@[simp] theorem State.receiveOn_lineRest (s : State) (l : LaneRef) (type : Nat) (f : Frame) : (s.receiveOn l type f).2.lineRest = s.lineRest := by
  unfold State.receiveOn
  dsimp only
  split_ifs <;> simp

@[simp] theorem State.receive_lineRest (s : State) (lane type : Nat) (f : Frame) : (s.receive lane type f).2.lineRest = s.lineRest := by
  unfold State.receive
  dsimp only
  split <;> simp

@[simp] theorem State.frameOk_lineRest (s : State) (lane : Nat) : (s.frameOk lane).lineRest = s.lineRest := by
  rw [State.frameOk, State.modRx_lineRest]

@[simp] theorem State.sendHaul_lineRest (s : State) (lane type : Nat) (f : Frame) : (s.sendHaul lane type f).lineRest = s.lineRest := by
  unfold State.sendHaul
  split
  · dsimp only
    rw [foldl_lineRest]
    · rw [State.modTx_lineRest]
    · intro s a
      rw [State.emit_lineRest]
  · rfl

@[simp] theorem State.linkReport_lineRest (before : Nat) (s : State) : (s.linkReport before).lineRest = s.lineRest := by
  unfold State.linkReport
  split
  · rfl
  · split <;> rw [State.raise_lineRest]

@[simp] theorem State.modSpareRx_lineRest (s : State) (d : Nat) (f : SpareRx → SpareRx) : (s.modSpareRx d f).lineRest = s.lineRest := rfl

@[simp] theorem State.loseLock_lineRest (s : State) (l : LaneRef) : (s.loseLock l).lineRest = s.lineRest := by
  unfold State.loseLock
  extract_lets reported s1
  have h1 : s1.lineRest = s.lineRest := State.modReceiver_lineRest ..
  clear_value reported s1
  split
  · rw [State.linkReport_lineRest, h1]
  · split
    all_goals
      dsimp only
      split
      · rw [State.evident_lineRest, State.raise_lineRest]
        exact h1
      · exact h1

@[simp] theorem State.noteSkew_lineRest (s : State) (l : LaneRef) : (s.noteSkew l).lineRest = s.lineRest := by
  unfold State.noteSkew
  dsimp only
  split <;> simp

@[simp] theorem State.arrive_lineRest (s : State) (l : LaneRef) (atPs : Nat) : (s.arrive l atPs).lineRest = s.lineRest := by
  unfold State.arrive
  dsimp only
  rw [foldl_lineRest]
  · rw [State.modReceiver_lineRest]
  · intro s a
    rw [State.noteSkew_lineRest]

@[simp] theorem State.comma_lineRest (s : State) (l : LaneRef) (c : CommaSeen) : (s.comma l c).lineRest = s.lineRest := by
  unfold State.comma
  dsimp only
  split
  · split
    · rw [State.modReceiver_lineRest]
    · rfl
  · split
    · split
      · simp
      · rw [State.modReceiver_lineRest]
    · rw [State.modReceiver_lineRest]
  · split
    · rw [State.arrive_lineRest, State.modReceiver_lineRest]
    · split
      · rw [State.loseLock_lineRest, State.modReceiver_lineRest]
      · rw [State.modReceiver_lineRest]

@[simp] theorem State.decodeCodeword_lineRest (s : State) (l : LaneRef) (symbols : List (BitVec 10)) : (s.decodeCodeword l symbols).lineRest = s.lineRest := by
  unfold State.decodeCodeword
  dsimp only
  rw [State.modReceiver_lineRest]

/-! ### Frames of the twin link (spec chapter 10) -/

@[simp] theorem State.modKiln_lineRest (s : State) (e : KilnElement) (f : KilnRecord → KilnRecord) : (s.modKiln e f).lineRest = s.lineRest := rfl

@[simp] theorem State.modTwinTx_lineRest (s : State) (k : Nat) (f : TxLane → TxLane) : (s.modTwinTx k f).lineRest = s.lineRest := rfl

@[simp] theorem State.twinGive_lineRest (s : State) (lane : Nat) (f : Frame) : (s.twinGive lane f).lineRest = s.lineRest := by
  unfold State.twinGive
  dsimp only
  rw [State.emit_lineRest, State.lineRest_update, State.modTwinTx_lineRest]

@[simp] theorem State.twinPump_lineRest (n : Nat) (s : State) : (State.twinPump n s).lineRest = s.lineRest := by
  induction n generalizing s with
  | zero => rfl
  | succ n ih =>
    unfold State.twinPump
    split
    · rw [ih]
      simp
    · rfl

@[simp] theorem State.twinQueue_lineRest (s : State) (f : Frame) : (s.twinQueue f).lineRest = s.lineRest := by
  unfold State.twinQueue
  split <;> simp

@[simp] theorem State.sendTwin_lineRest (s : State) (msg transaction : Nat) (payload : List Byte) :
    (s.sendTwin msg transaction payload).lineRest = s.lineRest := by
  rw [State.sendTwin, State.twinQueue_lineRest]

@[simp] theorem State.sendEntry_lineRest (s : State) (e : JournalEntry) : (s.sendEntry e).lineRest = s.lineRest := by
  unfold State.sendEntry
  dsimp only
  rw [foldl_lineRest]
  intro s a
  rw [State.twinQueue_lineRest]

@[simp] theorem State.drainLines_lineRest (s : State) : s.drainLines.lineRest = s.lineRest := by
  unfold State.drainLines
  dsimp only
  rw [State.lineRest_update, foldl_lineRest]
  · rfl
  · intro s a
    split
    · rfl
    · rw [State.twinGive_lineRest]

/-! ### Completions and kept settings (R364, R399) -/

@[simp] theorem State.complete_lineRest (s : State) (m : Nat) (st : Status) (detail : Nat) (reply : List Byte) : (s.complete m st detail reply).lineRest = s.lineRest :=
  (s.complete_same m st detail reply).lineRest

@[simp] theorem State.applyPolicy_lineRest (s : State) (args : List Byte) : (s.applyPolicy args).lineRest = s.lineRest := rfl

@[simp] theorem State.storeConfig_lineRest (s : State) : s.storeConfig.lineRest = s.lineRest := by
  unfold State.storeConfig
  split <;> simp

@[simp] theorem State.keepSettings_lineRest (s before : State) : (s.keepSettings before).lineRest = s.lineRest := by
  unfold State.keepSettings
  split
  · rfl
  · rw [State.storeConfig_lineRest]

@[simp] theorem State.refreshPipes_lineRest (s : State) : s.refreshPipes.lineRest = s.lineRest := by
  unfold State.refreshPipes
  split
  · rfl
  · split <;> rfl

@[simp] theorem State.finishRunning_lineRest (s : State) (r : Running) : (s.finishRunning r).lineRest = s.lineRest := by
  unfold State.finishRunning
  split <;> simp

@[simp] theorem State.modDie_lineRest (s : State) (d : Nat) (f : DieWork → DieWork) : (s.modDie d f).lineRest = s.lineRest := rfl

/-! ### Lane sparing (spec chapter 8) -/

@[simp] theorem State.sendControl_lineRest (s : State) (die msg : Nat) (dest : Half) (transaction : Word) (body : List Byte) :
    (s.sendControl die msg dest transaction body).lineRest = s.lineRest := by
  unfold State.sendControl
  dsimp only
  split <;> simp

@[simp] theorem State.sendAsReceiver_lineRest (s : State) (d msg code atTick : Nat) : (s.sendAsReceiver d msg code atTick).lineRest = s.lineRest := by
  unfold State.sendAsReceiver
  dsimp only
  rw [State.sendControl_lineRest]

@[simp] theorem State.startSpare_lineRest (s : State) (lane reason : Nat) : (s.startSpare lane reason).lineRest = s.lineRest := by
  unfold State.startSpare
  dsimp only
  rw [State.sendControl_lineRest, State.modSpareRx_lineRest]
  rfl

@[simp] theorem State.spareFailed_lineRest (s : State) (lane refusal : Nat) : (s.spareFailed lane refusal).lineRest = s.lineRest := by
  rw [State.spareFailed, State.raise_lineRest]

@[simp] theorem State.releaseSent_lineRest (s : State) (lane : Nat) : (s.releaseSent lane).lineRest = s.lineRest := by
  unfold State.releaseSent
  split
  rw [foldl_lineRest]
  · rfl
  · intro s r
    simp

@[simp] theorem State.releaseSpare_lineRest (s : State) (d : Nat) : (s.releaseSpare d).lineRest = s.lineRest := by
  unfold State.releaseSpare
  dsimp only
  rw [State.releaseSent_lineRest, State.modSpareRx_lineRest, State.sendAsReceiver_lineRest]

@[simp] theorem State.returnLane_lineRest (s : State) (d : Nat) (failed : Bool) : (s.returnLane d failed).lineRest = s.lineRest := by
  unfold State.returnLane
  split <;> simp

@[simp] theorem State.spareLost_lineRest (s : State) (d : Nat) : (s.spareLost d).lineRest = s.lineRest := by
  unfold State.spareLost
  dsimp only
  split <;> simp

@[simp] theorem State.kilnRefused_lineRest (s : State) (x : SpareRx) : (s.kilnRefused x).lineRest = s.lineRest := by
  unfold State.kilnRefused
  split <;> rfl

@[simp] theorem State.modSpareTx_lineRest (s : State) (e : Nat) (f : SpareTx → SpareTx) : (s.modSpareTx e f).lineRest = s.lineRest := rfl

@[simp] theorem State.answer_lineRest (s : State) (e msg txLane code : Nat) (r : Half × Word × Nat × Nat × Nat) :
    (s.answer e msg txLane code r).lineRest = s.lineRest := by
  rw [State.answer, State.sendControl_lineRest]

@[simp] theorem State.spareRequestIn_lineRest (s : State) (src : Half) (transaction : Word) (body : List Byte) (lane : Nat) :
    (s.spareRequestIn src transaction body lane).lineRest = s.lineRest := by
  unfold State.spareRequestIn
  dsimp only
  split
  · rw [State.answer_lineRest]
  · split
    · rw [State.answer_lineRest]
    · split
      · rw [State.modSpareTx_lineRest]
      · simp

theorem execSpareCopyStart_keepsRest (die : Nat) (s : State) : KeepsRest (execSpareCopyStart die s) s := by
  unfold execSpareCopyStart
  dsimp only
  apply KeepsRest.next
  split
  · split
    · rfl
    · rw [foldl_lineRest]
      · rw [State.modSpareTx_lineRest]
      · intro s a
        rw [State.answer_lineRest]
  · rfl

@[simp] theorem State.spareReleaseIn_lineRest (s : State) (src : Half) (transaction : Word) (body : List Byte) (lane : Nat) :
    (s.spareReleaseIn src transaction body lane).lineRest = s.lineRest := by
  unfold State.spareReleaseIn
  dsimp only
  split
  · rfl
  · split
    · rw [foldl_lineRest]
      · rw [State.modSpareTx_lineRest]
      · intro s a
        rw [State.answer_lineRest]
    · rw [State.modSpareTx_lineRest]

@[simp] theorem State.dropRequester_lineRest (s : State) (src : Half) : (s.dropRequester src).lineRest = s.lineRest := rfl

theorem execSpareCopyStop_keepsRest (die : Nat) (s : State) : KeepsRest (execSpareCopyStop die s) s := by
  unfold execSpareCopyStop
  dsimp only
  apply KeepsRest.next
  split
  · split
    · rw [foldl_lineRest]
      · rw [State.modSpareTx_lineRest]
      · intro s a
        rw [State.answer_lineRest]
    · rfl
  · rfl

@[simp] theorem State.spareSwitchedIn_lineRest (s : State) (_src : Half) (_transaction : Word) (body : List Byte) :
    (s.spareSwitchedIn _src _transaction body).lineRest = s.lineRest := by
  unfold State.spareSwitchedIn
  dsimp only
  split <;> simp

@[simp] theorem State.dropExtra_lineRest (s : State) (d : Nat) (transaction : Word) : (s.dropExtra d transaction).lineRest = s.lineRest := by
  rw [State.dropExtra, State.modSpareRx_lineRest]

@[simp] theorem State.spareDuplicatingIn_lineRest (s : State) (transaction : Word) (body : List Byte) :
    (s.spareDuplicatingIn transaction body).lineRest = s.lineRest := by
  unfold State.spareDuplicatingIn
  split <;> simp

@[simp] theorem State.spareStoppedIn_lineRest (s : State) (transaction : Word) (body : List Byte) :
    (s.spareStoppedIn transaction body).lineRest = s.lineRest := by
  unfold State.spareStoppedIn
  split
  · rw [State.modSpareRx_lineRest]
  · rfl

@[simp] theorem State.spareRefusedIn_lineRest (s : State) (transaction : Word) (body : List Byte) :
    (s.spareRefusedIn transaction body).lineRest = s.lineRest := by
  unfold State.spareRefusedIn
  split
  · rw [State.spareFailed_lineRest, State.dropExtra_lineRest]
  · split
    · dsimp only
      split
      · rw [State.releaseSent_lineRest, State.spareFailed_lineRest, State.modSpareRx_lineRest]
      · rw [State.kilnRefused_lineRest, State.releaseSent_lineRest, State.spareFailed_lineRest, State.modSpareRx_lineRest]
    · rfl
  · rfl

@[simp] theorem State.sparingIn_lineRest (s : State) (msg : Nat) (src : Half) (transaction : Word) (body : List Byte) (lane : Nat) :
    (s.sparingIn msg src transaction body lane).lineRest = s.lineRest := by
  unfold State.sparingIn
  split <;> simp

theorem State.controlFrameIn_lineRest {act : State → State} (h : ∀ s, (act s).lineRest = s.lineRest) (s : State) (msg lane : Nat) (f : Frame) :
    (s.controlFrameIn msg lane f act).lineRest = s.lineRest := by
  simp [State.controlFrameIn, h]

@[simp] theorem State.sparingFrame_lineRest (s : State) (msg lane : Nat) (f : Frame) : (s.sparingFrame msg lane f).lineRest = s.lineRest := by
  unfold State.sparingFrame
  rw [State.controlFrameIn_lineRest]
  intro s
  rw [State.sparingIn_lineRest]

/-! ### References (spec chapter 9) -/

@[simp] theorem State.modDpll_lineRest (s : State) (f : Dpll → Dpll) : (s.modDpll f).lineRest = s.lineRest := rfl

@[simp] theorem State.modRef_lineRest (s : State) (code : Nat) (f : RefInput → RefInput) : (s.modRef code f).lineRest = s.lineRest := by
  rw [State.modRef, State.modDpll_lineRest]

@[simp] theorem State.freshWithin_lineRest (s : State) (lim : Nat) : (s.freshWithin lim).2.lineRest = s.lineRest := by
  simp [State.freshWithin]

@[simp] theorem State.switchPhase_lineRest (s : State) (code : Nat) : (s.switchPhase code).2.2.lineRest = s.lineRest := by
  unfold State.switchPhase
  dsimp only
  split <;> simp

@[simp] theorem State.selectEntry_lineRest (s : State) (k : Nat) : (s.selectEntry k).lineRest = s.lineRest := by
  unfold State.selectEntry
  dsimp only
  rw [State.raise_lineRest, State.modDpll_lineRest, State.switchPhase_lineRest]

@[simp] theorem State.loseReference_lineRest (s : State) : s.loseReference.lineRest = s.lineRest := by
  unfold State.loseReference
  split
  · simp
  · rw [State.raise_lineRest, State.modDpll_lineRest]

@[simp] theorem State.reselect_lineRest (s : State) : s.reselect.lineRest = s.lineRest := by
  unfold State.reselect
  split
  · rw [State.selectEntry_lineRest]
  · rw [State.loseReference_lineRest]

@[simp] theorem State.startWtr_lineRest (s : State) : s.startWtr.lineRest = s.lineRest := by
  unfold State.startWtr
  dsimp only
  split <;> simp

@[simp] theorem State.disqualify_lineRest (s : State) (code test : Nat) : (s.disqualify code test).lineRest = s.lineRest := by
  unfold State.disqualify
  split <;> simp

@[simp] theorem State.refCheck_lineRest (s : State) : s.refCheck.lineRest = s.lineRest := by
  unfold State.refCheck
  split <;> simp

theorem execRefQualify_keepsRest (input : Nat) (s : State) : KeepsRest (execRefQualify input s) s := by
  unfold execRefQualify
  apply KeepsRest.next
  split
  · rfl
  · dsimp only
    split
    · rw [State.startWtr_lineRest, State.raise_lineRest, State.modRef_lineRest]
    · split
      · rw [State.selectEntry_lineRest, State.raise_lineRest, State.modRef_lineRest]
      · rw [State.raise_lineRest, State.modRef_lineRest]

@[simp] theorem State.dpllLock_lineRest (s : State) : s.dpllLock.lineRest = s.lineRest := by
  unfold State.dpllLock
  split
  · simp
  · rfl

/-! ### Time, its inputs and pulses (spec chapter 9) -/

@[simp] theorem State.stepTime_lineRest (s : State) (ns source : Nat) : (s.stepTime ns source).lineRest = s.lineRest := by
  unfold State.stepTime
  dsimp only
  split <;> simp

@[simp] theorem State.inputTime_lineRest (s : State) (code : Nat) (offsetPs : Int) : (s.inputTime code offsetPs).2.lineRest = s.lineRest := by
  unfold State.inputTime
  split <;> simp

@[simp] theorem State.pullIn_lineRest (s : State) (code : Nat) (offsetPs : Int) : (s.pullIn code offsetPs).lineRest = s.lineRest := by
  rw [State.pullIn, State.modDpll_lineRest, State.modRef_lineRest]

@[simp] theorem State.measure_lineRest (s : State) (code : Nat) (offsetPs : Int) : (s.measure code offsetPs).lineRest = s.lineRest := by
  unfold State.measure
  split <;> simp

@[simp] theorem State.finishDetail_lineRest (s : State) (r : Running) (st : Status) (detail : Nat) : (s.finishDetail r st detail).lineRest = s.lineRest := by
  unfold State.finishDetail
  rw [State.complete_lineRest]
  rfl

@[simp] theorem State.finishWith_lineRest (s : State) (r : Running) (st : Status) : (s.finishWith r st).lineRest = s.lineRest := by
  rw [State.finishWith, State.finishDetail_lineRest]

@[simp] theorem State.ppsTimeSet_lineRest (s : State) (r : Running) (sec : Nat) : (s.ppsTimeSet r sec).lineRest = s.lineRest := by
  unfold State.ppsTimeSet
  split
  · rw [State.finishWith_lineRest, State.stepTime_lineRest]
  · rw [State.finishWith_lineRest]

@[simp] theorem State.ppsTimeSets_lineRest (n : Nat) (s : State) : (State.ppsTimeSets n s).lineRest = s.lineRest := by
  induction n generalizing s with
  | zero => rfl
  | succ n ih =>
    unfold State.ppsTimeSets
    split
    · rw [ih, State.ppsTimeSet_lineRest]
    · rfl

@[simp] theorem State.modPulses_lineRest (s : State) (f : Pulses → Pulses) : (s.modPulses f).lineRest = s.lineRest := rfl

@[simp] theorem State.advanceTo_lineRest (s : State) (ns : Nat) : (s.advanceTo ns).lineRest = s.lineRest := by
  unfold State.advanceTo
  split
  · rw [State.drainLines_lineRest, State.setTimeNs_lineRest]
  · rfl

theorem execTickStart_keepsRest (n : Nat) (s : State) : KeepsRest (execTickStart n s) s := by
  unfold execTickStart
  dsimp only
  apply KeepsRest.next
  split
  · split
    · split
      · rw [State.modPulses_lineRest, State.refreshPipes_lineRest, State.advanceTo_lineRest]
      · rw [State.refreshPipes_lineRest, State.advanceTo_lineRest]
    · rfl
  · rfl

@[simp] theorem State.dpllSecond_lineRest (s : State) : s.dpllSecond.lineRest = s.lineRest := by
  simp [State.dpllSecond]

/-! ### The calendar clock (spec chapter 9) -/

@[simp] theorem State.modCal_lineRest (s : State) (f : Calendar → Calendar) : (s.modCal f).lineRest = s.lineRest := rfl

@[simp] theorem State.readCalSec_lineRest (s : State) : s.readCalSec.2.lineRest = s.lineRest := by
  unfold State.readCalSec
  dsimp only
  rw [State.modCal_lineRest]
  split <;> simp

theorem execCalSecLoRead_keepsRest (s : State) : KeepsRest (execCalSecLoRead s) s := by
  simp [execCalSecLoRead]

@[simp] theorem State.raiseCal_lineRest (s : State) (code : Nat) (detail : List Byte) : (s.raiseCal code detail).lineRest = s.lineRest := by
  unfold State.raiseCal
  split
  · rw [State.raise_lineRest]
  · rfl

@[simp] theorem State.calCount_lineRest (s : State) (n : Nat) : (s.calCount n).lineRest = s.lineRest := by
  unfold State.calCount
  dsimp only
  split <;> simp

@[simp] theorem State.writeCalCtrl_lineRest (s : State) (v : Word) : (s.writeCalCtrl v).lineRest = s.lineRest := by
  rw [State.writeCalCtrl, State.modCal_lineRest]

@[simp] theorem State.calFromPtp_lineRest (s : State) : s.calFromPtp.lineRest = s.lineRest := by
  unfold State.calFromPtp
  split <;> simp

@[simp] theorem State.calSync_lineRest (s : State) : s.calSync.lineRest = s.lineRest := by
  unfold State.calSync
  split
  · rw [State.calFromPtp_lineRest, State.modCal_lineRest, State.calCount_lineRest]
  · rw [State.modCal_lineRest]

@[simp] theorem State.applyTdc_lineRest (s : State) : s.applyTdc.lineRest = s.lineRest := rfl

theorem execDatapathSecond_keepsRest (s : State) : KeepsRest (execDatapathSecond s) s := by
  unfold execDatapathSecond
  dsimp only
  apply KeepsRest.next
  split
  · rfl
  · rw [State.dpllSecond_lineRest, State.applyTdc_lineRest, State.calSync_lineRest, State.modPulses_lineRest, State.lineRest_update]
    split
    · rw [State.refreshPipes_lineRest, State.setTimeNs_lineRest]
    · rfl

@[simp] theorem State.readyCheck_lineRest (s : State) : s.readyCheck.lineRest = s.lineRest := by
  unfold State.readyCheck
  dsimp only
  split <;> simp

/-! ### The twin: roles, journal and switches (spec chapter 10) -/

@[simp] theorem State.modCrate_lineRest (s : State) (f : Crate → Crate) : (s.modCrate f).lineRest = s.lineRest := rfl

@[simp] theorem State.crateSend_lineRest (s : State) (type dest : Nat) (payload : List Byte) : (s.crateSend type dest payload).lineRest = s.lineRest := by
  unfold State.crateSend
  dsimp only
  rw [State.modCrate_lineRest]

@[simp] theorem State.announce_lineRest (s : State) : s.announce.lineRest = s.lineRest := by
  rw [State.announce, State.crateSend_lineRest]

@[simp] theorem State.modTwin_lineRest (s : State) (f : Twin → Twin) : (s.modTwin f).lineRest = s.lineRest := rfl

@[simp] theorem State.drivePins_lineRest (s : State) (on : Bool) : (s.drivePins on).lineRest = s.lineRest := by
  rw [State.drivePins, State.modPulses_lineRest]

@[simp] theorem State.takeRole_lineRest (s : State) (role : TwinRole) : (s.takeRole role).2.lineRest = s.lineRest := by
  unfold State.takeRole
  split <;> simp

@[simp] theorem State.becomeAlone_lineRest (s : State) : s.becomeAlone.lineRest = s.lineRest := by
  simp [State.becomeAlone]

@[simp] theorem State.twinMalformed_lineRest (s : State) (lane : LaneRef) : (s.twinMalformed lane).lineRest = s.lineRest := by
  rw [State.twinMalformed, State.modReceiver_lineRest]

@[simp] theorem State.twinAccept_lineRest (s : State) (lane : LaneRef) (msg : Nat) (lenOk : Nat → Bool) (f : Frame) :
    (s.twinAccept lane msg lenOk f).2.lineRest = s.lineRest := by
  unfold State.twinAccept
  split
  · rw [State.receive_lineRest]
  next k =>
    split
    · rfl
    · have h1 := s.receiveOn_lineRest (.twin k) 5 f
      split
      next ok s1 hr =>
      rw [hr] at h1
      dsimp only at h1
      split
      · exact h1
      · split
        · rw [State.twinMalformed_lineRest, h1]
        · rw [State.modReceiver_lineRest, h1]

@[simp] theorem State.twinReceive_lineRest (s : State) (lane : LaneRef) (msg len : Nat) (f : Frame) : (s.twinReceive lane msg len f).2.lineRest = s.lineRest := by
  rw [State.twinReceive, State.twinAccept_lineRest]

@[simp] theorem State.sendHeartbeat_lineRest (s : State) (window role : Nat) : (s.sendHeartbeat window role).lineRest = s.lineRest := by
  rw [State.sendHeartbeat, State.sendTwin_lineRest]

@[simp] theorem State.sendJournal_lineRest (s : State) : s.sendJournal.lineRest = s.lineRest := by
  unfold State.sendJournal
  dsimp only
  rw [foldl_lineRest]
  · rw [State.modTwin_lineRest]
  · intro s a
    rw [State.sendEntry_lineRest]

@[simp] theorem State.attached_lineRest (s : State) : s.attached.lineRest = s.lineRest := by
  unfold State.attached
  split <;> simp

@[simp] theorem State.journalDone_lineRest (s : State) (seq : Nat) : (s.journalDone seq).lineRest = s.lineRest := by
  unfold State.journalDone
  rw [State.keepSettings_lineRest, foldl_lineRest]
  intro s a
  rw [State.finishRunning_lineRest]

theorem execJournalAck_keepsRest (lane : LaneRef) (f : Frame) (s : State) : KeepsRest (execJournalAck lane f s) s := by
  simp [execJournalAck]

@[simp] theorem State.attachFrame_lineRest (s : State) (transaction : Nat) : (s.attachFrame transaction).lineRest = s.lineRest := by
  rw [State.attachFrame, State.sendTwin_lineRest]

@[simp] theorem State.sendAttach_lineRest (s : State) : s.sendAttach.lineRest = s.lineRest := by
  unfold State.sendAttach
  dsimp only
  rw [State.attachFrame_lineRest, State.modTwin_lineRest]

@[simp] theorem State.linkUp_lineRest (s : State) : s.linkUp.lineRest = s.lineRest := by
  unfold State.linkUp
  split <;> simp

@[simp] theorem State.detachPartner_lineRest (s : State) (cause : Nat) : (s.detachPartner cause).lineRest = s.lineRest := by
  unfold State.detachPartner
  dsimp only
  rw [State.raise_lineRest, State.journalDone_lineRest, State.modTwin_lineRest]

@[simp] theorem State.stepEight_lineRest (s : State) : s.stepEight.lineRest = s.lineRest := by
  unfold State.stepEight
  split <;> rfl

@[simp] theorem State.declare_lineRest (s : State) (cause boundary : Nat) : (s.declare cause boundary).lineRest = s.lineRest := by
  unfold State.declare
  split <;> simp

@[simp] theorem State.judgeWindows_lineRest (s : State) (t : TickCfg) (n : Nat) : (s.judgeWindows t n).lineRest = s.lineRest := by
  unfold State.judgeWindows
  split <;> simp

theorem execHeartbeatWindow_keepsRest (n w : Nat) (s : State) : KeepsRest (execHeartbeatWindow n w s) s := by
  unfold execHeartbeatWindow
  apply KeepsRest.next
  split
  · rfl
  · dsimp only
    split
    · rw [State.advanceTo_lineRest]
    · rw [State.readyCheck_lineRest, State.sendHeartbeat_lineRest]
      split
      · rw [State.modTwin_lineRest, State.advanceTo_lineRest]
      · rw [State.judgeWindows_lineRest, State.modTwin_lineRest, State.modTwin_lineRest, State.advanceTo_lineRest]

@[simp] theorem State.setFault_lineRest (s : State) (cause : Nat) : (s.setFault cause).lineRest = s.lineRest := by
  unfold State.setFault
  split
  · rw [State.modTwin_lineRest]
  · rfl

theorem execRepairReq_keepsRest (lane : LaneRef) (f : Frame) (s : State) : KeepsRest (execRepairReq lane f s) s := by
  simp [execRepairReq]

theorem execSwitch_keepsRest (lane : LaneRef) (f : Frame) (s : State) : KeepsRest (execSwitch lane f s) s := by
  simp [execSwitch]

@[simp] theorem State.switchRefused_lineRest (s : State) (r : Running) : (s.switchRefused r).lineRest = s.lineRest := by
  unfold State.switchRefused
  split
  · rw [State.finishWith_lineRest, State.setFault_lineRest]
  · rw [State.finishWith_lineRest]

theorem execSwitchAck_keepsRest (lane : LaneRef) (f : Frame) (s : State) : KeepsRest (execSwitchAck lane f s) s := by
  have h1 := s.twinReceive_lineRest lane 9 8 f
  unfold execSwitchAck
  split
  next ok s1 hr =>
  rw [hr] at h1
  dsimp only at h1
  apply KeepsRest.next
  split
  · exact h1
  · split
    · split
      · exact h1
      · split <;> simp [h1]
    · exact h1

/-! ### The crate bus and the sleep agreement (spec chapter 14) -/

@[simp] theorem State.announced_lineRest (s : State) : s.announced.lineRest = s.lineRest := by
  unfold State.announced
  split <;> simp

@[simp] theorem State.beginPower_lineRest (s : State) (target : PowerMode) (cause : Nat) : (s.beginPower target cause).lineRest = s.lineRest := rfl

@[simp] theorem State.sleepNow_lineRest (s : State) (cause : Nat) : (s.sleepNow cause).lineRest = s.lineRest := by
  unfold State.sleepNow
  split
  · rw [State.beginPower_lineRest]
  · split <;> rfl

@[simp] theorem State.modSleep_lineRest (s : State) (f : Sleep → Sleep) : (s.modSleep f).lineRest = s.lineRest := by
  rw [State.modSleep, State.modCrate_lineRest]

@[simp] theorem State.crateTransmit_lineRest (s : State) (x : CrateTx) (acker : Nat) : (s.crateTransmit x acker).lineRest = s.lineRest := by
  unfold State.crateTransmit
  split <;> simp

@[simp] theorem State.crateGone_lineRest (s : State) (x : CrateTx) : (s.crateGone x).lineRest = s.lineRest := by
  unfold State.crateGone
  split
  · rw [State.sleepNow_lineRest, State.modSleep_lineRest]
  · rfl

@[simp] theorem State.crateFail_lineRest (s : State) : s.crateFail.lineRest = s.lineRest := by
  unfold State.crateFail
  split
  · rfl
  · dsimp only
    split
    · rw [State.modCrate_lineRest]
    · rw [State.raise_lineRest, foldl_lineRest]
      · rw [State.modCrate_lineRest, State.modCrate_lineRest]
      · intro s a
        rw [State.crateGone_lineRest]

theorem execCrateTxOpportunity_keepsRest (s : State) : KeepsRest (execCrateTxOpportunity s) s := by
  unfold execCrateTxOpportunity
  apply KeepsRest.next
  split
  · rfl
  · split <;> simp

@[simp] theorem State.crateReceive_lineRest (s : State) (type : Nat) (f : CrateFrame) : (s.crateReceive type f).2.lineRest = s.lineRest := by
  unfold State.crateReceive
  split
  · rfl
  · split <;> simp

theorem execAck_keepsRest (f : CrateFrame) (s : State) : KeepsRest (execAck f s) s := by
  have h1 := s.crateReceive_lineRest 1 f
  unfold execAck
  split
  next ok s1 hr =>
  rw [hr] at h1
  dsimp only at h1
  apply KeepsRest.next
  split
  · split <;> simp [h1]
  · exact h1

@[simp] theorem State.loseNode_lineRest (s : State) (node : Nat) : (s.loseNode node).lineRest = s.lineRest := by
  unfold State.loseNode
  dsimp only
  rw [foldl_lineRest]
  · rw [State.modCrate_lineRest]
  · intro s a
    rw [State.dropRequester_lineRest]

theorem execBoot_keepsRest (f : CrateFrame) (s : State) : KeepsRest (execBoot f s) s := by
  simp [execBoot]

@[simp] theorem State.sendBoot_lineRest (s : State) : s.sendBoot.lineRest = s.lineRest := by
  rw [State.sendBoot, State.crateSend_lineRest]

@[simp] theorem State.sleepAborted_lineRest (s : State) (proposal cause node : Nat) : (s.sleepAborted proposal cause node).lineRest = s.lineRest := by
  rw [State.sleepAborted, State.raise_lineRest, State.modCrate_lineRest]

@[simp] theorem State.abortProposal_lineRest (s : State) (cause node : Nat) : (s.abortProposal cause node).lineRest = s.lineRest := by
  unfold State.abortProposal
  split
  · rfl
  · rw [State.sleepAborted_lineRest]
    split <;> simp

theorem execSleepPropose_keepsRest (f : CrateFrame) (s : State) : KeepsRest (execSleepPropose f s) s := by
  have h1 := s.crateReceive_lineRest 0x10 f
  unfold execSleepPropose
  split
  next ok s1 hr =>
  rw [hr] at h1
  dsimp only at h1
  apply KeepsRest.next
  split
  · exact h1
  · dsimp only
    rw [State.ite_lineRest, State.modSleep_lineRest, ite_self, State.crateSend_lineRest]
    split
    · split
      · rw [State.abortProposal_lineRest, h1]
      · exact h1
    · exact h1

theorem execSleepVote_keepsRest (f : CrateFrame) (s : State) : KeepsRest (execSleepVote f s) s := by
  have h1 := s.crateReceive_lineRest 0x11 f
  unfold execSleepVote
  split
  next ok s1 hr =>
  rw [hr] at h1
  dsimp only at h1
  apply KeepsRest.next
  split
  · exact h1
  · split
    · rw [State.abortProposal_lineRest, h1]
    · dsimp only
      split
      · split
        · rw [State.finishRunning_lineRest, State.crateSend_lineRest, State.modSleep_lineRest, h1]
        · rw [State.crateSend_lineRest, State.modSleep_lineRest, h1]
      · rw [State.modSleep_lineRest, h1]

theorem execSleepCommit_keepsRest (f : CrateFrame) (s : State) : KeepsRest (execSleepCommit f s) s := by
  have h1 := s.crateReceive_lineRest 0x12 f
  unfold execSleepCommit
  split
  next ok s1 hr =>
  rw [hr] at h1
  dsimp only at h1
  apply KeepsRest.next
  split
  · split
    · dsimp only
      split
      · rw [State.sleepNow_lineRest, State.modSleep_lineRest, h1]
      · split
        · rw [State.modSleep_lineRest, h1]
        · rw [State.beginPower_lineRest, State.lineRest_update, State.modSleep_lineRest, h1]
    · exact h1
  · exact h1

theorem execSleepAbort_keepsRest (f : CrateFrame) (s : State) : KeepsRest (execSleepAbort f s) s := by
  have h1 := s.crateReceive_lineRest 0x13 f
  unfold execSleepAbort
  split
  next ok s1 hr =>
  rw [hr] at h1
  dsimp only at h1
  apply KeepsRest.next
  split
  · split <;> simp [h1]
  · exact h1

@[simp] theorem State.leaveDormant_lineRest (s : State) (named : Option PowerMode) : (s.leaveDormant named).lineRest = s.lineRest := by
  unfold State.leaveDormant
  split <;> simp

@[simp] theorem State.wakeRequest_lineRest (s : State) (named : Option PowerMode) (local_ : Bool) : (s.wakeRequest named local_).lineRest = s.lineRest := by
  unfold State.wakeRequest
  extract_lets s1 sl s2 entering
  have h1 : s1.lineRest = s.lineRest := by
    dsimp only [s1]
    split
    · rw [State.crateSend_lineRest]
    · rfl
  have h2 : s2.lineRest = s1.lineRest := by
    dsimp only [s2]
    split
    · rw [State.crateSend_lineRest, State.modSleep_lineRest]
    · split
      · rw [State.abortProposal_lineRest]
      · rfl
  rw [← h1, ← h2]
  clear_value s2 entering sl
  split
  · rfl
  · split
    · rw [State.leaveDormant_lineRest]
    · split_ifs
      · rfl
      · rfl
      · rfl
      · rw [State.modSleep_lineRest]

theorem execWake_keepsRest (f : CrateFrame) (s : State) : KeepsRest (execWake f s) s := by
  simp [execWake]

/-! ### The HBM stacks (spec chapter 12) -/

@[simp] theorem State.modStack_lineRest (s : State) (die : Nat) (f : HbmStack → HbmStack) : (s.modStack die f).lineRest = s.lineRest := rfl

@[simp] theorem State.eccRead_lineRest (s : State) (die a : Nat) (ecc : EccSeen) : (s.eccRead die a ecc).lineRest = s.lineRest := by
  unfold State.eccRead
  split <;> simp

theorem execHbmActivate_keepsRest (die bank row : Nat) (s : State) : KeepsRest (execHbmActivate die bank row s) s := by
  unfold execHbmActivate
  dsimp only
  apply KeepsRest.next
  rw [State.modStack_lineRest]

theorem execNeighbourRefreshSecond_keepsRest (s : State) : KeepsRest (execNeighbourRefreshSecond s) s := by
  unfold execNeighbourRefreshSecond
  apply KeepsRest.next
  rw [foldl_lineRest]
  intro s a
  dsimp only
  split
  · rfl
  · rw [State.raise_lineRest, State.modStack_lineRest]

theorem execScrubRead_keepsRest (die addr : Nat) (ecc : EccSeen) (s : State) : KeepsRest (execScrubRead die addr ecc s) s := by
  unfold execScrubRead
  dsimp only
  apply KeepsRest.next
  split
  · rfl
  · split
    · split
      · rw [State.modStack_lineRest]
      · rw [State.eccRead_lineRest]
    · rw [State.modStack_lineRest]
      split
      · rw [State.modStack_lineRest]
      · rw [State.eccRead_lineRest]

/-! ### The kiln and the thermal guard (spec chapter 13) -/

@[simp] theorem State.kilnOut_lineRest (s : State) (e : KilnElement) : (s.kilnOut e).lineRest = s.lineRest := by
  unfold State.kilnOut
  split <;> simp

@[simp] theorem State.kilnFail_lineRest (s : State) (e : KilnElement) (worst : Int) : (s.kilnFail e worst).lineRest = s.lineRest := by
  unfold State.kilnFail
  dsimp only
  rw [State.raise_lineRest, State.fresh_lineRest]

@[simp] theorem State.kilnMeasured_lineRest (s : State) (e : KilnElement) (r : KilnReading) (now : Bool) : (s.kilnMeasured e r now).lineRest = s.lineRest := by
  unfold State.kilnMeasured
  dsimp only
  split <;> simp

@[simp] theorem State.beginPass_lineRest (s : State) (e : KilnElement) : (s.beginPass e).lineRest = s.lineRest := by
  unfold State.beginPass
  split <;> simp

@[simp] theorem State.tryPass_lineRest (s : State) (e : KilnElement) : (s.tryPass e).lineRest = s.lineRest := by
  unfold State.tryPass
  split <;> simp

@[simp] theorem State.tryPasses_lineRest (s : State) : s.tryPasses.lineRest = s.lineRest := by
  unfold State.tryPasses
  rw [foldl_lineRest]
  intro s a
  rw [State.tryPass_lineRest]

@[simp] theorem State.makeDue_lineRest (s : State) (e : KilnElement) : (s.makeDue e).lineRest = s.lineRest := by
  unfold State.makeDue
  split
  · rfl
  · rw [State.tryPass_lineRest, State.modKiln_lineRest]

@[simp] theorem State.passEnds_lineRest (s : State) (e : KilnElement) : (s.passEnds e).lineRest = s.lineRest := by
  unfold State.passEnds
  split <;> simp

@[simp] theorem State.kilnDone_lineRest (s : State) (e : KilnElement) (t : Int) : (s.kilnDone e t).lineRest = s.lineRest := by
  unfold State.kilnDone
  dsimp only
  rw [State.raise_lineRest]

@[simp] theorem State.modGuard_lineRest (s : State) (die : Nat) (f : Guard → Guard) : (s.modGuard die f).lineRest = s.lineRest := rfl

@[simp] theorem State.enterLevel_lineRest (s : State) (die level : Nat) (temp : Int) : (s.enterLevel die level temp).lineRest = s.lineRest := by
  unfold State.enterLevel
  split <;> simp

@[simp] theorem State.tempDue_lineRest (s : State) (die : Nat) (temp : Int) : (s.tempDue die temp).lineRest = s.lineRest := by
  unfold State.tempDue
  rw [foldl_lineRest]
  intro s a
  rw [State.makeDue_lineRest]

@[simp] theorem State.thermal_lineRest (s : State) (die : Nat) (temp : Int) : (s.thermal die temp).lineRest = s.lineRest := by
  unfold State.thermal
  dsimp only
  split <;> simp

/-! ### The deferred log, start-up and power (spec chapters 13 and 14) -/

@[simp] theorem State.flushLog_lineRest (n : Nat) (s : State) : (State.flushLog n s).lineRest = s.lineRest := by
  induction n generalizing s with
  | zero => rfl
  | succ n ih =>
    unfold State.flushLog
    split
    · rfl
    · split
      · rw [ih, State.ringPut_lineRest, State.lineRest_update]
      · split
        · rw [ih, State.logWrite_lineRest, State.lineRest_update]
        · rfl

@[simp] theorem State.setStage_lineRest (s : State) (n : Nat) : (s.setStage n).lineRest = s.lineRest := rfl

@[simp] theorem State.clocksDone_lineRest (s : State) : s.clocksDone.lineRest = s.lineRest := by
  unfold State.clocksDone
  split <;> simp

@[simp] theorem State.stepSeven_lineRest (s : State) : s.stepSeven.lineRest = s.lineRest := by
  unfold State.stepSeven
  dsimp only
  split <;> simp

@[simp] theorem State.lanesDown_lineRest (s : State) : s.lanesDown.lineRest = s.lineRest := by
  unfold State.lanesDown
  rw [State.linkReport_lineRest]
  rfl

@[simp] theorem State.recentre_lineRest (s : State) : s.recentre.lineRest = s.lineRest := rfl

@[simp] theorem State.enterMode_lineRest (s : State) (m : PowerMode) : (s.enterMode m).lineRest = s.lineRest := by
  have hwoken : (if s.power.mode = .dormant ∧ m ≠ .dormant then s.recentre else s).lineRest = s.lineRest := by
    split
    · exact s.recentre_lineRest
    · rfl
  unfold State.enterMode
  dsimp only
  split
  · rw [State.readyCheck_lineRest, State.refCheck_lineRest, State.lanesDown_lineRest]
    exact hwoken
  · exact hwoken

theorem execPowerTransitionDone_keepsRest (s : State) : KeepsRest (execPowerTransitionDone s) s := by
  unfold execPowerTransitionDone
  apply KeepsRest.next
  dsimp only
  split
  · rfl
  · split <;> simp

@[simp] theorem State.avsCheck_lineRest (s : State) : s.avsCheck.lineRest = s.lineRest := by
  unfold State.avsCheck
  split
  · rw [State.override_lineRest]
  · rfl

/-! ### PTP (spec chapter 9) -/

@[simp] theorem State.modPtp_lineRest (s : State) (f : Ptp → Ptp) : (s.modPtp f).lineRest = s.lineRest := rfl

@[simp] theorem State.sendPtp_lineRest (s : State) (kind : Nat) (seq : Half) (announce : Option PtpAnnounce) (stampPs : Int) (reply : Option PtpHeader) :
    (s.sendPtp kind seq announce stampPs reply).lineRest = s.lineRest := by
  rw [State.sendPtp, State.emit_lineRest]

@[simp] theorem State.masterChanged_lineRest (s : State) (id : Dword) : (s.masterChanged id).lineRest = s.lineRest := by
  rw [State.masterChanged, State.raise_lineRest]

@[simp] theorem State.becomeMaster_lineRest (s : State) : s.becomeMaster.lineRest = s.lineRest := by
  unfold State.becomeMaster
  split
  · rfl
  · rw [State.disqualify_lineRest, State.masterChanged_lineRest, State.modPtp_lineRest]

@[simp] theorem State.stateDecision_lineRest (s : State) (b : PtpAnnounce) (changed : Bool) : (s.stateDecision b changed).lineRest = s.lineRest := by
  unfold State.stateDecision
  split <;> simp

theorem execPtpAnnounce_keepsRest (a : PtpAnnounce) (s : State) : KeepsRest (execPtpAnnounce a s) s := by
  unfold execPtpAnnounce
  apply KeepsRest.next
  dsimp only
  split
  · rfl
  · split <;> simp

@[simp] theorem State.syncMeasured_lineRest (s : State) (t1 t2 : Int) : (s.syncMeasured t1 t2).lineRest = s.lineRest := by
  unfold State.syncMeasured
  dsimp only
  rw [State.measure_lineRest, State.modPtp_lineRest]

theorem execPtpPdelayResp_keepsRest (h : PtpHeader) (followUp twoStep : Bool) (stamp rx : Stamp) (s : State) :
    KeepsRest (execPtpPdelayResp h followUp twoStep stamp rx s) s := by
  unfold execPtpPdelayResp
  dsimp only
  apply KeepsRest.next
  split
  · rfl
  · split
    · split
      · rw [State.modPtp_lineRest]
      · rfl
    · split <;> rw [State.modPtp_lineRest]

/-! ### The rows -/

/-- Every row of the lines and clocks, of health and of the crate bus keeps the rest. -/
theorem exec_keepsRest (c : Instr) (s : State) (h : lineRow c = true) : KeepsRest (exec c s) s := by
  cases c with
  | hello => exact .next (State.controlFrameIn_lineRest (fun s => State.modRx_lineRest ..) ..)
  | spareRequest => exact .next (State.sparingFrame_lineRest ..)
  | spareDuplicating => exact .next (State.sparingFrame_lineRest ..)
  | spareSwitched => exact .next (State.sparingFrame_lineRest ..)
  | spareRelease => exact .next (State.sparingFrame_lineRest ..)
  | spareStopped => exact .next (State.sparingFrame_lineRest ..)
  | spareRefused => exact .next (State.sparingFrame_lineRest ..)
  | commaPeriod => exact .next (by split <;> simp)
  | firstBoundaryCheck => exact .next (by split <;> simp)
  | codewordDecode => exact .next (by split <;> simp)
  | spareCopyStart => exact execSpareCopyStart_keepsRest ..
  | spareCopyStop => exact execSpareCopyStop_keepsRest ..
  | spareConfirmed => exact .next (by split <;> simp)
  | laneSpareSwitch => exact .next (by split <;> simp)
  | laneRestoreSwitch => exact .next (by split <;> simp)
  | spareTimeout => exact .next (by split <;> simp)
  | helloTimer => exact .next (State.sendHaul_lineRest ..)
  | eyeScanDone => exact .next (by split <;> simp)
  | journalAck => exact execJournalAck_keepsRest ..
  | journalAckTimeout => exact .next (by split <;> simp)
  | repairReq => exact execRepairReq_keepsRest ..
  | attachWaitExpiry => exact .next (by split <;> simp)
  | switch => exact execSwitch_keepsRest ..
  | switchAck => exact execSwitchAck_keepsRest ..
  | switchOutputDrive => exact .next (by split <;> simp)
  | heartbeatWindow => exact execHeartbeatWindow_keepsRest ..
  | heartbeatWatchdog => exact .next (by rw [State.drivePins_lineRest, State.modTwin_lineRest])
  | refDisqualify => exact .next (State.disqualify_lineRest ..)
  | refQualify => exact execRefQualify_keepsRest ..
  | wtrExpiry => exact .next (by split <;> simp)
  | dpllLock => exact .next (by rw [State.stepSeven_lineRest, State.dpllLock_lineRest])
  | historyValid => exact .next (by split <;> simp)
  | timeBadClear => exact .next (by split <;> simp)
  | ppsInEdge => exact .next (by split <;> simp)
  | timeSetPpsTimeout => exact .next (by split <;> simp)
  | ptpAnnounce => exact execPtpAnnounce_keepsRest ..
  | ptpSync => exact .next (by split <;> simp)
  | ptpFollowUp => exact .next (by split <;> simp)
  | ptpDelayReq => exact .next (by split <;> simp)
  | ptpDelayResp => exact .next (by split <;> simp)
  | ptpPdelayReq => exact .next (by split <;> simp)
  | ptpPdelayResp => exact execPtpPdelayResp_keepsRest ..
  | ptpAnnounceTimeout => exact .next (by split <;> simp)
  | ptpTxInterval => exact .next (by split <;> simp)
  | datapathSecond => exact execDatapathSecond_keepsRest ..
  | tickStart => exact execTickStart_keepsRest ..
  | pulseWidthEnd => exact .next (State.modPulses_lineRest ..)
  | calLoad => exact .next (State.writeCalCtrl_lineRest ..)
  | calLoadDone => exact .next (by split <;> simp)
  | calSecLoRead => exact execCalSecLoRead_keepsRest ..
  | calendarSecond => exact .next (by split <;> simp)
  | vbatMeasure => exact .next (by split <;> simp)
  | vddAuxLoss => exact .next (State.modCal_lineRest ..)
  | vddAuxReturn => exact .next (State.modCal_lineRest ..)
  | calOscStopDetect => exact .next (State.modCal_lineRest ..)
  | calendarDomainPowerOn => exact .next rfl
  | hbmRefresh => exact .next (by split <;> simp)
  | hbmActivate => exact execHbmActivate_keepsRest ..
  | refreshWindowEnd => exact .next (State.modStack_lineRest ..)
  | scrubRead => exact execScrubRead_keepsRest ..
  | neighbourRefreshSecond => exact execNeighbourRefreshSecond_keepsRest ..
  | kilnDue => exact .next (State.makeDue_lineRest ..)
  | kilnPassDone => exact .next (by split <;> simp)
  | thermalReading => exact .next (by split <;> simp)
  | thermalTrip => exact .next rfl
  | logDeferRetry => exact .next (by split <;> simp)
  | laneBringupDone => exact .next (by split <;> simp)
  | clockLockTimeout => exact .next (by split <;> simp)
  | ready => exact .next (by split <;> simp)
  | wakeNEdge => exact .next (by split <;> simp)
  | powerTransitionDone => exact execPowerTransitionDone_keepsRest ..
  | avsFloorUpdate => exact .next (by split <;> simp)
  | avsRequestStep => exact .next (by split <;> simp)
  | crateHeartbeatPeriod => exact .next (by split <;> simp)
  | crateTxOpportunity => exact execCrateTxOpportunity_keepsRest ..
  | ack => exact execAck_keepsRest ..
  | boot => exact execBoot_keepsRest ..
  | sleepPropose => exact execSleepPropose_keepsRest ..
  | sleepVote => exact execSleepVote_keepsRest ..
  | sleepCommit => exact execSleepCommit_keepsRest ..
  | sleepAbort => exact execSleepAbort_keepsRest ..
  | wake => exact execWake_keepsRest ..
  | crateAckTimeout => exact .next (by split <;> simp)
  | crateRetryWait => exact .next (State.modCrate_lineRest ..)
  | crateAloneAnnounce => exact .next (by split <;> simp)
  | nodeHeardExpiry => exact .next (State.loseNode_lineRest ..)
  | activatingTimeout => exact .next (State.modCrate_lineRest ..)
  | sleepVoteTimeout => exact .next (by split <;> simp)
  | sleepOutcomeTimeout => exact .next (by split <;> simp)
  | _ => exact absurd h Bool.false_ne_true

/-- Settles O5: every operation that these rows are made of keeps the rest, so each row does. -/
theorem lineRowsKeepTheRest : Obligations.LineRowsKeepTheRest := by
  intro c s t hrow ht
  obtain ⟨u, hu, hrest⟩ := exec_keepsRest c s hrow
  obtain rfl : u = t := Host.Outcome.next.inj (hu.symm.trans ht)
  simpa only [State.lineRest, Prod.mk.injEq] using hrest

end Sys2Proof.Machine
